-- ==== Sys2Proof/Word.lean ====
section
/-! DEFINITION. The words of the machine: a 32-bit register word, a byte, and the 4-bit register number of Umber. -/

namespace Sys2Proof

/-- A 32-bit register word of the control space and of Umber (R50, R428). -/
abbrev Word := BitVec 32

/-- The smallest addressable unit of every memory (R428, R492). -/
abbrev Byte := BitVec 8

/-- A register field of an Umber word: v0 to v15 (R50). -/
abbrev VReg := BitVec 4

end Sys2Proof
end

