-- ==== Sys2Proof/Payload.lean ====
section
/-! DEFINITION. The operand forms of the commands: what an instruction word or an event brings with it. -/

namespace Sys2Proof

/-- The second operand of a core instruction (Table 2.3): a register with the signed bit fn[4], or an 18-bit immediate. -/
inductive AluSrc where
  | reg (b : VReg) (sgn : Bool)
  | imm (v : BitVec 18)
  deriving DecidableEq, Repr

/-- The access sizes of LD and ST. -/
inductive Size where
  | word | half | byte
  deriving DecidableEq, Repr

/-- An ancillary packet: the line it came on, whether in horizontal blanking, its ST 291-1 words from DID to checksum (R191, R237). -/
structure AncPkt where
  line : Nat
  hanc : Bool := false
  words : List Nat
  deriving DecidableEq, Repr

/-- What a line of SDI brings beside its checks: the interface class the deframer finds, level B, the link number of the payload ID, the
line of the active picture that it completes over all links with its pixel groups (R240), its ancillary packets. -/
structure SdiMore where
  cls : Nat
  lvlB : Bool := false
  linkNo : Option Nat := none
  pix : Option (Nat × List (List Nat)) := none
  anc : List AncPkt := []
  deriving DecidableEq, Repr

/-- What a receiver learns of a packet beyond its addresses: the association it came under (0 none), the extended RTP sequence
number, whether it is beyond the receive buffer, the TTIME of the first copy of its frame's marker where that has come, the
active line it starts, the TTIME its RTP timestamp names, whether an AES3 stream of ST 2110-31 came in it and whether its channel status
says non-PCM (R180), the level of an ST 2110-30 stream (0 A, 1 B, 2 C), whether the frame check sequence is wrong (Table 10.11), the pieces of active lines it carries (line, first group,
pixel groups), its ancillary packets. -/
structure PacketInfo where
  sa : Nat
  an : Nat := 0
  seq : Nat
  beyond : Bool
  marker : Option Nat
  line : Option Nat
  stamp : Nat
  aes3 : Bool
  nonPcm : Bool := false
  lvl : Nat := 0
  fcsBad : Bool := false
  pix : List (Nat × Nat × List (List Nat)) := []
  anc : List AncPkt := []
  deriving DecidableEq, Repr

/-- What detection measured of a frame: the format as detected, the frame period in CLK_D periods, and on IP the extended RTP sequence
numbers of its first and last packet and the step of the RTP timestamp in 90 kHz units (Table 3.4). -/
structure FrameInfo where
  d0 : Word
  d1 : Word
  d2 : Word
  period : Nat
  first : Nat := 0
  last : Nat := 0
  step : Nat := 0
  deriving DecidableEq, Repr

/-- What the cadence detector finds by the start of an output frame: of each source field examined since the last one, whether it is consistent
with 3:2 (bit 0) and with 2:2 (bit 1); and which fields make one film frame: 1 the two of the frame shown, 2 its first with the second of
the frame before, 0 none (R127). -/
structure OutFrame where
  cad : List Nat
  film : Nat
  deriving DecidableEq, Repr

/-- What a failed read of CXL memory was for (Table 14.5): a line pair of output n's decoder (its number), a line
of a plane, a delayed audio channel, a LUT load, a bulk job after some units, a host aperture read. -/
inductive MemRead where
  | pair (n pair : Nat)
  | plane (n : Nat)
  | delay (c : Nat)
  | lut (n : Nat)
  | bulk (j units : Nat)
  | aperture (m : Nat)
  deriving DecidableEq, Repr

/-- What a failed write was for: the encoder of a flow, a bulk job after some units, another writer's bytes at an address. -/
inductive MemWrite where
  | encoder (f : Nat)
  | bulk (j units : Nat)
  | bytes (a n : Nat)
  deriving DecidableEq, Repr

/-- How far a crossbar transaction of one word comes (R433): answered; taken by the target, which does not answer; granted, but not taken; not
granted. -/
inductive XbarEnd where
  | answered | accepted | granted | waiting
  deriving DecidableEq, Repr

/-- A transaction in progress (R428): its address, a write's beats with the bytes that their strobes enable (address and byte), of them how many
were delivered; the beats of a read; whether it was granted. -/
structure XbarXact where
  addr : Nat
  writes : List (List (Nat × Byte)) := []
  readBeats : Nat := 0
  delivered : Nat := 0
  granted : Bool := false
  deriving DecidableEq, Repr

/-- A transaction on the SMBus (R439): a PEC was sent and is wrong; the command is unlisted or the length is wrong; the byte written. -/
structure SmbFrame where
  badPec : Bool := false
  badForm : Bool := false
  data : Nat := 0
  deriving DecidableEq, Repr

/-- The PCIe link after a reset of its function or of itself: up, its width and its rate code 1 to 5 (R434); where PERST_N reset it, the
CLK_D cycles that contact was low (R466). -/
structure PcieLink where
  up : Bool
  width : Nat
  rate : Nat
  perst : Option Nat := none
  deriving DecidableEq, Repr

/-- What is measured of a reference candidate at a tick boundary (R306, R314, R318): its frequency against LOCAL in 0.001 ppm, its phase
against TTIME in 1/256 cycle before folding, its detected format and pulse rate, the latest instant of its frame pulse. -/
structure RefSample where
  cand : Nat
  freq : Int
  phase : Int
  fmt : Nat := 0
  rate : Nat := 0
  pulse : Option Nat := none
  deriving DecidableEq, Repr

/-- A PTP message as it arrives (R307): 0 Announce, 1 one-step Sync, 2 two-step Sync, 3 Follow_Up, 4 Delay_Resp, 5 a message of peer delay or of
a mechanism not supported; its domain, its interval as a power of two of a second, whether it is of the best master by the standard's
algorithm, and the offset that the servo finds from it. -/
structure PtpMsg where
  kind : Nat
  domain : Nat
  interval : Int
  best : Bool
  ofs : Option (Int × Nat × Nat) := none
  deriving DecidableEq, Repr

/-- What the management plane measures by a tick boundary: samples of monitors (their index and value), the candidates, the frequency
word that the closed loop reached (10^-14), the module's input power and internal load (0.1 W), the AC and DC inputs, the 380 V and the
48 V bus in the units of Table 15.13, of each CXL port its read and write rates, and of each lane in TEST the bits compared, those in error and whether
the checker is locked (R263), of running lanes whether their adaptation has come to or left a bound (R247), and of GPIO pins that changed
level the new level and the CLK_D cycles it has held (R466), of each running RSL lane the bits its FEC corrected and the codewords it could not
correct (R248), of each Ethernet port the same in codewords (Table 10.13), and the tamper sources that alarm then, where they have changed (Table 17.14). -/
structure TickInfo where
  mons : List (Nat × Int) := []
  cands : List RefSample := []
  loop : Option Int := none
  inputW : Nat := 0
  loadW : Nat := 0
  acV : Nat := 0
  dcV : Nat := 0
  busV : Nat := 0
  ibusV : Nat := 0
  cxl : List (Nat × Nat × Nat × Nat) := []
  prbs : List (Nat × Nat × Nat × Bool) := []
  eq : List (Nat × Bool) := []
  gpio : List (Nat × Bool × Nat) := []
  fec : List (Nat × Nat × Nat) := []
  mac : List (Nat × Nat × Nat) := []
  alarms : Option Nat := none
  deriving DecidableEq, Repr

/-- A mirrored change as it arrives on the twin link (Table 12.3): a take with its source, the commit of a staged set, a flip, a channel map,
a crossfade, a binding with its descriptor and context, a release, a declared format, a loaded LUT bank, a register, bytes of a program
memory, a Saffron record, a twin-shareable key (attributes, check value, wrapped key, public key), a timing group's epoch, a salvo at a
participant (state 0 ended, 1 READY, 2 COMMIT held) and at the master (state 0 ended, 1 undecided, 2 COMMIT sent) with the acknowledgements, the
reference selected, a twin-shareable key erased. -/
inductive MirrorOp where
  | take (n kind path dev idx w fin : Nat)
  | fmt (n : Nat)
  | tset (n : Nat)
  | flip (n p base : Nat)
  | anc (n mask : Nat)
  | amap (oc count kind src ref : Nat)
  | axf (oc count : Nat) (xf : Word)
  | bind (f : Nat) (ws : List Word)
  | release (f : Nat)
  | flowFmt (f : Nat) (w0 w1 w2 : Word)
  | lut (n : Nat) (data : List Byte)
  | reg (a : Nat) (v : Word)
  | prog (a : Nat) (bs : List Byte)
  | record (type : Nat) (payload : List Byte)
  | key (slot : Nat) (attr : Word) (kcv : Nat) (wrapped pub : List Byte)
  | group (g : Nat) (epoch : Int) (frame : Nat)
  | part (id master frame group state : Nat) (outs : List (Nat × Word))
  | salvo (id issuer frame group deadline state : Nat) (acks : List (Nat × Nat))
  | refSelect (cand : Nat)
  | keyErase (slot : Nat)
  deriving DecidableEq, Repr

/-- What the other module shows in AUTH (R293, R295): its certificate, the two nonces, its signature, its key check value, its ordering code,
the capacities of its CXL ports, the digest of its image. -/
structure AuthPeer where
  cert : List Word
  ownNonce : List Byte
  peerNonce : List Byte
  sig : List Byte
  kcv : Nat
  variant : Nat
  caps : List Nat
  image : List Byte
  deriving DecidableEq, Repr

/-- A heartbeat (R300, R302): the sender's epoch, a FATAL event, whether it is in SOLO, with no flow bound and no output scanning, the
level of its TWIN_FORCE. -/
structure Heartbeat where
  epoch : Nat
  fatal : Bool := false
  solo : Bool := false
  idle : Bool := false
  force : Bool := false
  plan : Nat := 0
  deriving DecidableEq, Repr

end Sys2Proof
end

