-- ==== Sys2Proof/Syntax.lean ====
section
/-! DEFINITION. The commands: one constructor for each row of the opcode table, in its order. A unit u is numbered as R67 numbers it (IS 0 to 63, OS 64 to 127, CE 128 to 131); m is a crossbar master (Table 19.1). -/

namespace Sys2Proof

inductive Instr where
  /-- R53. Umber instruction that does nothing for one cycle. -/
  | nop (u : Nat) (w : Word)
  /-- R53. Jumps to the word index held in a register. -/
  | jmp (u : Nat) (a : VReg)
  /-- R52. Conditional relative jump on a condition from Table 2.4. -/
  | jcond (u : Nat) (cond : BitVec 4) (off : BitVec 22)
  /-- R44. Pushes the return index on the hardware call stack and jumps. -/
  | call (u : Nat) (off : BitVec 22)
  /-- R44. Pops the call stack and returns. -/
  | ret (u : Nat)
  /-- R65. Stops a sequencer in HALTED, or ends a command block. -/
  | halt (u : Nat)
  /-- R65. Raises event 0x8020 with a code and severity, then continues. -/
  | trap (u : Nat) (imm : BitVec 18)
  /-- R53. Loads a sign-extended 18-bit immediate. -/
  | li (u : Nat) (d : VReg) (imm : BitVec 18)
  /-- R53. Loads an immediate into bits 31:18. -/
  | lui (u : Nat) (d : VReg) (imm : BitVec 18)
  /-- R53. Adds a register or immediate and sets Z, N and C. -/
  | add (u : Nat) (d a : VReg) (b : AluSrc)
  /-- R53. Subtracts a register or immediate and sets the flags. -/
  | sub (u : Nat) (d a : VReg) (b : AluSrc)
  /-- R53. Compares as SUB and discards the result. -/
  | cmp (u : Nat) (a : VReg) (b : AluSrc)
  /-- R53. Bitwise AND. -/
  | and (u : Nat) (d a : VReg) (b : AluSrc)
  /-- R53. Bitwise OR. -/
  | or (u : Nat) (d a : VReg) (b : AluSrc)
  /-- R53. Bitwise XOR. -/
  | xor (u : Nat) (d a : VReg) (b : AluSrc)
  /-- R53. Shifts left. -/
  | shl (u : Nat) (d a : VReg) (b : AluSrc)
  /-- R53. Shifts right, logical or arithmetic. -/
  | shr (u : Nat) (d a : VReg) (b : AluSrc)
  /-- R53. Selects the lesser operand, unsigned or signed. -/
  | min (u : Nat) (d a : VReg) (b : AluSrc)
  /-- R53. Selects the greater operand, unsigned or signed. -/
  | max (u : Nat) (d a : VReg) (b : AluSrc)
  /-- R53. Loads a word, halfword or byte from unit memory. -/
  | ld (u : Nat) (z : Size) (d a : VReg) (imm : BitVec 18)
  /-- R53. Stores a word, halfword or byte to unit memory. -/
  | st (u : Nat) (z : Size) (d a : VReg) (imm : BitVec 18)
  /-- R60. Reads a special register, with the latching or popping side effects of that register. -/
  | mfs (u : Nat) (d : VReg) (imm : BitVec 18)
  /-- R60. Writes a writable special register. -/
  | mts (u : Nat) (a : VReg) (imm : BitVec 18)
  /-- R55. Waits for a line start of the timing context, with a timeout. -/
  | waitl (u : Nat) (a b : VReg)
  /-- R55. Waits for a number of frame starts, with a timeout. -/
  | waitf (u : Nat) (a b : VReg)
  /-- R55. Waits for S_EVENTS bits, with a timeout. -/
  | waite (u : Nat) (a b : VReg)
  /-- R55. Waits for a TTIME target, with a timeout. -/
  | waitt (u : Nat) (a b : VReg)
  /-- R55. A wait's condition holds and the wait completes with T = 0. -/
  | waitComplete (u tAt : Nat)
  /-- R55. A wait reaches its timeout count and completes with T = 1. -/
  | waitTimeout (u : Nat)
  /-- R101. Commits a take of a source on an output, after the checks of Table 4.7. -/
  | take (u : Nat) (a b : VReg)
  /-- R204. Prepares a remote flow: runs the remote exchange without changing the output. -/
  | takeP (u : Nat) (a b : VReg)
  /-- R204. Releases a prepared landing store once no output uses it. -/
  | takeU (u : Nat) (a b : VReg)
  /-- R161. Commits a plane base and staged plane registers as pending state. -/
  | flip (u : Nat) (plane : Bool) (a b : VReg)
  /-- R149. Commits the staged timing set of an output. -/
  | tset (u : Nat) (a : VReg)
  /-- R120. Commits the staged conversion set of an output. -/
  | fmt (u : Nat) (a : VReg)
  /-- R82. Replaces a flow's declared format from its next input frame start. -/
  | fmtF (u : Nat) (a b : VReg)
  /-- R131. Starts loading a LUT image into the inactive bank. -/
  | lut (u : Nat) (a : VReg)
  /-- R185. Maps a block of output channels to a block of input channels. -/
  | amapInputBlock (u : Nat) (a b : VReg) (imm : BitVec 14)
  /-- R185. Maps a block of output channels to silence or tone. -/
  | amapSourceCode (u : Nat) (a b : VReg) (imm : BitVec 14)
  /-- R186. Maps a block of output channels to follow an output's video. -/
  | amapFollow (u : Nat) (a b : VReg) (imm : BitVec 14)
  /-- R187. Writes the crossfade shape and length of a block of channels. -/
  | axf (u : Nat) (a b : VReg) (imm : BitVec 14)
  /-- R195. Commits staged ancillary registers and insert slots as pending. -/
  | anc (u : Nat) (a b : VReg)
  /-- R207. Returns SIG_OUT of an output. -/
  | sigO (u : Nat) (d b : VReg)
  /-- R207. Returns SIG_SRC of an output. -/
  | sigSrc (u : Nat) (d b : VReg)
  /-- R207. Returns the signature of the last good frame of a flow. -/
  | sigFlow (u : Nat) (d b : VReg)
  /-- R208. Raises event MARK stamped with the issue-cycle TTIME. -/
  | markNow (u : Nat) (a : VReg) (code : BitVec 14)
  /-- R208. Arms a MARK to be stamped at the next frame start. -/
  | markNextFrame (u : Nat) (a : VReg) (code : BitVec 14)
  /-- R81. Creates a flow context after the checks of Table 3.3. -/
  | bind (u : Nat) (d a : VReg)
  /-- R83. Releases a flow: removes the match entry and stops commits. -/
  | bindR (u : Nat) (a : VReg)
  /-- R83. Credits and context return at the next input frame start or after 8 ticks. -/
  | flowReleaseComplete (f tAt : Nat)
  /-- R210. Arms a program bank swap. -/
  | swapp (u : Nat) (imm : BitVec 14)
  /-- R48. An armed swap takes effect at the first frame start of the timing context. -/
  | bankSwap (u : Nat)
  /-- R211. Command-engine write of one register through the crossbar. -/
  | wr (u : Nat) (a b : VReg) (r : XbarEnd)
  /-- R211. Command-engine read of one register through the crossbar. -/
  | rd (u : Nat) (d a : VReg) (r : XbarEnd)
  /-- R212. Opens an atomic group on a command engine. -/
  | begin (u : Nat)
  /-- R213. Commits every accepted group member at one group edge. -/
  | commit (u : Nat)
  /-- R213. Discards an atomic group and returns its charges. -/
  | abort (u : Nat)
  /-- R213. A group open for 64 ticks expires and its members are discarded. -/
  | groupExpired (e : Nat)
  /-- R216. Submits a salvo and stalls until a decision reaches this device. -/
  | salvo (u : Nat) (d a : VReg)
  /-- R214. Places a message word in another unit's mailbox. -/
  | send (u : Nat) (a b : VReg)
  /-- R215. Starts copying a sequencer program image into a bank. -/
  | loadp (u : Nat) (a b : VReg)
  /-- R215. The LOADP copy ends, is verified and arms the swap if asked. -/
  | loadpComplete (e : Nat)
  /-- R215. A LOADP copy not complete in 2 ticks ends with TIMEOUT. -/
  | loadpTimeout (e : Nat)
  /-- R66. Write of CTRL.START requests a start at the next frame start. -/
  | seqCtrlStart (m u : Nat)
  /-- R66. Write of CTRL.RESTART requests a restart from SAFE or HALTED. -/
  | seqCtrlRestart (m u : Nat)
  /-- R65. Write of CTRL.HALT halts a running sequencer or ends a command. -/
  | seqCtrlHalt (m u : Nat)
  /-- R48. Write of CTRL.SWAP_DISARM removes an armed swap. -/
  | seqCtrlSwapDisarm (m u : Nat)
  /-- R66. A pending start or restart takes place at the frame start of the timing context. -/
  | seqStartAtFrame (u : Nat)
  /-- R66. A pending start or restart takes place at the 8-tick limit. -/
  | startNoFrame (u : Nat)
  /-- R61. Write of SEQ KICK sets S_EVENTS.HOST. -/
  | kick (m u : Nat) (v : Word)
  /-- R222. Write of SQ_TAIL posts command blocks to an engine. -/
  | sqTailDoorbell (m e : Nat) (v : Word)
  /-- R222. Host consumes completion records. -/
  | cqHeadWrite (m e : Nat) (v : Word)
  /-- R222. Enabling a queue zeroes indices and the completion ring. -/
  | qCtrlEnable (m e : Nat) (v : Word)
  /-- R222. Resumes a STOPPED queue. -/
  | qResume (m e : Nat) (v : Word)
  /-- R218. Command block NOP completes at once. -/
  | cmdNop (e : Nat)
  /-- R218. Command block runs engine code from ENTRY. -/
  | cmdCall (e : Nat)
  /-- R218. Command block copies inline code and runs it. -/
  | cmdInline (e : Nat)
  /-- R218. Command block copies staging-area bytes into engine memory. -/
  | cmdLoadc (e : Nat)
  /-- R219. A command missing posted blocks for 8 ticks fails with RANGE. -/
  | blockPartialTimeout (e : Nat)
  /-- R220. A command exceeding its TIMEOUT ticks ends with TIMEOUT. -/
  | blockTimeout (e : Nat)
  /-- R221. An engine waiting for completion space resumes when records are consumed. -/
  | completionSpaceFreed (e : Nat)
  /-- R21. A tick boundary; counters are snapshotted and tick loops run. -/
  | tick (i : TickInfo)
  /-- R24. Read of TTIME_LO captures 64 bits of TTIME for the master. -/
  | ttimeLoRead (m : Nat)
  /-- R27. Low-half read of a wide counter freezes the high half for the master. -/
  | counterLoRead (m a : Nat)
  /-- R116. Read of FRAME_LO or LAST_START_LO captures and latches the high word. -/
  | tgrpFrameLoRead (m g : Nat) (start : Bool)
  /-- R14. Write of a register with no row of its own, range-checked and stored. -/
  | registerWrite (m a : Nat) (v : Word)
  /-- R114. Enabling a timing group; for FREE the epoch is fixed. -/
  | tgrpEnable (m g : Nat) (v : Word)
  /-- R115. Disabling a group; referring flows lose alignment. -/
  | tgrpDisable (m g : Nat) (v : Word)
  /-- R114. The first compatible pulse or GROUP message fixes a group's epoch. -/
  | tgrpEpochFixed (g pulse : Nat)
  /-- R114. No compatible pulse within 8 ticks leaves the group running FREE. -/
  | tgrpFree (g : Nat)
  /-- R113. A timing group reaches frame start t_k and its count increments. -/
  | tgrpFrameStart (g : Nat)
  /-- R145. An output starts a frame: captured flips and timing sets apply, detectors update. -/
  | outputFrameStart (n : Nat) (i : OutFrame)
  /-- R101. Line SW starts: pending takes and conversion sets become visible. -/
  | switchingLine (n noRoom : Nat)
  /-- R147. The latch line starts and pending flips, timing sets and ANC are captured. -/
  | latchLine (n : Nat)
  /-- R89. The reader selects the newest eligible frame and fetch begins. -/
  | selectionLine (n : Nat)
  /-- R154. A scanned line starts; an incomplete line is an underflow and is repeated. -/
  | scanLineStart (n l lv l0 l1 : Nat) (late late0 late1 : Bool)
  /-- R151. The old timing is cut at the new group's first frame start. -/
  | groupChangeCut (n : Nat) (i : OutFrame)
  /-- R164. Enabling or disabling a tile group, effective at the members' next frame start. -/
  | tileCtrlEnable (m k : Nat) (v : Word)
  /-- R69. Changing a port mode starts lane bring-up. -/
  | portModeWrite (m n : Nat) (v : Word)
  /-- R73. A received IPv4 UDP packet is matched to a flow or dropped. -/
  | packetRx (n : Nat) (dst src : Word) (udp pt : Nat) (p : PacketInfo)
  /-- R70. A received SDI line is deframed and CRC-checked. -/
  | sdiLineRx (n k line : Nat) (trs crcOk : Bool) (payload : Option Word) (skew : Nat) (audio : Bool) (x : SdiMore)
  /-- R74. The firmware sends an IGMPv3 report for a multicast BIND or query. -/
  | igmpReport (f : Nat)
  /-- R74. An IGMP query arrives and the report is repeated. -/
  | igmpQuery (n : Nat)
  /-- R89. A flow's input frame start: the writer takes a slot and alignment is measured. -/
  | inputFrameStart (f : Nat) (contacts : Int)
  /-- R88. The last line pair and check value are written and the frame commits. -/
  | frameCommit (f : Nat)
  /-- R84. A received frame is judged good or bad against the declared format. -/
  | frameRxComplete (f : Nat) (i : FrameInfo)
  /-- R85. The reference is absent past its timeout. -/
  | flowNoSignal (f : Nat)
  /-- R85. No good frame for 3 frame periods with reference present. -/
  | flowUnstable (f : Nat)
  /-- R75. A sequence number missing from both legs at the window end is lost. -/
  | mergeWindowExpiry (f seq : Nat)
  /-- R77. A protection leg delivers nothing for 10 ms and is down. -/
  | legLost (f : Nat) (legB : Bool)
  /-- R109. The remote-take exchange completes and the landing store has a frame. -/
  | remotePrepared (f : Nat)
  /-- R109. The remote exchange fails or exceeds 32 ticks. -/
  | remoteTakeFail (f : Nat)
  /-- R110. A landing store stops committing. -/
  | remoteSourceLost (f : Nat)
  /-- R110. A lost remote source's reservation is retried every 32 ticks. -/
  | remoteReserveRetry (f : Nat)
  /-- R131. A LUT load completes and is verified; a swap is pending. -/
  | lutLoaded (n : Nat)
  /-- R131. A LUT load fails its tag, shape or check value. -/
  | lutFail (n : Nat)
  /-- R131. A LUT load not complete in 8 ticks fails. -/
  | lutTimeout (n : Nat)
  /-- R140. A failed pool returns and outputs request again. -/
  | frcPoolReturn (k : Nat)
  /-- R185. Mapped channels change source at their switch point and crossfade. -/
  | amapSwitchPoint (ref : Nat)
  /-- R186. A follow channel changes source after a take's TAKE_TTIME. -/
  | followSwitch (n : Nat)
  /-- R189. Writing a channel delay starts a tap crossfade. -/
  | ocDelayWrite (m c : Nat) (v : Word)
  /-- R182. Making a DEST entry valid or clearing it. -/
  | destWrite (m d : Nat) (v : Word)
  /-- R181. An input channel is lost and ramps to silence. -/
  | audioSrcLost (pair : Bool) (x : Nat)
  /-- R181. A lost channel becomes good and ramps in. -/
  | audioSrcBack (pair : Bool) (x hz : Nat) (nonPcm : Bool)
  /-- R179. A SYNC channel repeats or drops one sample. -/
  | audioSlip (c : Nat)
  /-- R196. An AES_IN pair has no valid frames for 2 ms. -/
  | aesUnlock (i : Nat)
  /-- R239. Write of a bulk engine's TAIL posts jobs. -/
  | obTailDoorbell (m j : Nat) (v : Word)
  /-- R240. A bulk job codes raw pictures at a fixed ratio. -/
  | obFixedEncode (j : Nat)
  /-- R240. A bulk job decodes fixed-ratio pairs. -/
  | obFixedDecode (j : Nat)
  /-- R235. A bulk job codes bytes losslessly. -/
  | obLosslessEncode (j : Nat)
  /-- R235. A bulk job decodes a lossless stream. -/
  | obLosslessDecode (j : Nat)
  /-- R243. A bulk job not finished within JOB_TIMEOUT ends. -/
  | obJobTimeout (j units : Nat)
  /-- R253. A DETECT lane's receiver leaves electrical idle. -/
  | laneSignalDetect (L : Nat)
  /-- R250. Four consecutive accepted commas give comma lock. -/
  | commaLockGained (L : Nat)
  /-- R249. A reserved slot is received, checked and dispatched. -/
  | reservedSlotRx (L : Nat) (comma : BitVec 64) (body : List Byte) (rm : Nat)
  /-- R255. A CAP link message is received. -/
  | cap (L : Nat)
  /-- R255. A CFG link message is received. -/
  | cfg (L : Nat)
  /-- R255. An ACK link message is received. -/
  | linkAck (L : Nat)
  /-- R254. A STEP link message schedules a rate change. -/
  | step (L : Nat)
  /-- R254. Both ends change rate at the named FIDX. -/
  | stepSwitch (L : Nat)
  /-- R254. A STEP_DONE link message is received. -/
  | stepDone (L : Nat)
  /-- R254. The 1 ms VERIFY test ends and VRES is sent. -/
  | verifyTestEnd (L unc corr prbs : Nat)
  /-- R254. A VRES link message decides ACTIVE or BACKOFF. -/
  | vres (L : Nat)
  /-- R257. A JOIN link message schedules a lane join. -/
  | join (L : Nat)
  /-- R257. A lane joins its link at the named FIDX. -/
  | laneJoin (L skew : Nat)
  /-- R259. A DROP link message removes a lane from dealing. -/
  | drop (L : Nat)
  /-- R262. An L1REQ link message is received. -/
  | l1reqMsg (L : Nat)
  /-- R262. An L1ACK link message is received. -/
  | l1ackMsg (L : Nat)
  /-- R262. An L2REQ link message is received. -/
  | l2reqMsg (L : Nat)
  /-- R262. An L2ACK link message is received. -/
  | l2ackMsg (L : Nat)
  /-- R262. No L1ACK within 1 tick leaves the link in L0. -/
  | l1Refused (l : Nat)
  /-- R262. IDLE_L1 µs without media blocks enters L1. -/
  | idleL1Timeout (l : Nat)
  /-- R255. An unanswered link message is resent after 1 tick. -/
  | linkMsgRetry (L : Nat)
  /-- R253. A bring-up phase times out and the lane enters BACKOFF. -/
  | lanePhaseTimeout (L : Nat)
  /-- R253. The back-off delay ends and the lane returns to DETECT. -/
  | backoffExpiry (L : Nat)
  /-- R259. An ACTIVE lane loses lock, codewords, comma or buffer and leaves the link. -/
  | laneLost (L cause : Nat)
  /-- R253. Write of LN_REARM returns a DOWN lane to DETECT. -/
  | lnRearm (m L : Nat) (v : Word)
  /-- R263. Write of LN_CTRL.TEST enters or leaves TEST. -/
  | lnCtrlTest (m L : Nat) (v : Word)
  /-- R264. Write of INJ_TRIGGER injects errors. -/
  | injTrigger (m L : Nat) (v : Word)
  /-- R253. Write of LK_CTRL.ENABLE enables or disables a link. -/
  | lkCtrlEnable (m l : Nat) (v : Word)
  /-- R262. Write of LK_CTRL.L1_REQ requests L1 or L0. -/
  | l1Req (m l : Nat) (v : Word)
  /-- R262. Write of LK_CTRL.L2_REQ requests L2 or exit. -/
  | l2Req (m l : Nat) (v : Word)
  /-- R261. An SDI or Ethernet lane gains or loses CDR lock. -/
  | sdiEthLockChange (L : Nat) (locked : Bool)
  /-- R273. A stack control message is received, de-duplicated and forwarded or acted on. -/
  | stackMsgRx
  /-- R277. An ANNOUNCE message is received. -/
  | announce
  /-- R277. Every 16 ticks ANNOUNCE is sent on each active link. -/
  | announceTimer
  /-- R277. A system master unheard for 48 ticks is lost. -/
  | masterLost
  /-- R278. A TIME message is received. -/
  | timeMsg
  /-- R278. A DELAY_REQ is received and answered. -/
  | delayReq
  /-- R278. Every 16 ticks DELAY_REQ is sent. -/
  | delayReqTimer
  /-- R278. A DELAY_RESP updates the link's one-way delay. -/
  | delayResp
  /-- R279. A GROUP message is received and adopted by STK groups. -/
  | group
  /-- R279. Every 16 ticks a master sends GROUP for each enabled group. -/
  | groupTimer
  /-- R276. A ROUTE message stages a routing entry. -/
  | route
  /-- R276. A ROUTE_COMMIT names a version and tick. -/
  | routeCommit
  /-- R276. At the named tick staged entries are installed, or the table is kept stale. -/
  | routeInstall (missing : Nat)
  /-- R109. An EXPORT_REQ message is received. -/
  | exportReq
  /-- R109. An EXPORT_ACK message is received. -/
  | exportAck
  /-- R275. A RESV message reserves a hop. -/
  | resv
  /-- R275. A RESV_ACK message is received. -/
  | resvAck
  /-- R109. A RELEASE message frees a reservation. -/
  | release
  /-- R281. The master receives a salvo SUBMIT. -/
  | submit
  /-- R282. A participant receives a salvo PREPARE. -/
  | prepare
  /-- R282. A salvo ENTRY message is received. -/
  | entry
  /-- R283. The master receives a READY. -/
  | ready
  /-- R283. The master receives a REFUSE. -/
  | refuse
  /-- R283. At frame D the master sends COMMIT or ABORT. -/
  | salvoDecide (id : Nat)
  /-- R284. A participant or issuer receives COMMIT. -/
  | salvoCommitMsg
  /-- R283. A participant or issuer receives ABORT and releases reservations. -/
  | salvoAbortMsg
  /-- R284. A READY participant with no decision at the latch line of T−1 aborts locally. -/
  | salvoSplit (id : Nat)
  /-- R284. Participants commit their salvo takes at t_T. -/
  | salvoTakeCommit (id : Nat)
  /-- R285. The master receives an ACK. -/
  | salvoAck
  /-- R285. At frame start T+1 the master completes or compensates. -/
  | salvoCollect (id : Nat)
  /-- R285. A participant receives COMP and commits a compensating take. -/
  | comp
  /-- R216. No decision by the frame start of T−1 ends SALVO with TIMEOUT. -/
  | salvoTimeout (e : Nat)
  /-- R296. Write of TWIN.CTRL.ENABLE enters SOLO or DISABLED. -/
  | twinEnable (m : Nat) (v : Word)
  /-- R296. TWIN CMD ATTACH starts authentication. -/
  | attach (m : Nat)
  /-- R296. TWIN CMD DETACH returns to SOLO. -/
  | detach (m : Nat)
  /-- R300. TWIN CMD SWITCH starts a planned switchover. -/
  | switch (m : Nat)
  /-- R295. Twin authentication passes and COPY begins. -/
  | twinAuthPass (p : AuthPeer)
  /-- R298. The bulk copy completes and is verified; SYNC begins. -/
  | twinCopyDone
  /-- R296. The mirror queue empties and standby groups lock. -/
  | twinPaired
  /-- R296. An attach phase fails or times out. -/
  | twinAttachFail (cause : Nat)
  /-- R302. A twin heartbeat is received; a higher EPOCH demotes an ACTIVE. -/
  | heartbeatRx (h : Heartbeat)
  /-- R300. No heartbeat for 3 ticks. -/
  | twinHbLost
  /-- R296. SG7 down for 16 ticks detaches the pair. -/
  | twinLinkDownTimeout
  /-- R296. TWIN_PRESENT_N changes after its filter. -/
  | twinPresentChange (present : Bool) (held : Nat)
  /-- R300. A rising edge of TWIN_FORCE on the standby. -/
  | twinForce (level : Bool) (held : Nat)
  /-- R301. At t_s the standby becomes ACTIVE and increments EPOCH. -/
  | twinSwitchover
  /-- R301. At the first frame start after t_s outputs go live or muted. -/
  | twinOutputRoleChange (n : Nat)
  /-- R300. The mirror queue drains and a planned switchover's t_s follows. -/
  | mirrorDrainDone
  /-- R300. The queue does not drain in 8 ticks; switchover ends with TIMEOUT. -/
  | mirrorDrainTimeout
  /-- R299. A mirrored change arrives at the standby and is scheduled. -/
  | mirrorUpdate (frame : Nat) (op : MirrorOp)
  /-- R305. A reference candidate loses activity and becomes FAILED. -/
  | candActivityLost (c : Nat)
  /-- R305. A FAILED candidate's first good sample makes it UNQUALIFIED. -/
  | candGoodSample (r : RefSample)
  /-- R309. ACCEPT_T expires within limits and the candidate qualifies. -/
  | refQualified (c : Nat)
  /-- R309. REJECT_T expires outside limits and the candidate is unqualified. -/
  | refLost (c : Nat)
  /-- R310. Candidates disagree by more than PEER for REJECT_T. -/
  | refDisagree (c : Nat)
  /-- R310. The difference stays within PEER for ACCEPT_T. -/
  | disagreeClear
  /-- R312. The wait-to-restore expires and Madder switches. -/
  | wtrExpiry
  /-- R313. Madder selects another candidate and slews. -/
  | refSwitch
  /-- R313. Frequency within 0.01 ppm; phase captured or slewed. -/
  | acquireLock
  /-- R313. ACQUIRE times out after 96,000 ticks. -/
  | acqFail
  /-- R315. A phase slope completes and deferred selections apply. -/
  | slopeComplete
  /-- R313. Phase within ±50 ns for 16 ticks enters LOCKED. -/
  | slewDone
  /-- R313. Selected lost with none qualified: HOLDOVER or FREERUN. -/
  | holdover
  /-- R313. Write of MADDER.CTRL.SOFT enters or leaves SOFTLOOP. -/
  | soft (m : Nat) (v : Word)
  /-- R323. Write of FCW, clamped, applies at the next tick. -/
  | fcwWrite (m : Nat) (v : Word)
  /-- R323. No FCW write for 8 ticks enters HOLDOVER. -/
  | softTimeout
  /-- R313. LOCAL loses activity and Madder enters FAULT. -/
  | madderFault
  /-- R313. LOCAL active for 10 s leaves FAULT. -/
  | faultRecover
  /-- R314. Write of RECAPTURE arms phase capture at the next lock. -/
  | recapture (m : Nat) (v : Word)
  /-- R316. Holdover history becomes valid after 10 min. -/
  | histValid
  /-- R319. A frame pulse on FP_IN is referred and accepted or rejected. -/
  | fpInPulse (i seen held : Nat)
  /-- R320. FP_OUT emits a pulse at each frame start of its rate. -/
  | fpOutPulse (i : Nat)
  /-- R320. No compatible source pulse within 8 ticks; the output free-runs. -/
  | fpOutFree (i : Nat)
  /-- R307. A PTP message on a candidate's port and domain is processed. -/
  | ptpMessage (c : Nat) (p : PtpMsg)
  /-- R326. Writing an enabled candidate's CFG, LIMITS or TIMES restarts its qualification. -/
  | candCfgWrite (m c reg : Nat) (v : Word)
  /-- R324. No synthesiser can serve a lane; it retries when one is released. -/
  | synthShort (n : Nat)
  /-- R331. At start-up a CXL port trains and is checked or excluded. -/
  | cxlPortTrain (x : Nat) (up : Bool) (width : Nat) (rate64 type3 : Bool) (cap : Nat) (ideOk : Bool)
  /-- R339. A poisoned or failed read or completion timeout. -/
  | cxlReadErr (x : Nat) (cto : Bool) (use : MemRead)
  /-- R339. A failed write. -/
  | cxlWriteErr (x : Nat) (cto : Bool) (use : MemWrite)
  /-- R339. A link CRC error is replayed. -/
  | cxlCrcRetry (x : Nat)
  /-- R339. A CXL link goes down. -/
  | cxlLinkDown (x : Nat)
  /-- R339. A link recovers within 20 ms with memory retained. -/
  | cxlRecovered (x : Nat)
  /-- R339. A link stays down or times out and the port is lost. -/
  | cxlPortLost (x : Nat)
  /-- R340. The population is rebuilt over the remaining ports. -/
  | memRelayout
  /-- R337. An encoder finds all buffers full and its frame is bad. -/
  | memWrOverflow (f : Nat)
  /-- R334. Write of HALLOC_SIZE requests a heap allocation. -/
  | hallocSize (m : Nat) (v : Word)
  /-- R334. Write of HFREE frees a host allocation. -/
  | hfree (m : Nat) (v : Word)
  /-- R338. A committed key is installed on a CXL link, or IDE_FAIL. -/
  | ideKeyExchange (x : Nat) (ok : Bool)
  /-- R343. A power input requalifies after 10 ms in range. -/
  | inputOk (dc : Bool) (cycles strap : Nat) (vhost33 : Bool)
  /-- R344. A power input crosses a loss limit. -/
  | inputLost (dc : Bool)
  /-- R344. The 48 V bus changes between DC and AC. -/
  | inputSwitch (cycles : Nat)
  /-- R350. PWR_EN rises and the power-up sequence starts. -/
  | pwrEnRise (cool : Bool) (held : Nat)
  /-- R350. PWR_EN falls and orderly shutdown starts. -/
  | pwrEnFall (held : Nat)
  /-- R347. A power-up step completes and the next starts. -/
  | powerUpStep
  /-- R347. A step overruns its limit and the sequence ends. -/
  | powerUpOverrun (rail : Nat)
  /-- R348. A rail leaves regulation in service. -/
  | railFault (r : Nat)
  /-- R360. The 380 V bus falls below 340 V with no input OK. -/
  | pwrFailEarly
  /-- R360. An input recovers in ride-through and the sequence ends. -/
  | pwrRide (dc : Bool) (held busV : Nat)
  /-- R360. At the 2 ms mark shutdown is committed. -/
  | pwrShutdown
  /-- R360. A timed stage of the power-fail sequence runs. -/
  | shutdownStage
  /-- R361. An input OK for 100 ms restarts power-up after a failure. -/
  | powerRestart (cycles : Nat)
  /-- R351. Write of PWR.CTRL.STATE_REQ changes power state. -/
  | stateReq (m : Nat) (v : Word)
  /-- R356. A domain switches on at first use in TRIM. -/
  | domainOnUse (d : Nat)
  /-- R356. A domain switches off 16 ticks after it stops being in use. -/
  | domainIdleOff (d : Nat)
  /-- R357. A domain not in regulation in time is left off. -/
  | pdFault (d : Nat)
  /-- R355. Write of PD_REQ allows or forbids a domain. -/
  | pdReqWrite (m w : Nat) (v : Word)
  /-- R357. Writing 1 to a PD_FAULT bit allows a retry. -/
  | pdFaultClear (m w : Nat) (v : Word)
  /-- R345. Excess power for 3,200 ticks causes shutdown. -/
  | overloadTimeout
  /-- R359. A temperature monitor reaches TRIP. -/
  | thermalTrip (mon : Nat)
  /-- R367. PWR_GOOD rising, RST_N or RESET.COLD resets everything outside AON. -/
  | coldReset (cause held : Nat)
  /-- R367. RESET.WARM resets while keeping TTIME and RWS fields. -/
  | warmReset
  /-- R367. 16 ticks without service cause a warm reset. -/
  | watchdogExpiry
  /-- R368. Straps are sampled twice 64 µs apart. -/
  | strapSample (a b : Nat × Nat × Nat) (floats : Bool)
  /-- R368. Disagreeing or floating straps are resampled every 10 ms. -/
  | strapRetry (a b : Nat × Nat × Nat) (floats : Bool)
  /-- R371. A fetched image is checked in order. -/
  | bootImageCheck (img : List Byte)
  /-- R369. A boot source exceeds its time limit. -/
  | bootSourceTimeout
  /-- R369. Write of BOOT_PUSH delivers a pushed image. -/
  | bootPush (m : Nat) (v : Word)
  /-- R369. No push within 10 s raises an alarm. -/
  | bootPushTimeout
  /-- R373. A start-up step completes and the next begins. -/
  | startupStep
  /-- R373. Start-up reaches READY. -/
  | bootReady
  /-- R372. RB_COMMIT bit 0 raises the Saffron rollback record. -/
  | rbCommitSaffron (m : Nat) (v : Word)
  /-- R372. RB_COMMIT bit 1 also burns rollback fuses. -/
  | rbCommitFuses (m : Nat) (v : Word)
  /-- R376. Write of ATTEST_CTRL.REQ starts building a report. -/
  | attestReq (m : Nat) (v : Word)
  /-- R376. The signed report is complete. -/
  | attestDone
  /-- R386. Woad STAGE places a key in a slot's shadow. -/
  | stage (m : Nat) (v : Word)
  /-- R387. Woad VERIFY checks the staged key's KCV. -/
  | woadVerify (m : Nat) (v : Word)
  /-- R388. Woad COMMIT writes both record copies and swaps the key. -/
  | keyCommitted (m : Nat) (v : Word)
  /-- R386. Woad ABORT discards a staged key. -/
  | keyAborted (m : Nat) (v : Word)
  /-- R388. Woad ERASE empties a slot. -/
  | keyErased (m : Nat) (v : Word)
  /-- R388. Woad ATTR narrows a slot's attributes. -/
  | attr (m : Nat) (v : Word)
  /-- R389. Woad SIGN makes an Ed25519 signature. -/
  | sign (m : Nat) (v : Word)
  /-- R389. Woad MAC makes an HMAC-SHA-512. -/
  | mac (m : Nat) (v : Word)
  /-- R386. Burns the provisioning fuse. -/
  | provClose (m : Nat) (v : Word)
  /-- R386. A staged key not committed in 10 s is discarded. -/
  | stageExpired
  /-- R381. An engine asks Woad for a slot's key. -/
  | keyBusRequest (e i : Nat)
  /-- R394. An armed tamper source alarms; keys are zeroised and the latch set. -/
  | tamper (src held : Nat)
  /-- R398. Write of UNLOCK_CTRL.CHAL_REQ issues an unlock challenge. -/
  | chalReq (m : Nat)
  /-- R398. Write of UNLOCK_CTRL.SUBMIT verifies an unlock message. -/
  | unlockSubmit (m still : Nat)
  /-- R407. Write of WR_DATA gathers 4 bytes into the gather buffer. -/
  | wrData (m : Nat) (v : Word)
  /-- R409. A gather-buffer piece commits atomically. -/
  | saffronCommit (bad : Nat)
  /-- R410. Read of RD_DATA returns a committed word and advances RD_ADDR. -/
  | rdDataRead (m : Nat) (corrected : Bool)
  /-- R417. REC_CMD write commits a host record. -/
  | recCmdWrite (m : Nat) (v : Word)
  /-- R417. REC_CMD read places a record payload in REC_BUF. -/
  | recCmdRead (m : Nat) (v : Word)
  /-- R412. Write of BP_CTRL.CHAL_REQ issues a BP challenge. -/
  | bpChalReq (m : Nat)
  /-- R412. Write of BP_CTRL.SUBMIT verifies and commits a new BP. -/
  | bpSubmit (m : Nat)
  /-- R405. Daily scrub reads every page and rewrites corrected ones. -/
  | nvScrub (corrected bad : List Nat)
  /-- R406. Each second a cold page is moved when wear differs. -/
  | nvWearLevel
  /-- R418. Each second queued fault-log entries are committed. -/
  | faultLogCommit
  /-- R419. Journal replay at start-up. -/
  | nvReplay (journalBad : Bool)
  /-- R414. A sealing-key change recommits every sealed record. -/
  | sealingKeyReseal
  /-- R429. A transaction has no response in 20 µs. -/
  | xbarTimeout (m : Nat) (x : XbarXact)
  /-- R433. A master is reset with a transaction in progress. -/
  | xbarMasterReset (m : Nat) (x : XbarXact)
  /-- R429. An access to no target is answered DECODE. -/
  | xbarDecode (m a : Nat) (write badSize : Bool)
  /-- R437. FLR, hot reset, link-down or PERST_N resets the host master. -/
  | pcieReset (x : XbarXact) (l : PcieLink)
  /-- R438. Unmasking a pending vector sends one message. -/
  | msixUnmask (v : Nat)
  /-- R439. SMBus IDENT returns identity and boot status. -/
  | ident (f : SmbFrame)
  /-- R439. SMBus STATE returns power and boot state. -/
  | smbState (f : SmbFrame)
  /-- R439. SMBus TEMP_MAX returns the highest temperature. -/
  | tempMax (f : SmbFrame)
  /-- R439. SMBus INPUT_W returns input power. -/
  | inputW (f : SmbFrame)
  /-- R439. SMBus HEALTH returns threshold and shed state. -/
  | health (f : SmbFrame)
  /-- R439. SMBus ARM arms POWER_OFF. -/
  | smbArm (f : SmbFrame)
  /-- R439. SMBus POWER_OFF starts orderly shutdown. -/
  | powerOff (f : SmbFrame)
  /-- R439. SMBus WAKE starts power-up from SLEEP. -/
  | wake (f : SmbFrame)
  /-- R439. A clock held low 25 ms resets the port. -/
  | smbClockLowTimeout
  /-- R440. A console line is received and executed. -/
  | uartLineRx (len errs reply : Nat) (a : Option Nat)
  /-- R441. A TAP XBAR access through master 11. -/
  | tapXbarAccess (code : Nat) (rstLow write : Bool) (a : Nat) (v : Word)
  /-- R461. TS30–TS31 differ by more than 10 °C for 1 s. -/
  | mountGradient
  /-- R449. Every 16 ticks with a cause the next shed entry is applied. -/
  | shed
  /-- R451. After 1 s without a cause the last entry is undone. -/
  | shedRestore
  /-- R452. An event enters the log ring and is routed. -/
  | eventRaised
  /-- R453. Write of LOG_READ captures an entry into ENTRY0–7. -/
  | logRead (m : Nat) (v : Word)
  /-- R453. Write of LOG_HEAD consumes log entries. -/
  | logHeadWrite (m : Nat) (v : Word)
  /-- R454. W1C of MSIX_PEND. -/
  | msixPendClear (m : Nat) (v : Word)
  /-- R454. W1C of ALARM_PEND releases ALARM_N. -/
  | alarmPendClear (m : Nat) (v : Word)
  /-- R454. W1C of GPIO_CLR drives an event pin low. -/
  | gpioClr (m : Nat) (v : Word)
  /-- R490. Power-up waits for the baseplate within range, checked every 100 ms. -/
  | baseplateHold (t30 t31 : Int)
  /-- R248. An RSL media block carrying stack traffic is received and forwarded, replicated, truncated at the reservation or written into a landing store. -/
  | mediaBlockRx (l dev flow : Nat) (beyond : Bool) (bs : List Byte)
  /-- R262. The partner resumes transmitting on a link in L1 and the link returns to L0. -/
  | l1Resume (l : Nat)
  /-- R262. The electrical-idle detectors of a link in L2 see the partner's training and both ends enter TRAIN. -/
  | l2Wake (l : Nat)
  /-- R179. An ASRC channel's source rate leaves 30 to 100 kHz and its channels are muted with the loss ramp, raising 0x4057. -/
  | asrcRange (pair : Bool) (x : Nat)
  /-- R320. The source pulses of an FP_OUT stop arriving and the output continues on TTIME with FLYWHEEL set. -/
  | flywheel (i : Nat)
  /-- R395. VBAT is removed while AON is unpowered, losing the tamper KEK, arming state and always-on registers. -/
  | vbatLoss
  /-- R369. A booting peer asks over SG7 for the loaded image, which this module serves while TWIN.CTRL.ENABLE is 1. -/
  | twinBootImageRequest
  /-- R398. An unlock or BP challenge not submitted within 16,000 ticks becomes invalid. -/
  | challengeExpired (bp : Bool)
  deriving DecidableEq, Repr

end Sys2Proof
end

