-- ==== Sys2Proof/Decode.lean ====
section
/-! DEFINITION. The instruction words of Umber (R50, R51, Tables 2.2 and 2.3). The rows of the opcode table give no bits, so no table word
spells a command. -/

namespace Sys2Proof

/-- No row of the table has bits. -/
def decodeTableWord (_nbits _w : Nat) : Option Instr := none

/-- Bits hi to lo of an instruction word. -/
def wordField (w : Word) (hi lo : Nat) : Nat := w.toNat / 2 ^ lo % 2 ^ (hi - lo + 1)

/-- The register that a field of a word selects. -/
def wordReg (w : Word) (lo : Nat) : VReg := BitVec.ofNat 4 (wordField w (lo + 3) lo)

/-- The core instruction of an ALU operation by its number in fn (Table 2.3). -/
def aluInstr (u fn : Nat) (d a : VReg) (b : AluSrc) : Option Instr :=
  match fn with
  | 1 => some (.add u d a b)
  | 2 => some (.sub u d a b)
  | 3 => some (.and u d a b)
  | 4 => some (.or u d a b)
  | 5 => some (.xor u d a b)
  | 6 => some (.shl u d a b)
  | 7 => some (.shr u d a b)
  | 8 => if d = 0 then some (.cmp u a b) else none
  | 9 => some (.min u d a b)
  | 10 => some (.max u d a b)
  | _ => none

/-- The core instruction that a word spells: formats A, I and J. -/
def coreInstr (u : Nat) (w : Word) : Option Instr :=
  let d := wordReg w 22
  let a := wordReg w 18
  let b := wordReg w 14
  let fn := wordField w 13 0
  let imm : BitVec 18 := BitVec.ofNat 18 (wordField w 17 0)
  let off : BitVec 22 := BitVec.ofNat 22 (wordField w 21 0)
  let ok (c : Bool) (i : Instr) : Option Instr := if c then some i else none
  let bare := decide (b = 0) && decide (fn = 0)
  match wordField w 31 26 with
  | 0x01 => ok (bare && decide (d = 0) && decide (a = 0)) (.nop u w)
  | 0x02 => ok (bare && decide (d = 0)) (.jmp u a)
  | 0x03 => ok (decide (d ≠ 15)) (.jcond u d off)
  | 0x04 => ok (decide (d = 0)) (.call u off)
  | 0x05 => ok (bare && decide (d = 0) && decide (a = 0)) (.ret u)
  | 0x06 => ok (bare && decide (d = 0) && decide (a = 0)) (.halt u)
  | 0x07 => ok (decide (d = 0) && decide (a = 0)) (.trap u imm)
  | 0x08 =>
    let f := fn % 16
    if fn / 32 = 0 ∧ (fn / 16 = 0 ∨ f = 7 ∨ f = 9 ∨ f = 10) then aluInstr u f d a (.reg b (decide (fn / 16 = 1))) else none
  | 0x09 => ok (decide (a = 0)) (.li u d imm)
  | 0x0A => ok (decide (a = 0)) (.lui u d imm)
  | 0x0B => aluInstr u 1 d a (.imm imm)
  | 0x0C => aluInstr u 2 d a (.imm imm)
  | 0x0D => aluInstr u 3 d a (.imm imm)
  | 0x0E => aluInstr u 4 d a (.imm imm)
  | 0x0F => aluInstr u 5 d a (.imm imm)
  | 0x10 => aluInstr u 6 d a (.imm imm)
  | 0x11 => aluInstr u 7 d a (.imm imm)
  | 0x12 => aluInstr u 8 d a (.imm imm)
  | 0x13 => aluInstr u 9 d a (.imm imm)
  | 0x14 => aluInstr u 10 d a (.imm imm)
  | 0x18 => some (.ld u .word d a imm)
  | 0x19 => some (.ld u .half d a imm)
  | 0x1A => some (.ld u .byte d a imm)
  | 0x1C => some (.st u .word d a imm)
  | 0x1D => some (.st u .half d a imm)
  | 0x1E => some (.st u .byte d a imm)
  | 0x20 => ok (decide (a = 0)) (.mfs u d imm)
  | 0x21 => ok (decide (d = 0)) (.mts u a imm)
  | _ => none

/-- The wait or the media instruction that a word spells: format M, with an unused imm14 of 0. A WR or RD that comes as a word is answered
by its target (DESIGN CHOICE, log entry 53: the rows WR and RD carry how far a transaction comes). -/
def mediaInstr (u : Nat) (w : Word) : Option Instr :=
  let a := wordReg w 18
  let b := wordReg w 14
  let imm : BitVec 14 := BitVec.ofNat 14 (wordField w 13 0)
  let ab (i : Instr) : Option Instr := if imm = 0 then some i else none
  let aOnly (i : Instr) : Option Instr := if imm = 0 ∧ b = 0 then some i else none
  let bare (i : Instr) : Option Instr := if imm = 0 ∧ b = 0 ∧ a = 0 then some i else none
  match wordField w 31 26, wordField w 25 22 with
  | 0x28, 0 => ab (.waitl u a b)
  | 0x28, 1 => ab (.waitf u a b)
  | 0x28, 2 => ab (.waite u a b)
  | 0x28, 3 => ab (.waitt u a b)
  | 0x30, 0 => ab (.take u a b)
  | 0x30, 1 => ab (.takeP u a b)
  | 0x30, 2 => ab (.takeU u a b)
  | 0x31, 0 => ab (.flip u false a b)
  | 0x31, 1 => ab (.flip u true a b)
  | 0x32, 0 => aOnly (.tset u a)
  | 0x33, 0 => aOnly (.fmt u a)
  | 0x33, 1 => ab (.fmtF u a b)
  | 0x34, 0 => aOnly (.lut u a)
  | 0x35, 0 => some (.amapInputBlock u a b imm)
  | 0x35, 1 => some (.amapSourceCode u a b imm)
  | 0x35, 2 => some (.amapFollow u a b imm)
  | 0x36, 0 => some (.axf u a b imm)
  | 0x37, 0 => ab (.anc u a b)
  | 0x38, 0 => ab (.sigO u a b)
  | 0x38, 1 => ab (.sigSrc u a b)
  | 0x38, 2 => ab (.sigFlow u a b)
  | 0x39, 0 => if b = 0 then some (.markNow u a imm) else none
  | 0x39, 1 => if b = 0 then some (.markNextFrame u a imm) else none
  | 0x3A, 0 => ab (.bind u b a)
  | 0x3A, 1 => aOnly (.bindR u a)
  | 0x3B, 0 => if a = 0 ∧ b = 0 then some (.swapp u imm) else none
  | 0x3C, 0 => ab (.wr u a b .answered)
  | 0x3C, 1 => ab (.rd u b a .answered)
  | 0x3D, 0 => bare (.begin u)
  | 0x3D, 1 => bare (.commit u)
  | 0x3D, 2 => bare (.abort u)
  | 0x3E, 0 => ab (.salvo u b a)
  | 0x3E, 1 => ab (.send u a b)
  | 0x3E, 2 => ab (.loadp u a b)
  | _, _ => none

/-- The instruction that a word spells on unit u, none where Table 2.3 assigns it to none. -/
def decodeWord (u : Nat) (w : Word) : Option Instr := if wordField w 31 26 < 0x28 then coreInstr u w else mediaInstr u w

end Sys2Proof
end

