-- ==== Sys2Proof/Config.lean ====
section
/-! DEFINITION. What an implementation fixes and what the spec leaves open: free values without a body, so that no proof can see them. Each is named in the assumption log. -/

namespace Sys2Proof.Config

/-- A value the spec leaves open, by the place that uses it and by what it depends on (log entry 3). -/
opaque free (place : Nat) (n : Nat) : Nat

/-- A yes-or-no the spec leaves open, in the same form. -/
opaque freeBool (place : Nat) (n : Nat) : Bool

/-- The module serial of the factory (R496). -/
opaque serial : Nat

/-- Byte i of the factory's ID_CERT (R377). -/
opaque idCert (i : Nat) : Nat

/-- SHA-512 of a byte string, 64 bytes (a standard the spec names and does not state). -/
opaque sha512 (m : List Byte) : List Byte

/-- Ed25519 verification: public key, message, signature. -/
opaque ed25519Verify (pub msg sig : List Byte) : Bool

/-- Ed25519 signature: private key seed, message. -/
opaque ed25519Sign (key msg : List Byte) : List Byte

/-- The Ed25519 public key of a private key seed. -/
opaque ed25519Pub (key : List Byte) : List Byte

/-- HMAC-SHA-512: key, message. -/
opaque hmacSha512 (key msg : List Byte) : List Byte

/-- AES-256 key unwrapping (the wrapped import of R386): wrapping key, wrapped bytes; none where the integrity check fails. -/
opaque aesUnwrap (kek wrapped : List Byte) : Option (List Byte)

/-- AES-256 key wrapping with padding (R383). -/
opaque aesWrap (kek key : List Byte) : List Byte

/-- Whether a public key decodes to a curve point that is not of small order (R387). -/
opaque ed25519PointOk (pub : List Byte) : Bool

/-- The device KEK of the fused device secret (R383), the identity key pair of the factory (R381), the hashes of root keys 0 to 3 in the
fuses (R371). -/
opaque deviceKek : List Byte
opaque identityKey : List Byte
opaque rootKeyHash (k : Nat) : List Byte

/-- AES-256 encryption of one 16-byte block. -/
opaque aes256 (key block : List Byte) : List Byte

/-- The encoder's own coding of a block of samples in a format (bits of the format, samples, budget): the spec fixes what makes a coding
best, not every bit of it (R227, log entry 20). -/
opaque blockChoice (fmt : List Nat) (samples : List Nat) : List Byte

/-- The token stream the encoder finds for an input; the spec leaves the choice of tokens open (R235, log entry 20). -/
opaque tokenChoice (input : List Byte) : List Byte

/-- Whether dither takes a component that is no whole code up to the next one, for the mode and the place of the sample (output, frame, line,
column, component); the dither patterns are not stated (log entry 21). -/
opaque dithered (mode : Nat) (place : List Nat) (num den : Nat) : Bool

/-- Whether a quotient that is no whole number is taken up to the next one: the rounding inside the pipeline is not stated (log entry 55). -/
opaque roundsUp (num den : Nat) : Bool

/-- A sample that a filter of the pipeline makes of others: which filter (its code and phase), and the samples under its taps. The spec gives the
number of taps and not their coefficients. A sample that an adaptive stage makes of whole frames is one too, of no taps: its code then
names the stage, the frames and the place (log entry 55). -/
opaque filtered (filter : List Nat) (taps : List Nat) : Nat

/-- The start of the scaler's phase accumulator for a step, in 1/2^32 sample (log entry 55). -/
opaque scalerStart (step : Nat) : Nat

/-- Component i of a sample converted by the matrix of a colour system, 16-bit codes (the standards' matrices are named, not stated). -/
opaque toRgb (system : Nat) (ycbcr : List Nat) (i : Nat) : Nat
opaque fromRgb (system : Nat) (rgb : List Nat) (i : Nat) : Nat

/-- Display light of a non-linear component and its inverse, light in 10^-6 cd/m2 (transfers of the standards named in Table 5.6). -/
opaque light (system : Nat) (code black peak : Nat) : Nat
opaque code (system : Nat) (light black peak : Nat) : Nat

/-- Entry of the 3x3 gamut matrix between primaries, in 2^-16, row i, column j. -/
opaque gamut (fromPrim toPrim : Nat) (i j : Nat) : Int

/-- The fixed knee: a luminance above three quarters of a peak compressed below it (Table 5.6). -/
opaque knee (luminance peak : Nat) : Nat

/-- The pluge pattern: its level by transfer and position, as a 16-bit code with black at 4096 and peak at 60160 (Table 4.2). -/
opaque pluge (system x y w h : Nat) : Nat

/-- Sample i, on the matrix grid, that an input channel brings, 24 bits: no command brings audio samples (log entry 56). -/
opaque audioIn (channel i : Nat) : BitVec 24

/-- Authenticated decryption with AES-256-GCM: key, nonce, sealed bytes with their tag. -/
opaque gcmOpen (key nonce sealed : List Byte) : Option (List Byte)

/-- Authenticated encryption with AES-256-GCM: key, nonce, plain bytes. -/
opaque gcmSeal (key nonce plain : List Byte) : List Byte

end Sys2Proof.Config
end

