-- ==== Sys2Proof/Machine/Bits.lean ====
section
/-! DEFINITION. Bit fields, sign extension, byte order and exact integer helpers used by every block (R6: bit 0 is the least significant bit, multi-byte values are little-endian). -/

namespace Sys2Proof.Machine

/-- Field [hi:lo] of a number, as a number (R6). -/
def fieldOf (w hi lo : Nat) : Nat := (w / 2 ^ lo) % 2 ^ (hi + 1 - lo)

/-- Field [hi:lo] of a word (R6). -/
def bits (w : Word) (hi lo : Nat) : Nat := fieldOf w.toNat hi lo

/-- Bit i of a word. -/
def bit (w : Word) (i : Nat) : Bool := w.getLsbD i

/-- A number as a 32-bit word, modulo 2^32. -/
def word (n : Nat) : Word := BitVec.ofNat 32 n

/-- A signed value as a 32-bit two's complement word. -/
def wordI (n : Int) : Word := BitVec.ofInt 32 n

/-- A flag as bit lo of a number. -/
def flag (b : Bool) (lo : Nat) : Nat := if b then 2 ^ lo else 0

/-- Field [hi:lo] of w replaced by the low bits of v. -/
def setBits (w : Word) (hi lo : Nat) (v : Nat) : Word :=
  let m := (2 ^ (hi + 1 - lo) - 1) * 2 ^ lo
  word ((w.toNat - (w.toNat &&& m)) + (v % 2 ^ (hi + 1 - lo)) * 2 ^ lo)

/-- Bits of w outside the mask kept, bits inside taken from v: a write that reserved bits ignore (R13). -/
def maskWrite (old v : Word) (mask : Nat) : Word := (old &&& ~~~(word mask)) ||| (v &&& word mask)

/-- The low n bits of x read as two's complement. -/
def sextN (x n : Nat) : Int :=
  let y := x % 2 ^ n
  if y < 2 ^ (n - 1) then (y : Int) else (y : Int) - (2 ^ n : Nat)

/-- A word read as two's complement. -/
def sInt (w : Word) : Int := w.toInt

/-- Division rounded up. -/
def ceilDiv (a b : Nat) : Nat := (a + b - 1) / b

/-- The low and high words of a 64-bit count (TTIME, R20). -/
def lo32 (n : Nat) : Word := word n
def hi32 (n : Nat) : Word := word (n / 2 ^ 32)

/-- A number from its low and high words. -/
def join32 (lo hi : Word) : Nat := lo.toNat + 2 ^ 32 * hi.toNat

/-- The n little-endian bytes of a number (R6). -/
def leBytes : Nat → Nat → List Byte
  | 0, _ => []
  | n + 1, v => BitVec.ofNat 8 v :: leBytes n (v / 256)

/-- The number whose little-endian bytes are given (R6). -/
def ofLeBytes : List Byte → Nat
  | [] => 0
  | b :: bs => b.toNat + 256 * ofLeBytes bs

/-- The bytes of a list of words, each little-endian. -/
def wordsBytes (ws : List Word) : List Byte := ws.flatMap (fun w => leBytes 4 w.toNat)

/-- The words of a list of bytes, four bytes each, a last part padded with zeros. -/
def bytesWords (bs : List Byte) (n : Nat) : List Word :=
  (List.range n).map (fun i => word (ofLeBytes ((bs.drop (4 * i)).take 4)))

/-- Absolute value as a natural number. -/
def absI (x : Int) : Nat := x.natAbs

/-- x limited to the range lo to hi. -/
def clampI (lo hi x : Int) : Int := if x < lo then lo else if hi < x then hi else x

/-- A count that stops at its maximum (R27). -/
def satAdd (max a b : Nat) : Nat := if a + b ≤ max then a + b else max

/-- The number of set bits below position n. -/
def popcount (n w : Nat) : Nat := ((List.range n).filter (fun i => w.testBit i)).length

/-- Set, clear or read one bit of a number used as a bit set. -/
def setBit (w i : Nat) : Nat := w ||| 2 ^ i
def clearBit (w i : Nat) : Nat := if w.testBit i then w - 2 ^ i else w

end Sys2Proof.Machine
end

