-- ==== Sys2Proof/Machine/Tbl.lean ====
section
/-! DEFINITION. Sparse tables: a list of (index, value) pairs in one canonical form, indices strictly rising and no entry equal to the value an unlisted index has. The memories are tables of bytes. -/

namespace Sys2Proof.Machine

/-- A sparse table over the natural numbers. -/
abbrev Tbl (α : Type) := List (Nat × α)

/-- The listed value at an index. -/
def Tbl.find {α : Type} : Tbl α → Nat → Option α
  | [], _ => none
  | (k, v) :: t, i => if i = k then some v else Tbl.find t i

/-- The value at an index, d where it is not listed. -/
def Tbl.get {α : Type} (d : α) (t : Tbl α) (i : Nat) : α := (Tbl.find t i).getD d

/-- An entry put in its place, before the first greater index. -/
def Tbl.insert {α : Type} : Tbl α → Nat → α → Tbl α
  | [], i, v => [(i, v)]
  | (k, w) :: t, i, v => if i < k then (i, v) :: (k, w) :: t else (k, w) :: Tbl.insert t i v

/-- The entry at an index set to v, or taken out where v is the unlisted value d. -/
def Tbl.set {α : Type} [DecidableEq α] (d : α) (t : Tbl α) (i : Nat) (v : α) : Tbl α :=
  let others := t.filter (fun (p : Nat × α) => decide (p.1 ≠ i))
  if v = d then others else Tbl.insert others i v

/-- The entry at an index changed by a function. -/
def Tbl.mod {α : Type} [DecidableEq α] (d : α) (t : Tbl α) (i : Nat) (f : α → α) : Tbl α :=
  Tbl.set d t i (f (Tbl.get d t i))

/-- The canonical form above a bound: indices at least lo and strictly rising, no entry equal to d. -/
def Tbl.wfFrom {α : Type} [DecidableEq α] (d : α) : Nat → Tbl α → Bool
  | _, [] => true
  | lo, (k, v) :: t => decide (lo ≤ k) && decide (v ≠ d) && Tbl.wfFrom d (k + 1) t

/-- The canonical form. -/
def Tbl.wf {α : Type} [DecidableEq α] (d : α) (t : Tbl α) : Bool := Tbl.wfFrom d 0 t

/-- A memory: bytes by address, an unlisted byte reads as 0x00. -/
abbrev Memory := Tbl Byte

/-- What an unlisted byte of every memory reads as (R49 for program memory; a DESIGN CHOICE elsewhere, log entry 2). -/
def Memory.unlisted : Byte := 0

/-- One byte of a memory. -/
def Memory.read (m : Memory) (a : Nat) : Byte := Tbl.get Memory.unlisted m a

/-- One byte written. -/
def Memory.write (m : Memory) (a : Nat) (b : Byte) : Memory := Tbl.set Memory.unlisted m a b

/-- The n bytes from an address. -/
def Memory.readBytes (m : Memory) (a n : Nat) : List Byte := (List.range n).map (fun i => Memory.read m (a + i))

/-- Bytes written from an address upward. -/
def Memory.writeBytes (m : Memory) (a : Nat) : List Byte → Memory
  | [] => m
  | b :: bs => Memory.writeBytes (Memory.write m a b) (a + 1) bs

/-- n bytes set to one value. -/
def Memory.fill (m : Memory) (a : Nat) (b : Byte) (n : Nat) : Memory := Memory.writeBytes m a (List.replicate n b)

/-- A little-endian value of n bytes (R6). -/
def Memory.readLe (m : Memory) (a n : Nat) : Nat := ofLeBytes (Memory.readBytes m a n)

/-- A little-endian value of n bytes written (R6). -/
def Memory.writeLe (m : Memory) (a n v : Nat) : Memory := Memory.writeBytes m a (leBytes n v)

/-- A memory keeps its canonical form. -/
def Memory.wf (m : Memory) : Bool := Tbl.wf Memory.unlisted m

end Sys2Proof.Machine
end

