-- ==== Sys2Proof/Machine/RegMap.lean ====
section
/-! DEFINITION. The control address map: the address of every register by name (R492, R497), and for every register its access type (R12), reset value, writable bits (R13) and the ranges of its fields that hold whatever the state (R14). -/

namespace Sys2Proof.Machine

namespace R

/-! The registers of GLOBAL, Tables 1.9, 16.8, 21.8, 23.3. -/

def globalIdent : Nat := 0x0
def globalTtimeLo : Nat := 0x10
def globalTtimeHi : Nat := 0x14
def globalTickNum : Nat := 0x18
def globalRangeRejectCnt : Nat := 0x20
def globalRangeRejectAddr : Nat := 0x24
def globalSerialLo : Nat := 0x30
def globalSerialHi : Nat := 0x34
def globalScratch (k : Nat) : Nat := 0x40 + 0x4 * k
def globalBootStatus : Nat := 0x100
def globalResetCause : Nat := 0x104
def globalReset : Nat := 0x108
def globalBootPush : Nat := 0x10C
def globalBootPref : Nat := 0x110
def globalRollback : Nat := 0x114
def globalRbCommit : Nat := 0x118
def globalFwBuildLo : Nat := 0x11C
def globalFwBuildHi : Nat := 0x120
def globalBootFailCnt : Nat := 0x124
def globalAttestNonce (k : Nat) : Nat := 0x200 + 0x4 * k
def globalAttestCtrl : Nat := 0x220
def globalAttestStatus : Nat := 0x224
def globalAttestReport (k : Nat) : Nat := 0x400 + 0x4 * k
def globalIdCert (k : Nat) : Nat := 0x600 + 0x4 * k
def globalFilt (k : Nat) : Nat := 0x700 + 0x4 * k
def globalFilt3 : Nat := 0x70C
def globalFiltStatus : Nat := 0x710

/-! The registers of PWR, Table 15.13. -/

def pwrCtrl : Nat := 0x10000
def pwrStatus : Nat := 0x10004
def pwrCeiling : Nat := 0x10008
def pwrEffCeiling : Nat := 0x1000C
def pwrInputW : Nat := 0x10010
def pwrLoadW : Nat := 0x10014
def pwrAcVrms : Nat := 0x10018
def pwrDcV : Nat := 0x1001C
def pwrBusV : Nat := 0x10020
def pwrIbusV : Nat := 0x10024
def pwrPfeCnt : Nat := 0x10030
def pwrRideCnt : Nat := 0x10034
def pwrInputSwitchCnt : Nat := 0x10038
def pwrPdReq (k : Nat) : Nat := 0x10040 + 0x4 * k
def pwrPdOn (k : Nat) : Nat := 0x10050 + 0x4 * k
def pwrPdFault (k : Nat) : Nat := 0x10060 + 0x4 * k
def pwrPdShed (k : Nat) : Nat := 0x10070 + 0x4 * k
def pwrAvsCtrl (k : Nat) : Nat := 0x10080 + 0x10 * k
def pwrAvsStatus (k : Nat) : Nat := 0x10084 + 0x10 * k
def pwrAvsBoundCnt (k : Nat) : Nat := 0x10088 + 0x10 * k
def pwrRailStatus (k : Nat) : Nat := 0x10100 + 0x4 * k

/-! The registers of HLTH, Table 20.8. -/

def hlthStatus : Nat := 0x20000
def hlthBaseplate : Nat := 0x20004
def hlthThermalCeil : Nat := 0x20008
def hlthShedLevel : Nat := 0x2000C
def hlthShedCnt : Nat := 0x20010
def hlthLifeTicksLo : Nat := 0x20040
def hlthLifeTicksHi : Nat := 0x20044
def hlthLifeCycles : Nat := 0x20048
def hlthLifeT85 : Nat := 0x2004C
def hlthLifeT105 : Nat := 0x20050
def hlthLifeTmax : Nat := 0x20054
def hlthLifeTrips : Nat := 0x20058
def hlthLifeFatal : Nat := 0x2005C
def hlthShed (k : Nat) : Nat := 0x20200 + 0x4 * k
def hlthMonValue (k : Nat) : Nat := 0x21000 + 0x20 * k
def hlthMonWarn (k : Nat) : Nat := 0x21004 + 0x20 * k
def hlthMonCrit (k : Nat) : Nat := 0x21008 + 0x20 * k
def hlthMonTrip (k : Nat) : Nat := 0x2100C + 0x20 * k
def hlthMonStatus (k : Nat) : Nat := 0x21010 + 0x20 * k
def hlthMonDiscardCnt (k : Nat) : Nat := 0x21014 + 0x20 * k

/-! The registers of MADDER, Tables 13.8, 13.11, 13.13. -/

def madderCtrl : Nat := 0x30000
def madderStatus : Nat := 0x30004
def madderSlope : Nat := 0x30008
def madderWtr : Nat := 0x3000C
def madderPeer : Nat := 0x30010
def madderFcw : Nat := 0x30014
def madderPdSample : Nat := 0x30018
def madderPdStatus : Nat := 0x3001C
def madderFreqOfs : Nat := 0x30020
def madderHoldFcw : Nat := 0x30024
def madderHistTicks : Nat := 0x30028
def madderSlewRemain : Nat := 0x3002C
def madderPtpOfsSecLo : Nat := 0x30040
def madderPtpOfsSecHi : Nat := 0x30044
def madderPtpOfsNs : Nat := 0x30048
def madderPtpOfsFrac : Nat := 0x3004C
def madderSwitchCnt : Nat := 0x30060
def madderHoldoverCnt : Nat := 0x30064
def madderSoftClampCnt : Nat := 0x30068
def madderSoftTimeoutCnt : Nat := 0x3006C
def madderDisagreeCnt : Nat := 0x30070
def madderCandCfg (k : Nat) : Nat := 0x30100 + 0x40 * k
def madderCandLimits (k : Nat) : Nat := 0x30104 + 0x40 * k
def madderCandTimes (k : Nat) : Nat := 0x30108 + 0x40 * k
def madderCandStatus (k : Nat) : Nat := 0x3010C + 0x40 * k
def madderCandFreq (k : Nat) : Nat := 0x30110 + 0x40 * k
def madderCandPhase (k : Nat) : Nat := 0x30114 + 0x40 * k
def madderCandQtime (k : Nat) : Nat := 0x30118 + 0x40 * k
def madderCandActLossCnt (k : Nat) : Nat := 0x30120 + 0x40 * k
def madderCandRejectCnt (k : Nat) : Nat := 0x30124 + 0x40 * k
def madderCandDemoteCnt (k : Nat) : Nat := 0x30128 + 0x40 * k
def madderFpCtrl (k : Nat) : Nat := 0x30400 + 0x20 * k
def madderFpOffset (k : Nat) : Nat := 0x30404 + 0x20 * k
def madderFpStatus (k : Nat) : Nat := 0x30408 + 0x20 * k
def madderFpRephaseCnt (k : Nat) : Nat := 0x3040C + 0x20 * k
def madderFpiStatus (k : Nat) : Nat := 0x30480 + 0x10 * k
def madderSynStatus (k : Nat) : Nat := 0x30500 + 0x10 * k

/-! The registers of TGRP, Table 4.12. -/

def tgrpCtrl (n : Nat) : Nat := 0x38000 + 0x40 * n
def tgrpPhaseOfs (n : Nat) : Nat := 0x38004 + 0x40 * n
def tgrpMembers (n : Nat) : Nat := 0x38008 + 0x40 * n
def tgrpStatus (n : Nat) : Nat := 0x3800C + 0x40 * n
def tgrpFrameLo (n : Nat) : Nat := 0x38010 + 0x40 * n
def tgrpFrameHi (n : Nat) : Nat := 0x38014 + 0x40 * n
def tgrpLastStartLo (n : Nat) : Nat := 0x38018 + 0x40 * n
def tgrpLastStartHi (n : Nat) : Nat := 0x3801C + 0x40 * n

/-! The registers of TILE, Table 6.16. -/

def tileCtrl (n : Nat) : Nat := 0x39000 + 0x100 * n
def tileStatus (n : Nat) : Nat := 0x39004 + 0x100 * n
def tileMembersLo (n : Nat) : Nat := 0x39008 + 0x100 * n
def tileMembersHi (n : Nat) : Nat := 0x3900C + 0x100 * n
def tileCanvas (n : Nat) : Nat := 0x39010 + 0x100 * n
def tileCropOrgNext (n : Nat) : Nat := 0x39014 + 0x100 * n
def tileCropSizeNext (n : Nat) : Nat := 0x39018 + 0x100 * n
def tileDestOrgNext (n : Nat) : Nat := 0x3901C + 0x100 * n
def tileDestSizeNext (n : Nat) : Nat := 0x39020 + 0x100 * n
def tileCropOrgCur (n : Nat) : Nat := 0x39034 + 0x100 * n
def tileCropSizeCur (n : Nat) : Nat := 0x39038 + 0x100 * n
def tileDestOrgCur (n : Nat) : Nat := 0x3903C + 0x100 * n
def tileDestSizeCur (n : Nat) : Nat := 0x39040 + 0x100 * n

/-! The registers of WOAD, Table 17.13. -/

def woadStatus : Nat := 0x40000
def woadCmd : Nat := 0x40004
def woadArg0 : Nat := 0x40008
def woadArg1 : Nat := 0x4000C
def woadArg2 : Nat := 0x40010
def woadCmdResult : Nat := 0x40014
def woadProvClose : Nat := 0x40018
def woadBindRsl : Nat := 0x40020
def woadBindSeal : Nat := 0x40024
def woadCmdCnt : Nat := 0x40030
def woadCmdErrCnt : Nat := 0x40034
def woadRefuseCnt : Nat := 0x40038
def woadKeyIn (k : Nat) : Nat := 0x40100 + 0x4 * k
def woadDigestIn (k : Nat) : Nat := 0x40200 + 0x4 * k
def woadSigOut (k : Nat) : Nat := 0x40240 + 0x4 * k
def woadSlotAttr (k : Nat) : Nat := 0x41000 + 0x10 * k
def woadSlotUseCnt (k : Nat) : Nat := 0x41004 + 0x10 * k
def woadSlotKcv (k : Nat) : Nat := 0x41008 + 0x10 * k
def woadSlotShadow (k : Nat) : Nat := 0x4100C + 0x10 * k
def woadPub (k : Nat) : Nat := 0x44000 + 0x4 * k

/-! The registers of SAFFRON, Table 18.7. -/

def saffronStatus : Nat := 0x50000
def saffronWrAddr : Nat := 0x50004
def saffronWrData : Nat := 0x50008
def saffronCommit : Nat := 0x5000C
def saffronCommitResult : Nat := 0x50010
def saffronRdAddr : Nat := 0x50014
def saffronRdData : Nat := 0x50018
def saffronRdStatus : Nat := 0x5001C
def saffronSpareFree : Nat := 0x50020
def saffronWearMax : Nat := 0x50024
def saffronBpCtrl : Nat := 0x50028
def saffronBpStatus : Nat := 0x5002C
def saffronRecCmd : Nat := 0x50030
def saffronRecLen : Nat := 0x50034
def saffronRecResult : Nat := 0x50038
def saffronRecSeq : Nat := 0x5003C
def saffronCommitCnt : Nat := 0x50040
def saffronPageWriteCnt : Nat := 0x50044
def saffronCopyInvalidCnt : Nat := 0x50048
def saffronTieCnt : Nat := 0x5004C
def saffronEccCorrCnt : Nat := 0x50050
def saffronEccUncorrCnt : Nat := 0x50054
def saffronRetiredCnt : Nat := 0x50058
def saffronLogDropCnt : Nat := 0x5005C
def saffronBpChal (k : Nat) : Nat := 0x50100 + 0x4 * k
def saffronBpMsg (k : Nat) : Nat := 0x50200 + 0x4 * k
def saffronRecBuf (k : Nat) : Nat := 0x50400 + 0x4 * k

/-! The registers of XBAR, Table 19.10. -/

def xbarBar0Win : Nat := 0x60000
def xbarCxlWin : Nat := 0x60004
def xbarTapCtrl : Nat := 0x60008
def xbarErrAddr : Nat := 0x60010
def xbarErrInfo : Nat := 0x60014
def xbarMasterCfg (k : Nat) : Nat := 0x60020 + 0x10 * k
def xbarMasterStatus (k : Nat) : Nat := 0x60024 + 0x10 * k
def xbarMasterErrCnt (k : Nat) : Nat := 0x60028 + 0x10 * k
def xbarMasterResetCnt (k : Nat) : Nat := 0x6002C + 0x10 * k
def xbarTargetStatus (k : Nat) : Nat := 0x60100 + 0x4 * k
def xbarSmbStatus : Nat := 0x60200
def xbarSmbErrCnt : Nat := 0x60204
def xbarSmbTimeoutCnt : Nat := 0x60208
def xbarUartErrCnt : Nat := 0x60210
def xbarUartDropCnt : Nat := 0x60214
def xbarPcieStatus : Nat := 0x60220
def xbarPcieResetCnt : Nat := 0x60224

/-! The registers of TAMPER, Table 17.14. -/

def tamperArm : Nat := 0x70000
def tamperCtrl : Nat := 0x70004
def tamperLatch : Nat := 0x70008
def tamperCurrent : Nat := 0x7000C
def tamperLatchAonLo : Nat := 0x70010
def tamperLatchAonHi : Nat := 0x70014
def tamperUnlockSlot : Nat := 0x70018
def tamperUnlockCtrl : Nat := 0x70020
def tamperUnlockStatus : Nat := 0x70024
def tamperUnlockFailCnt : Nat := 0x70028
def tamperAlarmCnt : Nat := 0x70030
def tamperUnlockChal (k : Nat) : Nat := 0x70040 + 0x4 * k
def tamperUnlockMsg (k : Nat) : Nat := 0x70100 + 0x4 * k

/-! The registers of SEQ, Table 2.12. -/

def seqCtrl (n : Nat) : Nat := 0x80000 + 0x100 * n
def seqState (n : Nat) : Nat := 0x80004 + 0x100 * n
def seqFault (n : Nat) : Nat := 0x80008 + 0x100 * n
def seqFaultWord (n : Nat) : Nat := 0x8000C + 0x100 * n
def seqFaultTtimeLo (n : Nat) : Nat := 0x80010 + 0x100 * n
def seqFaultTtimeHi (n : Nat) : Nat := 0x80014 + 0x100 * n
def seqTimeoutCnt (n : Nat) : Nat := 0x80020 + 0x100 * n
def seqFaultCnt (n : Nat) : Nat := 0x80024 + 0x100 * n
def seqTrapDropCnt (n : Nat) : Nat := 0x80028 + 0x100 * n
def seqParam (n : Nat) (k : Nat) : Nat := 0x80040 + 0x100 * n + 0x4 * k
def seqKick (n : Nat) : Nat := 0x80060 + 0x100 * n

/-! The registers of CEQ, Table 8.16. -/

def ceqQCtrl (n : Nat) : Nat := 0x88080 + 0x100 * n
def ceqSqHead (n : Nat) : Nat := 0x88084 + 0x100 * n
def ceqSqTail (n : Nat) : Nat := 0x88088 + 0x100 * n
def ceqCqTail (n : Nat) : Nat := 0x8808C + 0x100 * n
def ceqCqHead (n : Nat) : Nat := 0x88090 + 0x100 * n
def ceqQStatus (n : Nat) : Nat := 0x88094 + 0x100 * n
def ceqQResume (n : Nat) : Nat := 0x88098 + 0x100 * n
def ceqGroupFail (n : Nat) : Nat := 0x8809C + 0x100 * n
def ceqBlockCnt (n : Nat) : Nat := 0x880A0 + 0x100 * n
def ceqBlockRejectCnt (n : Nat) : Nat := 0x880A4 + 0x100 * n
def ceqBlockTimeoutCnt (n : Nat) : Nat := 0x880A8 + 0x100 * n

/-! The registers of EVENT, Table 20.9. -/

def eventLogTail : Nat := 0x90000
def eventLogHead : Nat := 0x90004
def eventLogRead : Nat := 0x90008
def eventOverwriteCnt : Nat := 0x9000C
def eventMsixPend : Nat := 0x90010
def eventAlarmPend : Nat := 0x90014
def eventGpioCtrl : Nat := 0x90018
def eventGpioClr : Nat := 0x9001C
def eventGpioIn : Nat := 0x90020
def eventRoute (k : Nat) : Nat := 0x90040 + 0x4 * k
def eventEntry (k : Nat) : Nat := 0x90100 + 0x4 * k

/-! The registers of PORT, Tables 3.8, 10.8, 10.11, 10.13, R267, R291. -/

def portMode (n : Nat) : Nat := 0x100000 + 0x10000 * n
def portStatus (n : Nat) : Nat := 0x100004 + 0x10000 * n
def portIpv4Addr (n : Nat) : Nat := 0x100008 + 0x10000 * n
def portVlan (n : Nat) : Nat := 0x10000C + 0x10000 * n
def portRateSum (n : Nat) : Nat := 0x100010 + 0x10000 * n
def portPayloadId (n : Nat) (k : Nat) : Nat := 0x100020 + 0x10000 * n + 0x4 * k
def portCrcErrCnt (n : Nat) (k : Nat) : Nat := 0x100030 + 0x10000 * n + 0x4 * k
def portTrsLossCnt (n : Nat) : Nat := 0x100040 + 0x10000 * n
def portLinkSkew (n : Nat) : Nat := 0x100044 + 0x10000 * n
def portUnmatchedCnt (n : Nat) : Nat := 0x100048 + 0x10000 * n
def portMacsecDropCnt (n : Nat) : Nat := 0x10004C + 0x10000 * n
def portPhyCtrl (n : Nat) : Nat := 0x100400 + 0x10000 * n
def portMacAddrLo (n : Nat) : Nat := 0x100600 + 0x10000 * n
def portMacAddrHi (n : Nat) : Nat := 0x100604 + 0x10000 * n
def portMacStatus (n : Nat) : Nat := 0x100608 + 0x10000 * n
def portRxFrames (n : Nat) : Nat := 0x100610 + 0x10000 * n
def portRxFcsErrCnt (n : Nat) : Nat := 0x100614 + 0x10000 * n
def portTxFrames (n : Nat) : Nat := 0x100618 + 0x10000 * n
def portFecCorrCnt (n : Nat) : Nat := 0x10061C + 0x10000 * n
def portFecUncorrCnt (n : Nat) : Nat := 0x100620 + 0x10000 * n
def portLinkFaultCnt (n : Nat) : Nat := 0x100624 + 0x10000 * n
def portMatch (n : Nat) (k : Nat) : Nat := 0x102000 + 0x10000 * n + 0x4 * k
def portLkCtrl (n : Nat) (k : Nat) : Nat := 0x100800 + 0x10000 * n + 0x40 * k
def portLkStatus (n : Nat) (k : Nat) : Nat := 0x100804 + 0x10000 * n + 0x40 * k
def portLkCapacity (n : Nat) (k : Nat) : Nat := 0x100808 + 0x10000 * n + 0x40 * k
def portLkReserved (n : Nat) (k : Nat) : Nat := 0x10080C + 0x10000 * n + 0x40 * k
def portLkDegradeCnt (n : Nat) (k : Nat) : Nat := 0x100810 + 0x10000 * n + 0x40 * k
def portLkMoveCnt (n : Nat) (k : Nat) : Nat := 0x100814 + 0x10000 * n + 0x40 * k
def portLkDropCnt (n : Nat) (k : Nat) : Nat := 0x100818 + 0x10000 * n + 0x40 * k
def portLkCtrlErrCnt (n : Nat) (k : Nat) : Nat := 0x10081C + 0x10000 * n + 0x40 * k
def portLkL1Cnt (n : Nat) (k : Nat) : Nat := 0x100820 + 0x10000 * n + 0x40 * k
def portLnCtrl (n : Nat) (k : Nat) : Nat := 0x101000 + 0x10000 * n + 0x100 * k
def portLnState (n : Nat) (k : Nat) : Nat := 0x101004 + 0x10000 * n + 0x100 * k
def portLnRearm (n : Nat) (k : Nat) : Nat := 0x101008 + 0x10000 * n + 0x100 * k
def portLnEqBounds (n : Nat) (k : Nat) : Nat := 0x10100C + 0x10000 * n + 0x100 * k
def portLnTxFfe (n : Nat) (k : Nat) : Nat := 0x101010 + 0x10000 * n + 0x100 * k
def portLnEqStatus (n : Nat) (k : Nat) : Nat := 0x101014 + 0x10000 * n + 0x100 * k
def portPrbsCtrl (n : Nat) (k : Nat) : Nat := 0x101020 + 0x10000 * n + 0x100 * k
def portPrbsUserLo (n : Nat) (k : Nat) : Nat := 0x101024 + 0x10000 * n + 0x100 * k
def portPrbsUserHi (n : Nat) (k : Nat) : Nat := 0x101028 + 0x10000 * n + 0x100 * k
def portInjCtrl (n : Nat) (k : Nat) : Nat := 0x10102C + 0x10000 * n + 0x100 * k
def portPrbsStatus (n : Nat) (k : Nat) : Nat := 0x101030 + 0x10000 * n + 0x100 * k
def portPrbsErrLo (n : Nat) (k : Nat) : Nat := 0x101034 + 0x10000 * n + 0x100 * k
def portPrbsErrHi (n : Nat) (k : Nat) : Nat := 0x101038 + 0x10000 * n + 0x100 * k
def portPrbsBitsLo (n : Nat) (k : Nat) : Nat := 0x10103C + 0x10000 * n + 0x100 * k
def portPrbsBitsHi (n : Nat) (k : Nat) : Nat := 0x101040 + 0x10000 * n + 0x100 * k
def portLnFecCorrCnt (n : Nat) (k : Nat) : Nat := 0x101044 + 0x10000 * n + 0x100 * k
def portLnFecUncorrCnt (n : Nat) (k : Nat) : Nat := 0x101048 + 0x10000 * n + 0x100 * k
def portLnLossCnt (n : Nat) (k : Nat) : Nat := 0x10104C + 0x10000 * n + 0x100 * k
def portLnFailCnt (n : Nat) (k : Nat) : Nat := 0x101050 + 0x10000 * n + 0x100 * k
def portLnRmInsCnt (n : Nat) (k : Nat) : Nat := 0x101054 + 0x10000 * n + 0x100 * k
def portLnRmDelCnt (n : Nat) (k : Nat) : Nat := 0x101058 + 0x10000 * n + 0x100 * k
def portLnSkew (n : Nat) (k : Nat) : Nat := 0x10105C + 0x10000 * n + 0x100 * k
def portStkSplit (n : Nat) : Nat := 0x100900 + 0x10000 * n

/-! The registers of STACK, Tables 10.8, 10.11, R291. -/

def stackLkCtrl (n : Nat) (k : Nat) : Nat := 0x500000 + 0x10000 * n + 0x40 * k
def stackLkStatus (n : Nat) (k : Nat) : Nat := 0x500004 + 0x10000 * n + 0x40 * k
def stackLkCapacity (n : Nat) (k : Nat) : Nat := 0x500008 + 0x10000 * n + 0x40 * k
def stackLkReserved (n : Nat) (k : Nat) : Nat := 0x50000C + 0x10000 * n + 0x40 * k
def stackLkDegradeCnt (n : Nat) (k : Nat) : Nat := 0x500010 + 0x10000 * n + 0x40 * k
def stackLkMoveCnt (n : Nat) (k : Nat) : Nat := 0x500014 + 0x10000 * n + 0x40 * k
def stackLkDropCnt (n : Nat) (k : Nat) : Nat := 0x500018 + 0x10000 * n + 0x40 * k
def stackLkCtrlErrCnt (n : Nat) (k : Nat) : Nat := 0x50001C + 0x10000 * n + 0x40 * k
def stackLkL1Cnt (n : Nat) (k : Nat) : Nat := 0x500020 + 0x10000 * n + 0x40 * k
def stackLnCtrl (n : Nat) (k : Nat) : Nat := 0x501000 + 0x10000 * n + 0x100 * k
def stackLnState (n : Nat) (k : Nat) : Nat := 0x501004 + 0x10000 * n + 0x100 * k
def stackLnRearm (n : Nat) (k : Nat) : Nat := 0x501008 + 0x10000 * n + 0x100 * k
def stackLnEqBounds (n : Nat) (k : Nat) : Nat := 0x50100C + 0x10000 * n + 0x100 * k
def stackLnTxFfe (n : Nat) (k : Nat) : Nat := 0x501010 + 0x10000 * n + 0x100 * k
def stackLnEqStatus (n : Nat) (k : Nat) : Nat := 0x501014 + 0x10000 * n + 0x100 * k
def stackPrbsCtrl (n : Nat) (k : Nat) : Nat := 0x501020 + 0x10000 * n + 0x100 * k
def stackPrbsUserLo (n : Nat) (k : Nat) : Nat := 0x501024 + 0x10000 * n + 0x100 * k
def stackPrbsUserHi (n : Nat) (k : Nat) : Nat := 0x501028 + 0x10000 * n + 0x100 * k
def stackInjCtrl (n : Nat) (k : Nat) : Nat := 0x50102C + 0x10000 * n + 0x100 * k
def stackPrbsStatus (n : Nat) (k : Nat) : Nat := 0x501030 + 0x10000 * n + 0x100 * k
def stackPrbsErrLo (n : Nat) (k : Nat) : Nat := 0x501034 + 0x10000 * n + 0x100 * k
def stackPrbsErrHi (n : Nat) (k : Nat) : Nat := 0x501038 + 0x10000 * n + 0x100 * k
def stackPrbsBitsLo (n : Nat) (k : Nat) : Nat := 0x50103C + 0x10000 * n + 0x100 * k
def stackPrbsBitsHi (n : Nat) (k : Nat) : Nat := 0x501040 + 0x10000 * n + 0x100 * k
def stackLnFecCorrCnt (n : Nat) (k : Nat) : Nat := 0x501044 + 0x10000 * n + 0x100 * k
def stackLnFecUncorrCnt (n : Nat) (k : Nat) : Nat := 0x501048 + 0x10000 * n + 0x100 * k
def stackLnLossCnt (n : Nat) (k : Nat) : Nat := 0x50104C + 0x10000 * n + 0x100 * k
def stackLnFailCnt (n : Nat) (k : Nat) : Nat := 0x501050 + 0x10000 * n + 0x100 * k
def stackLnRmInsCnt (n : Nat) (k : Nat) : Nat := 0x501054 + 0x10000 * n + 0x100 * k
def stackLnRmDelCnt (n : Nat) (k : Nat) : Nat := 0x501058 + 0x10000 * n + 0x100 * k
def stackLnSkew (n : Nat) (k : Nat) : Nat := 0x50105C + 0x10000 * n + 0x100 * k
def stackGroupSplit (n : Nat) : Nat := 0x500200 + 0x10000 * n

/-! The registers of STK, Table 11.14. -/

def stkStkId : Nat := 0x580000
def stkSysMaster : Nat := 0x580004
def stkStkStatus : Nat := 0x580008
def stkRouteVersion : Nat := 0x58000C
def stkTimeOfsLo : Nat := 0x580010
def stkTimeOfsHi : Nat := 0x580014
def stkStbyMaster : Nat := 0x580018
def stkClMaster : Nat := 0x58001C
def stkMsgTxCnt : Nat := 0x580020
def stkMsgRxCnt : Nat := 0x580024
def stkMsgDupCnt : Nat := 0x580028
def stkMsgNorouteCnt : Nat := 0x58002C
def stkMsgHopsCnt : Nat := 0x580030
def stkSalvoCnt : Nat := 0x580040
def stkSalvoAbortCnt : Nat := 0x580044
def stkSalvoSplitCnt : Nat := 0x580048
def stkSalvoCompCnt : Nat := 0x58004C
def stkSalvoCompLateCnt : Nat := 0x580050
def stkSalvoLast : Nat := 0x580060
def stkSalvoLastResult : Nat := 0x580064
def stkRoute (k : Nat) : Nat := 0x584000 + 0x4 * k

/-! The registers of OUT, Tables 4.14, 5.13, 6.12, 6.15, 7.11. -/

def outXptCur (n : Nat) : Nat := 0x600000 + 0x8000 * n
def outXptPend (n : Nat) : Nat := 0x600004 + 0x8000 * n
def outXptCtrl (n : Nat) : Nat := 0x600008 + 0x8000 * n
def outTakeStatus (n : Nat) : Nat := 0x60000C + 0x8000 * n
def outTakeTtimeLo (n : Nat) : Nat := 0x600010 + 0x8000 * n
def outTakeTtimeHi (n : Nat) : Nat := 0x600014 + 0x8000 * n
def outReadCredit (n : Nat) : Nat := 0x600018 + 0x8000 * n
def outTakeCnt (n : Nat) : Nat := 0x600020 + 0x8000 * n
def outTakeLateCnt (n : Nat) : Nat := 0x600024 + 0x8000 * n
def outTakeReplacedCnt (n : Nat) : Nat := 0x600028 + 0x8000 * n
def outRemoteFailCnt (n : Nat) : Nat := 0x60002C + 0x8000 * n
def outFreezeBaseLo (n : Nat) : Nat := 0x600030 + 0x8000 * n
def outFreezeBaseHi (n : Nat) : Nat := 0x600034 + 0x8000 * n
def outFreezeBytes (n : Nat) : Nat := 0x600038 + 0x8000 * n
def outConvCtrlNext (n : Nat) : Nat := 0x600100 + 0x8000 * n
def outCropOrgNext (n : Nat) : Nat := 0x600104 + 0x8000 * n
def outCropSizeNext (n : Nat) : Nat := 0x600108 + 0x8000 * n
def outDestOrgNext (n : Nat) : Nat := 0x60010C + 0x8000 * n
def outDestSizeNext (n : Nat) : Nat := 0x600110 + 0x8000 * n
def outBgColourNext (n : Nat) : Nat := 0x600114 + 0x8000 * n
def outColourNext (n : Nat) : Nat := 0x600118 + 0x8000 * n
def outConvCtrlCur (n : Nat) : Nat := 0x600140 + 0x8000 * n
def outCropOrgCur (n : Nat) : Nat := 0x600144 + 0x8000 * n
def outCropSizeCur (n : Nat) : Nat := 0x600148 + 0x8000 * n
def outDestOrgCur (n : Nat) : Nat := 0x60014C + 0x8000 * n
def outDestSizeCur (n : Nat) : Nat := 0x600150 + 0x8000 * n
def outBgColourCur (n : Nat) : Nat := 0x600154 + 0x8000 * n
def outColourCur (n : Nat) : Nat := 0x600158 + 0x8000 * n
def outConvStatus (n : Nat) : Nat := 0x600180 + 0x8000 * n
def outPoolUnits (n : Nat) : Nat := 0x600188 + 0x8000 * n
def outPoolUsed (n : Nat) : Nat := 0x60018C + 0x8000 * n
def outLutSrcLo (n : Nat) : Nat := 0x600190 + 0x8000 * n
def outLutSrcHi (n : Nat) : Nat := 0x600194 + 0x8000 * n
def outLutStatus (n : Nat) : Nat := 0x600198 + 0x8000 * n
def outFrcPreemptCnt (n : Nat) : Nat := 0x6001A0 + 0x8000 * n
def outFrcFallbackFrames (n : Nat) : Nat := 0x6001A4 + 0x8000 * n
def outCadenceBreakCnt (n : Nat) : Nat := 0x6001A8 + 0x8000 * n
def outLutFailCnt (n : Nat) : Nat := 0x6001AC + 0x8000 * n
def outTimH0Next (n : Nat) : Nat := 0x600200 + 0x8000 * n
def outTimH1Next (n : Nat) : Nat := 0x600204 + 0x8000 * n
def outTimV0Next (n : Nat) : Nat := 0x600208 + 0x8000 * n
def outTimV1Next (n : Nat) : Nat := 0x60020C + 0x8000 * n
def outTimCtrlNext (n : Nat) : Nat := 0x600210 + 0x8000 * n
def outTimH0Cur (n : Nat) : Nat := 0x600220 + 0x8000 * n
def outTimH1Cur (n : Nat) : Nat := 0x600224 + 0x8000 * n
def outTimV0Cur (n : Nat) : Nat := 0x600228 + 0x8000 * n
def outTimV1Cur (n : Nat) : Nat := 0x60022C + 0x8000 * n
def outTimCtrlCur (n : Nat) : Nat := 0x600230 + 0x8000 * n
def outScanStatus (n : Nat) : Nat := 0x600240 + 0x8000 * n
def outScanCtrl (n : Nat) : Nat := 0x600244 + 0x8000 * n
def outTileOrg (n : Nat) : Nat := 0x600248 + 0x8000 * n
def outFrameLo (n : Nat) : Nat := 0x600250 + 0x8000 * n
def outFrameHi (n : Nat) : Nat := 0x600254 + 0x8000 * n
def outFlipTtimeLo (n : Nat) : Nat := 0x600258 + 0x8000 * n
def outFlipTtimeHi (n : Nat) : Nat := 0x60025C + 0x8000 * n
def outUnderflowCnt (n : Nat) : Nat := 0x600260 + 0x8000 * n
def outPlaneUnderflowCnt (n : Nat) : Nat := 0x600264 + 0x8000 * n
def outRepeatCnt (n : Nat) : Nat := 0x600268 + 0x8000 * n
def outSkipCnt (n : Nat) : Nat := 0x60026C + 0x8000 * n
def outTransitionCnt (n : Nat) : Nat := 0x600270 + 0x8000 * n
def outFlipCnt (n : Nat) : Nat := 0x600274 + 0x8000 * n
def outFlipLateCnt (n : Nat) : Nat := 0x600278 + 0x8000 * n
def outFlipStaleCnt (n : Nat) : Nat := 0x60027C + 0x8000 * n
def outPlCtrlNext (n : Nat) (k : Nat) : Nat := 0x600300 + 0x8000 * n + 0x40 * k
def outPlOrgNext (n : Nat) (k : Nat) : Nat := 0x600304 + 0x8000 * n + 0x40 * k
def outPlSizeNext (n : Nat) (k : Nat) : Nat := 0x600308 + 0x8000 * n + 0x40 * k
def outPlStrideNext (n : Nat) (k : Nat) : Nat := 0x60030C + 0x8000 * n + 0x40 * k
def outPlBaseLo (n : Nat) (k : Nat) : Nat := 0x600310 + 0x8000 * n + 0x40 * k
def outPlBaseHi (n : Nat) (k : Nat) : Nat := 0x600314 + 0x8000 * n + 0x40 * k
def outPlPendLo (n : Nat) (k : Nat) : Nat := 0x600318 + 0x8000 * n + 0x40 * k
def outPlPendHi (n : Nat) (k : Nat) : Nat := 0x60031C + 0x8000 * n + 0x40 * k
def outPlStaleLo (n : Nat) (k : Nat) : Nat := 0x600320 + 0x8000 * n + 0x40 * k
def outPlStaleHi (n : Nat) (k : Nat) : Nat := 0x600324 + 0x8000 * n + 0x40 * k
def outPlCtrlCur (n : Nat) (k : Nat) : Nat := 0x600328 + 0x8000 * n + 0x40 * k
def outPlOrgCur (n : Nat) (k : Nat) : Nat := 0x60032C + 0x8000 * n + 0x40 * k
def outPlSizeCur (n : Nat) (k : Nat) : Nat := 0x600330 + 0x8000 * n + 0x40 * k
def outPlStrideCur (n : Nat) (k : Nat) : Nat := 0x600334 + 0x8000 * n + 0x40 * k
def outPlStatus (n : Nat) (k : Nat) : Nat := 0x600338 + 0x8000 * n + 0x40 * k
def outPlCredit (n : Nat) (k : Nat) : Nat := 0x60033C + 0x8000 * n + 0x40 * k
def outDetCtrl (n : Nat) : Nat := 0x600400 + 0x8000 * n
def outDetLevels (n : Nat) : Nat := 0x600404 + 0x8000 * n
def outSigOut (n : Nat) : Nat := 0x600408 + 0x8000 * n
def outSigSrc (n : Nat) : Nat := 0x60040C + 0x8000 * n
def outDetStatus (n : Nat) : Nat := 0x600410 + 0x8000 * n
def outFreezeCnt (n : Nat) : Nat := 0x600414 + 0x8000 * n
def outBlackCnt (n : Nat) : Nat := 0x600418 + 0x8000 * n
def outConstCnt (n : Nat) : Nat := 0x60041C + 0x8000 * n
def outAncCtrlNext (n : Nat) : Nat := 0x600500 + 0x8000 * n
def outTcLoadNext (n : Nat) : Nat := 0x600504 + 0x8000 * n
def outAncRuleNext (n : Nat) (k : Nat) : Nat := 0x600510 + 0x8000 * n + 0x4 * k
def outAncCtrlCur (n : Nat) : Nat := 0x600590 + 0x8000 * n
def outTcCur (n : Nat) : Nat := 0x600594 + 0x8000 * n
def outAncStatus (n : Nat) : Nat := 0x6005A0 + 0x8000 * n
def outAncOverflowCnt (n : Nat) : Nat := 0x6005A4 + 0x8000 * n
def outAncBadCnt (n : Nat) : Nat := 0x6005A8 + 0x8000 * n
def outAncInsertCnt (n : Nat) : Nat := 0x6005AC + 0x8000 * n
def outIns (n : Nat) (k : Nat) : Nat := 0x602000 + 0x8000 * n + 0x4 * k

/-! The registers of OCHRE, Table 9.11. -/

def ochrePresent : Nat := 0x800000
def ochreOeStatus (k : Nat) : Nat := 0x810000 + 0x40 * k
def ochreOePairCnt (k : Nat) : Nat := 0x810004 + 0x40 * k
def ochreOeAncDropCnt (k : Nat) : Nat := 0x810008 + 0x40 * k
def ochreOdCheckErrCnt (k : Nat) : Nat := 0x820000 + 0x40 * k
def ochreOdUnrepairedCnt (k : Nat) : Nat := 0x820004 + 0x40 * k
def ochreOdHdrErrCnt (k : Nat) : Nat := 0x820008 + 0x40 * k
def ochreOdLastErr (k : Nat) : Nat := 0x82000C + 0x40 * k
def ochreObCtrl (k : Nat) : Nat := 0x830000 + 0x100 * k
def ochreObRingBaseLo (k : Nat) : Nat := 0x830004 + 0x100 * k
def ochreObRingBaseHi (k : Nat) : Nat := 0x830008 + 0x100 * k
def ochreObRingSize (k : Nat) : Nat := 0x83000C + 0x100 * k
def ochreObHead (k : Nat) : Nat := 0x830010 + 0x100 * k
def ochreObTail (k : Nat) : Nat := 0x830014 + 0x100 * k
def ochreObJobTimeout (k : Nat) : Nat := 0x830018 + 0x100 * k
def ochreObStatus (k : Nat) : Nat := 0x83001C + 0x100 * k
def ochreObJobCnt (k : Nat) : Nat := 0x830020 + 0x100 * k
def ochreObJobErrCnt (k : Nat) : Nat := 0x830024 + 0x100 * k

/-! The registers of AUDIO, Tables 7.8, 7.9, 7.10. -/

def audioCtrl : Nat := 0x900000
def audioStatus : Nat := 0x900004
def audioDelayBaseLo : Nat := 0x900008
def audioDelayBaseHi : Nat := 0x90000C
def audioSlipCnt : Nat := 0x900010
def audioXfCutCnt : Nat := 0x900014
def audioLatePktCnt : Nat := 0x900018
def audioSrcLossCnt : Nat := 0x90001C
def audioAesInCtrl (k : Nat) : Nat := 0x900100 + 0x4 * k
def audioAesInStatus (k : Nat) : Nat := 0x900140 + 0x4 * k
def audioAesOutCtrl (k : Nat) : Nat := 0x900180 + 0x4 * k
def audioDest0 (k : Nat) : Nat := 0x901000 + 0x10 * k
def audioDest1 (k : Nat) : Nat := 0x901004 + 0x10 * k
def audioDest2 (k : Nat) : Nat := 0x901008 + 0x10 * k
def audioDest3 (k : Nat) : Nat := 0x90100C + 0x10 * k
def audioOcSrc (k : Nat) : Nat := 0x910000 + 0x10 * k
def audioOcCtrl (k : Nat) : Nat := 0x910004 + 0x10 * k
def audioOcXf (k : Nat) : Nat := 0x910008 + 0x10 * k
def audioOcDelay (k : Nat) : Nat := 0x91000C + 0x10 * k
def audioIcStatus (k : Nat) : Nat := 0x940000 + 0x8 * k

/-! The registers of CXL, Table 14.8. -/

def cxlStatus : Nat := 0xA00000
def cxlPopGib : Nat := 0xA00004
def cxlVidTotal : Nat := 0xA00008
def cxlResTotal : Nat := 0xA0000C
def cxlVidWrHeld : Nat := 0xA00010
def cxlVidRdHeld : Nat := 0xA00014
def cxlResHeld : Nat := 0xA00018
def cxlHallocSize : Nat := 0xA00020
def cxlHallocResultLo : Nat := 0xA00024
def cxlHallocResultHi : Nat := 0xA00028
def cxlHfree : Nat := 0xA0002C
def cxlHeapFreeMib : Nat := 0xA00030
def cxlWrOverflowCnt : Nat := 0xA00040
def cxlRelayoutCnt : Nat := 0xA00044
def cxlPortCtrl (k : Nat) : Nat := 0xA01000 + 0x100 * k
def cxlPortStatus (k : Nat) : Nat := 0xA01004 + 0x100 * k
def cxlCapGib (k : Nat) : Nat := 0xA01008 + 0x100 * k
def cxlCrcRetryCnt (k : Nat) : Nat := 0xA0100C + 0x100 * k
def cxlReadErrCnt (k : Nat) : Nat := 0xA01010 + 0x100 * k
def cxlWriteErrCnt (k : Nat) : Nat := 0xA01014 + 0x100 * k
def cxlCtoCnt (k : Nat) : Nat := 0xA01018 + 0x100 * k
def cxlLinkDownCnt (k : Nat) : Nat := 0xA0101C + 0x100 * k
def cxlRdMbps (k : Nat) : Nat := 0xA01020 + 0x100 * k
def cxlWrMbps (k : Nat) : Nat := 0xA01024 + 0x100 * k
def cxlClass3Cnt (k : Nat) : Nat := 0xA01028 + 0x100 * k

/-! The registers of TWIN, Table 12.6. -/

def twinCtrl : Nat := 0xB00000
def twinStatus : Nat := 0xB00004
def twinCmd : Nat := 0xB00008
def twinCmdResult : Nat := 0xB0000C
def twinHbMissCnt : Nat := 0xB00010
def twinSwitchCnt : Nat := 0xB00014
def twinMirrorLateCnt : Nat := 0xB00018
def twinSwitchTtimeLo : Nat := 0xB00020
def twinSwitchTtimeHi : Nat := 0xB00024
def twinCert (k : Nat) : Nat := 0xB00100 + 0x4 * k

/-! The registers of FLOW, Table 3.12. -/

def flowBindInfo (n : Nat) : Nat := 0xC00000 + 0x100 * n
def flowFormat0 (n : Nat) : Nat := 0xC00004 + 0x100 * n
def flowFormat1 (n : Nat) : Nat := 0xC00008 + 0x100 * n
def flowFormat2 (n : Nat) : Nat := 0xC0000C + 0x100 * n
def flowStore (n : Nat) : Nat := 0xC00010 + 0x100 * n
def flowStoreBaseLo (n : Nat) : Nat := 0xC00014 + 0x100 * n
def flowStoreBaseHi (n : Nat) : Nat := 0xC00018 + 0x100 * n
def flowSlotBytes (n : Nat) : Nat := 0xC0001C + 0x100 * n
def flowCreditWr (n : Nat) : Nat := 0xC00020 + 0x100 * n
def flowCreditRd (n : Nat) : Nat := 0xC00024 + 0x100 * n
def flowSa (n : Nat) : Nat := 0xC00028 + 0x100 * n
def flowPolicy (n : Nat) : Nat := 0xC00030 + 0x100 * n
def flowSkewMax (n : Nat) : Nat := 0xC00034 + 0x100 * n
def flowStatus (n : Nat) : Nat := 0xC00040 + 0x100 * n
def flowDetected (n : Nat) (k : Nat) : Nat := 0xC00044 + 0x100 * n + 0x4 * k
def flowAlignLead (n : Nat) : Nat := 0xC00050 + 0x100 * n
def flowFramesIn (n : Nat) : Nat := 0xC00060 + 0x100 * n
def flowFramesCommitted (n : Nat) : Nat := 0xC00064 + 0x100 * n
def flowWrDropCnt (n : Nat) : Nat := 0xC00068 + 0x100 * n
def flowRejectCnt (n : Nat) : Nat := 0xC0006C + 0x100 * n
def flowRtpLossCnt (n : Nat) : Nat := 0xC00070 + 0x100 * n
def flowRxOverflowCnt (n : Nat) : Nat := 0xC00074 + 0x100 * n
def flowSkewExceedCnt (n : Nat) : Nat := 0xC00078 + 0x100 * n
def flowLastCommitTtimeLo (n : Nat) : Nat := 0xC00080 + 0x100 * n
def flowLastCommitTtimeHi (n : Nat) : Nat := 0xC00084 + 0x100 * n

/-! The registers of MSIX, R438. -/

def msixTab (k : Nat) : Nat := 0x7FF0000 + 0x4 * k
def msixPba (k : Nat) : Nat := 0x7FF8000 + 0x4 * k

end R

/-- The access types of Table 0.3. -/
inductive Access where
  | ro | rw | w1c | wo | rws | rwl
  deriving DecidableEq, Repr

/-- One register of a block: its offset, the stride and the count of its copies, its access type, its reset value,
its writable bits and, for fields whose range does not depend on the state, (high bit, low bit, least, greatest). -/
structure RegRow where
  off : Nat
  stride : Nat
  count : Nat
  acc : Access
  reset : Nat
  mask : Nat
  lims : List (Nat × Nat × Nat × Nat)
  deriving DecidableEq, Repr

/-- The blocks of Table 23.1 that hold registers; the command-engine queue registers of SEQ[128 + e] stand by themselves. -/
inductive Blk where
  | global
  | pwr
  | hlth
  | madder
  | tgrp
  | tile
  | woad
  | saffron
  | xbar
  | tamper
  | seq
  | ceq
  | event
  | port
  | stack
  | stk
  | out
  | ochre
  | audio
  | cxl
  | twin
  | flow
  | msix
  deriving DecidableEq, Repr

/-- Rows of GLOBAL. -/
def rowsGlobal0 : List RegRow := [
  ⟨0x0, 0x4, 1, .ro, 0x54590020, 0x0, []⟩,
  ⟨0x10, 0x4, 1, .ro, 0x0, 0x0, []⟩,
  ⟨0x14, 0x4, 1, .ro, 0x0, 0x0, []⟩,
  ⟨0x18, 0x4, 1, .ro, 0x0, 0x0, []⟩,
  ⟨0x20, 0x4, 1, .rw, 0x0, 0xFFFFFFFF, []⟩,
  ⟨0x24, 0x4, 1, .ro, 0x0, 0x0, []⟩,
  ⟨0x30, 0x4, 1, .ro, 0x0, 0x0, []⟩,
  ⟨0x34, 0x4, 1, .ro, 0x0, 0x0, []⟩,
  ⟨0x40, 0x4, 4, .rws, 0x0, 0xFFFFFFFF, []⟩,
  ⟨0x100, 0x4, 1, .ro, 0x0, 0x0, []⟩,
  ⟨0x104, 0x4, 1, .ro, 0x1, 0x0, []⟩,
  ⟨0x108, 0x4, 1, .wo, 0x0, 0x3, []⟩,
  ⟨0x10C, 0x4, 1, .wo, 0x0, 0xFFFFFFFF, []⟩,
  ⟨0x110, 0x4, 1, .rw, 0x0, 0x1, []⟩,
  ⟨0x114, 0x4, 1, .ro, 0x0, 0x0, []⟩,
  ⟨0x118, 0x4, 1, .wo, 0x0, 0x3, []⟩,
  ⟨0x11C, 0x4, 1, .ro, 0x0, 0x0, []⟩,
  ⟨0x120, 0x4, 1, .ro, 0x0, 0x0, []⟩,
  ⟨0x124, 0x4, 1, .ro, 0x0, 0x0, []⟩,
  ⟨0x200, 0x4, 8, .rw, 0x0, 0xFFFFFFFF, []⟩,
  ⟨0x220, 0x4, 1, .wo, 0x0, 0x1, []⟩,
  ⟨0x224, 0x4, 1, .ro, 0x0, 0x0, []⟩,
  ⟨0x400, 0x4, 128, .ro, 0x0, 0x0, []⟩,
  ⟨0x600, 0x4, 40, .ro, 0x0, 0x0, []⟩,
  ⟨0x700, 0x4, 3, .rws, 0x1, 0x7F, [(6, 0, 1, 100)]⟩,
  ⟨0x70C, 0x4, 1, .rw, 0x1, 0x7F, [(6, 0, 1, 100)]⟩,
  ⟨0x710, 0x4, 1, .ro, 0x0, 0x0, []⟩]

/-- Rows of PWR. -/
def rowsPwr0 : List RegRow := [
  ⟨0x0, 0x4, 1, .rw, 0x2, 0x10F, [(3, 0, 1, 4)]⟩,
  ⟨0x4, 0x4, 1, .ro, 0x0, 0x0, []⟩,
  ⟨0x8, 0x4, 1, .rw, 0x258, 0x3FF, [(9, 0, 200, 600)]⟩,
  ⟨0xC, 0x4, 1, .ro, 0x258, 0x0, []⟩,
  ⟨0x10, 0x4, 1, .ro, 0x0, 0x0, []⟩,
  ⟨0x14, 0x4, 1, .ro, 0x0, 0x0, []⟩,
  ⟨0x18, 0x4, 1, .ro, 0x0, 0x0, []⟩,
  ⟨0x1C, 0x4, 1, .ro, 0x0, 0x0, []⟩,
  ⟨0x20, 0x4, 1, .ro, 0x0, 0x0, []⟩,
  ⟨0x24, 0x4, 1, .ro, 0x0, 0x0, []⟩,
  ⟨0x30, 0x4, 1, .ro, 0x0, 0x0, []⟩,
  ⟨0x34, 0x4, 1, .ro, 0x0, 0x0, []⟩,
  ⟨0x38, 0x4, 1, .ro, 0x0, 0x0, []⟩,
  ⟨0x40, 0x4, 3, .rw, 0xFFFFFFFF, 0xFFFFFFFF, []⟩,
  ⟨0x50, 0x4, 3, .ro, 0x0, 0x0, []⟩,
  ⟨0x60, 0x4, 3, .w1c, 0x0, 0xFFFFFFFF, []⟩,
  ⟨0x70, 0x4, 3, .ro, 0x0, 0x0, []⟩,
  ⟨0x80, 0x10, 5, .rw, 0x28000028, 0x3F3F00FF, [(29, 24, 0, 40), (21, 16, 0, 40)]⟩,
  ⟨0x84, 0x10, 5, .ro, 0x14000000, 0x0, []⟩,
  ⟨0x88, 0x10, 5, .ro, 0x0, 0x0, []⟩,
  ⟨0x100, 0x4, 11, .ro, 0x0, 0x0, []⟩]

/-- Rows of HLTH. -/
def rowsHlth0 : List RegRow := [
  ⟨0x0, 0x4, 1, .ro, 0x0, 0x0, []⟩,
  ⟨0x4, 0x4, 1, .ro, 0x0, 0x0, []⟩,
  ⟨0x8, 0x4, 1, .ro, 0x258, 0x0, []⟩,
  ⟨0xC, 0x4, 1, .ro, 0x0, 0x0, []⟩,
  ⟨0x10, 0x4, 1, .ro, 0x0, 0x0, []⟩,
  ⟨0x40, 0x4, 1, .ro, 0x0, 0x0, []⟩,
  ⟨0x44, 0x4, 1, .ro, 0x0, 0x0, []⟩,
  ⟨0x48, 0x4, 1, .ro, 0x0, 0x0, []⟩,
  ⟨0x4C, 0x4, 1, .ro, 0x0, 0x0, []⟩,
  ⟨0x50, 0x4, 1, .ro, 0x0, 0x0, []⟩,
  ⟨0x54, 0x4, 1, .ro, 0x0, 0x0, []⟩,
  ⟨0x58, 0x4, 1, .ro, 0x0, 0x0, []⟩,
  ⟨0x5C, 0x4, 1, .ro, 0x0, 0x0, []⟩,
  ⟨0x200, 0x4, 128, .rw, 0x0, 0xF07F, [(15, 12, 0, 4)]⟩,
  ⟨0x1000, 0x20, 96, .ro, 0x0, 0x0, []⟩,
  ⟨0x1004, 0x20, 96, .rw, 0x0, 0xFFFFFFFF, []⟩,
  ⟨0x1008, 0x20, 96, .rw, 0x0, 0xFFFFFFFF, []⟩,
  ⟨0x100C, 0x20, 96, .rw, 0x0, 0xFFFFFFFF, []⟩,
  ⟨0x1010, 0x20, 96, .ro, 0x0, 0x0, []⟩,
  ⟨0x1014, 0x20, 96, .ro, 0x0, 0x0, []⟩]

/-- Rows of MADDER. -/
def rowsMadder0 : List RegRow := [
  ⟨0x0, 0x4, 1, .rw, 0x60000, 0xEF8F0000, [(27, 24, 0, 9)]⟩,
  ⟨0x4, 0x4, 1, .ro, 0xEFF00000, 0x0, []⟩,
  ⟨0x8, 0x4, 1, .rw, 0x64, 0x3FFF, [(13, 0, 1, 10000)]⟩,
  ⟨0xC, 0x4, 1, .rw, 0x3E80, 0xFFFFF, []⟩,
  ⟨0x10, 0x4, 1, .rw, 0x32, 0x3FF, [(9, 0, 1, 1000)]⟩,
  ⟨0x14, 0x4, 1, .rw, 0x0, 0xFFFFFFFF, []⟩,
  ⟨0x18, 0x4, 1, .ro, 0x0, 0x0, []⟩,
  ⟨0x1C, 0x4, 1, .ro, 0xF, 0x0, []⟩,
  ⟨0x20, 0x4, 1, .ro, 0x0, 0x0, []⟩,
  ⟨0x24, 0x4, 1, .ro, 0x0, 0x0, []⟩,
  ⟨0x28, 0x4, 1, .ro, 0x0, 0x0, []⟩,
  ⟨0x2C, 0x4, 1, .ro, 0x0, 0x0, []⟩,
  ⟨0x40, 0x4, 1, .ro, 0x0, 0x0, []⟩,
  ⟨0x44, 0x4, 1, .ro, 0x0, 0x0, []⟩,
  ⟨0x48, 0x4, 1, .ro, 0x0, 0x0, []⟩,
  ⟨0x4C, 0x4, 1, .ro, 0x0, 0x0, []⟩,
  ⟨0x60, 0x4, 1, .ro, 0x0, 0x0, []⟩,
  ⟨0x64, 0x4, 1, .ro, 0x0, 0x0, []⟩,
  ⟨0x68, 0x4, 1, .ro, 0x0, 0x0, []⟩,
  ⟨0x6C, 0x4, 1, .ro, 0x0, 0x0, []⟩,
  ⟨0x70, 0x4, 1, .ro, 0x0, 0x0, []⟩,
  ⟨0x100, 0x40, 10, .rw, 0x0, 0x8F3FFF00, []⟩,
  ⟨0x104, 0x40, 10, .rw, 0x12C0064, 0x3FF03FF, []⟩,
  ⟨0x108, 0x40, 10, .rw, 0x3E800A0, 0xFFFFFFFF, []⟩,
  ⟨0x10C, 0x40, 10, .ro, 0x0, 0x0, []⟩,
  ⟨0x110, 0x40, 10, .ro, 0x0, 0x0, []⟩,
  ⟨0x114, 0x40, 10, .ro, 0x0, 0x0, []⟩,
  ⟨0x118, 0x40, 10, .ro, 0x0, 0x0, []⟩,
  ⟨0x120, 0x40, 10, .ro, 0x0, 0x0, []⟩,
  ⟨0x124, 0x40, 10, .ro, 0x0, 0x0, []⟩]

/-- Rows of MADDER. -/
def rowsMadder1 : List RegRow := [
  ⟨0x128, 0x40, 10, .ro, 0x0, 0x0, []⟩,
  ⟨0x400, 0x20, 4, .rw, 0x40000640, 0xC3FFFFFF, [(25, 24, 0, 2), (15, 0, 1, 65535)]⟩,
  ⟨0x404, 0x20, 4, .rw, 0x0, 0xFFFFFFFF, []⟩,
  ⟨0x408, 0x20, 4, .ro, 0x0, 0x0, []⟩,
  ⟨0x40C, 0x20, 4, .ro, 0x0, 0x0, []⟩,
  ⟨0x480, 0x10, 2, .ro, 0x0, 0x0, []⟩,
  ⟨0x500, 0x10, 16, .ro, 0x0, 0x0, []⟩]

/-- Rows of TGRP. -/
def rowsTgrp0 : List RegRow := [
  ⟨0x0, 0x4, 1, .rw, 0x0, 0x80FF3700, [(13, 12, 0, 2)]⟩,
  ⟨0x4, 0x4, 1, .rw, 0x0, 0xFFFFFFFF, []⟩,
  ⟨0x8, 0x4, 1, .ro, 0x0, 0x0, []⟩,
  ⟨0xC, 0x4, 1, .ro, 0x0, 0x0, []⟩,
  ⟨0x10, 0x4, 1, .ro, 0x0, 0x0, []⟩,
  ⟨0x14, 0x4, 1, .ro, 0x0, 0x0, []⟩,
  ⟨0x18, 0x4, 1, .ro, 0x0, 0x0, []⟩,
  ⟨0x1C, 0x4, 1, .ro, 0x0, 0x0, []⟩]

/-- Rows of TILE. -/
def rowsTile0 : List RegRow := [
  ⟨0x0, 0x4, 1, .rw, 0x0, 0x80000000, []⟩,
  ⟨0x4, 0x4, 1, .ro, 0x0, 0x0, []⟩,
  ⟨0x8, 0x4, 1, .rw, 0x0, 0xFFFFFFFF, []⟩,
  ⟨0xC, 0x4, 1, .rw, 0x0, 0xFFFFFFFF, []⟩,
  ⟨0x10, 0x4, 1, .rw, 0x0, 0x3FFF1FFF, []⟩,
  ⟨0x14, 0x4, 1, .rw, 0x0, 0x3FFF1FFF, []⟩,
  ⟨0x18, 0x4, 1, .rw, 0x0, 0x3FFF1FFF, []⟩,
  ⟨0x1C, 0x4, 1, .rw, 0x0, 0x3FFF1FFF, []⟩,
  ⟨0x20, 0x4, 1, .rw, 0x0, 0x3FFF1FFF, []⟩,
  ⟨0x34, 0x4, 1, .ro, 0x0, 0x0, []⟩,
  ⟨0x38, 0x4, 1, .ro, 0x0, 0x0, []⟩,
  ⟨0x3C, 0x4, 1, .ro, 0x0, 0x0, []⟩,
  ⟨0x40, 0x4, 1, .ro, 0x0, 0x0, []⟩]

/-- Rows of WOAD. -/
def rowsWoad0 : List RegRow := [
  ⟨0x0, 0x4, 1, .ro, 0x0, 0x0, []⟩,
  ⟨0x4, 0x4, 1, .wo, 0x0, 0xF00000FF, []⟩,
  ⟨0x8, 0x4, 1, .rw, 0x0, 0xF000FF00, []⟩,
  ⟨0xC, 0x4, 1, .rw, 0x0, 0xF87FFFFF, []⟩,
  ⟨0x10, 0x4, 1, .rw, 0x0, 0xFFFFFF, []⟩,
  ⟨0x14, 0x4, 1, .ro, 0x0, 0x0, []⟩,
  ⟨0x18, 0x4, 1, .wo, 0x0, 0x1, []⟩,
  ⟨0x20, 0x4, 1, .rw, 0x0, 0xFF, []⟩,
  ⟨0x24, 0x4, 1, .rw, 0x0, 0xFF, []⟩,
  ⟨0x30, 0x4, 1, .ro, 0x0, 0x0, []⟩,
  ⟨0x34, 0x4, 1, .ro, 0x0, 0x0, []⟩,
  ⟨0x38, 0x4, 1, .ro, 0x0, 0x0, []⟩,
  ⟨0x100, 0x4, 18, .wo, 0x0, 0xFFFFFFFF, []⟩,
  ⟨0x200, 0x4, 16, .rw, 0x0, 0xFFFFFFFF, []⟩,
  ⟨0x240, 0x4, 16, .ro, 0x0, 0x0, []⟩,
  ⟨0x1000, 0x10, 256, .ro, 0x0, 0x0, []⟩,
  ⟨0x1004, 0x10, 256, .ro, 0x0, 0x0, []⟩,
  ⟨0x1008, 0x10, 256, .ro, 0x0, 0x0, []⟩,
  ⟨0x100C, 0x10, 256, .ro, 0x0, 0x0, []⟩,
  ⟨0x4000, 0x4, 2048, .ro, 0x0, 0x0, []⟩]

/-- Rows of SAFFRON. -/
def rowsSaffron0 : List RegRow := [
  ⟨0x0, 0x4, 1, .ro, 0x0, 0x0, []⟩,
  ⟨0x4, 0x4, 1, .rw, 0x0, 0x7FFFF, [(1, 0, 0, 0)]⟩,
  ⟨0x8, 0x4, 1, .wo, 0x0, 0xFFFFFFFF, []⟩,
  ⟨0xC, 0x4, 1, .wo, 0x0, 0x1, []⟩,
  ⟨0x10, 0x4, 1, .ro, 0x0, 0x0, []⟩,
  ⟨0x14, 0x4, 1, .rw, 0x0, 0x7FFFF, [(1, 0, 0, 0)]⟩,
  ⟨0x18, 0x4, 1, .ro, 0x0, 0x0, []⟩,
  ⟨0x1C, 0x4, 1, .ro, 0x0, 0x0, []⟩,
  ⟨0x20, 0x4, 1, .ro, 0x30, 0x0, []⟩,
  ⟨0x24, 0x4, 1, .ro, 0x0, 0x0, []⟩,
  ⟨0x28, 0x4, 1, .wo, 0x0, 0x3, []⟩,
  ⟨0x2C, 0x4, 1, .ro, 0x0, 0x0, []⟩,
  ⟨0x30, 0x4, 1, .wo, 0x0, 0xFFFFFFFF, []⟩,
  ⟨0x34, 0x4, 1, .rw, 0x0, 0x3FF, []⟩,
  ⟨0x38, 0x4, 1, .ro, 0x0, 0x0, []⟩,
  ⟨0x3C, 0x4, 1, .ro, 0x0, 0x0, []⟩,
  ⟨0x40, 0x4, 1, .ro, 0x0, 0x0, []⟩,
  ⟨0x44, 0x4, 1, .ro, 0x0, 0x0, []⟩,
  ⟨0x48, 0x4, 1, .ro, 0x0, 0x0, []⟩,
  ⟨0x4C, 0x4, 1, .ro, 0x0, 0x0, []⟩,
  ⟨0x50, 0x4, 1, .ro, 0x0, 0x0, []⟩,
  ⟨0x54, 0x4, 1, .ro, 0x0, 0x0, []⟩,
  ⟨0x58, 0x4, 1, .ro, 0x0, 0x0, []⟩,
  ⟨0x5C, 0x4, 1, .ro, 0x0, 0x0, []⟩,
  ⟨0x100, 0x4, 8, .ro, 0x0, 0x0, []⟩,
  ⟨0x200, 0x4, 40, .rw, 0x0, 0xFFFFFFFF, []⟩,
  ⟨0x400, 0x4, 256, .rw, 0x0, 0xFFFFFFFF, []⟩]

/-- Rows of XBAR. -/
def rowsXbar0 : List RegRow := [
  ⟨0x0, 0x4, 1, .rw, 0x1, 0x1F, []⟩,
  ⟨0x4, 0x4, 1, .rw, 0x0, 0x7FF, []⟩,
  ⟨0x8, 0x4, 1, .rw, 0x0, 0x3, []⟩,
  ⟨0x10, 0x4, 1, .ro, 0x0, 0x0, []⟩,
  ⟨0x14, 0x4, 1, .ro, 0x0, 0x0, []⟩,
  ⟨0x20, 0x10, 12, .rw, 0x0, 0x3, []⟩,
  ⟨0x24, 0x10, 12, .ro, 0x0, 0x0, []⟩,
  ⟨0x28, 0x10, 12, .ro, 0x0, 0x0, []⟩,
  ⟨0x2C, 0x10, 12, .ro, 0x0, 0x0, []⟩,
  ⟨0x100, 0x4, 24, .ro, 0x0, 0x0, []⟩,
  ⟨0x200, 0x4, 1, .ro, 0x0, 0x0, []⟩,
  ⟨0x204, 0x4, 1, .ro, 0x0, 0x0, []⟩,
  ⟨0x208, 0x4, 1, .ro, 0x0, 0x0, []⟩,
  ⟨0x210, 0x4, 1, .ro, 0x0, 0x0, []⟩,
  ⟨0x214, 0x4, 1, .ro, 0x0, 0x0, []⟩,
  ⟨0x220, 0x4, 1, .ro, 0x0, 0x0, []⟩,
  ⟨0x224, 0x4, 1, .ro, 0x0, 0x0, []⟩]

/-- Rows of TAMPER. -/
def rowsTamper0 : List RegRow := [
  ⟨0x0, 0x4, 1, .rwl, 0x70, 0x7F, []⟩,
  ⟨0x4, 0x4, 1, .rw, 0x0, 0x80000001, []⟩,
  ⟨0x8, 0x4, 1, .ro, 0x0, 0x0, []⟩,
  ⟨0xC, 0x4, 1, .ro, 0x0, 0x0, []⟩,
  ⟨0x10, 0x4, 1, .ro, 0x0, 0x0, []⟩,
  ⟨0x14, 0x4, 1, .ro, 0x0, 0x0, []⟩,
  ⟨0x18, 0x4, 1, .rwl, 0x0, 0xFF, []⟩,
  ⟨0x20, 0x4, 1, .wo, 0x0, 0x3, []⟩,
  ⟨0x24, 0x4, 1, .ro, 0x0, 0x0, []⟩,
  ⟨0x28, 0x4, 1, .ro, 0x0, 0x0, []⟩,
  ⟨0x30, 0x4, 1, .ro, 0x0, 0x0, []⟩,
  ⟨0x40, 0x4, 8, .ro, 0x0, 0x0, []⟩,
  ⟨0x100, 0x4, 40, .rw, 0x0, 0xFFFFFFFF, []⟩]

/-- Rows of SEQ. -/
def rowsSeq0 : List RegRow := [
  ⟨0x0, 0x4, 1, .rw, 0x0, 0x117, []⟩,
  ⟨0x4, 0x4, 1, .ro, 0x0, 0x0, []⟩,
  ⟨0x8, 0x4, 1, .ro, 0x0, 0x0, []⟩,
  ⟨0xC, 0x4, 1, .ro, 0x0, 0x0, []⟩,
  ⟨0x10, 0x4, 1, .ro, 0x0, 0x0, []⟩,
  ⟨0x14, 0x4, 1, .ro, 0x0, 0x0, []⟩,
  ⟨0x20, 0x4, 1, .ro, 0x0, 0x0, []⟩,
  ⟨0x24, 0x4, 1, .ro, 0x0, 0x0, []⟩,
  ⟨0x28, 0x4, 1, .ro, 0x0, 0x0, []⟩,
  ⟨0x40, 0x4, 8, .rw, 0x0, 0xFFFFFFFF, []⟩,
  ⟨0x60, 0x4, 1, .wo, 0x0, 0xFFFFFFFF, []⟩]

/-- Rows of CEQ. -/
def rowsCeq0 : List RegRow := [
  ⟨0x80, 0x4, 1, .rw, 0x0, 0x803F0100, []⟩,
  ⟨0x84, 0x4, 1, .ro, 0x0, 0x0, []⟩,
  ⟨0x88, 0x4, 1, .rw, 0x0, 0xFFFFFFFF, []⟩,
  ⟨0x8C, 0x4, 1, .ro, 0x0, 0x0, []⟩,
  ⟨0x90, 0x4, 1, .rw, 0x0, 0xFFFFFFFF, []⟩,
  ⟨0x94, 0x4, 1, .ro, 0x0, 0x0, []⟩,
  ⟨0x98, 0x4, 1, .wo, 0x0, 0xFFFFFFFF, []⟩,
  ⟨0x9C, 0x4, 1, .ro, 0x0, 0x0, []⟩,
  ⟨0xA0, 0x4, 1, .ro, 0x0, 0x0, []⟩,
  ⟨0xA4, 0x4, 1, .ro, 0x0, 0x0, []⟩,
  ⟨0xA8, 0x4, 1, .ro, 0x0, 0x0, []⟩]

/-- Rows of EVENT. -/
def rowsEvent0 : List RegRow := [
  ⟨0x0, 0x4, 1, .ro, 0x0, 0x0, []⟩,
  ⟨0x4, 0x4, 1, .rw, 0x0, 0x1FFF, []⟩,
  ⟨0x8, 0x4, 1, .rw, 0x0, 0xFFF, []⟩,
  ⟨0xC, 0x4, 1, .ro, 0x0, 0x0, []⟩,
  ⟨0x10, 0x4, 1, .w1c, 0x0, 0xFFFF, []⟩,
  ⟨0x14, 0x4, 1, .w1c, 0x0, 0xFFFF, []⟩,
  ⟨0x18, 0x4, 1, .rw, 0x0, 0xFFFFFFFF, []⟩,
  ⟨0x1C, 0x4, 1, .w1c, 0x0, 0xFFFFFFFF, []⟩,
  ⟨0x20, 0x4, 1, .ro, 0x0, 0x0, []⟩,
  ⟨0x40, 0x4, 16, .rw, 0x23F7300, 0x73F771F, []⟩,
  ⟨0x100, 0x4, 8, .ro, 0x0, 0x0, []⟩]

/-- Rows of PORT. -/
def rowsPort0 : List RegRow := [
  ⟨0x0, 0x4, 1, .rw, 0x0, 0x7F, []⟩,
  ⟨0x4, 0x4, 1, .ro, 0x0, 0x0, []⟩,
  ⟨0x8, 0x4, 1, .rw, 0x0, 0xFFFFFFFF, []⟩,
  ⟨0xC, 0x4, 1, .rw, 0x0, 0x10FFF, []⟩,
  ⟨0x10, 0x4, 1, .ro, 0x0, 0x0, []⟩,
  ⟨0x20, 0x4, 4, .ro, 0x0, 0x0, []⟩,
  ⟨0x30, 0x4, 4, .ro, 0x0, 0x0, []⟩,
  ⟨0x40, 0x4, 1, .ro, 0x0, 0x0, []⟩,
  ⟨0x44, 0x4, 1, .ro, 0x0, 0x0, []⟩,
  ⟨0x48, 0x4, 1, .ro, 0x0, 0x0, []⟩,
  ⟨0x4C, 0x4, 1, .ro, 0x0, 0x0, []⟩,
  ⟨0x400, 0x4, 1, .rw, 0x0, 0x11, []⟩,
  ⟨0x600, 0x4, 1, .rw, 0x0, 0xFFFFFFFF, []⟩,
  ⟨0x604, 0x4, 1, .rw, 0x0, 0xFFFF, []⟩,
  ⟨0x608, 0x4, 1, .ro, 0x0, 0x0, []⟩,
  ⟨0x610, 0x4, 1, .ro, 0x0, 0x0, []⟩,
  ⟨0x614, 0x4, 1, .ro, 0x0, 0x0, []⟩,
  ⟨0x618, 0x4, 1, .ro, 0x0, 0x0, []⟩,
  ⟨0x61C, 0x4, 1, .ro, 0x0, 0x0, []⟩,
  ⟨0x620, 0x4, 1, .ro, 0x0, 0x0, []⟩,
  ⟨0x624, 0x4, 1, .ro, 0x0, 0x0, []⟩,
  ⟨0x2000, 0x4, 2048, .ro, 0x0, 0x0, []⟩,
  ⟨0x800, 0x40, 4, .rw, 0x1000000, 0xF3FCFFFF, []⟩,
  ⟨0x804, 0x40, 4, .ro, 0x0, 0x0, []⟩,
  ⟨0x808, 0x40, 4, .ro, 0x0, 0x0, []⟩,
  ⟨0x80C, 0x40, 4, .ro, 0x0, 0x0, []⟩,
  ⟨0x810, 0x40, 4, .ro, 0x0, 0x0, []⟩,
  ⟨0x814, 0x40, 4, .ro, 0x0, 0x0, []⟩,
  ⟨0x818, 0x40, 4, .ro, 0x0, 0x0, []⟩,
  ⟨0x81C, 0x40, 4, .ro, 0x0, 0x0, []⟩]

/-- Rows of PORT. -/
def rowsPort1 : List RegRow := [
  ⟨0x820, 0x40, 4, .ro, 0x0, 0x0, []⟩,
  ⟨0x1000, 0x100, 4, .rw, 0x3, 0x13, []⟩,
  ⟨0x1004, 0x100, 4, .ro, 0x0, 0x0, []⟩,
  ⟨0x1008, 0x100, 4, .wo, 0x0, 0xFFFFFFFF, []⟩,
  ⟨0x100C, 0x100, 4, .rw, 0x3F1F00, 0x3F1F1F, []⟩,
  ⟨0x1010, 0x100, 4, .rw, 0x3F00, 0x3F3F3F, [(13, 8, 1, 63)]⟩,
  ⟨0x1014, 0x100, 4, .ro, 0x0, 0x0, []⟩,
  ⟨0x1020, 0x100, 4, .rw, 0x0, 0xE007, [(2, 0, 0, 5)]⟩,
  ⟨0x1024, 0x100, 4, .rw, 0x0, 0xFFFFFFFF, []⟩,
  ⟨0x1028, 0x100, 4, .rw, 0x0, 0xFFFFFFFF, []⟩,
  ⟨0x102C, 0x100, 4, .rw, 0x0, 0x70FF3F01, [(30, 28, 0, 4)]⟩,
  ⟨0x1030, 0x100, 4, .ro, 0x0, 0x0, []⟩,
  ⟨0x1034, 0x100, 4, .ro, 0x0, 0x0, []⟩,
  ⟨0x1038, 0x100, 4, .ro, 0x0, 0x0, []⟩,
  ⟨0x103C, 0x100, 4, .ro, 0x0, 0x0, []⟩,
  ⟨0x1040, 0x100, 4, .ro, 0x0, 0x0, []⟩,
  ⟨0x1044, 0x100, 4, .ro, 0x0, 0x0, []⟩,
  ⟨0x1048, 0x100, 4, .ro, 0x0, 0x0, []⟩,
  ⟨0x104C, 0x100, 4, .ro, 0x0, 0x0, []⟩,
  ⟨0x1050, 0x100, 4, .ro, 0x0, 0x0, []⟩,
  ⟨0x1054, 0x100, 4, .ro, 0x0, 0x0, []⟩,
  ⟨0x1058, 0x100, 4, .ro, 0x0, 0x0, []⟩,
  ⟨0x105C, 0x100, 4, .ro, 0x0, 0x0, []⟩,
  ⟨0x900, 0x4, 1, .rw, 0x0, 0x1, []⟩]

/-- Rows of STACK. -/
def rowsStack0 : List RegRow := [
  ⟨0x0, 0x40, 4, .rw, 0x3000000, 0xF3FCFFFF, []⟩,
  ⟨0x4, 0x40, 4, .ro, 0x0, 0x0, []⟩,
  ⟨0x8, 0x40, 4, .ro, 0x0, 0x0, []⟩,
  ⟨0xC, 0x40, 4, .ro, 0x0, 0x0, []⟩,
  ⟨0x10, 0x40, 4, .ro, 0x0, 0x0, []⟩,
  ⟨0x14, 0x40, 4, .ro, 0x0, 0x0, []⟩,
  ⟨0x18, 0x40, 4, .ro, 0x0, 0x0, []⟩,
  ⟨0x1C, 0x40, 4, .ro, 0x0, 0x0, []⟩,
  ⟨0x20, 0x40, 4, .ro, 0x0, 0x0, []⟩,
  ⟨0x1000, 0x100, 4, .rw, 0x3, 0x13, []⟩,
  ⟨0x1004, 0x100, 4, .ro, 0x0, 0x0, []⟩,
  ⟨0x1008, 0x100, 4, .wo, 0x0, 0xFFFFFFFF, []⟩,
  ⟨0x100C, 0x100, 4, .rw, 0x3F1F00, 0x3F1F1F, []⟩,
  ⟨0x1010, 0x100, 4, .rw, 0x3F00, 0x3F3F3F, [(13, 8, 1, 63)]⟩,
  ⟨0x1014, 0x100, 4, .ro, 0x0, 0x0, []⟩,
  ⟨0x1020, 0x100, 4, .rw, 0x0, 0xE007, [(2, 0, 0, 5)]⟩,
  ⟨0x1024, 0x100, 4, .rw, 0x0, 0xFFFFFFFF, []⟩,
  ⟨0x1028, 0x100, 4, .rw, 0x0, 0xFFFFFFFF, []⟩,
  ⟨0x102C, 0x100, 4, .rw, 0x0, 0x70FF3F01, [(30, 28, 0, 4)]⟩,
  ⟨0x1030, 0x100, 4, .ro, 0x0, 0x0, []⟩,
  ⟨0x1034, 0x100, 4, .ro, 0x0, 0x0, []⟩,
  ⟨0x1038, 0x100, 4, .ro, 0x0, 0x0, []⟩,
  ⟨0x103C, 0x100, 4, .ro, 0x0, 0x0, []⟩,
  ⟨0x1040, 0x100, 4, .ro, 0x0, 0x0, []⟩,
  ⟨0x1044, 0x100, 4, .ro, 0x0, 0x0, []⟩,
  ⟨0x1048, 0x100, 4, .ro, 0x0, 0x0, []⟩,
  ⟨0x104C, 0x100, 4, .ro, 0x0, 0x0, []⟩,
  ⟨0x1050, 0x100, 4, .ro, 0x0, 0x0, []⟩,
  ⟨0x1054, 0x100, 4, .ro, 0x0, 0x0, []⟩,
  ⟨0x1058, 0x100, 4, .ro, 0x0, 0x0, []⟩]

/-- Rows of STACK. -/
def rowsStack1 : List RegRow := [
  ⟨0x105C, 0x100, 4, .ro, 0x0, 0x0, []⟩,
  ⟨0x200, 0x4, 1, .rw, 0x0, 0x1, []⟩]

/-- Rows of STK. -/
def rowsStk0 : List RegRow := [
  ⟨0x0, 0x4, 1, .ro, 0x0, 0x0, []⟩,
  ⟨0x4, 0x4, 1, .ro, 0x0, 0x0, []⟩,
  ⟨0x8, 0x4, 1, .ro, 0x0, 0x0, []⟩,
  ⟨0xC, 0x4, 1, .ro, 0x0, 0x0, []⟩,
  ⟨0x10, 0x4, 1, .ro, 0x0, 0x0, []⟩,
  ⟨0x14, 0x4, 1, .ro, 0x0, 0x0, []⟩,
  ⟨0x18, 0x4, 1, .ro, 0x0, 0x0, []⟩,
  ⟨0x1C, 0x4, 1, .ro, 0x0, 0x0, []⟩,
  ⟨0x20, 0x4, 1, .ro, 0x0, 0x0, []⟩,
  ⟨0x24, 0x4, 1, .ro, 0x0, 0x0, []⟩,
  ⟨0x28, 0x4, 1, .ro, 0x0, 0x0, []⟩,
  ⟨0x2C, 0x4, 1, .ro, 0x0, 0x0, []⟩,
  ⟨0x30, 0x4, 1, .ro, 0x0, 0x0, []⟩,
  ⟨0x40, 0x4, 1, .ro, 0x0, 0x0, []⟩,
  ⟨0x44, 0x4, 1, .ro, 0x0, 0x0, []⟩,
  ⟨0x48, 0x4, 1, .ro, 0x0, 0x0, []⟩,
  ⟨0x4C, 0x4, 1, .ro, 0x0, 0x0, []⟩,
  ⟨0x50, 0x4, 1, .ro, 0x0, 0x0, []⟩,
  ⟨0x60, 0x4, 1, .ro, 0x0, 0x0, []⟩,
  ⟨0x64, 0x4, 1, .ro, 0x0, 0x0, []⟩,
  ⟨0x4000, 0x4, 4096, .ro, 0x0, 0x0, []⟩]

/-- Rows of OUT. -/
def rowsOut0 : List RegRow := [
  ⟨0x0, 0x4, 1, .ro, 0x40000000, 0x0, []⟩,
  ⟨0x4, 0x4, 1, .ro, 0x0, 0x0, []⟩,
  ⟨0x8, 0x4, 1, .rw, 0x0, 0x80001FFF, []⟩,
  ⟨0xC, 0x4, 1, .ro, 0x0, 0x0, []⟩,
  ⟨0x10, 0x4, 1, .ro, 0x0, 0x0, []⟩,
  ⟨0x14, 0x4, 1, .ro, 0x0, 0x0, []⟩,
  ⟨0x18, 0x4, 1, .ro, 0x0, 0x0, []⟩,
  ⟨0x20, 0x4, 1, .ro, 0x0, 0x0, []⟩,
  ⟨0x24, 0x4, 1, .ro, 0x0, 0x0, []⟩,
  ⟨0x28, 0x4, 1, .ro, 0x0, 0x0, []⟩,
  ⟨0x2C, 0x4, 1, .ro, 0x0, 0x0, []⟩,
  ⟨0x30, 0x4, 1, .rw, 0x0, 0xFFFFFFFF, [(5, 0, 0, 0)]⟩,
  ⟨0x34, 0x4, 1, .rw, 0x0, 0xFFFFFFFF, []⟩,
  ⟨0x38, 0x4, 1, .rw, 0x0, 0xFFFFFFFF, []⟩,
  ⟨0x100, 0x4, 1, .rw, 0x15000, 0x3337F100, [(25, 24, 0, 2), (21, 20, 0, 2), (13, 12, 0, 2)]⟩,
  ⟨0x104, 0x4, 1, .rw, 0x0, 0x3FFF1FFF, []⟩,
  ⟨0x108, 0x4, 1, .rw, 0x0, 0x3FFF1FFF, []⟩,
  ⟨0x10C, 0x4, 1, .rw, 0x0, 0x3FFF1FFF, []⟩,
  ⟨0x110, 0x4, 1, .rw, 0x0, 0x3FFF1FFF, []⟩,
  ⟨0x114, 0x4, 1, .rw, 0x20080040, 0x3FFFFFFF, []⟩,
  ⟨0x118, 0x4, 1, .rw, 0x1000000, 0xFFC0000, [(27, 24, 0, 4), (23, 22, 0, 2), (21, 20, 0, 2)]⟩,
  ⟨0x140, 0x4, 1, .ro, 0x15000, 0x0, []⟩,
  ⟨0x144, 0x4, 1, .ro, 0x0, 0x0, []⟩,
  ⟨0x148, 0x4, 1, .ro, 0x0, 0x0, []⟩,
  ⟨0x14C, 0x4, 1, .ro, 0x0, 0x0, []⟩,
  ⟨0x150, 0x4, 1, .ro, 0x0, 0x0, []⟩,
  ⟨0x154, 0x4, 1, .ro, 0x20080040, 0x0, []⟩,
  ⟨0x158, 0x4, 1, .ro, 0x1000000, 0x0, []⟩,
  ⟨0x180, 0x4, 1, .ro, 0x60000, 0x0, []⟩,
  ⟨0x188, 0x4, 1, .ro, 0x0, 0x0, []⟩]

/-- Rows of OUT. -/
def rowsOut1 : List RegRow := [
  ⟨0x18C, 0x4, 1, .ro, 0x0, 0x0, []⟩,
  ⟨0x190, 0x4, 1, .rw, 0x0, 0xFFFFFFFF, []⟩,
  ⟨0x194, 0x4, 1, .rw, 0x0, 0xFFFFFFFF, []⟩,
  ⟨0x198, 0x4, 1, .ro, 0x0, 0x0, []⟩,
  ⟨0x1A0, 0x4, 1, .ro, 0x0, 0x0, []⟩,
  ⟨0x1A4, 0x4, 1, .ro, 0x0, 0x0, []⟩,
  ⟨0x1A8, 0x4, 1, .ro, 0x0, 0x0, []⟩,
  ⟨0x1AC, 0x4, 1, .ro, 0x0, 0x0, []⟩,
  ⟨0x200, 0x4, 1, .rw, 0x0, 0x3FFF3FFF, []⟩,
  ⟨0x204, 0x4, 1, .rw, 0x0, 0x3FFF3FFF, []⟩,
  ⟨0x208, 0x4, 1, .rw, 0x0, 0x1FFF1FFF, []⟩,
  ⟨0x20C, 0x4, 1, .rw, 0x0, 0x1FFF1FFF, []⟩,
  ⟨0x210, 0x4, 1, .rw, 0xFF, 0x3F1FFFFF, [(29, 28, 0, 2)]⟩,
  ⟨0x220, 0x4, 1, .ro, 0x0, 0x0, []⟩,
  ⟨0x224, 0x4, 1, .ro, 0x0, 0x0, []⟩,
  ⟨0x228, 0x4, 1, .ro, 0x0, 0x0, []⟩,
  ⟨0x22C, 0x4, 1, .ro, 0x0, 0x0, []⟩,
  ⟨0x230, 0x4, 1, .ro, 0xFF, 0x0, []⟩,
  ⟨0x240, 0x4, 1, .ro, 0xFF0000, 0x0, []⟩,
  ⟨0x244, 0x4, 1, .rw, 0x0, 0x1, []⟩,
  ⟨0x248, 0x4, 1, .rw, 0x0, 0x3FFF1FFF, []⟩,
  ⟨0x250, 0x4, 1, .ro, 0x0, 0x0, []⟩,
  ⟨0x254, 0x4, 1, .ro, 0x0, 0x0, []⟩,
  ⟨0x258, 0x4, 1, .ro, 0x0, 0x0, []⟩,
  ⟨0x25C, 0x4, 1, .ro, 0x0, 0x0, []⟩,
  ⟨0x260, 0x4, 1, .ro, 0x0, 0x0, []⟩,
  ⟨0x264, 0x4, 1, .ro, 0x0, 0x0, []⟩,
  ⟨0x268, 0x4, 1, .ro, 0x0, 0x0, []⟩,
  ⟨0x26C, 0x4, 1, .ro, 0x0, 0x0, []⟩,
  ⟨0x270, 0x4, 1, .ro, 0x0, 0x0, []⟩]

/-- Rows of OUT. -/
def rowsOut2 : List RegRow := [
  ⟨0x274, 0x4, 1, .ro, 0x0, 0x0, []⟩,
  ⟨0x278, 0x4, 1, .ro, 0x0, 0x0, []⟩,
  ⟨0x27C, 0x4, 1, .ro, 0x0, 0x0, []⟩,
  ⟨0x300, 0x40, 2, .rw, 0xFF0, 0x800F3FF0, []⟩,
  ⟨0x304, 0x40, 2, .rw, 0x0, 0x3FFF1FFF, []⟩,
  ⟨0x308, 0x40, 2, .rw, 0x0, 0x3FFF1FFF, []⟩,
  ⟨0x30C, 0x40, 2, .rw, 0x0, 0xFFFFFF, []⟩,
  ⟨0x310, 0x40, 2, .ro, 0x0, 0x0, []⟩,
  ⟨0x314, 0x40, 2, .ro, 0x0, 0x0, []⟩,
  ⟨0x318, 0x40, 2, .ro, 0x0, 0x0, []⟩,
  ⟨0x31C, 0x40, 2, .ro, 0x0, 0x0, []⟩,
  ⟨0x320, 0x40, 2, .ro, 0x0, 0x0, []⟩,
  ⟨0x324, 0x40, 2, .ro, 0x0, 0x0, []⟩,
  ⟨0x328, 0x40, 2, .ro, 0xFF0, 0x0, []⟩,
  ⟨0x32C, 0x40, 2, .ro, 0x0, 0x0, []⟩,
  ⟨0x330, 0x40, 2, .ro, 0x0, 0x0, []⟩,
  ⟨0x334, 0x40, 2, .ro, 0x0, 0x0, []⟩,
  ⟨0x338, 0x40, 2, .ro, 0x0, 0x0, []⟩,
  ⟨0x33C, 0x40, 2, .ro, 0x0, 0x0, []⟩,
  ⟨0x400, 0x4, 1, .rw, 0x30303, 0xFFFFFF, []⟩,
  ⟨0x404, 0x4, 1, .rw, 0x40050, 0x3FF03FF, []⟩,
  ⟨0x408, 0x4, 1, .ro, 0x0, 0x0, []⟩,
  ⟨0x40C, 0x4, 1, .ro, 0x0, 0x0, []⟩,
  ⟨0x410, 0x4, 1, .ro, 0x0, 0x0, []⟩,
  ⟨0x414, 0x4, 1, .ro, 0x0, 0x0, []⟩,
  ⟨0x418, 0x4, 1, .ro, 0x0, 0x0, []⟩,
  ⟨0x41C, 0x4, 1, .ro, 0x0, 0x0, []⟩,
  ⟨0x500, 0x4, 1, .rw, 0x100, 0x113, []⟩,
  ⟨0x504, 0x4, 1, .rw, 0x0, 0x3F7F7F3F, []⟩,
  ⟨0x510, 0x4, 32, .rw, 0x0, 0x8101FFFF, []⟩]

/-- Rows of OUT. -/
def rowsOut3 : List RegRow := [
  ⟨0x590, 0x4, 1, .ro, 0x100, 0x0, []⟩,
  ⟨0x594, 0x4, 1, .ro, 0x0, 0x0, []⟩,
  ⟨0x5A0, 0x4, 1, .ro, 0x0, 0x0, []⟩,
  ⟨0x5A4, 0x4, 1, .ro, 0x0, 0x0, []⟩,
  ⟨0x5A8, 0x4, 1, .ro, 0x0, 0x0, []⟩,
  ⟨0x5AC, 0x4, 1, .ro, 0x0, 0x0, []⟩,
  ⟨0x2000, 0x4, 2048, .rw, 0x0, 0xFFFFFFFF, []⟩]

/-- Rows of OCHRE. -/
def rowsOchre0 : List RegRow := [
  ⟨0x0, 0x4, 1, .ro, 0xFF, 0x0, []⟩,
  ⟨0x10000, 0x40, 64, .ro, 0x0, 0x0, []⟩,
  ⟨0x10004, 0x40, 64, .ro, 0x0, 0x0, []⟩,
  ⟨0x10008, 0x40, 64, .ro, 0x0, 0x0, []⟩,
  ⟨0x20000, 0x40, 64, .ro, 0x0, 0x0, []⟩,
  ⟨0x20004, 0x40, 64, .ro, 0x0, 0x0, []⟩,
  ⟨0x20008, 0x40, 64, .ro, 0x0, 0x0, []⟩,
  ⟨0x2000C, 0x40, 64, .ro, 0x0, 0x0, []⟩,
  ⟨0x30000, 0x100, 8, .rw, 0x0, 0x803F0100, []⟩,
  ⟨0x30004, 0x100, 8, .rw, 0x0, 0xFFFFFFFF, [(5, 0, 0, 0)]⟩,
  ⟨0x30008, 0x100, 8, .rw, 0x0, 0xFFFFFFFF, []⟩,
  ⟨0x3000C, 0x100, 8, .rw, 0x10, 0xFFFFFFFF, []⟩,
  ⟨0x30010, 0x100, 8, .ro, 0x0, 0x0, []⟩,
  ⟨0x30014, 0x100, 8, .rw, 0x0, 0xFFFFFFFF, []⟩,
  ⟨0x30018, 0x100, 8, .rw, 0x640, 0xFFFFFFFF, [(31, 0, 1, 65535)]⟩,
  ⟨0x3001C, 0x100, 8, .ro, 0x0, 0x0, []⟩,
  ⟨0x30020, 0x100, 8, .ro, 0x0, 0x0, []⟩,
  ⟨0x30024, 0x100, 8, .ro, 0x0, 0x0, []⟩]

/-- Rows of AUDIO. -/
def rowsAudio0 : List RegRow := [
  ⟨0x0, 0x4, 1, .rw, 0x0, 0x1, []⟩,
  ⟨0x4, 0x4, 1, .ro, 0x1FE0, 0x0, []⟩,
  ⟨0x8, 0x4, 1, .ro, 0x0, 0x0, []⟩,
  ⟨0xC, 0x4, 1, .ro, 0x0, 0x0, []⟩,
  ⟨0x10, 0x4, 1, .ro, 0x0, 0x0, []⟩,
  ⟨0x14, 0x4, 1, .ro, 0x0, 0x0, []⟩,
  ⟨0x18, 0x4, 1, .ro, 0x0, 0x0, []⟩,
  ⟨0x1C, 0x4, 1, .ro, 0x0, 0x0, []⟩,
  ⟨0x100, 0x4, 16, .rw, 0x0, 0x3, []⟩,
  ⟨0x140, 0x4, 16, .ro, 0x0, 0x0, []⟩,
  ⟨0x180, 0x4, 16, .rw, 0x0, 0x1, []⟩,
  ⟨0x1000, 0x10, 512, .rw, 0x0, 0xFFFFFFFF, []⟩,
  ⟨0x1004, 0x10, 512, .rw, 0x0, 0xFFFFFFFF, []⟩,
  ⟨0x1008, 0x10, 512, .rw, 0x0, 0xFFFFFFFF, []⟩,
  ⟨0x100C, 0x10, 512, .rw, 0x0, 0xFFFFFFFF, []⟩,
  ⟨0x10000, 0x10, 8192, .ro, 0x2000, 0x0, []⟩,
  ⟨0x10004, 0x10, 8192, .rw, 0xC00000, 0xC0FF0000, [(23, 16, 0, 216)]⟩,
  ⟨0x10008, 0x10, 8192, .rw, 0x201E0, 0x7FFFF, [(15, 0, 0, 48000)]⟩,
  ⟨0x1000C, 0x10, 8192, .rw, 0x0, 0x3FFFF, []⟩,
  ⟨0x40000, 0x8, 8192, .ro, 0x0, 0x0, []⟩]

/-- Rows of CXL. -/
def rowsCxl0 : List RegRow := [
  ⟨0x0, 0x4, 1, .ro, 0x0, 0x0, []⟩,
  ⟨0x4, 0x4, 1, .ro, 0x0, 0x0, []⟩,
  ⟨0x8, 0x4, 1, .ro, 0x0, 0x0, []⟩,
  ⟨0xC, 0x4, 1, .ro, 0x0, 0x0, []⟩,
  ⟨0x10, 0x4, 1, .ro, 0x0, 0x0, []⟩,
  ⟨0x14, 0x4, 1, .ro, 0x0, 0x0, []⟩,
  ⟨0x18, 0x4, 1, .ro, 0x0, 0x0, []⟩,
  ⟨0x20, 0x4, 1, .wo, 0x0, 0xFFFFFFFF, []⟩,
  ⟨0x24, 0x4, 1, .ro, 0x0, 0x0, []⟩,
  ⟨0x28, 0x4, 1, .ro, 0x0, 0x0, []⟩,
  ⟨0x2C, 0x4, 1, .wo, 0x0, 0xFFFFFFFF, []⟩,
  ⟨0x30, 0x4, 1, .ro, 0x0, 0x0, []⟩,
  ⟨0x40, 0x4, 1, .ro, 0x0, 0x0, []⟩,
  ⟨0x44, 0x4, 1, .ro, 0x0, 0x0, []⟩,
  ⟨0x1000, 0x100, 4, .rw, 0x0, 0x800000FF, []⟩,
  ⟨0x1004, 0x100, 4, .ro, 0x0, 0x0, []⟩,
  ⟨0x1008, 0x100, 4, .ro, 0x0, 0x0, []⟩,
  ⟨0x100C, 0x100, 4, .ro, 0x0, 0x0, []⟩,
  ⟨0x1010, 0x100, 4, .ro, 0x0, 0x0, []⟩,
  ⟨0x1014, 0x100, 4, .ro, 0x0, 0x0, []⟩,
  ⟨0x1018, 0x100, 4, .ro, 0x0, 0x0, []⟩,
  ⟨0x101C, 0x100, 4, .ro, 0x0, 0x0, []⟩,
  ⟨0x1020, 0x100, 4, .ro, 0x0, 0x0, []⟩,
  ⟨0x1024, 0x100, 4, .ro, 0x0, 0x0, []⟩,
  ⟨0x1028, 0x100, 4, .ro, 0x0, 0x0, []⟩]

/-- Rows of TWIN. -/
def rowsTwin0 : List RegRow := [
  ⟨0x0, 0x4, 1, .rw, 0x3000000, 0xA3FFFF00, []⟩,
  ⟨0x4, 0x4, 1, .ro, 0x0, 0x0, []⟩,
  ⟨0x8, 0x4, 1, .wo, 0x0, 0x3, []⟩,
  ⟨0xC, 0x4, 1, .ro, 0x0, 0x0, []⟩,
  ⟨0x10, 0x4, 1, .ro, 0x0, 0x0, []⟩,
  ⟨0x14, 0x4, 1, .ro, 0x0, 0x0, []⟩,
  ⟨0x18, 0x4, 1, .ro, 0x0, 0x0, []⟩,
  ⟨0x20, 0x4, 1, .ro, 0x0, 0x0, []⟩,
  ⟨0x24, 0x4, 1, .ro, 0x0, 0x0, []⟩,
  ⟨0x100, 0x4, 48, .rw, 0x0, 0xFFFFFFFF, []⟩]

/-- Rows of FLOW. -/
def rowsFlow0 : List RegRow := [
  ⟨0x0, 0x4, 1, .ro, 0x0, 0x0, []⟩,
  ⟨0x4, 0x4, 1, .ro, 0x0, 0x0, []⟩,
  ⟨0x8, 0x4, 1, .ro, 0x0, 0x0, []⟩,
  ⟨0xC, 0x4, 1, .ro, 0x0, 0x0, []⟩,
  ⟨0x10, 0x4, 1, .ro, 0x0, 0x0, []⟩,
  ⟨0x14, 0x4, 1, .ro, 0x0, 0x0, []⟩,
  ⟨0x18, 0x4, 1, .ro, 0x0, 0x0, []⟩,
  ⟨0x1C, 0x4, 1, .ro, 0x0, 0x0, []⟩,
  ⟨0x20, 0x4, 1, .ro, 0x0, 0x0, []⟩,
  ⟨0x24, 0x4, 1, .ro, 0x0, 0x0, []⟩,
  ⟨0x28, 0x4, 1, .ro, 0x0, 0x0, []⟩,
  ⟨0x30, 0x4, 1, .rw, 0xFF20, 0xFFF1, [(7, 4, 1, 8)]⟩,
  ⟨0x34, 0x4, 1, .rw, 0xA, 0x7F, []⟩,
  ⟨0x40, 0x4, 1, .ro, 0x4, 0x0, []⟩,
  ⟨0x44, 0x4, 3, .ro, 0x0, 0x0, []⟩,
  ⟨0x50, 0x4, 1, .ro, 0x0, 0x0, []⟩,
  ⟨0x60, 0x4, 1, .ro, 0x0, 0x0, []⟩,
  ⟨0x64, 0x4, 1, .ro, 0x0, 0x0, []⟩,
  ⟨0x68, 0x4, 1, .ro, 0x0, 0x0, []⟩,
  ⟨0x6C, 0x4, 1, .ro, 0x0, 0x0, []⟩,
  ⟨0x70, 0x4, 1, .ro, 0x0, 0x0, []⟩,
  ⟨0x74, 0x4, 1, .ro, 0x0, 0x0, []⟩,
  ⟨0x78, 0x4, 1, .ro, 0x0, 0x0, []⟩,
  ⟨0x80, 0x4, 1, .ro, 0x0, 0x0, []⟩,
  ⟨0x84, 0x4, 1, .ro, 0x0, 0x0, []⟩]

/-- Rows of MSIX. -/
def rowsMsix0 : List RegRow := [
  ⟨0x0, 0x4, 256, .rw, 0x0, 0xFFFFFFFF, []⟩,
  ⟨0x8000, 0x4, 2, .ro, 0x0, 0x0, []⟩]

/-- The registers of each block. -/
def Blk.rows : Blk → List RegRow
  | .global => rowsGlobal0
  | .pwr => rowsPwr0
  | .hlth => rowsHlth0
  | .madder => rowsMadder0 ++ rowsMadder1
  | .tgrp => rowsTgrp0
  | .tile => rowsTile0
  | .woad => rowsWoad0
  | .saffron => rowsSaffron0
  | .xbar => rowsXbar0
  | .tamper => rowsTamper0
  | .seq => rowsSeq0
  | .ceq => rowsCeq0
  | .event => rowsEvent0
  | .port => rowsPort0 ++ rowsPort1
  | .stack => rowsStack0 ++ rowsStack1
  | .stk => rowsStk0
  | .out => rowsOut0 ++ rowsOut1 ++ rowsOut2 ++ rowsOut3
  | .ochre => rowsOchre0
  | .audio => rowsAudio0
  | .cxl => rowsCxl0
  | .twin => rowsTwin0
  | .flow => rowsFlow0
  | .msix => rowsMsix0

/-- Base, stride and instances of each block (Table 23.1). -/
def Blk.place : Blk → Nat × Nat × Nat
  | .global => (0x0, 0x10000, 1)
  | .pwr => (0x10000, 0x10000, 1)
  | .hlth => (0x20000, 0x10000, 1)
  | .madder => (0x30000, 0x10000, 1)
  | .tgrp => (0x38000, 0x40, 16)
  | .tile => (0x39000, 0x100, 16)
  | .woad => (0x40000, 0x10000, 1)
  | .saffron => (0x50000, 0x10000, 1)
  | .xbar => (0x60000, 0x10000, 1)
  | .tamper => (0x70000, 0x10000, 1)
  | .seq => (0x80000, 0x100, 132)
  | .ceq => (0x88000, 0x100, 4)
  | .event => (0x90000, 0x10000, 1)
  | .port => (0x100000, 0x10000, 64)
  | .stack => (0x500000, 0x10000, 8)
  | .stk => (0x580000, 0x10000, 1)
  | .out => (0x600000, 0x8000, 64)
  | .ochre => (0x800000, 0x100000, 1)
  | .audio => (0x900000, 0x100000, 1)
  | .cxl => (0xA00000, 0x100000, 1)
  | .twin => (0xB00000, 0x100000, 1)
  | .flow => (0xC00000, 0x100, 16384)
  | .msix => (0x7FF0000, 0x10000, 1)

/-- The blocks in the order in which an address is looked up: TGRP and TILE lie inside MADDER, the queue registers inside SEQ. -/
def Blk.all : List Blk :=
  [.tgrp, .tile, .global, .pwr, .hlth, .madder, .woad, .saffron, .xbar, .tamper, .event, .port, .stack, .stk, .out, .ochre, .audio, .cxl, .twin, .flow, .msix]
  ++ [.ceq, .seq]

/-- A register found by its address: the block, the instance, the copy and the row. -/
structure RegHit where
  blk : Blk
  inst : Nat
  k : Nat
  row : RegRow
  deriving DecidableEq, Repr

/-- The row of a block that holds an offset, with the copy. -/
def findRow : List RegRow → Nat → Option (Nat × RegRow)
  | [], _ => none
  | r :: rs, off =>
    if r.off ≤ off && (off - r.off) % r.stride == 0 && (off - r.off) / r.stride < r.count then
      some ((off - r.off) / r.stride, r)
    else findRow rs off

/-- The register of one block at an address. -/
def findInBlk (b : Blk) (a : Nat) : Option RegHit :=
  let (base, stride, inst) := b.place
  if base ≤ a && a < base + stride * inst then
    match findRow b.rows ((a - base) % stride) with
    | some (k, row) => some ⟨b, (a - base) / stride, k, row⟩
    | none => none
  else none

/-- The register at an address, among some blocks. -/
def findInBlks : List Blk → Nat → Option RegHit
  | [], _ => none
  | b :: bs, a => match findInBlk b a with
    | some h => some h
    | none => findInBlks bs a

/-- The register at a control address; none at a hole (R493). -/
def findReg (a : Nat) : Option RegHit := findInBlks Blk.all a

/-- Shed entry i of the default order (R450). -/
def shedDefault (i : Nat) : Nat :=
  if i < 8 then 0x1000 + (7 - i)
  else if i < 16 then 0x2000 + (15 - i)
  else if i < 80 then 0x3000 + (79 - i)
  else if i < 83 then 0x4000 + (83 - i)
  else 0

/-- Reset value of the WARN, CRIT and TRIP thresholds of monitor m (Table 20.2): temperatures in 1/8 °C, voltage
deviations in 0.1 %, slack in ps. -/
def monWarnReset (m : Nat) : Nat := if m < 30 then 105 * 8 else if m < 32 then 85 * 8 else if m < 80 then 50 else 20
def monCritReset (m : Nat) : Nat := if m < 32 then 125 * 8 else if m < 80 then 80 else 10
def monTripReset (m : Nat) : Nat := if m < 30 then 140 * 8 else if m < 32 then 130 * 8 else if m < 43 then 100 else 0

/-- Reset value of a register whose copies differ; none where the row's own value holds. -/
def resetSpecial (h : RegHit) : Option Nat :=
  match h.blk with
  | .hlth =>
    if h.row.off = 0x200 then some (shedDefault h.k)
    else if h.row.off = 0x1004 then some (monWarnReset h.k)
    else if h.row.off = 0x1008 then some (monCritReset h.k)
    else if h.row.off = 0x100C then some (monTripReset h.k)
    else none
  | .event => if h.row.off = 0x40 ∧ h.k = 6 then some 0x023F7200 else none
  | .madder => if h.row.off = 0x100 ∧ 4 ≤ h.k ∧ h.k < 8 then some 0x7F00 else none
  | .xbar =>
    if h.row.off = 0x20 then
      some (if h.k < 4 then 3 else if h.k < 8 then 1 else if h.k = 8 then 2 else 0)
    else none
  | .ceq => if h.row.off = 0x80 then some (h.inst * 0x10000) else none
  | .msix => if h.row.off = 0 ∧ h.k % 4 = 3 then some 1 else none
  | _ => none

/-- The reset value of the register at an address; 0 at a hole. -/
def regReset (a : Nat) : Word :=
  match findReg a with
  | some h => word ((resetSpecial h).getD h.row.reset)
  | none => 0

end Sys2Proof.Machine
end

