-- ==== Sys2Proof/Machine/StUmber.lean ====
section
/-! DEFINITION. State of the Umber units and the command-engine queues (chapters 02 and 08), and of the events (chapter 20). -/

namespace Sys2Proof.Machine

/-- The five flags (R43). -/
structure Flags where
  z : Bool := false
  n : Bool := false
  c : Bool := false
  t : Bool := false
  e : Bool := false
  deriving DecidableEq, Repr

/-- The states of Table 2.14; ABSENT is read from the ordering code and the exclusions (R2, R3). -/
inductive RunState where
  | idle | run | wait | halted | safe
  deriving DecidableEq, Repr

/-- The four waits (R55). -/
inductive WaitKind where
  | line | frame | event | time
  deriving DecidableEq, Repr

/-- A wait in progress: its kind and operand, the TTIME of its issue cycle and of its last cycle, how many frame or
matching line starts have been seen since, and the instant at which its condition first held. -/
structure Wait where
  kind : WaitKind
  arg : Nat
  issued : Nat
  deadline : Nat
  seen : Nat := 0
  metAt : Option Nat := none
  deriving DecidableEq, Repr

/-- A START or RESTART that waits for its frame start, with the TTIME of its 8-tick limit (R66). -/
structure StartReq where
  restart : Bool
  limit : Nat
  deriving DecidableEq, Repr

/-- A pending MARK of sub 0x1: its code and value (R208). -/
structure PendMark where
  code : Nat
  value : Word
  deriving DecidableEq, Repr

/-- One Umber unit (R42 to R67). srcOld is what S_SRCSTAT was before it changed in the cycle before srcCycle, parOld (plus 1) what
parameters were before a write in the cycle before parCycle (R61); ctlWords are the words of its memory that the control side wrote in the
cycle before ctlCycle (R47). -/
structure UnitState where
  regs : Tbl Word := []
  flags : Flags := {}
  stack : List Nat := []
  pc : Nat := 0
  run : RunState := .idle
  start : Option StartReq := none
  bank : Nat := 0
  swapArmed : Bool := false
  wait : Option Wait := none
  stalled : Bool := false
  latTtimeHi : Word := 0
  latFrameHi : Word := 0
  status : Nat := 0
  events : Word := 0
  eventsNew : Word := 0
  eventsCycle : Nat := 0
  timing : Nat := 0xFF
  mbox : List (Word × Nat) := []
  faultCode : Nat := 0
  faultPc : Nat := 0
  faultWord : Word := 0
  faultTtime : Nat := 0
  lastTrap : Option Nat := none
  lastMark : Option Nat := none
  mark : Option PendMark := none
  nextIssue : Nat := 0
  resultAt : Nat := 0
  resultReg : Nat := 0
  lastFrame : Option Nat := none
  lastLine : Option (Nat × Nat) := none
  swapDue : Bool := false
  startDue : Bool := false
  srcOld : Nat := 4
  srcCycle : Nat := 0
  parOld : Tbl Nat := []
  parCycle : Nat := 0
  ctlWords : List Nat := []
  ctlCycle : Nat := 0
  deriving DecidableEq, Repr

/-- A unit after cold reset (R49, Table 2.7). -/
def UnitState.reset : UnitState := {}

/-- An event as it is raised (R28, Table 20.5); the log sequence number is given at the ring. -/
structure Event where
  code : Nat
  sev : Nat
  aon : Bool := false
  kind : Nat
  dev : Nat := 0
  index : Nat
  stamp : Nat
  a0 : Word := 0
  a1 : Word := 0
  a2 : Word := 0
  deriving DecidableEq, Repr

/-- The command a queue is executing (R218 to R220). -/
structure Exec where
  idx : Nat
  nblk : Nat
  cmd : Nat
  tag : Word
  irq : Bool
  stopOnErr : Bool
  deadline : Nat
  deriving DecidableEq, Repr

/-- A LOADP copy in progress (R215). -/
structure Loadp where
  tgt : Nat
  srcInEngine : Bool
  src : Nat
  words : Nat
  crc : Word
  bank : Nat
  arm : Bool
  started : Nat
  deadline : Nat
  deriving DecidableEq, Repr

/-- A SALVO an engine waits for: the destination register, its tag, the salvo's ID, group and target frame (R216). -/
structure SalvoWait where
  vd : Nat
  tag : Word := 0
  id : Nat
  group : Nat
  target : Nat
  deriving DecidableEq, Repr

end Sys2Proof.Machine
end

