-- ==== Sys2Proof/Machine/StVideo.lean ====
section
/-! DEFINITION. State of the video path: flows and stores (chapter 03), outputs, takes and timing groups (chapter 04), conversion (chapter 05), raster, planes and tile groups (chapter 06), and the atomic groups of the command engines (R212). -/

namespace Sys2Proof.Machine

/-- One slot of a store: empty, being written, or committed with the commit number, the TTIME of its input frame start, its signature and
the lines of its ancillary packets (R88, R89, R191). A picture itself is its coded bytes in CXL memory. -/
structure Slot where
  writing : Bool := false
  seq : Nat := 0
  startT : Nat := 0
  commitT : Nat := 0
  sig : Word := 0
  lines : List (Nat × Bool) := []
  deriving DecidableEq, Repr

/-- The detection states of Table 3.5. -/
inductive Det where
  | idle | acquire | locked | unstable | noSignal
  deriving DecidableEq, Repr

/-- A multicast destination a flow reports to, the time by which the report must be sent, and the legs it is due on (R74). -/
structure Igmp where
  due : Option Nat := none
  legs : Nat := 3
  sent : Nat := 0
  deriving DecidableEq, Repr

/-- One ST 2022-7 merge state: extended sequence numbers already seen in the window (R75). -/
structure Merge where
  seen : List Nat := []
  deriving DecidableEq, Repr

/-- A flow context, or the landing store of a remote flow (R78 to R93, R109, R110). `live` holds the lines of the picture as last received,
`anc` the ancillary packets of the frame in progress, `lostSeqs` the RTP packets lost and not yet judged, `absentAcc` and `absentFrom` the time
the reference has been absent since the 3-frame limit began, `dark` that it left LOCKED, `inFrame` a frame begun and not yet judged,
`rxPos` the bytes of the stream taken into a landing slot. -/
structure Flow where
  valid : Bool := false
  releasing : Option Nat := none
  info : Word := 0
  fmt0 : Word := 0
  fmt1 : Word := 0
  fmt2 : Word := 0
  fmtPend : Option (Word × Word × Word) := none
  storeW : Word := 0
  base : Nat := 0
  slotBytes : Nat := 0
  wr : Nat := 0
  merge : Nat := 0
  mergeBase : Option Nat := none
  rateQ : Nat := 0
  sa : Nat := 0
  matchA : Option Nat := none
  matchB : Option Nat := none
  window : Nat := 0
  policy : Word := 0xFF20
  skewMax : Nat := 10
  audioBase : Nat := 0
  audioCount : Nat := 0
  asrc : Bool := false
  playout : Nat := 3
  assoc : Option Nat := none
  det : Det := .idle
  refOk : Bool := false
  lastRef : Nat := 0
  audioT : Nat := 0
  acquireT : Nat := 0
  lastGood : Nat := 0
  bindT : Nat := 0
  good : Nat := 0
  badLast : Bool := false
  partialLinks : Bool := false
  linksUp : Nat := 0
  legAUp : Bool := false
  legBUp : Bool := false
  legALast : Nat := 0
  legBLast : Nat := 0
  mrg : Merge := {}
  aligned : Bool := false
  alignRun : Nat := 0
  alignLead : Int := 0
  alignGroup : Nat := 0xFF
  det0 : Word := 0
  det1 : Word := 0
  det2 : Word := 0
  sig : Word := 0
  slots : List Slot := []
  commitSeq : Nat := 0
  commits : Nat := 0
  lastCommit : Nat := 0
  overflowed : Bool := false
  igmp : Igmp := {}
  landing : Option (Nat × Nat) := none
  prepared : Bool := false
  ready : Bool := false
  lost : Bool := false
  exchange : Option Nat := none
  acked : Bool := false
  route : Nat := 0
  resvRate : Nat := 0
  retryAt : Nat := 0
  failed : Nat := 0
  anc : List AncPkt := []
  live : Tbl (List (List Nat)) := []
  lostSeqs : List Nat := []
  nextSeq : Option Nat := none
  legANoted : Bool := false
  legBNoted : Bool := false
  absentAcc : Nat := 0
  absentFrom : Option Nat := none
  dark : Bool := false
  inFrame : Bool := false
  rxPos : Nat := 0
  deriving DecidableEq, Repr

def Flow.reset : Flow := {}

/-- What a take names (Table 4.1) with the path it has (Table 4.15): kind, path, device and index or pattern; for a
frozen frame also the write charge and the frame rate of the frozen source (R105). -/
structure Source where
  kind : Nat
  path : Nat := 0
  dev : Nat := 0
  idx : Nat := 0
  w : Nat := 0
  fin : Nat := 0
  gone : Bool := false
  deriving DecidableEq, Repr

/-- Black, the source of an output after reset (Table 4.14). -/
def Source.black : Source := { kind := 4 }

/-- A frozen frame whose slot has become empty: the take stands and sends black (R340). -/
def Source.emptied (x : Source) : Source := if x.kind = 5 then { x with gone := true } else x

/-- A take committed and not yet visible (R101 to R105): the switching lines still to come, whether the frame that runs is N+2 of the frame N in
which it was committed, the frame starts seen since its commit, whether it waits for a landing store, the salvo that made it, the tile master whose lines judge it (R166),
whether the output's own program committed it (R66). The charges it
holds are computed from it (R103, R107). -/
structure PendTake where
  src : Source
  commitT : Nat
  swLeft : Nat := 2
  late : Bool := false
  frames : Nat := 0
  remote : Bool := false
  salvo : Option Nat := none
  lines : Option Nat := none
  own : Bool := false
  deriving DecidableEq, Repr

/-- The registers of a conversion set (R120). -/
structure ConvSet where
  ctrl : Word := 0x00015000
  cropOrg : Word := 0
  cropSize : Word := 0
  destOrg : Word := 0
  destSize : Word := 0
  bg : Word := 0x20080040
  colour : Word := 0x01000000
  deriving DecidableEq, Repr

/-- A conversion set committed and not yet current (R120), with the tile geometry a tile-form FMT commits (R166). -/
structure PendConv where
  set : ConvSet
  swLeft : Nat := 2
  geom : Option (Nat × Word × Word × Word × Word) := none
  lines : Option Nat := none
  deriving DecidableEq, Repr

/-- A timing set (R143) as its five register words. -/
structure TimSet where
  h0 : Word := 0
  h1 : Word := 0
  v0 : Word := 0
  v1 : Word := 0
  ctrl : Word := 0xFF
  deriving DecidableEq, Repr

/-- A timing set committed and not yet applied (R149), with the tile master whose latch line captures it (R166). -/
structure PendTim where
  set : TimSet
  commitT : Nat := 0
  due : Option Nat := none
  lines : Option Nat := none
  deriving DecidableEq, Repr

/-- The registers and the base a flip commits (R161). -/
structure PlaneSet where
  ctrl : Word := 0xFF0
  org : Word := 0
  size : Word := 0
  stride : Word := 0
  base : Nat := 0
  deriving DecidableEq, Repr

/-- A flip committed and not yet in effect (R162), with the tile master whose latch line captures it (R166). -/
structure PendFlip where
  set : PlaneSet
  late : Bool := false
  commitT : Nat := 0
  due : Option Nat := none
  lines : Option Nat := none
  deriving DecidableEq, Repr

/-- One graphics plane of an output (R156 to R163): the set in effect, the pending flip, the one captured at the latch line, whether the SAFE
policy BLACK keeps it off (R63, R66). -/
structure Plane where
  cur : PlaneSet := {}
  pend : Option PendFlip := none
  cap : Option PendFlip := none
  stale : Nat := 0
  result : Nat := 0
  sent : List (List Nat) := []
  hid : Bool := false
  deriving DecidableEq, Repr

/-- One ancillary insert slot with its 87 words as bytes are laid out in INS[s] (R193). -/
structure InsSlot where
  valid : Bool := false
  rep : Bool := false
  line : Nat := 0
  did : Nat := 0
  sdid : Nat := 0
  words : List Nat := []
  deriving DecidableEq, Repr

/-- A committed ancillary set (R195): control, timecode load, rules, and the insert slots named. -/
structure AncSet where
  ctrl : Word := 0x100
  tcLoad : Word := 0
  rules : List Word := []
  ins : List (Nat × InsSlot) := []
  deriving DecidableEq, Repr

structure PendAnc where
  set : AncSet
  commitT : Nat := 0
  due : Option Nat := none
  deriving DecidableEq, Repr

/-- The FRC pool standing of an output (R137 to R140). -/
inductive Pool where
  | none | queued | granted | preempted
  deriving DecidableEq, Repr

/-- The two LUT banks of an output (R130, R131), each with the 8-byte entries that were loaded into it. -/
structure Lut where
  active : Nat := 0
  valid0 : Bool := false
  valid1 : Bool := false
  data0 : List Byte := []
  data1 : List Byte := []
  loading : Option Nat := none
  src : Nat := 0
  swapLeft : Option Nat := none
  result : Nat := 0
  deriving DecidableEq, Repr

/-- What an output sent in place of the frame's picture (R63, R86, R93, R105, R150, R151). -/
inductive Shown where
  | picture | black | hold
  deriving DecidableEq, Repr

/-- One output: crosspoint, conversion, raster, planes, detectors and ancillary data. `falls` says why its use of the pool ends at its next
switching line, 0 for not: 1 a preemption before its request was granted anew, 2 a shed or failed pool, 3 its own request (R139, R140); `supply` the mode, plus 1, that its source
could supply when it last fell short (4: enough, R134); `srcNew` and `srcSig` whether the frame shown carries another source frame than the one
before it, and that frame's signature; `sigRows` the sampled places of the lines sent in the frame (R168); `film` the fields that the deinterlacer
weaves (R127); `kept` the source lines last shown by the direct path, which HOLD repeats (R63); `seen` the source shown, which HOLD keeps; `badReads` the line pairs whose read failed in the frame (R337). -/
structure Out where
  cur : Source := Source.black
  taken : Bool := false
  pend : Option PendTake := none
  takeStatus : Nat := 0
  takeRoute : Nat := 0
  takeTtime : Nat := 0
  fallback : Bool := false
  conv : ConvSet := {}
  convPend : Option PendConv := none
  pool : Pool := .none
  units : Nat := 0
  prio : Nat := 0
  victims : List Nat := []
  inUse : Bool := false
  falls : Nat := 0
  overNoted : Bool := false
  lut : Lut := {}
  cadence : Nat := 0
  cadenceRun : Nat := 0
  clipped : Bool := false
  decimate : Bool := false
  frcEff : Nat := 3
  supply : Nat := 4
  tim : TimSet := {}
  hasTim : Bool := false
  timPend : Option PendTim := none
  timCap : Option PendTim := none
  scanning : Bool := false
  group : Nat := 0xFF
  frameT : Nat := 0
  frame : Nat := 0
  transition : Bool := false
  cutWait : Bool := false
  sw : Nat := 0
  swSeen : Bool := false
  latchSeen : Bool := false
  line : Nat := 0
  safe : Option Shown := none
  safeDue : Bool := false
  shown : Shown := .black
  bufLevel : Nat := 0
  urgency : Nat := 0
  sel : Option (Nat × Nat) := none
  selBlack : Bool := true
  selDup : Nat := 0
  held : List Nat := []
  srcNew : Bool := false
  srcSig : Word := 0
  sigRows : Tbl (List (List Nat)) := []
  film : Nat := 0
  kept : Tbl (List (List Nat)) := []
  seen : Source := Source.black
  badReads : List Nat := []
  flipTtime : Nat := 0
  p0 : Plane := {}
  p1 : Plane := {}
  sigOut : Word := 0
  sigSrc : Word := 0
  freezeRun : Nat := 0
  blackRun : Nat := 0
  constRun : Nat := 0
  freeze : Bool := false
  blackDet : Bool := false
  constDet : Bool := false
  checkErr : Bool := false
  anc : AncSet := {}
  ancPend : Option PendAnc := none
  ancCap : Option PendAnc := none
  tc : Word := 0
  tcOn : Bool := false
  tcSub : Nat := 0
  salvo : Option Nat := none
  grpHold : Option Nat := none
  muted : Bool := false
  sent : List (List Nat) := []
  resume : Bool := false
  deriving DecidableEq, Repr

def Out.reset : Out := {}

/-- One timing group (R113 to R116): enabled and waiting for its source, the epoch, the frame count, the latest start, the output whose
lines a command engine sees in the frame (R41). -/
structure TGroup where
  waiting : Option Nat := none
  fixed : Bool := false
  epoch : Int := 0
  fixT : Nat := 0
  running : Bool := false
  free : Bool := false
  frame : Nat := 0
  lastStart : Nat := 0
  liner : Option Nat := none
  deriving DecidableEq, Repr

def TGroup.reset : TGroup := {}

/-- One tile group (R164, R165): whether its enable is in effect, and the current geometry. -/
structure Tile where
  on : Bool := false
  change : Option Bool := none
  cropOrg : Word := 0
  cropSize : Word := 0
  destOrg : Word := 0
  destSize : Word := 0
  deriving DecidableEq, Repr

def Tile.reset : Tile := {}

/-- One port: received payload IDs, the detected class and level B, the links with timing references, the largest skew of the last frame and of
the current one, the links missing at some line of the current frame (R72), those that brought a payload ID in it, the position each link's
payload ID names (R71), timing, the receive checks (chapter 03), whether its lanes wait unpowered for a synthesiser (R324). -/
structure Port where
  payload : List Word := []
  cls : Nat := 0
  lvlB : Bool := false
  trsOk : Nat := 0
  skew : Nat := 0
  skewNow : Nat := 0
  missing : Nat := 0
  pids : Nat := 0
  linkNo : List Nat := []
  line : Nat := 0
  table : Tbl (List Word) := []
  frame : Nat := 0
  vTotal : Nat := 0
  shedHold : Bool := false
  txOff : Bool := false
  synWait : Bool := false
  deriving DecidableEq, Repr

def Port.reset : Port := {}

/-- A channel map in an atomic group or pending at its switch point (R185, R186). -/
structure AmapReq where
  oc : Nat
  count : Nat
  kind : Nat
  src : Nat
  ref : Nat
  deriving DecidableEq, Repr

/-- An accepted member of an atomic group, holding its charges until COMMIT (R212, R213). -/
inductive Member where
  | take (n : Nat) (p : PendTake)
  | flip (n plane : Nat) (p : PendFlip)
  | tset (n : Nat) (p : PendTim)
  | fmt (n : Nat) (p : PendConv)
  | amap (r : AmapReq)
  | axf (oc count : Nat) (xf : Word)
  | anc (n : Nat) (p : PendAnc)
  | ffmt (f : Nat) (w0 w1 w2 : Word)
  deriving DecidableEq, Repr

/-- An atomic group of a command engine (R212, R213). -/
structure Group where
  members : List Member := []
  count : Nat := 0
  failed : Bool := false
  deadline : Nat := 0
  expired : Bool := false
  deriving DecidableEq, Repr

/-- One command engine's queue and block state (R217 to R222). -/
structure Ce where
  qstate : Nat := 0
  sqHead : Nat := 0
  sqTail : Nat := 0
  cqTail : Nat := 0
  cqHead : Nat := 0
  waitCq : Bool := false
  partialAt : Option Nat := none
  enableAt : Option Nat := none
  exec : Option Exec := none
  grp : Option Group := none
  groupFail : Word := 0
  loadp : Option Loadp := none
  salvo : Option SalvoWait := none
  deriving DecidableEq, Repr

def Ce.reset : Ce := {}

end Sys2Proof.Machine
end

