-- ==== Sys2Proof/Machine/StAudio.lean ====
section
/-! DEFINITION. State of the audio matrix (chapter 07): output channels with their crossfades, ramps and delay taps, input channels, the AES pairs. -/

namespace Sys2Proof.Machine

/-- A source of a running crossfade with the weight, in 1/65,536, at which it stands (R187, R188); where its input channel has been freed, the
sample at which its loss ramp starts (R176). -/
structure Fading where
  src : Nat
  weight : Nat
  freed : Option Nat := none
  deriving DecidableEq, Repr

/-- A channel map pending at its switch point (R185): the source code, the reference output (0xFE for none), the switching
lines still to come, and the instant at or after which its switch point falls: that of the last of those lines, or the instant
of Table 7.3 where no line decides it. -/
structure PendMap where
  src : Nat
  ref : Nat
  swLeft : Nat := 2
  fromT : Option Nat := none
  deriving DecidableEq, Repr

/-- One output channel (R184 to R189): its source code, the input channel a follow source stands at (0x2000 silence), a
crossfade from its outgoing sources started at a matrix sample, the input channel it stood at that has been freed with the sample at which its loss
ramp starts, the instant from which its follow source changes; where the gain ramp and the mute ramp started, at which sample; a crossfade between
delay taps; the sample from which its delay reads fail, and that from which they bring samples again. -/
structure Oc where
  src : Nat := 0x2000
  heard : Nat := 0x2000
  pend : Option PendMap := none
  outgoing : List Fading := []
  fadeStart : Nat := 0
  fadeShape : Nat := 0
  fadeLen : Nat := 0
  gone : Option (Nat × Nat) := none
  followDue : Option Nat := none
  gainFrom : Nat := 2 ^ 24
  gainStart : Nat := 0
  muteFrom : Nat := 65536
  muteStart : Nat := 0
  tapOld : Nat := 0
  tapStart : Nat := 0
  tapShape : Nat := 0
  tapLen : Nat := 0
  tapFail : Option Nat := none
  tapBack : Option Nat := none
  deriving DecidableEq, Repr

def Oc.reset : Oc := {}

/-- One input channel (R176, Table 7.8): source kind, ASRC, non-PCM, good (0) or lost (1), its place in its flow, muted; the TTIME at
which it last became heard or unheard and its level then, in 1/65,536, from which its ramp of 1 ms runs (R181). -/
structure Ic where
  valid : Bool := false
  source : Nat := 0
  asrc : Bool := false
  nonPcm : Bool := false
  state : Nat := 0
  chan : Nat := 0
  flow : Nat := 0
  muted : Bool := false
  since : Nat := 0
  level : Nat := 0
  deriving DecidableEq, Repr

def Ic.reset : Ic := {}

/-- One AES_IN pair (R196). -/
structure Aes where
  lock : Bool := false
  nonPcm : Bool := false
  rate : Nat := 0
  deriving DecidableEq, Repr

def Aes.reset : Aes := {}

/-- The audio matrix. -/
structure Audio where
  ocs : Tbl Oc := []
  ics : Tbl Ic := []
  aes : Tbl Aes := []
  deriving DecidableEq, Repr

end Sys2Proof.Machine
end

