-- ==== Sys2Proof/Machine/StStack.lean ====
section
/-! DEFINITION. State of the stacking fabric (chapter 11) and the record of what the block sends to the outside. -/

namespace Sys2Proof.Machine

/-- A message the block has sent: a kind, the place it leaves by (a link, a port, a route, a vector), its destination and its
values. The record of these is the model's own field: it shows at the boundary what the block did. -/
structure OutMsg where
  kind : String
  via : Nat := 0
  dst : Nat := 0
  args : List Nat := []
  deriving DecidableEq, Repr

/-- A candidate heard in ANNOUNCE: its ID and flags, its known master and hops, the TTIME at which it was heard, its link. -/
structure Heard where
  id : Nat
  fabric : Bool
  capable : Bool
  standby : Bool
  master : Nat
  hops : Nat
  t : Nat
  link : Nat
  deriving DecidableEq, Repr

/-- A reservation of a remote flow (source device and flow) towards a taker on a link, in the transmit direction (R108, R275): its
rate in Mb/s, the route, the links of this hop already tried, the link the request came by. -/
structure Resv where
  link : Nat
  dev : Nat
  flow : Nat
  dst : Nat
  out : Nat := 0
  mbps : Nat
  route : Nat := 0
  tried : List Nat := []
  up : Option Nat := none
  deriving DecidableEq, Repr

/-- An export of a flow of this device towards a taker (R109). -/
structure Export where
  flow : Nat
  dev : Nat
  out : Nat := 0
  route : Nat := 0
  mbps : Nat := 0
  running : Bool := false
  deriving DecidableEq, Repr

/-- A stack control message as received (Table 11.3): the link and the TTIME it came by, and its fields. -/
structure StkMsg where
  link : Nat
  t : Nat
  dst : Nat
  src : Nat
  type : Nat
  rh : Nat
  seq : Nat
  pay : List Nat
  deriving DecidableEq, Repr

/-- A staged routing entry (R276). -/
structure StagedRoute where
  d : Nat
  w0 : Word
  w1 : Word
  version : Nat
  deriving DecidableEq, Repr

/-- The phase of a salvo at a participant (R282 to R287): collecting its entries, its exchanges running, READY answered, COMMIT held,
its takes committed at T, its hold released after a commit. -/
inductive PartPhase where
  | gathering | preparing | ready | committed | taken | released
  deriving DecidableEq, Repr

/-- One entry of a salvo at a participant: the output, its source word, the checked take, the source it showed before, whether a
fault of its sequencer discarded the take (R288), whether its compensating take is committed (R285). -/
structure SalvoOut where
  out : Nat
  word : Word
  take : Option PendTake := none
  pre : Source := Source.black
  faulted : Bool := false
  undone : Bool := false
  deriving DecidableEq, Repr

/-- A salvo at a participant: its ID, the master that prepared it, its target frame T and group, its entries; whether it aborted
locally (split), acknowledged, holds a COMP; whether its master was not the system master at the last change before T + 1 (orphan, R288). -/
structure Part where
  id : Nat
  master : Nat
  frame : Nat
  group : Nat
  count : Nat
  phase : PartPhase := .gathering
  outs : List SalvoOut := []
  split : Bool := false
  acked : Bool := false
  comp : Bool := false
  orphan : Bool := false
  deriving DecidableEq, Repr

/-- One participant as the master sees it: its ID, its answer (0 none, 1 READY, 2 REFUSE), its acknowledgement
(0 none, 1 COMMITTED, 2 LOCAL_ABORT, 3 FAULT). -/
structure Answer where
  dev : Nat
  answer : Nat := 0
  ack : Nat := 0
  deriving DecidableEq, Repr

/-- A salvo at the master (R281 to R285). -/
structure Salvo where
  id : Nat
  issuer : Nat
  frame : Nat
  group : Nat
  deadline : Nat
  tag : Word := 0
  entries : List (Nat × Nat × Word) := []
  whole : Bool := false
  answers : List Answer := []
  decided : Option Bool := none
  closed : Bool := false
  deriving DecidableEq, Repr

/-- The stacking fabric as this device holds it; rx holds stack messages received and not yet judged, inbox those accepted and not
yet acted on. -/
structure Stk where
  role : Nat := 0
  msgSeq : Nat := 0
  salvoSeq : Nat := 0
  seen : List (Nat × List Nat) := []
  heard : List Heard := []
  master : Option Nat := none
  staged : List StagedRoute := []
  commit : Option (Nat × Nat) := none
  loaded : Bool := false
  lastTime : Option Nat := none
  timeOfs : Int := 0
  delays : Tbl Nat := []
  reqSent : Tbl Nat := []
  resvs : List Resv := []
  exports : List Export := []
  salvos : List Salvo := []
  parts : List Part := []
  dupIds : List Nat := []
  rx : List (Nat × Nat × List Nat) := []
  inbox : List StkMsg := []
  version : Nat := 0
  deriving DecidableEq, Repr

end Sys2Proof.Machine
end

