-- ==== Sys2Proof/Machine/StTwin.lean ====
section
/-! DEFINITION. State of the twin function (chapter 12). -/

namespace Sys2Proof.Machine

/-- The states of Table 12.2; ABSENT is read from the ordering code (R292). -/
inductive TwinPhase where
  | disabled | solo | auth | copy | sync | paired
  deriving DecidableEq, Repr

/-- The twin function: its state and role, the role epoch, what the last heartbeat and the contacts show, the mirror queue,
a planned switchover in progress, the outputs whose role change is still to come (R296 to R302), what a demoted module has received of its
full copy; the reference that the ACTIVE has selected (R299). -/
structure Twin where
  phase : TwinPhase := .disabled
  standby : Bool := false
  source : Bool := false
  epoch : Nat := 0
  cause : Nat := 0
  peerPresent : Bool := false
  force : Bool := false
  peerForce : Bool := false
  peerSolo : Bool := false
  peerIdle : Bool := false
  phaseT : Nat := 0
  lastHb : Option Nat := none
  lossNoted : Bool := false
  downSince : Option Nat := none
  mirrorQ : Nat := 0
  planned : Option Nat := none
  switchAt : Option Nat := none
  roleDue : List Nat := []
  recopy : Bool := false
  copied : List (Nat × MirrorOp) := []
  refSel : Option Nat := none
  certSerial : Nat := 0
  trigger : Nat := 0
  deriving DecidableEq, Repr

end Sys2Proof.Machine
end

