-- ==== Sys2Proof/Machine/StMadder.lean ====
section
/-! DEFINITION. State of Madder (chapter 13): the synthesisers. -/

namespace Sys2Proof.Machine

/-- One synthesiser (R324): the family it runs (0 free, 1 SDI-I, 2 SDI-M, 3 E10, 4 E25, 5 P53) and who uses it: n for
output n, 64 + n for a timing set of output n committed and not applied, 128 + n and 192 + n for port n. -/
structure Syn where
  family : Nat := 0
  users : List Nat := []
  deriving DecidableEq, Repr

def Syn.reset : Syn := {}

end Sys2Proof.Machine
end

