-- ==== Sys2Proof/Machine/StLane.lean ====
section
/-! DEFINITION. State of the serial lanes and RSL links (chapter 10). A lane is numbered as its single-lane link: SL(4g + k) is 4g + k, ML(4n + k) is 32 + 4n + k (Table 11.2). -/

namespace Sys2Proof.Machine

/-- The states of Table 10.3, and TEST (R263); ABSENT is read from the ordering code. -/
inductive LaneState where
  | disabled | detect | train | negotiate | step | verify | active | backoff | down | l1 | l2 | test
  deriving DecidableEq, Repr

/-- A configuration agreed for a lane (CFG, R255): rate, lane mask, precoding, detect-only FEC, cipher. -/
structure LinkCfg where
  rate : Nat
  mask : Nat
  precode : Bool
  detectOnly : Bool
  cipher : Bool
  deriving DecidableEq, Repr

/-- One lane: its bring-up state with the phase deadline or the end of its back-off, its rate (7 training), what it has exchanged
with its partner, its failures, its detectors, the pattern checker and a pending injection (R247 to R264). For SDI and Ethernet
lanes only cdr is used (R261). -/
structure Lane where
  state : LaneState := .disabled
  deadline : Nat := 0
  rate : Nat := 7
  comma : Bool := false
  cdr : Bool := false
  sigDet : Bool := false
  eqBound : Bool := false
  fails : Nat := 0
  lastFail : Nat := 0
  lossDue : Bool := false
  partner : Nat := 0
  cfg : Option LinkCfg := none
  stepTo : Option Nat := none
  doneTx : Bool := false
  doneRx : Bool := false
  verifyT : Nat := 0
  vresOwn : Option Bool := none
  vresPeer : Option Bool := none
  joinAt : Option Nat := none
  unanswered : Option (List Nat × Nat) := none
  injPending : Bool := false
  chkLock : Bool := false
  skew : Nat := 0
  deriving DecidableEq, Repr

def Lane.reset : Lane := {}

/-- One link (R256, R262): the lanes that carry traffic, the rate and options of its first lane, its partner, whether it is DOWN,
its power state (0 L0, 1 L1, 2 L2), a power state requested (1 or 2) and not yet answered, the TTIME of its last media block. -/
structure Link where
  lanes : List Nat := []
  rate : Nat := 0
  precode : Bool := false
  cipher : Bool := false
  detectOnly : Bool := false
  partner : Nat := 0
  down : Bool := false
  power : Nat := 0
  asked : Option (Nat × Nat) := none
  lastMedia : Nat := 0
  deriving DecidableEq, Repr

def Link.reset : Link := {}

/-- The lanes and links, and the link messages (Table 10.4) received and not yet acted on: the lane, and the 20 bytes. -/
structure Lanes where
  lane : Tbl Lane := []
  link : Tbl Link := []
  msgs : List (Nat × List Nat) := []
  deriving DecidableEq, Repr

end Sys2Proof.Machine
end

