-- ==== Sys2Proof/Machine/StHost.lean ====
section
/-! DEFINITION. State of the event log, the GPIO pins, the control crossbar and the host interfaces (chapters 19 and 20). -/

namespace Sys2Proof.Machine

/-- The log ring of 4,096 entries of eight words, the last sequence number, the pins events hold high, the filtered pin levels
(R452 to R456). -/
structure EvLog where
  ring : Tbl (List Word) := []
  seq : Nat := 0
  held : Nat := 0
  pins : Nat := 0
  setCycle : Nat := 0
  setMsix : Nat := 0
  setAlarm : Nat := 0
  setGpio : Nat := 0
  deriving DecidableEq, Repr

/-- A transaction outstanding at a master: target, address, write, burst beats asked and delivered, granted, accepted (R428, R433); the class of
its master when it was issued (R430), and of an engine's the word that it writes or the register that it reads into. -/
structure Xact where
  target : Nat
  addr : Nat
  write : Bool
  beats : Nat := 1
  delivered : Nat := 0
  granted : Bool := false
  issued : Nat := 0
  cls : Nat := 0
  data : Word := 0
  dst : VReg := 0
  deriving DecidableEq, Repr

/-- What the table of transactions holds for a master with none: a target that does not exist. -/
def Xact.none : Xact := { target := 32, addr := 0, write := false }

/-- The crossbar and the slow host ports: masters in reset, outstanding transactions, parked masters, the SMBus port, the TAP,
the PCIe link; the instant at which the console's output buffer will be empty, in 1/115200 of a CLK_D period (R440). -/
structure Xbar where
  inReset : Nat := 0
  xacts : Tbl Xact := []
  parked : Tbl Nat := []
  smbAddr : Nat := 0
  smbArm : Option Nat := none
  pcieUp : Bool := false
  pcieWidth : Nat := 0
  pcieRate : Nat := 0
  uartEnd : Nat := 0
  deriving DecidableEq, Repr

end Sys2Proof.Machine
end

