-- ==== Sys2Proof/Machine/StBulk.lean ====
section
/-! DEFINITION. State of the Ochre bulk engines (R238 to R243). -/

namespace Sys2Proof.Machine

/-- The format of a fixed-ratio stream: ratio, sampling (0 4:2:2, 1 4:4:4, 2 RGB), depth code, pixels per line. -/
structure FixFmt where
  ratio : Nat
  sampling : Nat
  depth : Nat
  width : Nat
  deriving DecidableEq, Repr

/-- The open stream of a bulk engine (R241): its OP and format; the input taken and not yet coded, from the start of the current line
pair or block; the current pair's number, how many of its blocks are placed, and their bytes; how many input bytes are in placed units
and how many have been taken, from START; for lossless streams the running CRC-32C, the place of the header written, the header read
(LENGTH, CHECK), and the bytes expanded. -/
structure ObStream where
  op : Nat
  fmt : FixFmt
  buf : List Byte := []
  pair : Nat := 0
  placed : Nat := 0
  body : List Byte := []
  coded : Nat := 0
  total : Nat := 0
  crc : Nat := 0xFFFFFFFF
  hdrAt : Option Nat := none
  hdr : Option (Nat × Nat) := none
  outLen : Nat := 0
  deriving DecidableEq, Repr

/-- One bulk engine: the TTIME at which the running job started, the open stream, the status of the last job. -/
structure Ob where
  started : Option Nat := none
  stream : Option ObStream := none
  last : Nat := 0
  deriving DecidableEq, Repr

def Ob.reset : Ob := {}

end Sys2Proof.Machine
end

