-- ==== Sys2Proof/Machine/StVault.lean ====
section
/-! DEFINITION. State of Saffron (chapter 18), of Woad and of the tamper circuits (chapter 17). -/

namespace Sys2Proof.Machine

/-- What lands with the commit point of a piece (R409, R416): a host record, a step of a Woad record commit, a new BP, the end of a
reseal, a page moved by wear levelling. -/
inductive PieceEnd where
  | plain
  | record (type idx : Nat) (copyB : Bool)
  | woadA (slot : Nat)
  | woadB (slot : Nat)
  | bp (v : Nat)
  | reseal
  deriving DecidableEq, Repr

/-- A piece being committed: the images of its logical pages (R408). -/
structure Piece where
  pages : List (Nat × List Byte)
  fin : PieceEnd := .plain
  worn : Bool := false
  deriving DecidableEq, Repr

/-- What the journal's older valid entry would give beside the contents: mapping, spares and BP (R409, R421). -/
structure NvMap where
  map : Tbl Nat
  spares : List Nat
  bp : Nat
  deriving DecidableEq, Repr

/-- The spare pages after the factory (R404). -/
def nvSpares : List Nat := List.range' 2048 48

/-- Saffron beside its contents: the physical page of a logical page where it has moved (plus 1), write counts of
physical pages, the spare pool, pages retired, the journal's older entry; the gather buffer, pieces being committed; block
protection, records with TIE, sectors that do not correct, what has been noted; the fault log's head and page number; the sealing
keys; the BP challenge. `state` is STATUS.STATE but for COMMITTING and LOCKED. -/
structure Saffron where
  map : Tbl Nat := []
  wear : Tbl Nat := []
  spares : List Nat := nvSpares
  retired : Nat := 0
  older : Option NvMap := none
  images : Tbl (List Byte) := []
  pieces : List Piece := []
  torn : Bool := false
  bp : Nat := 0
  ties : List (Nat × Nat) := []
  lost : List (Nat × Nat) := []
  bad : List Nat := []
  wearNoted : Bool := false
  spareNoted : Bool := false
  state : Nat := 0
  logHead : Nat := 0
  logSeq : Nat := 0
  sealKey : List Byte := []
  prevSeal : Option (List Byte) := none
  chal : Option (List Byte × Nat) := none
  chalFrom : Nat := 0
  deriving DecidableEq, Repr

/-- A committed key (Table 17.1). -/
structure Slot17 where
  attr : Word := 0
  kcv : Nat := 0
  key : List Byte := []
  pub : List Byte := []
  uses : Nat := 0
  noted : Bool := false
  deriving DecidableEq, Repr

def Slot17.reset : Slot17 := {}

/-- A staged key: its slot, attributes, key, the check value expected, whether it passed VERIFY, the TTIME at which it expires (R386). -/
structure Shadow where
  slot : Nat
  attr : Word
  key : List Byte
  pub : List Byte
  expect : Nat
  verified : Bool := false
  expires : Nat := 0
  deriving DecidableEq, Repr

/-- A record commit of Woad in progress: the command (3 COMMIT, 5 ERASE, 6 ATTR, 0 the use count), its slot, what the slot holds
after it, whether copy A has landed, its limit. -/
structure WoadOp where
  op : Nat
  slot : Nat
  new : Slot17
  copyA : Bool := false
  limit : Nat := 0
  deriving DecidableEq, Repr

/-- Woad: the slots, the staged key, a record commit in progress, whether the vault is sealed, the provisioning fuse, the tamper KEK
(empty where it is lost), the keys engines hold: of the cipher links, of each CXL port and the one on its way to it; of each slot the MACsec association
number in use and whether receive still accepts the one before (R390). -/
structure Woad where
  slots : Tbl Slot17 := []
  shadow : Option Shadow := none
  op : Option WoadOp := none
  vaultShut : Bool := false
  prov : Bool := false
  tamperKek : List Byte := []
  kekLost : Bool := false
  live : Bool := false
  saved : Bool := false
  rslKey : List Byte := []
  ideKeys : Tbl (List Byte) := []
  ideNext : Tbl (List Byte) := []
  macAn : Tbl (Nat × Bool) := []
  deriving DecidableEq, Repr

/-- The tamper circuits of the always-on domain (R392 to R398): sources alarming now, the latched causes, the unlock challenge. -/
structure Tamper where
  current : Nat := 0
  latched : Bool := false
  chal : Option (List Byte × Nat) := none
  chalFrom : Nat := 0
  status : Nat := 0
  deriving DecidableEq, Repr

end Sys2Proof.Machine
end

