-- ==== Sys2Proof/Machine/StSys.lean ====
section
/-! DEFINITION. State of power entry (chapter 15), start-up and attestation (chapter 16), CXL memory (chapter 14), Madder (chapter 13) and health (chapter 20). -/

namespace Sys2Proof.Machine

/-- Power entry and states (chapter 15). state is 0 OFF, else the encoding of STATE_REQ, 8 in the power-up sequence and in a shutdown; a change between
the powered states has its target, the outputs that have still to stop scanning and the end of their time; the domains switched in the latest tick
that switched any. -/
structure Pwr where
  state : Nat := 0
  acOk : Bool := false
  dcOk : Bool := false
  source : Nat := 0
  pwrEn : Bool := false
  ioGood : Bool := false
  pwrGood : Bool := false
  vhost33 : Bool := false
  upStep : Option Nat := none
  ride : Bool := false
  failT : Nat := 0
  shut : Option Nat := none
  cause : Nat := 0
  lastCause : Nat := 0
  needEdge : Bool := false
  needCool : Bool := false
  shutT : Nat := 0
  target : Nat := 0
  stopOuts : List Nat := []
  stopBy : Nat := 0
  switched : Nat × Nat := (0, 0)
  domOn : Nat := 0
  domShed : Nat := 0
  idleT : Tbl Nat := []
  overT : Option Nat := none
  ceil : Bool := false
  rails : Nat := 0
  railFault : Nat := 0
  avsCode : Tbl Nat := []
  avsHigh : Nat := 0
  avsLow : Nat := 0
  kept : List (Nat × Bool) := []
  keptScan : List Nat := []
  vbatOk : Bool := true
  heldCold : Bool := false
  deriving DecidableEq, Repr

/-- Start-up (chapter 16). stage is BOOT_STATUS.STAGE; the fuses are burned bits; the sources still to try; when the
source in use times out; the attestation in progress with what its digests cover; floating straps and the alarm for a push. -/
structure Boot where
  stage : Nat := 0
  lastErr : Nat := 0
  src : Nat := 0
  slotB : Bool := false
  bootSel : Nat := 0
  rest : List (Nat × Bool) := []
  strapBad : Bool := false
  image : List Byte := []
  rollback : Nat := 0
  keyIndex : Nat := 0
  build : Nat := 0
  fuses : Nat := 0
  revoked : Nat := 0
  rbRecord : Nat := 0
  pref : Nat := 0
  pushT : Option Nat := none
  attest : Option (Nat × Nat) := none
  attProg : Memory := []
  attNv : Memory := []
  attBanks : List Nat := []
  reportOk : Bool := false
  attestStatus : Nat := 0
  lastService : Nat := 0
  ready : Bool := false
  strapFloat : Bool := false
  pushAlarm : Bool := false
  deriving DecidableEq, Repr

/-- One CXL port (chapter 14): LINK's encoding, the cause of exclusion, link IDE, trained width, capacity, since when it is down. -/
structure CxPort where
  link : Nat := 0
  cause : Nat := 0
  ide : Bool := false
  width : Nat := 0
  cap : Nat := 0
  downT : Option Nat := none
  checked : Bool := false
  deriving DecidableEq, Repr

def CxPort.reset : CxPort := {}

/-- One candidate (chapter 13): its status code of Table 13.11, activity, frequency in 0.001 ppm, phase in 1/256 cycles before folding, ticks
of ACCEPT_T left, ticks outside REJECT, ticks apart from the selected candidate, its detected format, pulse rate and latest pulse; for
PTP and STK the TTIME of the latest accepted Sync, TIME or pulse with the time after which it times out, the same of Announce, and
the offset of PTP time (seconds, nanoseconds, 1/65,536 ns) and the TTIME for which it holds. -/
structure Cand where
  st : Nat := 0
  active : Bool := false
  freq : Int := 0
  phase : Int := 0
  qtime : Nat := 0
  rejRun : Nat := 0
  apartRun : Nat := 0
  fmt : Nat := 0
  pulseRate : Nat := 0
  pulse : Option Nat := none
  good : Option (Nat × Nat) := none
  announce : Option (Nat × Nat) := none
  ofs : Option (Int × Nat × Nat) := none
  ofsT : Nat := 0
  deriving DecidableEq, Repr

def Cand.reset : Cand := {}

/-- One frame-pulse input: the latest two pulses, and whether the latest was accepted (R319). -/
structure FpIn where
  last : Option Nat := none
  prev : Option Nat := none
  accepted : Bool := false
  deriving DecidableEq, Repr

def FpIn.reset : FpIn := {}

/-- One frame-pulse output (R320): enabled since, its epoch and the instant from which it counts, the offset in effect, its latest pulse,
free running or on the flywheel. -/
structure FpOut where
  since : Option Nat := none
  epoch : Option Nat := none
  fixT : Nat := 0
  ofs : Int := 0
  last : Option Nat := none
  free : Bool := false
  flywheel : Bool := false
  deriving DecidableEq, Repr

def FpOut.reset : FpOut := {}

/-- A phase slope in progress (R315): the phase to move in 1/256 cycles, when it began and when it ends, the slope S in ns/s,
whether the target is lost, and the selection that falls due when it completes (some 15: the best one). -/
structure Slope where
  e : Int
  start : Nat
  stop : Nat
  rate : Nat
  lost : Bool := false
  due : Option Nat := none
  deriving DecidableEq, Repr

/-- Madder: the state of Table 13.5 (7 not started), selected and pending candidates (15 none), the end of wait to restore, the pair that
disagrees with the candidate demoted (15 none), the lock offset and whether it is captured, the frequency words of LOCKED ticks newest
first, the slope in progress, ticks within 50 ns, when ACQUIRE began, the frequency word in effect, one written and not yet in effect,
when FCW was last written, the holdover value, LOCAL's activity, the latched phase sample. -/
structure Madder where
  st : Nat := 7
  sel : Nat := 15
  pend : Nat := 15
  wtrAt : Option Nat := none
  disagree : Option (Nat × Nat × Nat) := none
  backRun : Nat := 0
  captured : Bool := false
  lockOfs : Int := 0
  hist : List Int := []
  histValid : Bool := false
  slope : Option Slope := none
  okTicks : Nat := 0
  acqT : Nat := 0
  fcw : Int := 0
  fcwNext : Option Int := none
  fcwT : Nat := 0
  hold : Int := 0
  afterSoft : Bool := false
  localOk : Bool := true
  localT : Nat := 0
  pdSeq : Nat := 0
  pdSample : Int := 0
  pdCand : Nat := 15
  pdValid : Bool := false
  cands : Tbl Cand := []
  fpIn : Tbl FpIn := []
  fpOut : Tbl FpOut := []
  ptpOfs : Option (Int × Nat × Nat) := none
  deriving DecidableEq, Repr

/-- One monitor (R446, R447): the last accepted samples, newest first, consecutive discards, consecutive acceptances while FAILED, whether
it is FAILED, its level (1 WARN, 2 CRIT, 3 TRIP). -/
structure Monitor where
  samples : List Int := []
  discards : Nat := 0
  accepts : Nat := 0
  failed : Bool := false
  level : Nat := 0
  deriving DecidableEq, Repr

def Monitor.reset : Monitor := {}

/-- Health (R445 to R451, R460, R490): monitors; the thermal ceiling and whether its drop has been noted; the entries of the shed order
applied, latest first, when the last step was, since when restoration is allowed, exhaustion; a cold baseplate, since when it is back, and one
that holds power-up noted; since when the mounting faces differ; ticks of a second above 85 and 105 °C. -/
structure Health where
  mons : Tbl Monitor := []
  ceiling : Nat := 600
  derated : Bool := false
  applied : List Nat := []
  lastStep : Option Nat := none
  calmT : Option Nat := none
  exhausted : Bool := false
  cold : Bool := false
  coldBack : Option Nat := none
  mountT : Option Nat := none
  mountNoted : Bool := false
  t85 : Nat := 0
  t105 : Nat := 0
  deriving DecidableEq, Repr

end Sys2Proof.Machine
end

