-- ==== Sys2Proof/Machine/State.lean ====
section
/-! DEFINITION. The state of the module, its faults and refusals, and the state after reset. -/

namespace Sys2Proof.Machine

/-- Faults of the model. No command raises any: the spec answers every misuse of the block with a status, an event, a counter or a crossbar
response, and those are effects on the state; a fault of an Umber unit is one of them (R62). -/
inductive Fault where
  deriving DecidableEq, Repr

/-- Refusals of the model. -/
inductive Refusal where
  /-- A command whose meaning is not written; the arm of exec raises it. Safe: the model stops. No arm of this model does. -/
  | notModelled (mnemonic : String)
  deriving DecidableEq, Repr

/-- The memories of the module: the program memories by control address (R45); the management SRAM by offset in its window (Table 8.11); CXL
memory by population byte (chapter 14); the committed contents of Saffron by logical byte (R404), and those of the journal's older
entry (R409, R421), which count while `saff.older` is there. -/
structure Mems where
  prog : Memory := []
  sram : Memory := []
  cxl : Memory := []
  nv : Memory := []
  nvOld : Memory := []
  deriving DecidableEq, Repr

/-- The whole module. `pending`, `freeCtr`, `sent` and what waits in `stk.rx`, `stk.inbox` and `ser.msgs` are the model's own fields; the rest
is the spec's. INVENTORY.md lists every field with its rule and its reset value. -/
structure State where
  /-- Commands waiting, first in, first out: the model's own. -/
  pending : List Instr := []
  /-- TTIME in CLK_D periods (R20). -/
  ttime : Nat := 0
  /-- The tick boundaries whose loops have run, as the number of the last of them (R21). -/
  ticks : Nat := 0
  /-- The latest rejected write: its management cycle and its master (R37). -/
  rejLast : Option (Nat × Nat) := none
  /-- How many free values have been used: the model's own (log entry 3). -/
  freeCtr : Nat := 0
  /-- The ordering code: 0 TY-64, 1 TY-48, 2 TY-32 (Table 0.1). -/
  variant : Nat := 0
  /-- DEVID as sampled (R467). -/
  devId : Nat := 0
  /-- Stored registers by control address; an unlisted one holds its reset value (R12). -/
  regs : Tbl Word := []
  /-- Live counters by control address (R27). -/
  ctr : Tbl Nat := []
  /-- The counters as copied at the last tick boundary (R27). -/
  snap : Tbl Nat := []
  /-- High halves held for a master until it reads them (R27, R116). -/
  frozen : Tbl Nat := []
  /-- TTIME as captured for a master (R24). -/
  capT : Tbl Nat := []
  /-- Events raised and not yet in the log ring, in the order of R28. -/
  raised : List Event := []
  /-- When a limited event was last raised, for each key (R14, R452). -/
  lastRaise : Tbl Nat := []
  /-- The Umber units (chapter 02). -/
  units : Tbl UnitState := []
  /-- The queues and groups of the command engines (chapter 08). -/
  ces : Tbl Ce := []
  /-- The memories. -/
  mem : Mems := {}
  /-- The CXL heap: base, size, whether the host allocated it (R333). -/
  heap : List (Nat × Nat × Bool) := []
  /-- The CXL ports of the interleave set, as bits (R327). -/
  cxlSet : Nat := 0
  /-- The CXL population in GiB (R328). -/
  popGib : Nat := 0
  /-- The ports (chapter 03). -/
  ports : Tbl Port := []
  /-- Flow contexts and landing stores (chapter 03). -/
  flows : Tbl Flow := []
  /-- The outputs (chapters 04 to 07). -/
  outs : Tbl Out := []
  /-- The timing groups (R113). -/
  groups : Tbl TGroup := []
  /-- The tile groups (R164). -/
  tiles : Tbl Tile := []
  /-- FRC pools shed, as bits (R450). -/
  poolShed : Nat := 0
  /-- FRC pools that failed and have not returned, as bits (R140). -/
  poolLost : Nat := 0
  /-- The audio matrix (chapter 07). -/
  audio : Audio := {}
  /-- The stacking fabric (chapter 11). -/
  stk : Stk := {}
  /-- The twin function (chapter 12). -/
  twin : Twin := {}
  /-- The synthesisers (R324). -/
  syns : Tbl Syn := []
  /-- The serial lanes and links (chapter 10). -/
  ser : Lanes := {}
  /-- The bulk engines (chapter 09). -/
  obs : Tbl Ob := []
  /-- The non-volatile store (chapter 18). -/
  saff : Saffron := {}
  /-- The key vault (chapter 17). -/
  woad : Woad := {}
  /-- The tamper circuits (chapter 17). -/
  tamper : Tamper := {}
  /-- Power entry and domains (chapter 15). -/
  pwr : Pwr := {}
  /-- Start-up and attestation (chapter 16). -/
  boot : Boot := {}
  /-- The CXL ports (chapter 14). -/
  cx : Tbl CxPort := []
  /-- A relayout of the CXL population in progress (R341). -/
  cxlRebuild : Bool := false
  /-- CXL memory lost in service (R342). -/
  memDead : Bool := false
  /-- Madder (chapter 13). -/
  madder : Madder := {}
  /-- Health (chapter 20). -/
  health : Health := {}
  /-- The always-on count (R28). -/
  aonTime : Nat := 0
  /-- Events the always-on domain holds while CLK_D is stopped (R28). -/
  aonEvents : List Event := []
  /-- The event log and its pins (chapter 20). -/
  evlog : EvLog := {}
  /-- The crossbar and the host's ports (chapter 19). -/
  xbar : Xbar := {}
  /-- ERROR and FATAL entries waiting for the fault log (R418). -/
  faultQ : List (List Word) := []
  /-- TAMPER_LOCK (R374). -/
  tamperLock : Bool := false
  /-- Every message that has left the block, oldest first: the model's own. -/
  sent : List OutMsg := []
  deriving DecidableEq, Repr

/-- The module after reset: every register of the spec's tables at its reset value (an empty `regs` says so), every memory unlisted, every unit IDLE;
what the tables do not reach stands as log entry 1 says. -/
def State.reset : State := {}

end Sys2Proof.Machine
end

