-- ==== Sys2Proof/Machine/Ops.lean ====
section
/-! DEFINITION. The named operations over the state: registers and counters by control address, memories, events, time, units, presence of units, and the free values. -/

namespace Sys2Proof.Machine

/-- 2^32 − 1, at which every counter saturates (R27). -/
def ctrMax : Nat := 0xFFFFFFFF

/-- CLK_D periods in one tick (R21), in one management cycle (a DESIGN CHOICE, log entry 4), and in a second (R19). -/
def tickLen : Nat := 1000000
def mgmtCycle : Nat := 2
def clkHz : Nat := 1600000000

/-- A number written as the value of a status field (Table 8.18). -/
def stOk : Nat := 0x00
def stRange : Nat := 0x01
def stBusy : Nat := 0x02
def stTimeout : Nat := 0x03
def stDenied : Nat := 0x04
def stAbsent : Nat := 0x05
def stAborted : Nat := 0x06
def stOverrun : Nat := 0x07
def stCheckFail : Nat := 0x08
def stNoBandwidth : Nat := 0x09
def stNoContext : Nat := 0x0A
def stNotAligned : Nat := 0x0B
def stLocked : Nat := 0x0C
def stTamper : Nat := 0x0D
def stStale : Nat := 0x0E

/-- Severities (R452). -/
def sevInfo : Nat := 0
def sevNotice : Nat := 1
def sevWarn : Nat := 2
def sevError : Nat := 3
def sevFatal : Nat := 4

/-- Unit kinds of an event's SRC word (Table 20.5). -/
def kIs : Nat := 0
def kOs : Nat := 1
def kCe : Nat := 2
def kPort : Nat := 3
def kLane : Nat := 4
def kFlow : Nat := 5
def kOut : Nat := 6
def kMon : Nat := 7
def kOther : Nat := 8

/-! Memories. -/

/-- Bytes written to the program memories, to the management SRAM, to CXL memory, to the committed contents of Saffron. -/
def State.progPut (s : State) (a : Nat) (bs : List Byte) : State := { s with mem := { s.mem with prog := Memory.writeBytes s.mem.prog a bs } }
def State.sramPut (s : State) (a : Nat) (bs : List Byte) : State := { s with mem := { s.mem with sram := Memory.writeBytes s.mem.sram a bs } }
def State.cxlPut (s : State) (a : Nat) (bs : List Byte) : State := { s with mem := { s.mem with cxl := Memory.writeBytes s.mem.cxl a bs } }
def State.nvPut (s : State) (a : Nat) (bs : List Byte) : State := { s with mem := { s.mem with nv := Memory.writeBytes s.mem.nv a bs } }

/-- Bytes written to the program memories, each to its own address. -/
def State.progScatter (s : State) (addrs : List Nat) (bs : List Byte) : State :=
  { s with mem := { s.mem with prog := (addrs.zip bs).foldl (fun (m : Memory) (p : Nat × Byte) => Memory.write m p.1 p.2) s.mem.prog } }

/-- n bytes of the management SRAM set to zero. -/
def State.sramClear (s : State) (a n : Nat) : State :=
  { s with mem := { s.mem with sram := s.mem.sram.filter (fun (p : Nat × Byte) => decide (p.1 < a) || decide (a + n ≤ p.1)) } }

/-- The contents of Saffron kept as the older entry's; the older entry's back in force (R409, R421). -/
def State.nvKeep (s : State) : State := { s with mem := { s.mem with nvOld := s.mem.nv } }
def State.nvBack (s : State) : State := { s with mem := { s.mem with nv := s.mem.nvOld } }

/-! Registers and counters. -/

/-- The stored value of the register at an address, its reset value where nothing is stored (R12). -/
def State.reg (s : State) (a : Nat) : Word := (Tbl.find s.regs a).getD (regReset a)

/-- A register's stored value set; an entry equal to the reset value is not kept. -/
def State.setReg (s : State) (a : Nat) (w : Word) : State := { s with regs := Tbl.set (regReset a) s.regs a w }

/-- A register's stored value set from a number. -/
def State.setRegN (s : State) (a n : Nat) : State := s.setReg a (word n)

/-- Field [hi:lo] of a stored register. -/
def State.regBits (s : State) (a hi lo : Nat) : Nat := bits (s.reg a) hi lo

/-- A 64-bit value stored in the low register at a and the high register at a + 4. -/
def State.setReg64 (s : State) (a n : Nat) : State := (s.setReg a (lo32 n)).setReg (a + 4) (hi32 n)

/-- The 64-bit value of the register pair at a. -/
def State.reg64 (s : State) (a : Nat) : Nat := join32 (s.reg a) (s.reg (a + 4))

/-- The live value of the counter at a register address (R27). -/
def State.ctrOf (s : State) (a : Nat) : Nat := Tbl.get 0 s.ctr a

def State.setCtr (s : State) (a n : Nat) : State := { s with ctr := Tbl.set 0 s.ctr a n }

/-- A counter advanced, saturating at a width of 32 bits (R27). -/
def State.bumpBy (s : State) (a n : Nat) : State := s.setCtr a (satAdd ctrMax (s.ctrOf a) n)

def State.bump (s : State) (a : Nat) : State := s.bumpBy a 1

/-- A counter of 48 bits advanced, saturating (Table 10.11). -/
def State.bump48 (s : State) (a n : Nat) : State := s.setCtr a (satAdd 0xFFFFFFFFFFFF (s.ctrOf a) n)

/-! Free values. -/

/-- A fresh free value for a place, and the counter of free values advanced (log entry 3). -/
def State.freeNat (s : State) (place : Nat) : Nat × State :=
  (Config.free place s.freeCtr, { s with freeCtr := s.freeCtr + 1 })

/-! Time. -/

/-- Time moved forward to t; it never steps back (R20). Where it passes a tick boundary the counters are copied (R27): no row runs
between, so they stand at the boundary as they stand now. -/
def State.advance (s : State) (t : Nat) : State :=
  if s.ttime < t then { s with ttime := t, snap := if s.ttime / tickLen < t / tickLen then s.ctr else s.snap } else s

/-- Whether a level held for `held` CLK_D cycles at a contact of filter group k survives the group's glitch filter, 50 ns (80 cycles) a
step, one step at reset (R36, R466). -/
def State.filtered (s : State) (k held : Nat) : Bool := decide (80 * bits (s.reg (R.globalFilt k)) 6 0 ≤ held)

/-- The current tick number (R21). -/
def State.tick (s : State) : Nat := s.ttime / tickLen

/-- The next multiple of n at or after t. -/
def alignUp (n t : Nat) : Nat := ceilDiv t n * n

/-- The tick boundary that ends a timeout of n ticks begun at t: the first one that is n ticks or more after it (R10, R21). -/
def ticksAfter (t n : Nat) : Nat := alignUp tickLen t + n * tickLen

/-- The end of a timeout of n ticks that begins now. -/
def State.ticksOn (s : State) (n : Nat) : Nat := ticksAfter s.ttime n

/-! Events (R28, R452). -/

/-- The SRC word of an event (Table 20.5). -/
def Event.src (e : Event) : Nat := e.kind * 2 ^ 28 + (e.dev % 2048) * 2 ^ 16 + e.index % 2 ^ 14

/-- Whether event a enters the ring before event b when both enter in one management cycle (R28). -/
def Event.before (a b : Event) : Bool :=
  if a.stamp ≠ b.stamp then a.stamp < b.stamp
  else if a.code / 0x1000 ≠ b.code / 0x1000 then a.code / 0x1000 < b.code / 0x1000
  else if a.code ≠ b.code then a.code < b.code
  else a.src < b.src

/-- An event put in the place that R28 gives it among those not yet in the ring. -/
def insertEvent (e : Event) : List Event → List Event
  | [] => [e]
  | x :: xs => if e.before x then e :: x :: xs else x :: insertEvent e xs

/-- An event raised at a given instant. -/
def State.raiseAt (s : State) (t code sev kind index : Nat) (a0 a1 a2 : Nat := 0) : State :=
  let e : Event := { code := code, sev := sev, kind := kind, dev := s.devId, index := index, stamp := t,
                     a0 := word a0, a1 := word a1, a2 := word a2 }
  { s with raised := insertEvent e s.raised }

/-- An event raised now, stamped with TTIME (R28). -/
def State.raise (s : State) (code sev kind index : Nat) (a0 a1 a2 : Nat := 0) : State :=
  s.raiseAt s.ttime code sev kind index a0 a1 a2

/-- An event raised at most once per 1,600 ticks for each key; the key says per what (R14, R154, R247, R452). -/
def State.raiseLim (s : State) (key code sev kind index : Nat) (a0 a1 a2 : Nat := 0) : State :=
  let k := code * 2 ^ 20 + key
  match Tbl.find s.lastRaise k with
  | some t =>
    if s.ttime + 1 < t + 1600 * tickLen then s
    else { s.raise code sev kind index a0 a1 a2 with lastRaise := Tbl.set 0 s.lastRaise k (s.ttime + 1) }
  | none => { s.raise code sev kind index a0 a1 a2 with lastRaise := Tbl.set 0 s.lastRaise k (s.ttime + 1) }

/-! Messages sent. -/

/-- A message leaves the block. -/
def State.emit (s : State) (kind : String) (via dst : Nat) (args : List Nat) : State :=
  { s with sent := s.sent ++ [{ kind := kind, via := via, dst := dst, args := args }] }

/-- n bytes of consecutive registers from an address, and bytes put there. -/
def State.regBytes (s : State) (a words : Nat) : List Byte := wordsBytes ((List.range words).map (fun i => s.reg (a + 4 * i)))
def State.setRegBytes (s : State) (a words : Nat) (bs : List Byte) : State :=
  (List.range words).foldl (fun s i => s.setReg (a + 4 * i) ((bytesWords bs words).getD i 0)) s

/-! The console's output (R440). -/

/-- Characters in the console's output buffer: ten bits of a character take 10 × 1.6 × 10^9 / 115,200 CLK_D periods. -/
def State.uartHeld (s : State) : Nat := ceilDiv (s.xbar.uartEnd - s.ttime * 115200) (10 * clkHz)

/-- n characters written to the console: those that find the buffer of 4 KiB full are dropped and counted. -/
def State.console (s : State) (n : Nat) : State :=
  let k := min n (4096 - s.uartHeld)
  let s : State := { s with xbar := { s.xbar with uartEnd := max s.xbar.uartEnd (s.ttime * 115200) + k * (10 * clkHz) } }
  s.bumpBy R.xbarUartDropCnt (n - k)

/-- The boot ROM's line for a step of Table 16.5 or, with its cause, for an image rejection; how long the line is the spec does not say
(log entry 3). -/
def State.bootLine (s : State) (step err : Nat) : State :=
  let (n, s) := s.freeNat 56
  (s.console n).emit "UART" 0 0 [step, err]

/-! Units, flows, outputs and the other tables. -/

def State.unit (s : State) (u : Nat) : UnitState := Tbl.get UnitState.reset s.units u
def State.setUnit (s : State) (u : Nat) (x : UnitState) : State := { s with units := Tbl.set UnitState.reset s.units u x }
def State.modUnit (s : State) (u : Nat) (f : UnitState → UnitState) : State := s.setUnit u (f (s.unit u))
def State.ce (s : State) (e : Nat) : Ce := Tbl.get Ce.reset s.ces e
def State.setCe (s : State) (e : Nat) (x : Ce) : State := { s with ces := Tbl.set Ce.reset s.ces e x }
def State.modCe (s : State) (e : Nat) (f : Ce → Ce) : State := s.setCe e (f (s.ce e))
def State.flow (s : State) (f : Nat) : Flow := Tbl.get Flow.reset s.flows f
def State.setFlow (s : State) (f : Nat) (x : Flow) : State := { s with flows := Tbl.set Flow.reset s.flows f x }
def State.modFlow (s : State) (f : Nat) (g : Flow → Flow) : State := s.setFlow f (g (s.flow f))
def State.out (s : State) (n : Nat) : Out := Tbl.get Out.reset s.outs n
def State.setOut (s : State) (n : Nat) (x : Out) : State := { s with outs := Tbl.set Out.reset s.outs n x }
def State.modOut (s : State) (n : Nat) (g : Out → Out) : State := s.setOut n (g (s.out n))
def State.group (s : State) (g : Nat) : TGroup := Tbl.get TGroup.reset s.groups g
def State.setGroup (s : State) (g : Nat) (x : TGroup) : State := { s with groups := Tbl.set TGroup.reset s.groups g x }
def State.tile (s : State) (t : Nat) : Tile := Tbl.get Tile.reset s.tiles t
def State.setTile (s : State) (t : Nat) (x : Tile) : State := { s with tiles := Tbl.set Tile.reset s.tiles t x }
def State.port (s : State) (n : Nat) : Port := Tbl.get Port.reset s.ports n
def State.setPort (s : State) (n : Nat) (x : Port) : State := { s with ports := Tbl.set Port.reset s.ports n x }
def State.modPort (s : State) (n : Nat) (g : Port → Port) : State := s.setPort n (g (s.port n))

/-- A state transformed for each member of a list, in order. -/
def State.forEach {α : Type} (s : State) (xs : List α) (f : State → α → State) : State := xs.foldl f s

/-- The listed indices of a table. -/
def Tbl.keys {α : Type} (t : Tbl α) : List Nat := t.map Prod.fst

/-- The sum of a quantity over a table. -/
def Tbl.sum {α : Type} (t : Tbl α) (f : α → Nat) : Nat := (t.map (fun p => f p.2)).sum

/-! Presence (R1 to R3, Table 0.1). -/

/-- Slices, and with them pools and groups of eight ports, of the ordering code. -/
def State.nSlices (s : State) : Nat := if s.variant = 0 then 8 else if s.variant = 1 then 6 else 4

/-- CXL ports of the ordering code. -/
def State.nCxl (s : State) : Nat := if s.variant = 2 then 2 else 4

/-- Whether a power domain's PD_FAULT bit is set (R357): its units are excluded (R3). -/
def State.domFault (s : State) (d : Nat) : Bool := bit (s.reg (R.pwrPdFault (d / 32))) (d % 32)

/-- Whether PD_REQ allows a power domain on (R355). -/
def State.domAllowed (s : State) (d : Nat) : Bool := bit (s.reg (R.pwrPdReq (d / 32))) (d % 32)

def State.slicePresent (s : State) (k : Nat) : Bool := decide (k < s.nSlices) && !s.domFault (72 + k)
def State.portPresent (s : State) (n : Nat) : Bool :=
  decide (n < 8 * s.nSlices) && !s.domFault n && s.slicePresent (n / 8)
def State.outPresent (s : State) (n : Nat) : Bool := decide (n < 64) && s.portPresent n
def State.poolPresent (s : State) (k : Nat) : Bool := s.slicePresent k && !s.domFault (80 + k)
def State.stackPresent (s : State) (g : Nat) : Bool := decide (g < s.nSlices) && !s.domFault (64 + g)
def State.cxlPresent (s : State) (x : Nat) : Bool := decide (x < s.nCxl) && !s.domFault (88 + x)
def State.obPresent (s : State) (j : Nat) : Bool := decide (j < 8) && !s.domFault 93
def State.audioPresent (s : State) : Bool := !s.domFault 92
def State.pciePresent (s : State) : Bool := !s.domFault 94

/-- Whether an Umber unit is present: a sequencer with its slice, the engines always (R1, R67). -/
def State.unitPresent (s : State) (u : Nat) : Bool :=
  if u < 64 then s.slicePresent (u / 8)
  else if u < 128 then s.slicePresent ((u - 64) / 8)
  else decide (u < 132)

/-! Rates (Table 3.14). -/

/-- Frame rate of a rate code in units of 1/1001 per second, exact for the 1/1.001 rates; 0 for an unlisted code. -/
def rateNum (c : Nat) : Nat :=
  match c with
  | 1 => 24000 | 2 => 24024 | 3 => 25025 | 4 => 30000 | 5 => 30030 | 6 => 48000 | 7 => 48048
  | 8 => 50050 | 9 => 60000 | 10 => 60060 | 11 => 100100 | 12 => 120000 | 13 => 120120
  | _ => 0

/-- floor(k × P) with P = 1.6 × 10^9 / f CLK_D periods (R113). -/
def frameOfs (num k : Nat) : Nat := k * (clkHz * 1001) / num

/-- The frame period rounded down, in CLK_D periods. -/
def framePeriod (num : Nat) : Nat := frameOfs num 1

/-- Bits per pixel of a sampling and depth (R79). -/
def depthOf (c : Nat) : Nat := if c = 0 then 10 else if c = 1 then 12 else 8
def bitsPerPixel (sampling depthCode : Nat) : Nat :=
  if sampling = 0 then 2 * depthOf depthCode else 3 * depthOf depthCode

/-! The register file as a master sees it, and rejected writes. -/

/-- Whether a rejected write of master m gives the last address: not where one of a lower-numbered master was rejected in the same
management cycle (R37). -/
def State.rejectNewest (s : State) (m : Nat) : Bool :=
  match s.rejLast with
  | some (c, k) => decide (c ≠ s.ttime / mgmtCycle) || decide (m ≤ k)
  | none => true

/-- A write rejected under R14: nothing changes but the counter, the last address and, at most once in 1,600 ticks for
each master, event RANGE_REJECT (R14, R37). -/
def State.rangeReject (s : State) (m a : Nat) : State :=
  let s := s.bump R.globalRangeRejectCnt
  let s := if s.rejectNewest m then { s.setReg R.globalRangeRejectAddr (word a) with rejLast := some (s.ttime / mgmtCycle, m) } else s
  s.raiseLim m 0x8010 sevNotice kOther m a m

end Sys2Proof.Machine
end

