-- ==== Sys2Proof/Machine/Raster.lean ====
section
/-! DEFINITION. The rasters of the outputs: fields and limits of a timing set (R143, R144, R148), switching, latch and selection lines (R100, R147), line starts (R145), the timing of groups (R113), SDI classes (R69, R79), tile membership (R164, R165). -/

namespace Sys2Proof.Machine

/-! Fields of a timing set (Tables 6.1, 6.12, 6.13). -/
def TimSet.hActive (t : TimSet) : Nat := bits t.h0 29 16
def TimSet.hFront (t : TimSet) : Nat := bits t.h0 13 0
def TimSet.hSync (t : TimSet) : Nat := bits t.h1 29 16
def TimSet.hBack (t : TimSet) : Nat := bits t.h1 13 0
def TimSet.vActive (t : TimSet) : Nat := bits t.v0 28 16
def TimSet.vFront (t : TimSet) : Nat := bits t.v0 12 0
def TimSet.vSync (t : TimSet) : Nat := bits t.v1 28 16
def TimSet.vBack (t : TimSet) : Nat := bits t.v1 12 0
def TimSet.scan (t : TimSet) : Nat := bits t.ctrl 29 28
def TimSet.odd (t : TimSet) : Nat := bits t.ctrl 27 27
def TimSet.latchOvr (t : TimSet) : Bool := bit t.ctrl 24
def TimSet.latchLine (t : TimSet) : Nat := bits t.ctrl 20 8
def TimSet.group (t : TimSet) : Nat := bits t.ctrl 7 0
def TimSet.hTotal (t : TimSet) : Nat := t.hActive + t.hFront + t.hSync + t.hBack

/-- V_TOTAL of a frame (R143). -/
def TimSet.vTotal (t : TimSet) : Nat :=
  if t.scan = 1 then 2 * (t.vSync + t.vBack + t.vFront) + t.vActive + t.odd
  else t.vSync + t.vBack + t.vActive + t.vFront

/-- The first active line (R100, R148). -/
def TimSet.firstActive (t : TimSet) : Nat := t.vSync + t.vBack

/-- The lines of field 1 of an interlaced frame. -/
def TimSet.field1 (t : TimSet) : Nat := t.vSync + t.vBack + t.vActive / 2 + t.vFront + t.odd

/-- The row of the active picture that line l carries; field 1 has the even rows (DEDUCED, log entry 22). -/
def TimSet.row (t : TimSet) (l : Nat) : Option Nat :=
  let fa := t.firstActive
  if t.scan = 1 then
    if fa ≤ l ∧ l < fa + t.vActive / 2 then some (2 * (l - fa))
    else if t.field1 + fa ≤ l ∧ l < t.field1 + fa + t.vActive / 2 then some (2 * (l - t.field1 - fa) + 1)
    else none
  else if fa ≤ l ∧ l < fa + t.vActive then some (l - fa) else none

/-- The limits of Table 6.2 that need no frame rate, with the latch line of R148. -/
def TimSet.limitsOk (t : TimSet) : Bool :=
  decide (64 ≤ t.hActive ∧ t.hActive ≤ 16376 ∧ t.hActive % 2 = 0)
  && decide (1 ≤ t.hFront ∧ 1 ≤ t.hSync ∧ 1 ≤ t.hBack ∧ 8 ≤ t.hFront + t.hSync + t.hBack)
  && decide (t.hTotal ≤ 16383)
  && decide (16 ≤ t.vActive ∧ t.vActive ≤ 8176 ∧ (t.scan = 1 → t.vActive % 2 = 0))
  && decide (1 ≤ t.vFront ∧ 1 ≤ t.vSync ∧ 1 ≤ t.vBack ∧ 8 ≤ t.vFront + t.vSync + t.vBack)
  && decide (t.vTotal ≤ 8191)
  && decide (t.odd = 0 ∨ t.scan = 1)
  && (!t.latchOvr || decide (t.latchLine < t.firstActive) || decide (t.latchLine = t.vTotal - t.vFront))

/-- The raster rate limit of Table 6.2 at a frame rate of num / 1001 per second. -/
def TimSet.rasterRateOk (t : TimSet) (num : Nat) : Bool := decide (t.hTotal * t.vTotal * num ≤ 2400000000 * 1001)

/-- The default switching line of Table 4.3. -/
def TimSet.defaultSw (t : TimSet) : Nat :=
  if t.scan = 1 ∧ t.vTotal = 525 then 9
  else if t.scan = 1 ∧ t.vTotal = 625 then 5
  else if t.scan = 0 ∧ t.vActive = 720 then 6
  else if t.vActive = 1080 then 6
  else if t.scan = 0 ∧ (t.vActive = 2160 ∨ t.vActive = 4320) then 6
  else t.vSync

/-- Latch and selection lines (Table 6.4). -/
def TimSet.selLineNo (t : TimSet) : Nat := t.vTotal - t.vFront
def TimSet.latchLineNo (t : TimSet) : Nat := if t.latchOvr then t.latchLine else t.selLineNo

/-! Groups. -/

/-- Rate of timing group g in 1/1001 per second, 0 where its RATE is unlisted. -/
def State.groupRate (s : State) (g : Nat) : Nat := rateNum (s.regBits (R.tgrpCtrl g) 23 16)
def State.groupScan (s : State) (g : Nat) : Nat := s.regBits (R.tgrpCtrl g) 13 12
def State.groupEnabled (s : State) (g : Nat) : Bool := bit (s.reg (R.tgrpCtrl g)) 31
def State.groupSource (s : State) (g : Nat) : Nat := s.regBits (R.tgrpCtrl g) 10 8

/-- t_k of a group (R113). -/
def TGroup.startOf (G : TGroup) (num k : Nat) : Nat := (G.epoch + (frameOfs num k : Nat)).toNat

/-- The least k with t_k at or after t, for an epoch E (R114). -/
def firstK (epoch : Int) (num t : Nat) : Nat :=
  if (t : Int) ≤ epoch then 0
  else
    let d := ((t : Int) - epoch).toNat
    let k := d * num / (clkHz * 1001)
    if d ≤ frameOfs num k then k else k + 1

/-- The next frame start of a running or fixed group: its count and instant (R113, R114). -/
def State.nextStart (s : State) (g : Nat) : Nat × Nat :=
  let G := s.group g
  let num := s.groupRate g
  let k := if G.running then G.frame + 1 else firstK G.epoch num G.fixT
  (k, G.startOf num k)

/-! Outputs. -/

/-- The latest committed timing set of an output: the pending one where there is one (R107). -/
def Out.latestTim (o : Out) : TimSet :=
  match o.timPend with
  | some p => p.set
  | none => match o.timCap with | some p => p.set | none => o.tim

/-- The group of the latest committed timing set; none where there is none or it is 0xFF (R107). -/
def Out.latestGroup (o : Out) : Option Nat :=
  let g := o.latestTim.group
  if g < 16 then some g else none

/-- The frame rate an output's charges use, none where the output has no group (R107). -/
def State.outRate (s : State) (n : Nat) : Option Nat :=
  match (s.out n).latestGroup with
  | some g => if s.groupRate g = 0 then none else some (s.groupRate g)
  | none => none

/-- The switching line in force for an output (R100). -/
def State.swLine (s : State) (n : Nat) : Nat :=
  let t := (s.out n).tim
  let x := s.reg (R.outXptCtrl n)
  if bit x 31 && decide (bits x 12 0 < t.firstActive) then bits x 12 0 else t.defaultSw

/-- The TTIME at which line l of the output's current frame starts (R145). -/
def State.lineStart (s : State) (n l : Nat) : Nat :=
  let o := s.out n
  let g := o.group
  let num := s.groupRate g
  let next := o.frameT + (frameOfs num ((s.group g).frame + 1) - frameOfs num (s.group g).frame)
  o.frameT + l * (next - o.frameT) / o.tim.vTotal

/-- The current line of a scanning output at TTIME (R145): the last line whose start is not after it. -/
def State.curLine (s : State) (n : Nat) : Nat :=
  let o := s.out n
  if !o.scanning then 0
  else
    let num := s.groupRate o.group
    let len := frameOfs num ((s.group o.group).frame + 1) - frameOfs num (s.group o.group).frame
    let d := s.ttime - o.frameT
    if len = 0 then 0
    else
      let l := d * o.tim.vTotal / len
      let l := if l * len / o.tim.vTotal > d then l - 1 else if (l + 1) * len / o.tim.vTotal ≤ d then l + 1 else l
      if l < o.tim.vTotal then l else o.tim.vTotal - 1

/-! Tile groups (R164, R165). -/

/-- Member outputs of a tile group, ascending. -/
def State.tileMembers (s : State) (t : Nat) : List Nat :=
  (List.range 64).filter (fun n =>
    if n < 32 then bit (s.reg (R.tileMembersLo t)) n else bit (s.reg (R.tileMembersHi t)) (n - 32))

def State.tileEnabled (s : State) (t : Nat) : Bool := bit (s.reg (R.tileCtrl t)) 31

/-- The enabled tile group of which an output is a member. -/
def State.tileOf (s : State) (n : Nat) : Option Nat :=
  (List.range 16).find? (fun t => s.tileEnabled t && (s.tileMembers t).contains n)

/-- The tile group whose geometry an output uses: an enable or a disable takes effect at the members' next frame start (R164). -/
def State.tileIn (s : State) (n : Nat) : Option Nat :=
  (List.range 16).find? (fun t => (s.tile t).on && (s.tileMembers t).contains n)

/-! SDI classes. -/

/-- Nominal rate in bit/s of an SDI class (R79). -/
def sdiRate (c : Nat) : Nat :=
  match c with
  | 1 => 270000000 | 2 => 1500000000 | 3 => 3000000000 | 4 => 6000000000 | 5 => 12000000000 | _ => 0

/-- Whether the standard of an SDI class defines a raster at a link count. The spec names the standards (R69) and not their
tables of rasters; the model holds the rasters whose interface bits fit the class's nominal rate per link: total
samples × 20 or 40 bits at the nominal frame rate (PRESUMED, log entry 10). -/
def sdiCarries (c links hTotal vTotal vActive scan num sampling depthCode : Nat) : Bool :=
  let bpp := if sampling = 0 ∧ depthOf depthCode ≤ 10 then 20 else 40
  let nominal := if num % 1001 = 0 then num / 1001 else num / 1000
  match c with
  | 1 => decide (links = 1 ∧ scan = 1 ∧ (vTotal = 525 ∨ vTotal = 625))
  | 2 => decide (vActive ≤ 1080 ∧ 720 ≤ vActive ∧ hTotal * vTotal * bpp * nominal ≤ 1500000000 * links)
  | 3 => decide (vActive ≤ 2160 ∧ 720 ≤ vActive ∧ hTotal * vTotal * bpp * nominal ≤ 3000000000 * links)
  | 4 => decide (vActive ≤ 4320 ∧ 1080 ≤ vActive ∧ hTotal * vTotal * bpp * nominal ≤ 6000000000 * links)
  | 5 => decide (vActive ≤ 4320 ∧ 1080 ≤ vActive ∧ hTotal * vTotal * bpp * nominal ≤ 12000000000 * links)
  | _ => false

/-- The class charged or judged: the port's own, or with class 0 the lowest that carries the raster (R79, Table 6.3). -/
def sdiClassFor (cls links hTotal vTotal vActive scan num sampling depthCode : Nat) : Option Nat :=
  if cls = 0 then
    ([1, 2, 3, 4, 5].find? (fun c => sdiCarries c links hTotal vTotal vActive scan num sampling depthCode))
  else if sdiCarries cls links hTotal vTotal vActive scan num sampling depthCode then some cls
  else none

/-! Port modes (Table 3.1). -/

/-- Fabric role (Table 11.1). -/
def State.isFabric (s : State) : Bool := decide (2 ≤ s.stk.role)

/-- The mode in force on a port: 0xA in the fabric role (R269), 0x9 on the odd port of a 400GBASE-R pair whatever was written (R69). -/
def State.portMode (s : State) (n : Nat) : Nat :=
  if s.isFabric then 10
  else if n % 2 = 1 ∧ s.regBits (R.portMode (n - 1)) 3 0 = 9 then 9 else s.regBits (R.portMode n) 3 0

def State.portIsSdi (s : State) (n : Nat) : Bool := let m := s.portMode n; decide (1 ≤ m ∧ m ≤ 3)
def State.portIsEth (s : State) (n : Nat) : Bool := let m := s.portMode n; decide (4 ≤ m ∧ m ≤ 9)
def modeLinks (m : Nat) : Nat := if m = 1 then 1 else if m = 2 then 2 else if m = 3 then 4 else 0
def State.sdiClass (s : State) (n : Nat) : Nat := s.regBits (R.portMode n) 6 4

/-- Whether an output's transmitter sends nothing: its port is shed, or it is muted (R297, R450). -/
def State.silent (s : State) (n : Nat) : Bool := (s.port n).txOff || (s.out n).muted

end Sys2Proof.Machine
end

