-- ==== Sys2Proof/Machine/LaneBase.lean ====
section
/-! DEFINITION. Lanes and links: their registers, which lanes form a link, powering a lane (R246, R253, R256, R266, R270). -/

namespace Sys2Proof.Machine

/-- Register block of a link ID (Table 11.2, R266, R270). -/
def lkRegs (l : Nat) : Nat := if l < 32 then R.stackLkCtrl (l / 4) (l % 4) else R.portLkCtrl ((l - 32) / 4) ((l - 32) % 4)

/-- Register block of a lane. -/
def lnRegs (L : Nat) : Nat := if L < 32 then R.stackLnCtrl (L / 4) (L % 4) else R.portLnCtrl ((L - 32) / 4) ((L - 32) % 4)

def State.lane (s : State) (L : Nat) : Lane := Tbl.get Lane.reset s.ser.lane L
def State.setLane (s : State) (L : Nat) (x : Lane) : State := { s with ser := { s.ser with lane := Tbl.set Lane.reset s.ser.lane L x } }
def State.modLane (s : State) (L : Nat) (f : Lane → Lane) : State := s.setLane L (f (s.lane L))
def State.link (s : State) (l : Nat) : Link := Tbl.get Link.reset s.ser.link l
def State.setLink (s : State) (l : Nat) (x : Link) : State := { s with ser := { s.ser with link := Tbl.set Link.reset s.ser.link l x } }
def State.modLink (s : State) (l : Nat) (f : Link → Link) : State := s.setLink l (f (s.link l))

/-- The index of a lane in an event (Table 20.5): ML0 to ML255, then SL0 to SL31. -/
def laneIndex (L : Nat) : Nat := if L < 32 then 256 + L else L - 32

/-- An event of a lane. -/
def State.raiseLane (s : State) (L code sev : Nat) (a0 : Nat := 0) (a1 : Nat := 0) : State := s.raise code sev kLane (laneIndex L) a0 a1

/-- An event of a link: its index is the link ID (R270). -/
def State.raiseLink (s : State) (l code sev : Nat) (a0 : Nat := 0) (a1 : Nat := 0) : State := s.raise code sev kOther l a0 a1

/-- Whether the unit of a lane is present. -/
def State.lanePresent (s : State) (L : Nat) : Bool :=
  if L < 32 then s.stackPresent (L / 4) else decide (L < 288) && s.portPresent ((L - 32) / 4)

/-- Whether a lane is in RSL duty: a stack lane, or a lane of a port in stack duty. -/
def State.laneRsl (s : State) (L : Nat) : Bool := decide (L < 32) || decide (s.portMode ((L - 32) / 4) = 10)

/-- Whether the group or port of a link ID is split (R270). -/
def State.lkSplit (s : State) (l : Nat) : Bool :=
  bit (s.reg (if l < 32 then R.stackGroupSplit (l / 4) else R.portStkSplit ((l - 32) / 4))) 0

/-- The link of a lane. -/
def State.linkOf (s : State) (L : Nat) : Nat := if s.lkSplit L then L else L / 4 * 4

/-- Whether a link ID names a link. -/
def State.linkExists (s : State) (l : Nat) : Bool := s.lanePresent l && s.laneRsl l && (s.lkSplit l || decide (l % 4 = 0))

/-- Whether SG7 is reserved for a twin link (R266, R292). -/
def State.twinOwns (s : State) (l : Nat) : Bool := decide (l / 4 = 7) && decide (s.twin.phase ≠ .disabled)

/-- Whether this end of a link leads: the one with the lower device ID (R255); on the twin link the module that the pairing certificate names
as member 0 (R292). -/
def State.leads (s : State) (l partner : Nat) : Bool :=
  if s.twinOwns l then decide (((s.regBytes (R.twinCert 0) 48).drop 16).take 32 = Config.ed25519Pub Config.identityKey)
  else decide (s.devId < partner)

def State.lkCtrl (s : State) (l : Nat) : Word := s.reg (lkRegs l)
def State.lkEnabled (s : State) (l : Nat) : Bool := s.linkExists l && bit (s.lkCtrl l) 31
def lkTarget (w : Word) : Nat := bits w 25 24
def lkMask (w : Word) : Nat := bits w 23 20

/-- The lanes named in LANE_MASK of a link. -/
def State.linkLanes (s : State) (l : Nat) : List Nat :=
  ((List.range 4).filter (fun k => (lkMask (s.lkCtrl l)).testBit k)).map (fun k => l / 4 * 4 + k)

/-- A port whose lanes wait for a synthesiser (R324). -/
def State.laneHeld (s : State) (L : Nat) : Bool := decide (32 ≤ L) && (s.port ((L - 32) / 4)).synWait

/-- The pending injection of a lane acts when the lane transmits (R264). -/
def State.fireInjection (s : State) (L : Nat) : State :=
  if (s.lane L).injPending then (s.modLane L (fun x => { x with injPending := false })).emit "INJECT" L 0 [(s.reg (lnRegs L + 0x2C)).toNat]
  else s

/-- A lane begins again in DETECT and transmits training (Table 10.3). -/
def State.startLane (s : State) (L : Nat) : State :=
  if s.laneHeld L then s
  else
    let x := s.lane L
    (s.setLane L { Lane.reset with state := .detect, deadline := s.ticksOn 160, fails := x.fails, lastFail := x.lastFail,
                                   lossDue := x.lossDue, injPending := x.injPending }).fireInjection L

/-- The lanes of an enabled link that are DISABLED are powered. -/
def State.powerLink (s : State) (l : Nat) : State :=
  if s.lkEnabled l then s.forEach (s.linkLanes l) (fun s L => if (s.lane L).state = .disabled then s.startLane L else s) else s

/-- A lane unpowered. -/
def State.stopLane (s : State) (L : Nat) : State := s.modLane L (fun x => { Lane.reset with injPending := x.injPending })

end Sys2Proof.Machine
end

