-- ==== Sys2Proof/Machine/Synth.lean ====
section
/-! DEFINITION. The synthesisers that clock the transmitters (R324): which can serve a lane, taking one, releasing one. -/

namespace Sys2Proof.Machine

/-- Family codes of the table of R324. -/
def famSdiI : Nat := 1
def famSdiM : Nat := 2
def famE10 : Nat := 3
def famE25 : Nat := 4
def famP53 : Nat := 5

/-- SDI-I or SDI-M by a group rate in 1/1001 per second (R324). -/
def sdiFamily (num : Nat) : Nat := if num % 1001 = 0 then famSdiI else famSdiM

def State.syn (s : State) (i : Nat) : Syn := Tbl.get Syn.reset s.syns i

/-- The synthesisers that can serve media lanes of port n: those of its compute tile, then MS14 and MS15; those of tiles that
the ordering code lacks are absent (R324). -/
def synsFor (n : Nat) : List Nat := [3 * (n / 16), 3 * (n / 16) + 1, 3 * (n / 16) + 2, 14, 15]

/-- The synthesiser that a lane of port n takes for a family: one already running it, then the lowest free one (R324). -/
def State.pickSyn (s : State) (n fam : Nat) : Option Nat :=
  match (synsFor n).find? (fun i => decide ((s.syn i).family = fam)) with
  | some i => some i
  | none => (synsFor n).find? (fun i => decide ((s.syn i).family = 0))

/-- A synthesiser taken by a user for a family; none where no synthesiser can serve (R324). -/
def State.takeSyn (s : State) (n fam user : Nat) : Option State :=
  match s.pickSyn n fam with
  | some i =>
    let x := s.syn i
    some { s with syns := Tbl.set Syn.reset s.syns i { family := fam, users := if x.users.contains user then x.users else user :: x.users } }
  | none => none

/-- The families that the lanes of a port need in a mode; SDI takes its family at TSET (R324). -/
def State.portFamilies (s : State) (n : Nat) : List (Nat × Nat) :=
  match s.portMode n with
  | 4 => [(famE10, 128)]
  | 5 => [(famE25, 128)]
  | 7 => if bit (s.reg (R.portPhyCtrl n)) 4 then [(famP53, 128)] else [(famE25, 128)]
  | 6 => [(famP53, 128)]
  | 8 => [(famP53, 128)]
  | 9 => [(famP53, 128)]
  | 10 => [(famP53, 128), (famE10, 192)]
  | _ => []

/-- Synthesisers taken for all the families of a port; none where one cannot serve. -/
def State.takeSyns (s : State) (n : Nat) : List (Nat × Nat) → Option State
  | [] => some s
  | (fam, u) :: rest => match s.takeSyn n fam (u + n) with
    | some t => t.takeSyns n rest
    | none => none

/-- The lanes of a port take their synthesisers, or stay unpowered with 0x200D (R324). -/
def State.servePort (s : State) (n : Nat) : State :=
  match s.takeSyns n (s.portFamilies n) with
  | some t => t.modPort n (fun p => { p with synWait := false })
  | none => (s.modPort n (fun p => { p with synWait := true })).raise 0x200D sevWarn kPort n

/-- A waiting port tries again; its link, if enabled, is powered (R324). -/
def State.retryPort (s : State) (n : Nat) : State :=
  if !(s.port n).synWait then s
  else match s.takeSyns n (s.portFamilies n) with
    | some t =>
      let t := t.modPort n (fun p => { p with synWait := false })
      t.forEach (List.range 4) (fun s k => s.powerLink (32 + 4 * n + k))
    | none => s

/-- A user leaves every synthesiser; one that no lane uses is released, and the waiting ports try again (R324). -/
def State.dropSyn (s : State) (user : Nat) : State :=
  let s1 := { s with syns := s.syns.filterMap (fun (p : Nat × Syn) =>
      let us := p.2.users.filter (fun u => decide (u ≠ user))
      if us = [] then none else some (p.1, { p.2 with users := us })) }
  if s1.syns.length < s.syns.length then s1.forEach (Tbl.keys s1.ports) State.retryPort else s1

/-- The pending user of an output takes the place of its current one: its timing set applies (R324). -/
def State.settleSyn (s : State) (n : Nat) : State :=
  let s := if s.syns.any (fun p => p.2.users.contains (64 + n)) then s.dropSyn n else s
  { s with syns := s.syns.map (fun p => (p.1, { p.2 with users := p.2.users.map (fun u => if u = 64 + n then n else u) })) }

end Sys2Proof.Machine
end

