-- ==== Sys2Proof/Machine/Credits.lean ====
section
/-! DEFINITION. The admission sums of the video path: charged rates (R79), write and read credits (R80, R107, R133), the graphics total (R160), direct compatibility (R136), paths (R104), and the heap (R34, R334). -/

namespace Sys2Proof.Machine

/-! Flow fields (Tables 3.13 to 3.16). -/
def Flow.ftype (f : Flow) : Nat := bits f.info 30 28
def Flow.isIp (f : Flow) : Bool := bit f.info 27
def Flow.prot (f : Flow) : Bool := bit f.info 23
def Flow.directEn (f : Flow) : Bool := bit f.info 22
def Flow.storeEn (f : Flow) : Bool := bit f.info 21
def Flow.portB (f : Flow) : Nat := bits f.info 13 8
def Flow.portA (f : Flow) : Nat := bits f.info 5 0
def Flow.hActive (f : Flow) : Nat := bits f.fmt0 29 16
def Flow.vActive (f : Flow) : Nat := bits f.fmt0 12 0
def Flow.rateCode (f : Flow) : Nat := bits f.fmt1 31 24
def Flow.num (f : Flow) : Nat := rateNum f.rateCode
def Flow.scan (f : Flow) : Nat := bits f.fmt1 23 22
def Flow.sampling (f : Flow) : Nat := bits f.fmt1 21 20
def Flow.depthBits (f : Flow) : Nat := bits f.fmt1 19 18
def Flow.vTotal (f : Flow) : Nat := bits f.fmt2 28 16
def Flow.hTotal (f : Flow) : Nat := bits f.fmt2 13 0
def Flow.depth (f : Flow) : Nat := bits f.storeW 10 8
def Flow.ratio (f : Flow) : Nat := bits f.storeW 3 0
/-- Line pairs of a frame: pairs are formed within each field of an interlaced frame (R228). -/
def pairsOf (fmt0 fmt1 : Word) : Nat :=
  if bits fmt1 23 22 = 1 then 2 * ceilDiv (bits fmt0 12 0 / 2) 2 else ceilDiv (bits fmt0 12 0) 2
def Flow.pairs (f : Flow) : Nat := pairsOf f.fmt0 f.fmt1
def Flow.isVideo (f : Flow) : Bool := decide (f.ftype = 0)
def linksOf (fmt1 : Word) : Nat := let l := bits fmt1 17 16; if l = 0 then 1 else if l = 1 then 2 else 4
def Flow.links (f : Flow) : Nat := linksOf f.fmt1
/-- A flow that instructions find valid (R83). -/
def Flow.usable (f : Flow) : Bool := f.valid && f.releasing.isNone && f.landing.isNone

/-! Charged rates, in 1/1001 bit/s (R79). -/

/-- Charged rate of a declared video format on a port. -/
def videoRateQ (isIp : Bool) (cls : Nat) (fmt0 fmt1 fmt2 : Word) : Nat :=
  let num := rateNum (bits fmt1 31 24)
  if isIp then
    bits fmt0 29 16 * bits fmt0 12 0 * bitsPerPixel (bits fmt1 21 20) (bits fmt1 19 18) * num
  else
    match sdiClassFor cls (linksOf fmt1) (bits fmt2 13 0) (bits fmt2 28 16) (bits fmt0 12 0)
        (bits fmt1 23 22) num (bits fmt1 21 20) (bits fmt1 19 18) with
    | some c => sdiRate c * linksOf fmt1 * 1001
    | none => 0

/-- Millicredits of a rate, rounded up to a whole millicredit of 1 MB/s (R80). -/
def creditsOf (rateQ ratio : Nat) : Nat := if ratio = 0 then 0 else ceilDiv rateQ (1001 * 8000000 * ratio)

/-- Sum of the charged rates of a port's flows, exact (R79). -/
def State.portRateQ (s : State) (n : Nat) : Nat :=
  Tbl.sum s.flows (fun f =>
    if (f.valid || f.releasing.isSome) && f.landing.isNone && (decide (f.portA = n) || decide (f.portB = n)) then f.rateQ else 0)

/-! Geometry of a store slot (R225, R231). -/

/-- Budget words of a block (Table 9.1). -/
def budgetWords (sampling depthCode ratio : Nat) : Nat :=
  if ratio = 0 then 0 else ceilDiv (ceilDiv (64 * bitsPerPixel sampling depthCode) ratio) 64

/-- Bytes of one coded line pair: its blocks and its trailer (R225, R229). -/
def pairBytes (hActive sampling depthCode ratio : Nat) : Nat :=
  ceilDiv hActive 32 * budgetWords sampling depthCode ratio * 8 + 8

/-- SLOT_BYTES of a declared format (R231). -/
def slotBytesOf (fmt0 fmt1 : Word) (ratio : Nat) : Nat :=
  64 + pairsOf fmt0 fmt1 * pairBytes (bits fmt0 29 16) (bits fmt1 21 20) (bits fmt1 19 18) ratio + 32768

/-- Bytes of a merge buffer of a window in ms at a charged rate (R76). -/
def mergeBytes (rateQ ms : Nat) : Nat := ceilDiv (rateQ * ms) (1001 * 8 * 1000)

/-! The heap (R34, R333, R334): allocations are (base, bytes, made by the host), 64 KiB aligned. -/

def heapStart : Nat := 0x10000000 + 6291456000
def popBytes (s : State) : Nat := s.popGib * 2 ^ 30
/-- Whether the population is at least 32 GiB and the data plane runs (R332, R340). -/
def State.memOk (s : State) : Bool := decide (32 ≤ s.popGib) && !s.memDead
def roundAlloc (n : Nat) : Nat := ceilDiv n 65536 * 65536

/-- The lowest free base of the size at or above b, in a list of allocations sorted by base. -/
def heapFit (size top : Nat) : Nat → List (Nat × Nat × Bool) → Option Nat
  | b, [] => if b + size ≤ top then some b else none
  | b, (base, len, _) :: rest =>
    if b + size ≤ base then some b else heapFit size top (max b (base + roundAlloc len)) rest

def heapInsert (x : Nat × Nat × Bool) : List (Nat × Nat × Bool) → List (Nat × Nat × Bool)
  | [] => [x]
  | y :: ys => if x.1 ≤ y.1 then x :: y :: ys else y :: heapInsert x ys

/-- An allocation of n bytes at the lowest free base that fits (R334); none where no extent fits (R34). -/
def State.alloc (s : State) (n : Nat) (host : Bool) : Option (Nat × State) :=
  match heapFit (roundAlloc n) (popBytes s) heapStart s.heap with
  | some b => some (b, { s with heap := heapInsert (b, n, host) s.heap })
  | none => none

def State.freeAt (s : State) (b : Nat) : State := { s with heap := s.heap.filter (fun x => x.1 ≠ b) }

/-- The largest free extent (HEAP_FREE_MIB). -/
def heapLargest (top : Nat) : Nat → List (Nat × Nat × Bool) → Nat
  | b, [] => top - b
  | b, (base, len, _) :: rest => max (base - b) (heapLargest top (max b (base + roundAlloc len)) rest)

/-! Totals (R33, R160). -/

/-- Ports in the interleave set. -/
def State.setSize (s : State) : Nat := popcount 4 s.cxlSet
def State.vidTotal (s : State) : Nat := 100000 * s.setSize
def State.resTotal (s : State) : Nat := 10000 * s.setSize
def State.gfxTotal (s : State) : Nat := 6000 * s.setSize

def ConvSet.frcMode (c : ConvSet) : Nat := bits c.ctrl 25 24

/-! Geometry (R124, R125, R165) and direct compatibility (R136). -/

/-- Length of the part of [a, a + n) inside [b, b + m). -/
def overlap (a n b m : Nat) : Nat := min (a + n) (b + m) - max a b

/-- A rectangle of a picture. -/
structure Rect where
  x : Nat
  y : Nat
  w : Nat
  h : Nat
  deriving DecidableEq

/-- The rectangle that an origin and a size register name in a picture of some size; a size of 0 is the whole picture's (R124). -/
def rectOf (org size : Word) (w h : Nat) : Rect :=
  { x := bits org 29 16, y := bits org 12 0, w := if size = 0 then w else bits size 29 16, h := if size = 0 then h else bits size 12 0 }

/-- A rectangle clipped to a picture. -/
def Rect.clip (r : Rect) (w h : Nat) : Rect := { r with w := overlap r.x r.w 0 w, h := overlap r.y r.h 0 h }

/-- Origin and width rounded down to even values, where 4:2:2 sampling needs it (R124). -/
def Rect.even (r : Rect) (on : Bool) : Rect := if on then { r with x := r.x / 2 * 2, w := r.w / 2 * 2 } else r

/-- The geometry of an output: the crop and destination registers in force, the size of the canvas, where the output's active picture lies in
it. An output outside tile groups is its own canvas (R124, R125, R165). -/
structure Geo where
  cropOrg : Word
  cropSize : Word
  destOrg : Word
  destSize : Word
  w : Nat
  h : Nat
  ox : Nat
  oy : Nat

/-- The geometry of output n under a conversion set, a timing set and a tile geometry that waits with the set (R166). -/
def State.geo (s : State) (n : Nat) (c : ConvSet) (t : TimSet) (g : Option (Nat × Word × Word × Word × Word)) : Geo :=
  match s.tileIn n with
  | some k =>
    let x := s.tile k
    let canvas := s.reg (R.tileCanvas k)
    let org := s.reg (R.outTileOrg n)
    let (co, cs, d0, ds) := match g with
      | some (_, co, cs, d0, ds) => (co, cs, d0, ds)
      | none => (x.cropOrg, x.cropSize, x.destOrg, x.destSize)
    { cropOrg := co, cropSize := cs, destOrg := d0, destSize := ds, w := bits canvas 29 16, h := bits canvas 12 0,
      ox := bits org 29 16, oy := bits org 12 0 }
  | none =>
    { cropOrg := c.cropOrg, cropSize := c.cropSize, destOrg := c.destOrg, destSize := c.destSize, w := t.hActive, h := t.vActive, ox := 0, oy := 0 }

/-- The rectangle of the source and its place in the canvas, clipped; and whether clipping changed either (R124). -/
def Geo.rects (g : Geo) (srcW srcH : Nat) : Rect × Rect × Bool :=
  let c := rectOf g.cropOrg g.cropSize srcW srcH
  let d := rectOf g.destOrg g.destSize g.w g.h
  (c.clip srcW srcH, d.clip g.w g.h, decide (c.clip srcW srcH ≠ c ∨ d.clip g.w g.h ≠ d))

/-- Direct-compatible (R136): the vertical size unchanged in the geometry used, scan pair of Table 5.5, FRC_MODE 0. -/
def directCompat (f : Flow) (t : TimSet) (c : ConvSet) (g : Geo) : Bool :=
  let (cr, de, _) := g.rects f.hActive f.vActive
  decide (f.vActive = t.vActive ∧ cr.y = 0 ∧ cr.h = f.vActive ∧ de.y = g.oy ∧ de.h = t.vActive)
  && (if f.scan = 1 then decide (t.scan = 1) else decide (t.scan ≠ 1))
  && decide (c.frcMode = 0)

/-! Read charges (R107, R133). -/

/-- The landing store of a remote flow on this device (R98). -/
def State.landingOf (s : State) (dev idx : Nat) : Option Nat :=
  (s.flows.find? (fun p => decide (p.2.landing = some (dev, idx)))).map Prod.fst

/-- Write charge and declared rate of a take's source, where its path reads memory (Table 4.1). -/
def State.srcW (s : State) (x : Source) : Nat × Nat :=
  match x.kind with
  | 1 => if x.path = 2 then (0, 0) else ((s.flow x.idx).wr, (s.flow x.idx).num)
  | 2 => match s.landingOf x.dev x.idx with
    | some f => ((s.flow f).wr, (s.flow f).num)
    | none => (0, 0)
  | 5 => (x.w, x.fin)
  | _ => (0, 0)

/-- W × (F_out / F_in) × k, rounded up (R107). -/
def readCharge (w fin k : Nat) (fout : Option Nat) : Nat :=
  if fin = 0 then w * k else ceilDiv (w * (fout.getD fin) * k) fin

/-- Read and blend charge of a source under a conversion set (R107, R133). -/
def State.chargeOf (s : State) (n : Nat) (x : Source) (c : ConvSet) : Nat :=
  let (w, fin) := s.srcW x
  let fout := s.outRate n
  let m := c.frcMode
  readCharge w fin (if m = 2 then 3 else 1) fout + (if m = 1 then readCharge w fin 1 fout else 0)

/-- The conversion set charges are judged against: the pending one where there is one (Table 5.2). -/
def Out.latestConv (o : Out) : ConvSet := match o.convPend with | some p => p.set | none => o.conv

/-- The tile geometry that waits with the pending set of an output (R166). -/
def Out.latestGeom (o : Out) : Option (Nat × Word × Word × Word × Word) :=
  match o.convPend with | some p => p.geom | none => none

/-- Whether the set in force, or the pending one, leaves a flow direct-compatible on output n (R136). -/
def State.directFor (s : State) (n : Nat) (f : Flow) : Bool :=
  let o := s.out n
  directCompat f o.latestTim o.latestConv (s.geo n o.latestConv o.latestTim o.latestGeom)

/-- A source as it stands under the latest conversion set of output n: a direct source moves to its store where the set is not
direct-compatible (Table 5.2). -/
def State.srcUnder (s : State) (n : Nat) (x : Source) : Source :=
  if x.kind = 1 ∧ x.path = 2 ∧ (s.flow x.idx).storeEn ∧ !s.directFor n (s.flow x.idx) then { x with path := 1 } else x

/-- Whether the pending conversion set of an output becomes current while the current source is still shown: no take lands with it or
before it. -/
def Out.convFirst (o : Out) : Bool :=
  match o.convPend, o.pend with
  | some c, some p => decide (p.src.kind = 5) || p.remote || decide (c.swLeft < p.swLeft) || decide (c.lines ≠ p.lines)
  | some _, none => true
  | none, _ => false

/-- Read millicredits an output holds for its current source, also under a pending set that comes first (R103, R107, R121). -/
def State.curHeld (s : State) (n : Nat) (o : Out) : Nat :=
  let cur := s.chargeOf n o.cur o.conv
  if o.convFirst then max cur (s.chargeOf n (s.srcUnder n o.cur) o.latestConv) else cur

/-- Read millicredits an output holds for its pending source (R103, R121). A frozen frame takes over the charge of the source (R105). -/
def State.pendHeld (s : State) (n : Nat) (o : Out) : Nat :=
  match o.pend with
  | some p => if p.src.kind = 5 then 0 else s.chargeOf n (s.srcUnder n p.src) o.latestConv
  | none => 0

/-- Read millicredits an output holds, current plus pending. -/
def State.readHeldOf (s : State) (n : Nat) (o : Out) : Nat := s.curHeld n o + s.pendHeld n o

/-- Write millicredits of a freeze capture, from commit to the end of frame N+1 (R105). -/
def captureOf (o : Out) : Nat :=
  match o.pend with
  | some p => if p.src.kind = 5 ∧ p.frames < 2 then p.src.w else 0
  | none => 0

/-! The members of atomic groups (R212). -/

/-- The outputs a member names. -/
def Member.outs : Member → List Nat
  | .take n _ => [n]
  | .flip n _ _ => [n]
  | .tset n _ => [n]
  | .fmt n _ => [n]
  | .amap r => if r.ref = 0xFE then [] else [r.ref]
  | .axf _ _ _ => []
  | .anc n _ => [n]
  | .ffmt _ _ _ _ => []

def memberCapture : Member → Nat
  | .take _ p => if p.src.kind = 5 then p.src.w else 0
  | _ => 0

def State.groupMembers (s : State) : List Member :=
  s.ces.flatMap (fun p => match p.2.grp with | some g => g.members | none => [])

/-- Output n with a member's change pending, where the member names it. -/
def Member.onOut (n : Nat) (o : Out) : Member → Out
  | .take m p => if m = n then { o with pend := some p } else o
  | .fmt m p => if m = n then { o with convPend := some p } else o
  | .tset m p => if m = n then { o with timPend := some p } else o
  | .flip m k p => if m = n then (if k = 0 then { o with p0 := { o.p0 with pend := some p } } else { o with p1 := { o.p1 with pend := some p } }) else o
  | _ => o

/-- Output n as the members of the open groups will leave it, and without the changes that they will replace. -/
def State.grpOut (s : State) (n : Nat) : Out := s.groupMembers.foldl (fun o m => m.onOut n o) (s.out n)
def State.grpOld (s : State) (n : Nat) : Out :=
  s.groupMembers.foldl (fun o m => match m with
    | .take m _ => if m = n then { o with pend := none } else o
    | .flip m k _ => if m = n then (if k = 0 then { o with p0 := { o.p0 with pend := none } } else { o with p1 := { o.p1 with pend := none } }) else o
    | _ => o) (s.out n)

def State.groupOuts (s : State) : List Nat := (s.groupMembers.flatMap Member.outs).eraseDups

/-- Read charges the accepted members of atomic groups hold on an output beyond its own: each change is charged against the others that are
pending, and what they will replace is held until COMMIT (R121, R122, R212). -/
def State.groupRead (s : State) (n : Nat) : Nat := (s.setOut n (s.grpOut n)).readHeldOf n (s.grpOut n) - s.readHeldOf n (s.grpOld n)

/-- Read charges a participant of a salvo holds beyond what its outputs hold: those of the salvo sources until their takes are
committed, then those of the pre-salvo sources until the hold is released (R282, R286). -/
def State.partRead (s : State) (p : Part) : Nat :=
  match p.phase with
  | .taken => (p.outs.map (fun x =>
      let o := s.out x.out
      let again := match o.pend with | some q => decide (q.src = x.pre) | none => false
      if o.salvo ≠ some p.id || o.cur = x.pre || again then 0 else s.chargeOf x.out x.pre o.latestConv)).sum
  | .gathering => 0
  | .released => 0
  | _ => (p.outs.map (fun x => match x.take with
      | some t => if t.src.kind = 5 || x.faulted then 0 else s.chargeOf x.out t.src (s.out x.out).latestConv
      | none => 0)).sum

/-- Write charges of the freeze captures a participant holds (R105). -/
def partCapture (p : Part) : Nat :=
  match p.phase with
  | .taken => 0
  | .released => 0
  | _ => (p.outs.map (fun x => match x.take with | some t => if t.src.kind = 5 && !x.faulted then t.src.w else 0 | none => 0)).sum

/-- Video write and read millicredits held (Table 14.8). -/
def State.vidWr (s : State) : Nat :=
  Tbl.sum s.flows (fun f => f.wr + f.merge) + Tbl.sum s.outs captureOf + (s.groupMembers.map memberCapture).sum
    + (s.stk.parts.map partCapture).sum

def State.vidRd (s : State) : Nat :=
  Tbl.sum s.flows (fun f => f.merge) + (s.outs.map (fun p => s.readHeldOf p.1 p.2)).sum
    + (s.groupOuts.map s.groupRead).sum + (s.stk.parts.map s.partRead).sum

/-- A change that raises a total may not take it past its limit; one that does not raise it always may (R33, R107). -/
def fits (old new total : Nat) : Bool := decide (new ≤ old) || decide (new ≤ total)

/-! Plane charges (R157 to R160). -/

def planeBpp (fmt : Nat) : Nat := if fmt = 0 then 2 else if fmt = 1 then 3 else 4
def PlaneSet.enabled (p : PlaneSet) : Bool := bit p.ctrl 31
def PlaneSet.bpp (p : PlaneSet) : Nat := planeBpp (bits p.ctrl 19 16)
def PlaneSet.x (p : PlaneSet) : Nat := bits p.org 29 16
def PlaneSet.y (p : PlaneSet) : Nat := bits p.org 12 0
def PlaneSet.w (p : PlaneSet) : Nat := bits p.size 29 16
def PlaneSet.h (p : PlaneSet) : Nat := bits p.size 12 0
def PlaneSet.strideB (p : PlaneSet) : Nat := bits p.stride 23 0

/-- Width and height a member fetches of a plane: the part in its canvas rectangle in a tile group (R165), else the whole. -/
def State.planePart (s : State) (n : Nat) (p : PlaneSet) : Nat × Nat :=
  match s.tileIn n with
  | some _ =>
    let org := s.reg (R.outTileOrg n)
    let t := (s.out n).latestTim
    (overlap p.x p.w (bits org 29 16) t.hActive, overlap p.y p.h (bits org 12 0) t.vActive)
  | none => (p.w, p.h)

/-- The charge of an enabled plane; 0 while the output has no group rate (R160). -/
def State.planeCharge (s : State) (n : Nat) (p : PlaneSet) : Nat :=
  if !p.enabled then 0
  else match s.outRate n with
    | some num => let (w, h) := s.planePart n p; ceilDiv (w * h * p.bpp * num) (1001 * 1000000)
    | none => 0

/-- Millicredits a plane holds: a flip that changes its charge holds the old and the new one until it takes effect (R160). -/
def State.planeHeld (s : State) (n : Nat) (p : Plane) : Nat :=
  let c0 := s.planeCharge n p.cur
  let c1 := match p.cap with | some f => s.planeCharge n f.set | none => c0
  let c2 := match p.pend with | some f => s.planeCharge n f.set | none => c1
  c0 + (if c1 = c0 then 0 else c1) + (if c2 = c1 then 0 else c2)

def State.planesHeld (s : State) (n : Nat) (o : Out) : Nat := s.planeHeld n o.p0 + s.planeHeld n o.p1

/-- Graphics millicredits held by all planes, with those that the members of atomic groups hold (R160, R212). -/
def State.gfxHeld (s : State) : Nat :=
  (s.outs.map (fun q => s.planesHeld q.1 q.2)).sum
    + (s.groupOuts.map (fun n => (s.setOut n (s.grpOut n)).planesHeld n (s.grpOut n) - s.planesHeld n (s.grpOld n))).sum

/-! Alignment and paths (R90, R92, R104, R136). -/

/-- A flow aligned to an output: aligned to the output's group, while the set judged is direct-compatible (R92, R136). -/
def State.alignedTo (s : State) (f : Flow) (n : Nat) : Bool :=
  f.aligned && decide ((s.out n).latestGroup = some f.alignGroup) && s.directFor n f

/-- The alignment of R92 to an output's group, whatever the conversion set (R90, Table 4.6). -/
def State.lineAligned (s : State) (f : Flow) (n : Nat) : Bool :=
  f.aligned && decide ((s.out n).latestGroup = some f.alignGroup)

/-- Table 4.6 with R90: the path of a local take, and whether event 0x4008 is raised; or the refusal. `aligned` is the
alignment that the direct path needs (R136), `slotOk` says that a depth-1 store may be read (R90). -/
def choosePath (pref : Nat) (store direct aligned slotOk : Bool) : Except Nat (Nat × Bool) :=
  match store, direct with
  | false, false => .error stDenied
  | true, true =>
    if pref ≠ 1 ∧ aligned then .ok (2, false)
    else if !slotOk then .error stNotAligned
    else .ok (1, decide (pref = 2))
  | true, false => if !slotOk then .error stNotAligned else .ok (1, decide (pref = 2))
  | false, true =>
    if pref = 1 then .error stDenied
    else if aligned then .ok (2, false) else .error stNotAligned

end Sys2Proof.Machine
end

