-- ==== Sys2Proof/Machine/Units.lean ====
section
/-! DEFINITION. What the blocks tell the units and the outside: S_EVENTS (R61, Table 2.8), S_SRCSTAT (Table 2.9), stack messages (R273), changes mirrored to a standby (R298, R299), packets and interrupts sent. -/

namespace Sys2Proof.Machine

/-! Cycles of a unit. -/

/-- CLK_D periods in a cycle of unit u: four in a sequencer cycle, two in a management cycle (Table 2.1, log entry 4). -/
def unitCycle (u : Nat) : Nat := if u < 128 then 4 else mgmtCycle

/-- The cycle of unit u in which an instant lies. -/
def cycleOf (u t : Nat) : Nat := t / unitCycle u

/-- The cycle of unit u in which it sees what happens at an instant: the first that begins at or after it (R22, R499). -/
def seenCycle (u t : Nat) : Nat := ceilDiv t (unitCycle u)

/-! S_EVENTS. -/

def evFrame : Nat := 0x001
def evSwitch : Nat := 0x002
def evLatch : Nat := 0x004
def evSrcChg : Nat := 0x008
def evTakeDone : Nat := 0x010
def evFlipDone : Nat := 0x020
def evFmtChg : Nat := 0x040
def evSalvo : Nat := 0x080
def evMbox : Nat := 0x100
def evHost : Nat := 0x200
def evFrc : Nat := 0x400
def evTwin : Nat := 0x800

/-- The bits set in an earlier cycle than c join the visible ones (R61). -/
def UnitState.settle (x : UnitState) (c : Nat) : UnitState :=
  if x.eventsCycle < c then { x with events := x.events ||| x.eventsNew, eventsNew := 0, eventsCycle := c } else x

/-- A wait for events meets its condition, at an instant, in one of the bits set (R55). -/
def Wait.onEvents (w : Wait) (mask at_ : Nat) : Wait :=
  if w.kind = .event ∧ w.metAt.isNone ∧ word mask &&& word w.arg ≠ 0 then { w with metAt := some at_ } else w

/-- Bits set in S_EVENTS by the hardware in the cycle of TTIME: visible from the next cycle (R61). -/
def State.setEvents (s : State) (u mask : Nat) : State :=
  if s.unitPresent u then
    s.modUnit u (fun x =>
      let x := x.settle (seenCycle u s.ttime)
      { x with eventsNew := x.eventsNew ||| word mask,
               wait := x.wait.map (fun w => w.onEvents mask ((seenCycle u s.ttime + 1) * unitCycle u)) })
  else s

/-! Messages sent. -/

/-- The words of the working routing entry for a device (R274). -/
def State.route (s : State) (d r : Nat) : Word := s.reg (R.stkRoute (2 * d + r))

/-- Whether the routing entry for a device is present (R99). -/
def State.hasRoute (s : State) (d : Nat) : Bool := bit (s.route d 0) 31

/-- A stack control message sent on both routes of the entry for its destination, or on the first alone, with one SEQ,
each copy counted; without a valid route it is discarded and counted (R273). -/
def State.sendMsg (s : State) (dst : Nat) (kind : String) (args : List Nat) : State :=
  if !s.hasRoute dst then s.bump R.stkMsgNorouteCnt
  else
    let q := s.stk.msgSeq % 65536
    let s := { s with stk := { s.stk with msgSeq := q + 1 } }
    let s := (s.emit kind 0 dst (q :: args)).bump R.stkMsgTxCnt
    if bit (s.route dst 1) 31 then (s.emit kind 1 dst (q :: args)).bump R.stkMsgTxCnt else s

/-- A payload of 12 bytes from its first bytes. -/
def pay12 (bs : List Nat) : List Nat := (bs ++ List.replicate (12 - bs.length) 0).take 12

/-- The little-endian bytes of a number, as numbers. -/
def leNats (n v : Nat) : List Nat := (leBytes n v).map BitVec.toNat

/-- A stack control message of a type (Table 11.5): to this device itself it is delivered at once, else it is sent (R273). -/
def State.stkSend (s : State) (dst type : Nat) (name : String) (pay : List Nat) : State :=
  if dst = s.devId then
    { s with stk := { s.stk with inbox := s.stk.inbox ++ [{ link := 0x1FF, t := s.ttime, dst := dst, src := s.devId, type := type, rh := 0,
                                                            seq := 0, pay := pay12 pay }] } }
  else s.sendMsg dst name (pay12 pay)

/-- A link-local message sent on a link (R272). -/
def State.sendLocal (s : State) (link : Nat) (name : String) (pay : List Nat) : State :=
  let q := s.stk.msgSeq % 65536
  let s := { s with stk := { s.stk with msgSeq := q + 1 } }
  (s.emit name link 0x8000 (q :: pay12 pay)).bump R.stkMsgTxCnt

/-- The payload of the remote-take exchange (types 0x10 to 0x14): flow, status, route, coded rate, requesting output and device. -/
def exchPay (flow status route mbps out dev : Nat) : List Nat := leNats 2 flow ++ [status, route] ++ leNats 4 mbps ++ leNats 2 out ++ leNats 2 dev

/-! Twin. -/

/-- Whether this module mirrors its changes: ACTIVE in SYNC or PAIRED (R298). -/
def State.mirrors (s : State) : Bool :=
  !s.twin.standby && (decide (s.twin.phase = .sync) || decide (s.twin.phase = .paired))

/-- A mirrored change joins the mirror queue; it leaves within one tick (R299). Those of an output carry first the frame in which they become
visible or take effect. -/
def State.mirror (s : State) (what : String) (args : List Nat) : State :=
  if s.mirrors then { s.emit what 7 0 args with twin := { s.twin with mirrorQ := s.twin.mirrorQ + 1 } } else s

/-- The twin guard holds on an ACTIVE in PAIRED (R299). -/
def State.twinGuard (s : State) : Bool := !s.twin.standby && decide (s.twin.phase = .paired)

/-- Whether a change committed at commitT is treated, at a latch line that starts now, as committed at that line (R299). -/
def State.guarded (s : State) (commitT : Nat) : Bool := s.twinGuard && decide (s.ttime < commitT + 2 * tickLen)

/-- Whether a change pending on output n waits, at a latch line that starts now, for a later one: the twin guard, or on a standby the frame in which
the change is to take effect (R299). -/
def State.waitsLatch (s : State) (n commitT : Nat) (due : Option Nat) : Bool :=
  s.guarded commitT || (match due with | some d => decide ((s.out n).frame + 1 < d) | none => false)

/-- The frame of output n in which a change that the k-th switching line from now makes visible is seen (R299, Table 4.4). -/
def State.swFrame (s : State) (n k : Nat) : Nat := (s.out n).frame + k - (if (s.out n).swSeen then 0 else 1)

/-- The frame of output n in which a change captured at a latch line, committed now, takes effect (R299). -/
def State.latchFrame (s : State) (n : Nat) : Nat :=
  let o := s.out n
  let near := s.twinGuard && o.scanning && decide (s.lineStart n o.tim.latchLineNo < s.ttime + 2 * tickLen)
  o.frame + (if o.latchSeen || near then 2 else 1)

/-- A STANDBY module (R297). -/
def State.isStandby (s : State) : Bool :=
  s.twin.standby && decide (s.twin.phase ≠ .disabled) && decide (s.twin.phase ≠ .solo)

/-! S_SRCSTAT (Table 2.9). -/

/-- SIGNAL of a local flow: ACQUIRE reads NO_SIGNAL (R85). -/
def Flow.signal (f : Flow) : Nat :=
  match f.det with
  | .idle => 4 | .acquire => 1 | .locked => 0 | .unstable => 2 | .noSignal => 1

def Flow.srcBits (f : Flow) : Nat := f.signal + flag f.partialLinks 8

/-- The lowest-numbered video flow bound on a port (R41, Table 2.9). -/
def State.portVideo (s : State) (n : Nat) : Option Nat :=
  (s.flows.find? (fun p => p.2.usable && p.2.isVideo && decide (p.2.portA = n))).map Prod.fst

/-- S_SRCSTAT of an input sequencer. -/
def State.inSrcStat (s : State) (n : Nat) : Nat :=
  match s.portVideo n with
  | some f => (s.flow f).srcBits
  | none => 4

/-- S_SRCSTAT of an output sequencer: the source visible at the contact. With no flow behind it SIGNAL reads 0x4 (log entry 11). -/
def State.outSrcStat (s : State) (n : Nat) : Nat :=
  let o := s.out n
  let det := flag o.checkErr 13 + flag o.constDet 12 + flag o.blackDet 11 + flag o.freeze 10
  if !o.taken then 4 + det
  else det + match o.cur.kind with
    | 1 =>
      let f := s.flow o.cur.idx
      (if s.slicePresent (o.cur.idx / 2048) then f.signal else 3) + flag f.partialLinks 8 + o.cur.path * 16
    | 2 => match s.landingOf o.cur.dev o.cur.idx with
      | some i => let f := s.flow i; (if f.lost then 1 + 512 else 0) + 3 * 16
      | none => 1 + 3 * 16
    | 3 => 4 + 4 * 16
    | 5 => 4 + 6 * 16
    | _ => 4 + 5 * 16

/-- S_SRCSTAT of unit u; command engines have no source. -/
def State.srcStat (s : State) (u : Nat) : Nat :=
  if u < 64 then s.inSrcStat u else if u < 128 then s.outSrcStat (u - 64) else 4

/-- What S_SRCSTAT was when a cycle began, kept when it changes in that cycle (R61). -/
def UnitState.keepSrc (x : UnitState) (old c : Nat) : UnitState :=
  if x.srcCycle = c + 1 then x else { x with srcOld := old, srcCycle := c + 1 }

/-- S_SRCSTAT as an instruction of unit u reads it: a change in its own cycle is visible from the next (R61). -/
def State.srcSeen (s : State) (u : Nat) : Nat :=
  let x := s.unit u
  if x.srcCycle = cycleOf u s.ttime + 1 then x.srcOld else s.srcStat u

/-- SRCCHG set on each unit of a list whose S_SRCSTAT differs from what it was (Table 2.8). -/
def State.noteSrc (s0 s : State) (us : List Nat) : State :=
  s.forEach us (fun s u => if s.srcStat u = s0.srcStat u then s
    else (s.modUnit u (fun x => x.keepSrc (s0.srcStat u) (seenCycle u s.ttime))).setEvents u evSrcChg)

/-! Parameters (R61). -/

/-- A parameter about to be written in a cycle: what it was is kept for that cycle. -/
def UnitState.keepPar (x : UnitState) (k : Nat) (old : Word) (c : Nat) : UnitState :=
  let x := if x.parCycle = c + 1 then x else { x with parOld := [], parCycle := c + 1 }
  if (Tbl.find x.parOld k).isSome then x else { x with parOld := Tbl.set 0 x.parOld k (old.toNat + 1) }

/-- S_PARAMk as an instruction of unit u reads it: a write is visible from the cycle after the one in which it completes. -/
def State.paramSeen (s : State) (u k : Nat) : Word :=
  let x := s.unit u
  match Tbl.find x.parOld k with
  | some v => if x.parCycle = cycleOf u s.ttime + 1 then word (v - 1) else s.reg (R.seqParam u k)
  | none => s.reg (R.seqParam u k)

/-- The units whose S_SRCSTAT a flow can change: its ingesting sequencer and the sequencers of the outputs. -/
def State.flowUnits (s : State) (f : Nat) : List Nat :=
  (s.flow f).portA :: (Tbl.keys s.outs).map (fun n => 64 + n)

end Sys2Proof.Machine
end

