-- ==== Sys2Proof/Machine/AudioBase.lean ====
section
/-! DEFINITION. The channels of the audio matrix: the sample grid (R174), crossfades (R187, R188), what a source code stands at (R184, R186), ramps
of input channels (R181), channels taken and freed (R176). -/

namespace Sys2Proof.Machine

def State.oc (s : State) (c : Nat) : Oc := Tbl.get Oc.reset s.audio.ocs c
def State.setOc (s : State) (c : Nat) (x : Oc) : State := { s with audio := { s.audio with ocs := Tbl.set Oc.reset s.audio.ocs c x } }
def State.modOc (s : State) (c : Nat) (f : Oc → Oc) : State := s.setOc c (f (s.oc c))
def State.ic (s : State) (c : Nat) : Ic := Tbl.get Ic.reset s.audio.ics c
def State.setIc (s : State) (c : Nat) (x : Ic) : State := { s with audio := { s.audio with ics := Tbl.set Ic.reset s.audio.ics c x } }
def State.aes (s : State) (i : Nat) : Aes := Tbl.get Aes.reset s.audio.aes i
def State.setAes (s : State) (i : Nat) (x : Aes) : State := { s with audio := { s.audio with aes := Tbl.set Aes.reset s.audio.aes i x } }

/-! The sample grid (R174). -/

/-- Whether the matrix runs at 96 kHz. -/
def State.audioFast (s : State) : Bool := bit (s.reg R.audioCtrl) 0

/-- Three sample periods, in CLK_D periods. -/
def State.threePeriods (s : State) : Nat := if s.audioFast then 50000 else 100000

/-- The instant of matrix sample i. -/
def State.sampleTime (s : State) (i : Nat) : Nat := i * s.threePeriods / 3

/-- The first matrix sample at or after an instant. -/
def State.sampleAt (s : State) (t : Nat) : Nat := ceilDiv (3 * t) s.threePeriods

/-- The first matrix sample after an instant. -/
def State.sampleAfter (s : State) (t : Nat) : Nat := s.sampleAt (t + 1)

/-- Matrix samples in a millisecond. -/
def State.samplesMs (s : State) : Nat := if s.audioFast then 96 else 48

/-! Crossfade weights (R187, Table 7.5), to 1/65,536. -/

/-- sin and cos of an angle given in 1/2^48 radian, in 1/2^48, by their series to the tenth term. -/
def seriesTerms (y2 : Nat) : Nat → Nat → Nat → Int
  | 0, _, _ => 0
  | n + 1, k, term => (term : Int) - seriesTerms y2 n (k + 2) (term * y2 / 2 ^ 48 / ((k + 1) * (k + 2)))

/-- π/2 in 1/2^48. -/
def halfPi48 : Nat := 442139859501777

def sin48 (y : Nat) : Int := seriesTerms (y * y / 2 ^ 48) 10 1 y
def cos48 (y : Nat) : Int := seriesTerms (y * y / 2 ^ 48) 10 0 (2 ^ 48)

/-- A value in 1/2^48 rounded to 1/65,536. -/
def toWeight (x : Int) : Nat := ((x + 2 ^ 31) / 2 ^ 32).toNat

/-- The outgoing and incoming weights at sample k of a crossfade of a length. -/
def fadeWeights (shape len k : Nat) : Nat × Nat :=
  if len ≤ k then (0, 65536)
  else match shape with
    | 1 => (65536 - (65536 * k + len / 2) / len, (65536 * k + len / 2) / len)
    | 2 => (toWeight (cos48 (halfPi48 * k / len)), toWeight (sin48 (halfPi48 * k / len)))
    | 3 => if 2 * k < len then (65536 - (131072 * k + len / 2) / len, 0) else (0, (131072 * k + len / 2) / len - 65536)
    | _ => (0, 65536)

/-- A weight scaled by another. -/
def scaleWeight (a b : Nat) : Nat := (a * b + 32768) / 65536

/-- A linear ramp from a level to another over n steps, at step k. -/
def rampAt (start stop n k : Nat) : Nat :=
  if n ≤ k then stop else if start ≤ stop then start + (stop - start) * k / n else start - (start - stop) * k / n

/-! Input channels (R180, R181). -/

/-- Whether an input channel carries non-PCM data (R180); the AES_IN pairs hold IC8160 to IC8191 (R176). -/
def State.icNonPcm (s : State) (c : Nat) : Bool :=
  if 8192 ≤ c then false
  else if 8160 ≤ c then (s.aes ((c - 8160) / 2)).nonPcm
  else (s.ic c).nonPcm

/-- Whether an input channel is heard: good and not muted; that of a pair while the pair is locked (R179 to R181). -/
def State.icUp (s : State) (c : Nat) : Bool :=
  let x := s.ic c
  decide (x.state = 0) && !x.muted && (if 8160 ≤ c then (s.aes ((c - 8160) / 2)).lock else x.valid)

/-- The level of an input channel at an instant, in 1/65,536: its ramps of 1 ms, which non-PCM channels do not have (R180, R181). -/
def State.icLevel (s : State) (c t : Nat) : Nat :=
  let x := s.ic c
  let goal := if s.icUp c then 65536 else 0
  if s.icNonPcm c then goal else rampAt x.level goal 1600000 (t - x.since)

/-- Input channels after a change: where one has become heard or unheard since `old`, its ramp starts from the level that it had. -/
def State.icSettle (s old : State) (cs : List Nat) : State :=
  s.forEach cs (fun s c => if s.icUp c = old.icUp c then s else s.setIc c { s.ic c with since := s.ttime, level := old.icLevel c s.ttime })

/-- The input channels of a flow (pair false) or of an AES_IN pair (pair true). -/
def State.audioIcs (s : State) (pair : Bool) (x : Nat) : List Nat :=
  if pair then (if x < 16 then [8160 + 2 * x, 8161 + 2 * x] else [])
  else if (s.flow x).audioCount ≠ 0 ∧ ((s.flow x).valid ∨ (s.flow x).landing.isSome) then
    (List.range (s.flow x).audioCount).map (fun j => (s.flow x).audioBase + j)
  else []

/-- The kind and index of an audio event's source. -/
def audioKind (pair : Bool) : Nat := if pair then kOther else kFlow

/-- A pair or a flow is lost where its channels are good: they ramp to 0, with one event and one count (R181). -/
def State.audioLose (s : State) (pair : Bool) (x : Nat) : State :=
  let cs := s.audioIcs pair x
  if cs = [] ∨ (s.ic (cs.headD 0)).state = 1 ∨ (pair ∧ !(s.aes x).lock) then s
  else
    let t := s.forEach cs (fun s c => s.setIc c { s.ic c with state := 1 })
    let t := if pair then t.setAes x { t.aes x with lock := false, rate := 0 } else t
    ((t.icSettle s cs).bump R.audioSrcLossCnt).raise 0x4050 sevWarn (audioKind pair) x

/-- The channels of a flow or a pair muted or no longer (R179, R180). -/
def State.audioMute (s : State) (cs : List Nat) (on : Bool) : State :=
  (s.forEach cs (fun s c => s.setIc c { s.ic c with muted := on })).icSettle s cs

/-! Sources of output channels (R184, R186). -/

/-- What a frame shows where it is not the picture of its source (R63, R93, R150, R151). -/
def Out.showsNow (o : Out) : Shown :=
  if o.transition || o.cutWait then .black
  else match o.safe with
    | some x => x
    | none => if o.fallback then .black else if o.cur.kind = 4 then .black else .picture

/-- The lowest audio flow associated with a video flow (R177): on SDI the lowest-numbered video flow of its port, on IP the flow its BIND names. -/
def State.audioOf (s : State) (v : Nat) : Option Nat :=
  (s.flows.find? (fun (p : Nat × Flow) => p.2.usable && decide (p.2.ftype = 1)
    && (if p.2.isIp then decide (p.2.assoc = some v) else decide (s.portVideo p.2.portA = some v)))).map Prod.fst

/-- The input channel that channel j of a follow of output n stands at: silence where R186 says so, which it also has while the output sends black
in place of its source. -/
def State.followIc (s : State) (n j : Nat) : Nat :=
  let x := (s.out n).cur
  let f := if (s.out n).showsNow = .black then none else match x.kind with
    | 1 => s.audioOf x.idx
    | 2 => s.landingOf x.dev x.idx
    | _ => none
  match f with
  | some i => if j < (s.flow i).audioCount then (s.flow i).audioBase + j else 0x2000
  | none => 0x2000

/-- What a source code stands at: itself, or the input channel of its follow. -/
def State.heardOf (s : State) (code : Nat) : Nat :=
  if 0x4000 ≤ code then s.followIc (fieldOf code 13 8) (fieldOf code 5 0) else code

/-- The follow channels of output n are due a change of source from instant t on, or from an earlier one that still stands (R186). -/
def State.followFrom (s : State) (n t : Nat) : State :=
  { s with audio := { s.audio with ocs := s.audio.ocs.map (fun (q : Nat × Oc) => (q.1,
    if 0x4000 ≤ q.2.src ∧ fieldOf q.2.src 13 8 = n then { q.2 with followDue := some (q.2.followDue.getD t) } else q.2)) } }

/-! Crossfades (R187, R188, R180). -/

/-- The source that an output channel stands at, at a weight: the one of its code, or the freed channel in its loss ramp. -/
def Oc.incoming (x : Oc) (w : Nat) : Fading :=
  match x.gone with
  | some (c, i) => { src := c, weight := w, freed := some i }
  | none => { src := x.heard, weight := w }

/-- The sources an output channel holds at sample i, with their weights: those fading out, then the one fading in. -/
def Oc.mixAt (x : Oc) (i : Nat) : List Fading :=
  let k := i - x.fadeStart
  if x.outgoing = [] ∨ x.fadeLen ≤ k then [x.incoming 65536]
  else
    let (o, n) := fadeWeights x.fadeShape x.fadeLen k
    x.outgoing.map (fun f => { f with weight := scaleWeight f.weight o }) ++ [x.incoming n]

/-- The sources it holds in the sample before i. -/
def Oc.soundingAt (x : Oc) (i : Nat) : List Fading := if i ≤ x.fadeStart then [x.incoming 65536] else x.mixAt (i - 1)

/-- The source with the smallest weight taken out. -/
def dropSmallest (fs : List Fading) : List Fading :=
  match fs with
  | [] => []
  | f :: rest =>
    let m := rest.foldl (fun m x => if x.weight < m.weight then x else m) f
    fs.erase m

/-- Output channel c changes to source code src at matrix sample i, with its crossfade (R187); a crossfade that touches a non-PCM
channel is a cut (R180); a fourth source cuts the smallest (R188). -/
def State.changeSource (s : State) (c src i : Nat) : State :=
  let x := s.oc c
  let new := s.heardOf src
  let xf := s.reg (R.audioOcXf c)
  let old := x.soundingAt i
  let cut := s.icNonPcm new || old.any (fun f => s.icNonPcm f.src) || decide (bits xf 18 16 = 0) || decide (bits xf 15 0 = 0)
  let x := { x with src := src, heard := new, fadeStart := i, gone := none, followDue := none }
  if cut then s.setOc c { x with outgoing := [], fadeLen := 0, fadeShape := 0 }
  else
    let kept := if 3 ≤ old.length then dropSmallest old else old
    let s := s.setOc c { x with outgoing := kept, fadeShape := bits xf 18 16, fadeLen := bits xf 15 0 }
    if 3 ≤ old.length then (s.bump R.audioXfCutCnt).raise 0x4055 sevNotice kOther c else s

/-! Channels taken and freed (R176, R186). -/

/-- The lowest start of n free places at or above b, below top, given the taken places in ascending order. -/
def freeRun (n top : Nat) : Nat → List Nat → Option Nat
  | b, [] => if b + n ≤ top then some b else none
  | b, k :: ks => if b + n ≤ k ∧ b + n ≤ top then some b else freeRun n top (max b (k + 1)) ks

/-- The lowest free block of input channels (R176). -/
def State.freeIcs (s : State) (c : Nat) : Option Nat := freeRun c 8160 0 (Tbl.keys s.audio.ics)

/-- An output channel when channels are freed: where it stands at one, silence with the loss ramp from sample i on, which multiplies the weight
in a running crossfade; a map to one pending becomes one to silence (R176, R190). The ramp of non-PCM data is a cut (R180). -/
def Oc.freed (x : Oc) (gone : Nat → Bool) (nonPcm : Nat → Bool) (i : Nat) : Oc :=
  let x := { x with outgoing := (x.outgoing.filter (fun (f : Fading) => !(gone f.src && nonPcm f.src && f.freed.isNone))).map (fun (f : Fading) =>
    if gone f.src ∧ f.freed.isNone then { f with freed := some i } else f) }
  let x := if gone x.heard then { x with heard := 0x2000, gone := if nonPcm x.heard then none else some (x.heard, i) } else x
  let x := if gone x.src then { x with src := 0x2000 } else x
  match x.pend with
  | some q => if gone q.src then { x with pend := some { q with src := 0x2000 } } else x
  | none => x

/-- Audio channels of a flow freed (R176). -/
def State.freeChannels (s : State) (base count : Nat) : State :=
  let gone (c : Nat) : Bool := decide (base ≤ c) && decide (c < base + count)
  if count = 0 then s
  else { s with audio := { s.audio with
    ics := s.audio.ics.filter (fun (p : Nat × Ic) => !gone p.1),
    ocs := s.audio.ocs.map (fun (p : Nat × Oc) => (p.1, p.2.freed gone s.icNonPcm (s.sampleAfter s.ttime))) } }

/-- The audio channels of a landing store, taken when it is created; without a free block the take proceeds in silence (R186). -/
def State.landingAudio (s : State) (f : Nat) : State :=
  let x := s.flow f
  if x.audioCount = 0 then s
  else match s.freeIcs x.audioCount with
    | some b =>
      let s := s.setFlow f { x with audioBase := b }
      s.forEach (List.range x.audioCount) (fun s j => s.setIc (b + j) { valid := true, source := 4, chan := j, flow := f, since := s.ttime })
    | none => (s.setFlow f { x with audioCount := 0 }).raise 0x4052 sevWarn kFlow f x.audioCount

end Sys2Proof.Machine
end

