-- ==== Sys2Proof/Machine/Crc.lean ====
section
/-! DEFINITION. CRC-32C (R168, R215, R229): the reflected polynomial 0x1EDC6F41, initial value and final XOR 0xFFFFFFFF. -/

namespace Sys2Proof.Machine

/-- One bit of the remainder: 0x82F63B78 is 0x1EDC6F41 with its bits reversed. -/
def crcStep (c : Nat) : Nat := if c % 2 = 1 then (c / 2) ^^^ 0x82F63B78 else c / 2

/-- One byte taken into the remainder. -/
def crcByte (c : Nat) (b : Byte) : Nat :=
  crcStep (crcStep (crcStep (crcStep (crcStep (crcStep (crcStep (crcStep (c ^^^ b.toNat))))))))

/-- The remainder over a list of bytes. -/
def crcBytes : Nat → List Byte → Nat
  | c, [] => c
  | c, b :: bs => crcBytes (crcByte c b) bs

/-- CRC-32C of bytes. -/
def crc32c (bs : List Byte) : Nat := crcBytes 0xFFFFFFFF bs ^^^ 0xFFFFFFFF

end Sys2Proof.Machine
end

