-- ==== Sys2Proof/Machine/Ochre.lean ====
section
/-! DEFINITION. The Ochre codes (R225 to R229, R232, R235): blocks, line pairs and trailers of fixed-ratio pictures, raw pictures, lossless blocks. -/

namespace Sys2Proof.Machine

/-! Formats. -/

def FixFmt.bits (f : FixFmt) : Nat := depthOf f.depth
def FixFmt.budget (f : FixFmt) : Nat := budgetWords f.sampling f.depth f.ratio

/-- Raw pixels come in groups: a pixel pair of 8 bytes in 4:2:2, one pixel of 6 bytes else (R240). -/
def FixFmt.groupBytes (f : FixFmt) : Nat := if f.sampling = 0 then 8 else 6

/-- Groups of a line of a block, and of a line. -/
def FixFmt.blockGroups (f : FixFmt) : Nat := if f.sampling = 0 then 16 else 32
def FixFmt.lineGroups (f : FixFmt) : Nat := if f.sampling = 0 then f.width / 2 else f.width

/-- Blocks of a line pair (R228). -/
def FixFmt.pairBlocks (f : FixFmt) : Nat := ceilDiv f.width 32

/-- Bytes of a full coded pair (R228). -/
def FixFmt.pairLen (f : FixFmt) : Nat := f.pairBlocks * f.budget * 8 + 8

/-- A component of a block: its group (0 or 1) and its samples on the two lines, in coded order. -/
structure Comp where
  grp : Nat
  l0 : List Nat
  l1 : List Nat
  deriving DecidableEq, Repr

/-! Raw groups and samples (R240). -/

/-- Consecutive pieces of n of a list, k of them. -/
def chunks {α : Type} (n : Nat) : Nat → List α → List (List α)
  | 0, _ => []
  | k + 1, xs => xs.take n :: chunks n k (xs.drop n)

/-- The 16-bit samples of a raw group. -/
def groupSamples (g : List Byte) : List Nat := (chunks 2 (g.length / 2) g).map ofLeBytes

/-- The components of a line of groups, each sample at its depth: Y Cb Cr, or G B R (R226, R240). -/
def FixFmt.lineComps (f : FixFmt) (gs : List (List Byte)) : List (List Nat) :=
  let ss := gs.map (fun g => (groupSamples g).map (fun x => x % 2 ^ f.bits))
  let pick (i : Nat) : List Nat := ss.map (fun s => s.getD i 0)
  match f.sampling with
  | 0 => [ss.flatMap (fun s => [s.getD 1 0, s.getD 3 0]), pick 0, pick 2]
  | 1 => [pick 0, pick 1, pick 2]
  | _ => [pick 1, pick 2, pick 0]

def FixFmt.blockComps (f : FixFmt) (g0 g1 : List (List Byte)) : List Comp :=
  (((f.lineComps g0).zip (f.lineComps g1)).zipIdx).map (fun p => { grp := if p.2 = 0 then 0 else 1, l0 := p.1.1, l1 := p.1.2 })

/-- The groups of a line from its components. -/
def FixFmt.rawLine (f : FixFmt) (cs : List (List Nat)) : List (List Byte) :=
  let a := cs.getD 0 []
  let b := cs.getD 1 []
  let c := cs.getD 2 []
  let le (x : Nat) : List Byte := leBytes 2 x
  match f.sampling with
  | 0 => (List.range 16).map (fun i => le (b.getD i 0) ++ le (a.getD (2 * i) 0) ++ le (c.getD i 0) ++ le (a.getD (2 * i + 1) 0))
  | 1 => (List.range 32).map (fun i => le (a.getD i 0) ++ le (b.getD i 0) ++ le (c.getD i 0))
  | _ => (List.range 32).map (fun i => le (c.getD i 0) ++ le (a.getD i 0) ++ le (b.getD i 0))

/-- A group that repeats the last pixel of a group (R228). -/
def FixFmt.repeatGroup (f : FixFmt) (g : List Byte) : List Byte :=
  if f.sampling = 0 then (g.take 2) ++ (g.drop 6).take 2 ++ (g.drop 4).take 2 ++ (g.drop 6).take 2 else g

/-- A line of groups filled up to n by repeating its last pixel. -/
def FixFmt.fillLine (f : FixFmt) (n : Nat) (gs : List (List Byte)) : List (List Byte) :=
  match gs.getLast? with
  | some g => gs ++ List.replicate (n - gs.length) (f.repeatGroup g)
  | none => gs

/-! DPCM (R226). -/

/-- The residual nearest to a difference, within its width. -/
def residual (d : Int) (q w : Nat) : Int :=
  if w = 0 then 0
  else clampI (-(2 ^ (w - 1) : Nat)) ((2 ^ (w - 1) : Nat) - 1) ((d + (if q = 0 then 0 else (2 ^ (q - 1) : Nat))) / (2 ^ q : Nat))

/-- A sample rebuilt from its prediction. -/
def rebuild (depth q : Nat) (p : Nat) (r : Int) : Nat := (clampI 0 ((2 ^ depth : Nat) - 1) ((p : Int) + r * (2 ^ q : Nat))).toNat

/-- A line coded from its first prediction: the residuals and the rebuilt samples. -/
def codeLine (depth q w : Nat) : Nat → List Nat → List Int × List Nat
  | _, [] => ([], [])
  | p, x :: xs =>
    let r := residual ((x : Int) - p) q w
    let y := rebuild depth q p r
    let (rs, ys) := codeLine depth q w y xs
    (r :: rs, y :: ys)

/-- A line rebuilt from its residuals. -/
def rebuildLine (depth q : Nat) : Nat → List Int → List Nat
  | _, [] => []
  | p, r :: rs => let y := rebuild depth q p r; y :: rebuildLine depth q y rs

/-- A component coded: its residuals, line 0 then line 1, and its rebuilt lines. -/
def Comp.code (c : Comp) (depth q w : Nat) : List Int × Comp :=
  let p0 := 2 ^ (depth - 1)
  let (r0, y0) := codeLine depth q w p0 c.l0
  let (r1, y1) := codeLine depth q w (y0.headD p0) c.l1
  (r0 ++ r1, { c with l0 := y0, l1 := y1 })

/-- The sum of absolute errors between two lists of samples, and between two blocks. -/
def sae : List Nat → List Nat → Nat
  | x :: xs, y :: ys => absI ((x : Int) - y) + sae xs ys
  | _, _ => 0

def blockSae (a b : List Comp) : Nat := ((a.zip b).map (fun p => sae p.1.l0 p.2.l0 + sae p.1.l1 p.2.l1)).sum

/-! The bits of a block (Table 9.2). -/

/-- Fields packed from bit 0 upward: (width, value). -/
def packBits : List (Nat × Nat) → Nat
  | [] => 0
  | (w, v) :: rest => v % 2 ^ w + 2 ^ w * packBits rest

/-- A signed value as a field of a width. -/
def sfield (w : Nat) (r : Int) : Nat × Nat := (w, (r % (2 ^ w : Nat)).toNat)

def header (mode q0 q1 w0 w1 : Nat) : List (Nat × Nat) := [(2, mode), (4, q0), (4, q1), (4, w0), (4, w1)]

/-- A DPCM block. -/
def FixFmt.dpcm (f : FixFmt) (q0 q1 w0 w1 : Nat) (cs : List Comp) : List Byte :=
  let fields := cs.flatMap (fun c =>
    let w := if c.grp = 0 then w0 else w1
    ((c.code f.bits (if c.grp = 0 then q0 else q1) w).1).map (sfield w))
  leBytes (f.budget * 8) (packBits (header 1 q0 q1 w0 w1 ++ fields))

/-- A FLAT block of given values. -/
def FixFmt.flat (f : FixFmt) (vs : List Nat) : List Byte :=
  leBytes (f.budget * 8) (packBits (header 0 0 0 0 0 ++ vs.map (fun v => (f.bits, v))))

/-- The n fields of a width from bit pos of a number, as signed values. -/
def takeFields (x w : Nat) : Nat → Nat → List Int
  | 0, _ => []
  | n + 1, pos => (if w = 0 then 0 else sextN (x / 2 ^ pos) w) :: takeFields x w n (pos + w)

/-- Samples of each component on a line of a block. -/
def FixFmt.compLens (f : FixFmt) : List (Nat × Nat) := if f.sampling = 0 then [(0, 32), (1, 16), (1, 16)] else [(0, 32), (1, 32), (1, 32)]

/-- The components of a DPCM block decoded from a bit position. -/
def decodeComps (x depth q0 q1 w0 w1 : Nat) : List (Nat × Nat) → Nat → List Comp
  | [], _ => []
  | (g, n) :: rest, pos =>
    let w := if g = 0 then w0 else w1
    let q := if g = 0 then q0 else q1
    let rs := takeFields x w (2 * n) pos
    let y0 := rebuildLine depth q (2 ^ (depth - 1)) (rs.take n)
    let y1 := rebuildLine depth q (y0.headD 0) (rs.drop n)
    { grp := g, l0 := y0, l1 := y1 } :: decodeComps x depth q0 q1 w0 w1 rest (pos + 2 * n * w)

/-- A block decoded; none where its fields are invalid (R226, R232). -/
def FixFmt.decodeBlock (f : FixFmt) (bs : List Byte) : Option (List Comp) :=
  let x := ofLeBytes bs
  let q0 := fieldOf x 5 2
  let q1 := fieldOf x 9 6
  let w0 := fieldOf x 13 10
  let w1 := fieldOf x 17 14
  let n1 := if f.sampling = 0 then 64 else 128
  match fieldOf x 1 0 with
  | 0 =>
    if fieldOf x 17 2 ≠ 0 then none
    else some ((f.compLens.zipIdx).map (fun p =>
      let v := (x / 2 ^ (18 + f.bits * p.2)) % 2 ^ f.bits
      { grp := p.1.1, l0 := List.replicate p.1.2 v, l1 := List.replicate p.1.2 v }))
  | 1 =>
    if f.bits ≤ q0 ∨ f.bits ≤ q1 ∨ 12 < w0 ∨ 12 < w1 ∨ f.budget * 64 < 18 + 64 * w0 + n1 * w1 then none
    else some (decodeComps x f.bits q0 q1 w0 w1 f.compLens 18)
  | _ => none

/-! The encoder's choice (R227). -/

/-- Shifts and widths of one group with the error they give. -/
def FixFmt.groupTries (f : FixFmt) (g : Nat) (cs : List Comp) : List (Nat × Nat × Nat) :=
  let mine := cs.filter (fun c => decide (c.grp = g))
  (List.range f.bits).flatMap (fun q => (List.range 13).map (fun w =>
    (q, w, (mine.map (fun c => let y := (c.code f.bits q w).2; sae c.l0 y.l0 + sae c.l1 y.l1)).sum)))

/-- The middle value of a list of samples. -/
def median (xs : List Nat) : Nat := (xs.mergeSort (fun a b => decide (a ≤ b))).getD (xs.length / 2) 0

/-- Error, then the lower Q0, then the lower Q1 (R227). -/
def betterChoice (a b : Nat × Nat × Nat) : Bool :=
  decide (a.1 < b.1) || (decide (a.1 = b.1) && (decide (a.2.1 < b.2.1) || (decide (a.2.1 = b.2.1) && decide (a.2.2 < b.2.2))))

/-- The best coding with nearest residuals: its bytes, and its error and shifts. -/
def FixFmt.reference (f : FixFmt) (cs : List Comp) : List Byte × (Nat × Nat × Nat) :=
  let n1 := if f.sampling = 0 then 64 else 128
  let vs := cs.map (fun c => median (c.l0 ++ c.l1))
  let flatErr := ((cs.zip vs).map (fun p => sae p.1.l0 (p.1.l0.map (fun _ => p.2)) + sae p.1.l1 (p.1.l1.map (fun _ => p.2)))).sum
  let t1 := f.groupTries 1 cs
  (f.groupTries 0 cs).foldl (fun best a => t1.foldl (fun best b =>
    let k := (a.2.2 + b.2.2, a.1, b.1)
    if 18 + 64 * a.2.1 + n1 * b.2.1 ≤ f.budget * 64 ∧ betterChoice k best.2 then (f.dpcm a.1 b.1 a.2.1 b.2.1 cs, k) else best) best)
    (f.flat vs, (flatErr, 0, 0))

/-- The fields used by a block's bits: what follows them is 0. -/
def FixFmt.restZero (f : FixFmt) (bs : List Byte) : Bool :=
  let x := ofLeBytes bs
  let n1 := if f.sampling = 0 then 64 else 128
  let n := if fieldOf x 1 0 = 0 then 18 + 3 * f.bits else 18 + 64 * fieldOf x 13 10 + n1 * fieldOf x 17 14
  decide (x < 2 ^ n)

/-- A block encoded: the encoder's free choice where it is valid and at least as good as the best coding with nearest residuals by the
order of R227, else that coding (log entry 20). -/
def FixFmt.encodeBlock (f : FixFmt) (cs : List Comp) : List Byte :=
  let (ref, k) := f.reference cs
  let c := Config.blockChoice [f.ratio, f.sampling, f.depth] (cs.flatMap (fun c => c.l0 ++ c.l1))
  match f.decodeBlock c with
  | some ys =>
    let x := ofLeBytes c
    let kc := (blockSae cs ys, fieldOf x 5 2, fieldOf x 9 6)
    if c.length = f.budget * 8 ∧ f.restZero c ∧ !betterChoice k kc then c else ref
  | none => ref

/-! Line pairs (R228, R229, R232). -/

/-- The trailer of a pair over its blocks (Table 9.3), FTAG 0. -/
def trailer (blocks : List Byte) (pair : Nat) (odd short : Bool) (ftag : Nat) : List Byte :=
  let lo := leBytes 4 (pair % 4096 + flag odd 13 + flag short 14 + ftag % 65536 * 65536)
  lo ++ leBytes 4 (crc32c (blocks ++ lo))

/-- Why a pair fails R232 (LAST_ERR causes): 1 CHECK, 2 PAIR, 3 FTAG, 4 block fields, 5 reserved bits; 0 where it passes. -/
def FixFmt.pairCause (f : FixFmt) (bs : List Byte) (pair : Nat) (ftag : Option Nat) : Nat :=
  let body := bs.take (bs.length - 4)
  let t := ofLeBytes ((bs.drop (bs.length - 8)).take 4)
  let blocks := chunks (f.budget * 8) ((bs.length - 8) / (f.budget * 8)) bs
  if word (crc32c body) ≠ word (ofLeBytes (bs.drop (bs.length - 4))) then 1
  else if fieldOf t 11 0 ≠ pair then 2
  else if (match ftag with | some x => decide (fieldOf t 31 16 ≠ x % 65536) | none => false) then 3
  else if blocks.any (fun b => (f.decodeBlock b).isNone) then 4
  else if t.testBit 15 ∨ t.testBit 12 then 5
  else 0

/-- The raw bytes of a decoded pair: line 0, then line 1 unless it repeats line 0, without the fill. -/
def FixFmt.decodePair (f : FixFmt) (bs : List Byte) : List Byte :=
  let t := ofLeBytes ((bs.drop (bs.length - 8)).take 4)
  let blocks := chunks (f.budget * 8) ((bs.length - 8) / (f.budget * 8)) bs
  let cs := blocks.map (fun b => (f.decodeBlock b).getD [])
  let line0 := (cs.flatMap (fun c => f.rawLine (c.map Comp.l0))).take f.lineGroups
  let line1 := (cs.flatMap (fun c => f.rawLine (c.map Comp.l1))).take f.lineGroups
  line0.flatten ++ (if t.testBit 13 then [] else line1.flatten)

/-! Lossless blocks (R235). -/

/-- The expansion of a token stream, in reverse, of at most `room` bytes; none where it is invalid. -/
def expandTokens : Nat → Nat → List Byte → List Byte → Option (List Byte)
  | _, _, acc, [] => some acc.reverse
  | 0, _, _, _ :: _ => none
  | fuel + 1, room, acc, t :: rest =>
    if t.toNat < 128 then
      let n := t.toNat + 1
      if room < n ∨ rest.length < n then none else expandTokens fuel (room - n) ((rest.take n).reverse ++ acc) (rest.drop n)
    else match rest with
      | [] => none
      | b :: rest =>
        let n := t.toNat - 0x7D
        if room < n then none else expandTokens fuel (room - n) (List.replicate n b ++ acc) rest

/-- A token stream expands to 1 to 128 bytes. -/
def tokens (bs : List Byte) : Option (List Byte) :=
  match expandTokens bs.length 128 [] bs with
  | some [] => none
  | r => r

/-- A block of 1 to 128 input bytes coded: a token stream only where it is shorter than its input, else stored (R235). -/
def codeLossless (input : List Byte) : List Byte :=
  let c := Config.tokenChoice input
  if tokens c = some input ∧ c.length < input.length then BitVec.ofNat 8 (c.length - 1) :: c
  else BitVec.ofNat 8 (if input.length = 128 then 0x80 else 0x80 + input.length) :: input

/-- A block read from the front of coded bytes: its expansion and its length. `none` where bytes are still missing; an error where the
block is invalid. -/
def readLossless : List Byte → Except Unit (Option (List Byte × Nat))
  | [] => .ok none
  | c :: rest =>
    let n := c.toNat
    let len := if n < 128 then n + 1 else if n = 128 then 128 else n - 128
    if rest.length < len then .ok none
    else if n < 128 then (match tokens (rest.take len) with | some e => .ok (some (e, len + 1)) | none => .error ())
    else .ok (some (rest.take len, len + 1))

end Sys2Proof.Machine
end

