-- ==== Sys2Proof/Machine/Picture.lean ====
section
/-! DEFINITION. Pictures: the lines of a frame as pixel groups, their coded pairs in a slot of a store (R88, R228 to R234), a reader's pair with
its substitutes (R232, R233), signatures (R168), the ancillary area (R237). -/

namespace Sys2Proof.Machine

/-! Lines. A line is its pixel groups in the order of R240: Cb Y Cr Y of a pixel pair; Y Cb Cr; R G B. -/

abbrev Row := List (List Nat)

/-- A quotient taken to a whole number: exact where it is one, else one of the two beside it (log entry 55). -/
def near (num den : Nat) : Nat :=
  if den = 0 then 0 else if num % den = 0 then num / den else num / den + flag (Config.roundsUp num den) 0

def Row.bytes (r : Row) : List (List Byte) := r.map (fun g => g.flatMap (leBytes 2))

/-- Pieces of lines put together: groups written over a line from a group on. -/
def Row.patch (r : Row) (start : Nat) (gs : Row) : Row :=
  (r.take start ++ List.replicate (start - r.length) []) ++ gs ++ r.drop (start + gs.length)

/-- The pair of active line y of a picture: its number, its two lines, whether the second repeats the first; pairs are formed within each
field, field 1 with the even lines first (R228; DEDUCED, log entry 22). -/
def pairAt (scan v y : Nat) : Nat × Nat × Nat × Bool :=
  if scan = 1 then
    let fld := y % 2
    let p := y / 2 / 2
    let odd := decide (v / 2 ≤ 2 * p + 1)
    (fld * ceilDiv (v / 2) 2 + p, 4 * p + fld, if odd then 4 * p + fld else 4 * p + 2 + fld, odd)
  else
    let p := y / 2
    let odd := decide (v ≤ 2 * p + 1)
    (p, 2 * p, if odd then 2 * p else 2 * p + 1, odd)

/-- Whether pair j is the first of a field. -/
def fieldStart (scan v j : Nat) : Bool := decide (j = 0) || (decide (scan = 1) && decide (j = ceilDiv (v / 2) 2))

/-- A line pair coded (R225 to R229). -/
def FixFmt.encodePair (f : FixFmt) (r0 r1 : Row) (pair ftag : Nat) (odd : Bool) : List Byte :=
  let cut (r : Row) : List (List (List Byte)) := chunks f.blockGroups f.pairBlocks (f.fillLine (f.pairBlocks * f.blockGroups) r.bytes)
  let blocks := ((cut r0).zip (cut r1)).flatMap (fun p => f.encodeBlock (f.blockComps p.1 p.2))
  blocks ++ trailer blocks pair odd false ftag

/-- The two lines of a coded pair. -/
def FixFmt.pairRows (f : FixFmt) (bs : List Byte) : Row × Row :=
  let gs := (chunks f.groupBytes (2 * f.lineGroups) (f.decodePair bs)).map groupSamples
  let r0 := gs.take f.lineGroups
  let r1 := (gs.drop f.lineGroups).filter (fun g => decide (g ≠ []))
  (r0, if r1 = [] then r0 else r1)

/-- A black line. -/
def FixFmt.blackRow (f : FixFmt) : Row :=
  let y := 2 ^ (f.bits - 4)
  let c := 2 ^ (f.bits - 1)
  List.replicate f.lineGroups (match f.sampling with | 0 => [c, y, c, y] | 1 => [y, c, c] | _ => [y, y, y])

/-! Signatures (R168). -/

/-- A luma code in its 10-bit narrow-range equivalent. -/
def narrow10 (depth : Nat) (full : Bool) (v : Nat) : Nat :=
  if full then near (64 * (2 ^ depth - 1) + 876 * v) (2 ^ depth - 1)
  else if depth ≤ 10 then v * 2 ^ (10 - depth)
  else near v (2 ^ (depth - 10))

/-- Sample x of the luma (Y, or G) of a line. -/
def lumaAt (sampling : Nat) (r : Row) (x : Nat) : Nat :=
  if sampling = 0 then (r.getD (x / 2) []).getD (1 + 2 * (x % 2)) 0
  else (r.getD x []).getD (if sampling = 1 then 0 else 1) 0

/-- The sampled places of an axis of n: every 16th from 8. -/
def sigGrid (n : Nat) : List Nat := (List.range ((n + 7) / 16)).map (fun i => 16 * i + 8)

/-- The signature of samples in raster order. -/
def sigOf (xs : List Nat) : Word := word (crc32c (xs.flatMap (leBytes 2)))

/-! The lossless stream of an ancillary area (R235, R237). -/

/-- Blocks of 128 input bytes coded in turn, of fuel many. -/
def losslessBlocks : Nat → List Byte → List Byte
  | 0, _ => []
  | _, [] => []
  | k + 1, xs => codeLossless (xs.take 128) ++ losslessBlocks k (xs.drop 128)

/-- A lossless stream over its input (Table 9.5). -/
def losslessStream (xs : List Byte) : List Byte :=
  leBytes 4 0x314C434F ++ leBytes 4 xs.length ++ leBytes 4 (crc32c xs) ++ leBytes 4 0 ++ losslessBlocks (ceilDiv xs.length 128) xs

/-- The expansion of blocks, of fuel many. -/
def losslessInput : Nat → List Byte → Option (List Byte)
  | 0, xs => if xs = [] then some [] else none
  | k + 1, xs =>
    if xs = [] then some []
    else match readLossless xs with
      | .ok (some (e, n)) => (losslessInput k (xs.drop n)).map (fun r => e ++ r)
      | _ => none

/-- The input of a lossless stream; none where its header, syntax, length or check fails (R237). -/
def losslessRead (bs : List Byte) : Option (List Byte) :=
  let w (i : Nat) : Nat := ofLeBytes ((bs.drop (4 * i)).take 4)
  if bs.length < 16 ∨ w 0 ≠ 0x314C434F ∨ w 3 ≠ 0 then none
  else match losslessInput bs.length (bs.drop 16) with
    | some xs => if xs.length = w 1 ∧ crc32c xs = w 2 then some xs else none
    | none => none

def AncPkt.bytes (p : AncPkt) : List Byte := p.words.flatMap (leBytes 2)

/-- Packets cut from the containers of an area: DID, SDID, data count, that many words, a checksum (ST 291-1). -/
def cutPackets : Nat → List Nat → List (List Nat)
  | 0, _ => []
  | k + 1, ws =>
    let n := 4 + ws.getD 2 0 % 256
    if ws.length < n then [] else ws.take n :: cutPackets k (ws.drop n)

/-- Packets in arrival order until the next one would take the stream past 32,768 bytes (R237). -/
def ancFit : List AncPkt → List AncPkt → List AncPkt
  | kept, [] => kept
  | kept, p :: ps =>
    if (losslessStream ((kept ++ [p]).flatMap AncPkt.bytes)).length ≤ 32768 then ancFit (kept ++ [p]) ps else kept

/-! Frames in memory. -/

def Flow.fix (x : Flow) : FixFmt := { ratio := x.ratio, sampling := x.sampling, depth := x.depthBits, width := x.hActive }

/-- A coded frame in CXL memory: where its header lies, its geometry and format, and the FTAG its pairs must carry (R232), none where it is
not compared. -/
structure Coded where
  base : Nat
  h : Nat
  v : Nat
  fmt1 : Word
  ratio : Nat
  ftag : Option Nat

def Coded.fix (c : Coded) : FixFmt := { ratio := c.ratio, sampling := bits c.fmt1 21 20, depth := bits c.fmt1 19 18, width := c.h }
def Coded.scan (c : Coded) : Nat := bits c.fmt1 23 22
def Coded.pairs (c : Coded) : Nat := if c.scan = 1 then 2 * ceilDiv (c.v / 2) 2 else ceilDiv c.v 2
def Coded.pairAddr (c : Coded) (j : Nat) : Nat := c.base + 64 + j * c.fix.pairLen
def Coded.ancAddr (c : Coded) : Nat := c.pairAddr c.pairs

/-- Word i of the header of a slot, and whether the header passes its CRC (Table 9.4). -/
def State.headWord (s : State) (base i : Nat) : Nat := Memory.readLe s.mem.cxl (base + 4 * i) 4
def State.headOk (s : State) (base : Nat) : Bool :=
  decide (s.headWord base 0 = 0x3146434F ∧ crc32c (Memory.readBytes s.mem.cxl base 60) = s.headWord base 15)

/-- The geometry, format and ratio of a frame: the header's, or what is held of them where the header fails (R233). -/
def State.codedAt (s : State) (base h v : Nat) (fmt1 : Word) (ratio : Nat) (tagged : Bool) : Coded :=
  if s.headOk base then
    { base := base, h := fieldOf (s.headWord base 3) 29 16, v := fieldOf (s.headWord base 3) 12 0, fmt1 := word (s.headWord base 4),
      ratio := fieldOf (s.headWord base 5) 19 16, ftag := if tagged then some (s.headWord base 1 % 65536) else none }
  else { base := base, h := h, v := v, fmt1 := fmt1, ratio := ratio, ftag := none }

/-- Slot i of a store. The pairs of a single slot are presented as they are written, the next frame's among them (R90), so they are not
compared with the header's FTAG (DEDUCED, log entry 54). -/
def State.slotCoded (s : State) (x : Flow) (i : Nat) : Coded :=
  s.codedAt (x.base + i * x.slotBytes) x.hActive x.vActive x.fmt1 x.ratio (decide (x.depth ≠ 1))

/-- The bytes of pair j, and why they fail R232, 0 where they pass. -/
def State.pairBytesOf (s : State) (c : Coded) (j : Nat) : List Byte := Memory.readBytes s.mem.cxl (c.pairAddr j) c.fix.pairLen
def State.pairCauseOf (s : State) (c : Coded) (j : Nat) : Nat := c.fix.pairCause (s.pairBytesOf c j) j c.ftag

/-- The frames of a store older than commit number q, newest first. -/
def State.olderFrames (s : State) (x : Flow) (q : Nat) : List Coded :=
  ((x.slots.zipIdx.filter (fun y => decide (0 < y.1.seq ∧ y.1.seq < q))).mergeSort (fun a b => decide (b.1.seq ≤ a.1.seq))).map
    (fun y => s.slotCoded x y.2)

/-- Pair j where it passes and its read did not fail, or where an older frame's co-located pair passes in its place (R233, R337). -/
def State.wholePair (s : State) (c : Coded) (older : List Coded) (bad : List Nat) (j : Nat) : Option (Row × Row) :=
  if s.pairCauseOf c j = 0 ∧ !bad.contains j then some (c.fix.pairRows (s.pairBytesOf c j))
  else (older.find? (fun d => s.headOk d.base && decide (s.pairCauseOf d j = 0))).map (fun d => d.fix.pairRows (s.pairBytesOf d j))

/-- The lines of pair j as an output's decoder delivers them: where nothing repairs it, the pair before it as decoded, black for the first of
a field (R233). -/
def State.fetchPair (s : State) (c : Coded) (older : List Coded) (bad : List Nat) : Nat → Row × Row
  | 0 => (s.wholePair c older bad 0).getD (c.fix.blackRow, c.fix.blackRow)
  | i + 1 => match s.wholePair c older bad (i + 1) with
    | some r => r
    | none => if fieldStart c.scan c.v (i + 1) then (c.fix.blackRow, c.fix.blackRow) else s.fetchPair c older bad i

/-- Line y of a coded frame. -/
def State.fetchRow (s : State) (c : Coded) (older : List Coded) (bad : List Nat) (y : Nat) : Row :=
  let (j, l0, _, _) := pairAt c.scan c.v y
  let r := s.fetchPair c older bad j
  if y = l0 then r.1 else r.2

/-! The encoder of a flow (R88, R90, R231, R234). -/

/-- The slot that OEn writes. -/
def Flow.writeSlot (x : Flow) : Option Nat := x.slots.findIdx? (fun y => y.writing)

/-- The pair that line y completes is coded into the slot being written. -/
def State.writePair (s : State) (x : Flow) (y : Nat) : State :=
  match x.writeSlot with
  | none => s
  | some i =>
    let (j, l0, l1, odd) := pairAt x.scan x.vActive y
    if y ≠ l1 then s
    else
      let r (l : Nat) : Row := Tbl.get [] x.live l
      s.cxlPut (x.base + i * x.slotBytes + 64 + j * x.fix.pairLen)
        (x.fix.encodePair (r l0) (r l1) j ((x.commitSeq + 1) % 65536) odd)

/-- The signature of the frame as received. -/
def Flow.sigNow (x : Flow) : Word :=
  sigOf ((sigGrid x.vActive).flatMap (fun y => (sigGrid x.hActive).map (fun c =>
    narrow10 (depthOf x.depthBits) false (lumaAt x.sampling (Tbl.get [] x.live y) c))))

/-- The timecode of ancillary timecode packets (ST 12-2), in the layout of TC_LOAD_NEXT: DID 0x60, SDID 0x60, a digit in bits 7:4 of
every second word (PRESUMED, log entry 55). -/
def ancTimecode (ps : List (List Nat)) : Option Word :=
  (ps.find? (fun w => decide (w.getD 0 0 % 256 = 0x60 ∧ w.getD 1 0 % 256 = 0x60 ∧ 20 ≤ w.length))).map (fun w =>
    let d (i : Nat) : Nat := w.getD (3 + 2 * i) 0 / 16 % 16
    word (d 0 + 16 * (d 1 % 4) + 2 ^ 8 * (d 2 + 16 * (d 3 % 8)) + 2 ^ 16 * (d 4 + 16 * (d 5 % 8)) + 2 ^ 24 * (d 6 + 16 * (d 7 % 4))))

/-- The audio of a frame of video flow f that starts at t: words 12 and 13 of its header and the lossless stream of its audio area, from the
matrix sample at or after its frame start up to the one at or after the next (R237). -/
def State.frameAudio (s : State) (f num t : Nat) : Nat × Nat × List Byte :=
  match s.audioOf f with
  | none => (0, 0, [])
  | some a =>
    let x := s.flow a
    let first := s.sampleAt t
    let n := s.sampleAt (t + framePeriod num) - first
    let bytes := (List.range n).flatMap (fun i => (List.range x.audioCount).flatMap (fun j =>
      leBytes 3 (Config.audioIn (x.audioBase + j) (first + i)).toNat))
    (flag s.audioFast 23 + x.audioCount % 128 * 2 ^ 16 + n % 65536, first % 2 ^ 32, losslessStream bytes)

/-- The frame header and the ancillary area of a frame of flow f committed under number q, written before its last trailer (Table 9.4). -/
def State.writeHeader (s : State) (f : Nat) (x : Flow) (i q : Nat) (kept : List AncPkt) : State :=
  let stream := if kept = [] then [] else losslessStream (kept.flatMap AncPkt.bytes)
  let t := (x.slots.getD i {}).startT
  let tc := match ancTimecode (kept.map AncPkt.words) with | some w => 2 ^ 31 + w.toNat | none => 0
  let (a12, a13, audio) := s.frameAudio f x.num t
  let ws : List Nat := [0x3146434F, q % 2 ^ 32, x.sigNow.toNat, x.hActive * 65536 + x.vActive, x.fmt1.toNat, x.ratio * 65536 + x.fix.budget,
    x.pairs, t % 2 ^ 32, t / 2 ^ 32, stream.length, tc, audio.length, a12, a13, 0]
  let head := ws.flatMap (leBytes 4)
  let base := x.base + i * x.slotBytes
  (s.cxlPut base (head ++ leBytes 4 (crc32c head))).cxlPut (base + 64 + x.pairs * x.fix.pairLen) stream

end Sys2Proof.Machine
end

