-- ==== Sys2Proof/Machine/Convert.lean ====
section
/-! DEFINITION. The stages of an output's pipeline (R119): deinterlacing (R126, R127), blend and motion-compensated conversion (R132), crop and scaling (R123, R124, R165), colour (R129), the 3D LUT (R130), sampling, depth and quantisation (R128), test patterns (Table 4.2). -/

namespace Sys2Proof.Machine

/-! Samples. Inside the pipeline a component is a 16-bit code, nominal black at 4096 and peak at 60160, neutral chroma at 32768 (R128). A line is
its pixels, each Y Cb Cr or R G B. -/

abbrev Px := List Nat

def black16 : Nat := 4096
def span16 : Nat := 56064
def grey16 : Nat := 32768

/-- Component i of a pixel. -/
def Px.c (p : Px) (i : Nat) : Nat := p.getD i 0

/-- A filter over the samples under its taps: equal samples pass as they are (PRESUMED: a gain of 1, log entry 55). -/
def filt (code taps : List Nat) : Nat :=
  match taps with
  | [] => 0
  | t :: ts => if ts.all (fun x => decide (x = t)) then t else Config.filtered code taps

/-- Sample k of n, the ends repeated beyond them. -/
def edge (n : Nat) (k : Int) : Nat := min k.toNat (n - 1)

/-! Sources. -/

/-- A picture that the pipeline reads: its format, what names the frame, its lines. -/
structure Pic where
  h : Nat
  v : Nat
  scan : Nat
  sampling : Nat
  depth : Nat
  colour : Nat
  full : Bool
  key : List Nat
  row : Nat → Row

/-- A code of a source as a 16-bit one (R128). -/
def widen (depth : Nat) (full : Bool) (v : Nat) : Nat :=
  if full then black16 + near (v * span16) (2 ^ depth - 1) else v * 2 ^ (16 - depth)

def Pic.rgb (p : Pic) : Bool := decide (p.sampling = 2)

/-- The codes of pixel x of a line as they stand; of 4:2:2 with the chroma of its pair. -/
def Pic.codes (p : Pic) (r : Row) (x : Nat) : Px :=
  if p.sampling = 0 then let g := r.getD (x / 2) []; [g.getD (1 + 2 * (x % 2)) 0, g.getD 0 0, g.getD 2 0] else r.getD x []

/-- A line of a picture at 16 bits and 4:4:4: chroma between two samples of 4:2:2 by the 4-tap interpolator (R128). -/
def Pic.line (p : Pic) (y : Nat) : List Px :=
  let r := p.row y
  let w (v : Nat) : Nat := widen p.depth (p.full && p.rgb) v
  (List.range p.h).map (fun x =>
    if p.sampling = 0 ∧ x % 2 = 1 then
      let chroma (i : Nat) : Nat := filt [1] ((List.range 4).map (fun (t : Nat) => w ((r.getD (edge ((p.h + 1) / 2) ((x / 2 : Nat) + (t : Int) - 1)) []).getD i 0)))
      [w ((p.codes r x).c 0), chroma 0, chroma 2]
    else (p.codes r x).map w)

/-! Stage 2: deinterlacing (R126, R127). -/

/-- How the lines of a frame are made: as they stand (woven, passed or progressive); the lines of the other field interpolated within field
f; motion-adaptive, or motion-compensated while the pool serves; the first field woven with the second of the frame before. -/
inductive Deint where
  | plain | intra (f : Nat) | adaptive (mc : Bool) | film
  deriving DecidableEq

/-- Line y of a picture deinterlaced; `old` is the frame before it. -/
def Pic.whole (p old : Pic) (d : Deint) (y : Nat) : List Px :=
  let made (code : Nat) : List Px := (List.range p.h).map (fun x => (List.range 3).map (fun i => Config.filtered ([code] ++ p.key ++ [y, x, i]) []))
  match d with
  | .plain => p.line y
  | .intra f => if y % 2 = f then p.line y else made 2
  | .adaptive mc => made (if mc then 4 else 3)
  | .film => if y % 2 = 0 then p.line y else old.line y

/-! Stage 4: scaling on one axis (R123). -/

/-- The factor of the box pre-decimator for n samples taken to d: 1, 2, 4 or 8. -/
def boxOf (n d : Nat) : Nat := if n ≤ 4 * d then 1 else if n ≤ 8 * d then 2 else if n ≤ 16 * d then 4 else 8

/-- Output sample j of d made of n samples: box pre-decimation beyond 4:1, nearest samples beyond 32:1, then a polyphase filter of so many taps
and 64 phases, its position accumulated with 32 fractional bits. Code 3 is linear interpolation; `soft` asks for the filter at 1:1 too. -/
def resample (axis taps code : Nat) (soft : Bool) (n d j : Nat) (f : Nat → Nat) : Nat :=
  let b := boxOf n d
  let n1 := n / b
  let g (k : Nat) : Nat := if b = 1 then f k else near ((List.range b).map (fun i => f (b * k + i))).sum b
  let n2 := min n1 (4 * d)
  let h (k : Nat) : Nat := if n2 = n1 then g k else g ((2 * k + 1) * n1 / (2 * n2))
  if n2 = d ∧ !soft then h j
  else
    let step := n2 * 2 ^ 32 / d
    let pos : Nat := Config.scalerStart step + j * step
    let k : Nat := pos / 2 ^ 32
    let phase := pos / 2 ^ 26 % 64
    if code = 3 ∧ !soft then near ((64 - phase) * h (edge n2 k) + phase * h (edge n2 (k + 1))) 64
    else filt [6, axis, code, phase] ((List.range taps).map (fun (t : Nat) => h (edge n2 (((k : Nat) : Int) + (t : Int) - ((taps / 2 - 1 : Nat) : Int)))))

/-- Pixel (i, j) of a destination rectangle, made of the lines of a crop rectangle: along the lines, then across them (log entry 55). -/
def scaled (hf vf : Nat) (soft : Bool) (c d : Rect) (line : Nat → List Px) (i j : Nat) : Px :=
  (List.range 3).map (fun m => resample 1 8 vf soft c.h d.h j (fun y =>
    let l := line (c.y + y)
    resample 0 16 hf false c.w d.w i (fun x => (l.getD (c.x + x) []).c m)))

/-! Stage 6: colour (R128 to R130). -/

/-- The matrices of a colour system: grey has equal components and neutral chroma. -/
def toRgb (sys : Nat) (p : Px) : Px :=
  if p.c 1 = grey16 ∧ p.c 2 = grey16 then [p.c 0, p.c 0, p.c 0] else (List.range 3).map (Config.toRgb sys p)
def fromRgb (sys : Nat) (p : Px) : Px :=
  if p.c 0 = p.c 1 ∧ p.c 1 = p.c 2 then [p.c 0, grey16, grey16] else (List.range 3).map (Config.fromRgb sys p)

/-- Primaries of a colour system: 525- and 625-line BT.601 by the line count of the picture (PRESUMED: up to 486 active lines are 525-line,
log entry 55), BT.709, BT.2020. -/
def primaries (colour v : Nat) : Nat := if colour = 0 then (if v ≤ 486 then 0 else 1) else if colour = 1 then 2 else 3

/-- Peak display luminance of a colour system in 10^-6 cd/m2 (Table 5.6). -/
def peakOf (colour : Nat) : Nat := if colour ≤ 2 then 100000000 else if colour = 3 then 10000000000 else 1000000000

/-- The built-in conversion of an RGB pixel between colour systems (Table 5.6). HLG to SDR is in no row: a free value. -/
def convertColour (cin cout pin pout : Nat) (p : Px) : Px :=
  if cin = cout then p
  else if cin = 4 ∧ cout ≤ 2 then (List.range 3).map (fun i => Config.filtered ([10, cin, cout, i] ++ p) [])
  else
    let l (i : Nat) : Nat := Config.light cin (p.c i) black16 (black16 + span16)
    let l (i : Nat) : Nat := if cin ≤ 2 ∧ 3 ≤ cout then near (l i * 203) 100 else l i
    let m (i : Nat) : Nat :=
      if pin = pout then l i
      else
        let x := (Config.gamut pin pout i 0 * l 0 + Config.gamut pin pout i 1 * l 1 + Config.gamut pin pout i 2 * l 2).toNat
        min (near x 65536) (peakOf cout)
    let y := Config.filtered [9, pout] [m 0, m 1, m 2]
    let k (i : Nat) : Nat := if cin = 3 ∧ peakOf cout * 3 / 4 < y then near (m i * Config.knee y (peakOf cout)) y else m i
    (List.range 3).map (fun i => Config.code cout (k i) black16 (black16 + span16))

/-- Component i of point (r, g, b) of a LUT (Table 5.7). -/
def lutPoint (bs : List Byte) (i : Nat) (rgb : List Nat) : Nat :=
  let e := (rgb.getD 2 0 * 33 + rgb.getD 1 0) * 33 + rgb.getD 0 0
  ofLeBytes ((bs.drop (8 * e + 2 * i)).take 2)

/-- Tetrahedral interpolation (R130): from the lower corner of the cell along the axes in descending order of their fractions. Nominal black
is grid value 0 and nominal peak grid value 32; values outside are clamped. -/
def lutLookup (bs : List Byte) (p : Px) : Px :=
  let den := span16 / 32
  let u (i : Nat) : Nat := min (p.c i - black16) span16
  let cell (i : Nat) : Nat := min (u i / den) 31
  let frac (i : Nat) : Nat := u i - cell i * den
  let axes := [0, 1, 2].mergeSort (fun a b => decide (frac b ≤ frac a))
  let c0 := [cell 0, cell 1, cell 2]
  let step (c : List Nat) (a : Nat) : List Nat := c.set a (c.getD a 0 + 1)
  let c1 := step c0 (axes.getD 0 0)
  let c2 := step c1 (axes.getD 1 1)
  let c3 := step c2 (axes.getD 2 2)
  let f (k : Nat) : Nat := frac (axes.getD k 0)
  (List.range 3).map (fun i =>
    let v := lutPoint bs i c0 * (den - f 0) + lutPoint bs i c1 * (f 0 - f 1) + lutPoint bs i c2 * (f 1 - f 2) + lutPoint bs i c3 * f 2
    black16 + near (v * span16) (65535 * den))

/-- Stage 6 on a pixel of a picture, and the matrices around it: a stage with nothing to do passes it unchanged (R119). -/
def colourPx (lut : Option (List Byte)) (p : Pic) (cout : Nat) (rgbOut : Bool) (outV : Nat) (x : Px) : Px :=
  if lut.isNone ∧ p.colour = cout ∧ p.rgb = rgbOut then x
  else
    let rgb := if p.rgb then x else toRgb p.colour x
    let rgb := match lut with
      | some bs => lutLookup bs rgb
      | none => convertColour p.colour cout (primaries p.colour p.v) (primaries cout outV) rgb
    if rgbOut then rgb else fromRgb cout rgb

/-! Stage 7: sampling, depth and quantisation (R128). -/

/-- The code limits of an output interface: codes reserved for timing references are never produced (R128; PRESUMED, log entry 21). -/
def codeLimits (depth : Nat) : Nat × Nat :=
  if depth = 12 then (16, 4079) else if depth = 10 then (4, 1019) else (1, 254)

def limited (depth v : Nat) : Nat := max (codeLimits depth).1 (min (codeLimits depth).2 v)

/-- A component reduced to a whole code: to nearest, or with dither (R128). -/
def reduceTo (dither : Nat) (place : List Nat) (num den : Nat) : Nat :=
  if num % den = 0 then num / den
  else if dither = 0 then (2 * num + den) / (2 * den)
  else num / den + flag (Config.dithered dither place num den) 0

/-- The output encoding of a conversion set: colour system, sampling, depth, full-range RGB, dither (Tables 5.14 and 5.15). -/
structure Enc where
  colour : Nat
  sampling : Nat
  depth : Nat
  full : Bool
  dither : Nat

def ConvSet.enc (c : ConvSet) : Enc :=
  { colour := bits c.colour 27 24, sampling := bits c.colour 23 22, depth := depthOf (bits c.colour 21 20),
    full := bit c.colour 19 && decide (bits c.colour 23 22 = 2), dither := bits c.ctrl 13 12 }

def Enc.rgb (e : Enc) : Bool := decide (e.sampling = 2)

/-- A 16-bit component as a code of the output. -/
def Enc.narrow (e : Enc) (place : List Nat) (c : Nat) : Nat :=
  limited e.depth (if e.full then reduceTo e.dither place ((c - black16) * (2 ^ e.depth - 1)) span16 else reduceTo e.dither place c (2 ^ (16 - e.depth)))

/-- A line of pixels at 16 bits as the three component lists of the output: 4:2:2 chroma by the 11-tap half-band filter (R128). -/
def Enc.line (e : Enc) (place : List Nat) (px : List Px) : List (List Nat) :=
  let n := px.length
  (List.range 3).map (fun i =>
    if e.sampling = 0 ∧ i ≠ 0 then
      (List.range ((n + 1) / 2)).map (fun k => e.narrow (place ++ [2 * k, i])
        (filt [8] ((List.range 11).map (fun (t : Nat) => (px.getD (edge n (2 * ((k : Nat) : Int) + (t : Int) - 5)) []).c i))))
    else (List.range n).map (fun x => e.narrow (place ++ [x, i]) ((px.getD x []).c i)))

/-- A line of pixels that are codes of the output already: the chroma of 4:2:2 at its own places. -/
def Enc.asIs (e : Enc) (px : List Px) : List (List Nat) :=
  (List.range 3).map (fun i =>
    if e.sampling = 0 ∧ i ≠ 0 then (List.range ((px.length + 1) / 2)).map (fun k => limited e.depth ((px.getD (2 * k) []).c i))
    else px.map (fun p => limited e.depth (p.c i)))

/-! Pictures that the output makes itself (R97, R124). -/

def Enc.ofRgb (e : Enc) (p : Px) : Px := if e.rgb then p else fromRgb e.colour p

/-- Pixel (x, y) of a test pattern in a picture of w by h (Table 4.2): eight bars from white to black, a ramp over the width, lines one sample
wide around the cells (PRESUMED, log entry 55). -/
def patternPx (e : Enc) (code w h x y : Nat) : Px :=
  let bar (level : Nat) : Px :=
    let b := 7 - x * 8 / w
    [if b / 2 % 2 = 1 then level else black16, if b / 4 % 2 = 1 then level else black16, if b % 2 = 1 then level else black16]
  let grey (v : Nat) : Px := [v, v, v]
  match code with
  | 0 => bar (black16 + span16 * 3 / 4)
  | 1 => bar (black16 + span16)
  | 2 => grey (black16 + near (span16 * x) (w - 1))
  | 3 =>
    let on := decide (x = 0) || decide (y = 0) || decide (x * 16 / w ≠ (x - 1) * 16 / w) || decide (y * 9 / h ≠ (y - 1) * 9 / h)
    grey (if on then black16 + span16 else black16)
  | 4 => grey (black16 + span16 / 2)
  | _ => grey (Config.pluge e.colour x y w h)

/-- The pixel of BG_COLOUR, BT.709 narrow range at 10 bits, in the output's colour system (R124). -/
def bgPx (e : Enc) (bg : Word) (v : Nat) : Px :=
  let p : Px := [bits bg 9 0 * 64, bits bg 19 10 * 64, bits bg 29 20 * 64]
  colourPx none { h := 0, v := v, scan := 0, sampling := 1, depth := 10, colour := 1, full := false, key := [], row := fun _ => [] } e.colour e.rgb v p

/-- A line of black. -/
def Enc.blackLine (e : Enc) (w : Nat) : List (List Nat) := e.line [] (List.replicate w (e.ofRgb [black16, black16, black16]))

/-! The line of an output. -/

/-- The frames a pipeline works on, newest first, with the frame before the newest (for film), how it deinterlaces, the mode in effect, the
weight of the newer frame of a blend in 1/32, the instant that motion-compensated conversion makes. -/
structure Feed where
  pics : List Pic
  old : Pic
  deint : Deint
  eff : Nat
  weight : Nat
  time : List Nat

/-- Stages 2 and 3: line y of the source's geometry. -/
def Feed.line (f : Feed) (y : Nat) : List Px :=
  match f.pics with
  | [] => []
  | p :: rest =>
    let new := p.whole f.old f.deint y
    match rest with
    | q :: _ =>
      if f.eff = 1 ∧ q.h = p.h ∧ q.v = p.v then
        (new.zip (q.whole q f.deint y)).map (fun z => (List.range 3).map (fun i => near ((32 - f.weight) * z.2.c i + f.weight * z.1.c i) 32))
      else new
    | [] => new

/-- Pixel (x, y) after stage 5 of a destination rectangle: scaled, or interpolated between frames in the pool (R132). -/
def Feed.pixel (f : Feed) (hf vf : Nat) (soft : Bool) (c d : Rect) (i j : Nat) : Px :=
  if f.eff = 2 then (List.range 3).map (fun m => Config.filtered ([7] ++ f.pics.flatMap (fun p => p.key) ++ f.time ++ [c.x, c.y, c.w, c.h, d.w, d.h, i, j, m]) [])
  else scaled hf vf soft c d f.line i j

/-- Line y of the active picture of an output of w by h samples, before the planes: the source's picture where the destination is, BG_COLOUR around
it (R124, R165). Where no stage has anything to do the source's codes pass unchanged (R119). -/
def pictureLine (f : Feed) (c : ConvSet) (t : TimSet) (lut : Option (List Byte)) (g : Geo) (place : List Nat) (y : Nat) : List (List Nat) :=
  let e := c.enc
  match f.pics with
  | [] => e.blackLine t.hActive
  | p :: _ =>
    let (cr, de, _) := g.rects p.h p.v
    let even := decide (p.sampling = 0 ∨ e.sampling = 0)
    let cr := cr.even even
    let de := de.even even
    let soft := decide (t.scan = 1) && !decide (p.scan = 1 ∧ p.v = t.vActive ∧ cr.h = de.h)
    let Y := y + g.oy
    let inside (x : Nat) : Bool := decide (de.x ≤ x + g.ox ∧ x + g.ox < de.x + de.w ∧ de.y ≤ Y ∧ Y < de.y + de.h ∧ 0 < cr.w ∧ 0 < cr.h)
    let same := decide (cr.w = de.w ∧ cr.h = de.h ∧ p.sampling = e.sampling ∧ p.depth = e.depth ∧ p.full = e.full ∧ p.colour = e.colour)
      && lut.isNone && !soft && decide (f.eff ≠ 1 ∧ f.eff ≠ 2 ∧ f.deint = .plain)
    let bg := bgPx e c.bg t.vActive
    if same then
      let codes := (List.range 3).map (fun i => e.narrow (place ++ [0, i]) (bg.c i))
      let r := p.row (cr.y + (Y - de.y))
      e.asIs ((List.range t.hActive).map (fun x => if inside x then p.codes r (cr.x + (x + g.ox - de.x)) else codes))
    else
      e.line place ((List.range t.hActive).map (fun x =>
        if inside x then
          colourPx lut p e.colour e.rgb t.vActive (f.pixel (bits c.ctrl 17 16) (bits c.ctrl 15 14) soft cr de (x + g.ox - de.x) (Y - de.y))
        else bg))

end Sys2Proof.Machine
end

