-- ==== Sys2Proof/Machine/Access.lean ====
section
/-! DEFINITION. The control crossbar as an access meets it (chapter 19, R211, R444, R494): targets, who may access what, the answers and their accounting, and a checked register write. -/

namespace Sys2Proof.Machine

/-- The target of a control address, 31 where it has none (Table 19.2). -/
def targetOf (a : Nat) : Nat :=
  if a < 0x80000 then a / 0x10000
  else if a < 0x88400 then 8
  else if 0x90000 ≤ a ∧ a < 0xA0000 then 9
  else if 0x100000 ≤ a ∧ a < 0x500000 then 10
  else if 0x500000 ≤ a ∧ a < 0x590000 then 11
  else if 0x600000 ≤ a ∧ a < 0xC00000 then (if a < 0x800000 then 12 else 5 + a / 0x100000)
  else if 0xC00000 ≤ a ∧ a < 0x1000000 then 17
  else if 0x1000000 ≤ a ∧ a < 0x1400000 then 18
  else if 0x1400000 ≤ a ∧ a < 0x1800000 then 19
  else if 0x1800000 ≤ a ∧ a < 0x1900000 then 20
  else if 0x7FF0000 ≤ a ∧ a < 0x8000000 then 21
  else if 0x8000000 ≤ a ∧ a < 0x14000000 then 22
  else if 0x40000000 ≤ a ∧ a < 0x80000000 then 23
  else 31

/-- Whether a target is a memory, accessed in bursts (Table 19.2). -/
def memTarget (t : Nat) : Bool := decide (18 ≤ t ∧ t ≤ 20 ∨ t = 22 ∨ t = 23)

/-- Whether an address is 4-byte aligned and some chapter defines it (R426, R428, R493). -/
def isDefined (a : Nat) : Bool :=
  decide (a % 4 = 0) && (memTarget (targetOf a) || (match findReg a with
    | some h => !(decide (h.blk = .out) && decide (h.row.off = 0x2000) && decide (86 < h.k % 128))
    | none => false))

/-- The windows of Table 8.6, for WR (write) and RD. -/
def ceWindow (write : Bool) (a : Nat) : Bool :=
  let t := targetOf a
  if t = 3 then decide (0x38000 ≤ a ∧ a < 0x3A000) || (!write && decide (a < 0x38000))
  else if t = 8 ∨ t = 10 ∨ t = 12 ∨ t = 13 ∨ t = 14 ∨ t = 17 then true
  else !write && decide (t = 0 ∨ t = 2 ∨ t = 9 ∨ t = 15 ∨ t = 16 ∨ t = 18 ∨ t = 19 ∨ t = 20)

/-- The control addresses that the PCIe host reaches through its windows (Table 23.2). -/
def State.hostReach (s : State) (a : Nat) : Bool :=
  decide (a < 0xC000000) || decide (a / 0x8000000 = s.regBits R.xbarBar0Win 4 0)

/-- The twin function is there with SG7 (R292). -/
def State.twinHere (s : State) : Bool := s.stackPresent 7

/-- Whether the ordering code has a tile (Table 0.1). -/
def State.tileHere (s : State) (t : Nat) : Bool := decide (t = 4 ∨ 2 * t < s.nSlices)

/-- The tile of a monitor, 4 for HT and what is common (Table 20.1). -/
def monTile (m : Nat) : Nat :=
  if m < 24 then m / 6
  else if m < 43 then (if 36 ≤ m ∧ m < 40 then m - 36 else 4)
  else if m < 75 then (m - 43) / 8
  else if 80 ≤ m ∧ m < 92 then (m - 80) / 3
  else 4

def State.monHere (s : State) (m : Nat) : Bool := decide (m < 96) && s.tileHere (monTile m)

/-- The unit of a program-memory address (Table 23.1). -/
def unitOfMem (a : Nat) : Nat :=
  if a < 0x1400000 then (a - 0x1000000) / 0x10000
  else if a < 0x1800000 then 64 + (a - 0x1400000) / 0x10000
  else 128 + (a - 0x1800000) / 0x40000

/-- Whether the unit that a register belongs to is present; an absent one follows R2 (R494), but that a twin command still answers (R292). -/
def State.hitHere (s : State) (h : RegHit) : Bool :=
  match h.blk with
  | .port => s.portPresent h.inst
  | .stack => s.stackPresent h.inst
  | .out => s.outPresent h.inst
  | .seq => s.unitPresent h.inst
  | .flow => s.slicePresent (h.inst / 2048)
  | .twin => s.twinHere || decide (h.row.off = 0x8 ∨ h.row.off = 0xC)
  | .cxl => decide (h.row.off < 0x1000) || s.cxlPresent h.k
  | .ochre =>
    if h.row.off < 0x10000 then true
    else if h.row.off < 0x30000 then s.slicePresent (h.k / 8)
    else s.obPresent h.k
  | .hlth => decide (h.row.off < 0x1000) || s.monHere h.k
  | .pwr => !decide (0x80 ≤ h.row.off ∧ h.row.off < 0xD0) || s.tileHere h.k
  | .audio => s.audioPresent
  | _ => true

/-- Whether the unit at an address is present. -/
def State.unitHere (s : State) (a : Nat) : Bool :=
  match findReg a with
  | some h => s.hitHere h
  | none => if 18 ≤ targetOf a ∧ targetOf a ≤ 20 then s.unitPresent (unitOfMem a) else true

/-- The registers that a twin mirrors (Table 12.3). -/
def mirroredReg (a : Nat) : Bool :=
  let t := targetOf a
  decide (t = 3 ∨ t = 12 ∨ t = 14 ∨ t = 17)
    || (match findReg a with
        | some h => decide (h.blk = .seq) && decide (h.row.off = 0 ∨ h.row.off = 0x40)
        | none => false)

/-- The registers that accept writes in TAMPER_LOCK (R374). -/
def lockWritable (a : Nat) : Bool :=
  decide (a = R.globalReset ∨ (0x200 ≤ a ∧ a < 0x228) ∨ a = R.tamperUnlockCtrl ∨ (R.tamperUnlockMsg 0 ≤ a ∧ a < R.tamperUnlockMsg 40))

/-- What the crossbar answers to a write before the target looks at its value: done, ignored by an absent unit or never formed, refused by the
engine's windows, or a response of Table 19.3. -/
inductive Gate where
  | pass | ignored | denied | reject | decode
  deriving DecidableEq, Repr

/-- Whether only MC0–MC3 and the PCIe host may write an address: XBAR, the filters, SCRATCH (R444, R477, R496). -/
def hostOnly (a : Nat) : Bool :=
  decide (targetOf a = 6 ∨ (0x40 ≤ a ∧ a < 0x50) ∨ (0x700 ≤ a ∧ a < 0x710))

/-- The gate of a write by master m (Tables 8.6 and 19.3, R276, R297, R369, R374, R384, R420, R424, R441, R493, R494). A write of the host to a
register of an absent unit that another rule rejects as well (before READY, in TAMPER_LOCK, on a standby twin) is rejected: absence is tested
last (DESIGN CHOICE, log entry 53). -/
def State.writeGate (s : State) (m a : Nat) : Gate :=
  let firmware := decide (m < 4)
  let t := targetOf a
  if 4 ≤ m ∧ m ≤ 7 ∧ !ceWindow true a then .denied
  else if m = 11 ∧ (s.tamperLock || !bit (s.reg R.xbarTapCtrl) 1 || !ceWindow true a) then .decode
  else if m = 8 ∧ !s.hostReach a then .ignored
  else if !isDefined a then .decode
  else if hostOnly a ∧ !firmware ∧ m ≠ 8 then .decode
  else if s.tamperLock ∧ !lockWritable a then .reject
  else if m = 8 ∧ !s.boot.ready ∧ decide (a < 0x8000000 ∨ 0xC000000 ≤ a) ∧ !decide (a = R.globalBootPush ∨ a = R.globalReset ∨ (0x200 ≤ a ∧ a < 0x228)) ∧ !s.tamperLock then .reject
  else if (t = 4 ∨ t = 5) ∧ ((!firmware ∧ m ≠ 8) ∨ s.pwr.shut.isSome) then .reject
  else if t = 11 ∧ R.stkRoute 0 ≤ a ∧ a < R.stkRoute 4096 ∧ !firmware then .reject
  else if m = 8 ∧ s.isStandby ∧ mirroredReg a then .reject
  else if !s.unitHere a then .ignored
  else .pass

/-- Blocks that are readable in TAMPER_LOCK (R374). -/
def lockReadable (t : Nat) : Bool := decide (t = 0 ∨ t = 2 ∨ t = 4 ∨ t = 5 ∨ t = 7 ∨ t = 9)

/-- The gate of a read by master m (Tables 8.6 and 19.3, R374, R441, R493). -/
def State.readGate (s : State) (m a : Nat) : Gate :=
  if 4 ≤ m ∧ m ≤ 7 ∧ !ceWindow false a then .denied
  else if m = 11 ∧ (s.tamperLock || !bit (s.reg R.xbarTapCtrl) 0 || !ceWindow false a) then .decode
  else if m = 8 ∧ !s.hostReach a then .ignored
  else if !isDefined a then .decode
  else if s.tamperLock ∧ !lockReadable (targetOf a) then .decode
  else .pass

/-- A target grants a master: it parks on it; a master that issues is out of reset (R431, log entry 29). -/
def State.xbarGrant (s : State) (m t : Nat) : State :=
  let x := s.xbar
  let x := { x with inReset := clearBit x.inReset m, parked := if t < 24 then Tbl.set 0 x.parked t m else x.parked }
  { s with xbar := x }

/-- A response other than OK: counted, its address recorded, DECODE and TIMEOUT raised at most once in 1,600 ticks for each master (R429). -/
def State.xbarErr (s : State) (resp m a : Nat) (write : Bool) : State :=
  let s := ((s.bump (R.xbarMasterErrCnt m)).setRegN R.xbarErrAddr a).setRegN R.xbarErrInfo
    (resp * 2 ^ 28 + m * 2 ^ 16 + targetOf a * 256 + flag write 0)
  if resp = 2 then s.raiseLim m 0x8032 sevNotice kOther m a m
  else if resp = 3 then s.raiseLim m 0x8031 sevWarn kOther m a m
  else s

/-- A write answered REJECT. -/
def State.writeReject (s : State) (m a : Nat) : State := (s.rangeReject m a).xbarErr 1 m a true

/-- A change of a mirrored register follows on the twin link with the value that the register holds (R298). -/
def State.mirrorReg (s : State) (a : Nat) : State :=
  if mirroredReg a then s.mirror "REG" [a, (s.reg a).toNat] else s

/-- A write of the register at a by master m: r is the state it leads to and whether the register accepts the value (R14). -/
def State.regWriteBy (s : State) (m a : Nat) (r : State × Bool) : State :=
  if 12 ≤ m then s
  else match s.writeGate m a with
    | .pass => if r.2 then (r.1.xbarGrant m (targetOf a)).mirrorReg a else (s.xbarGrant m (targetOf a)).writeReject m a
    | .reject => (s.xbarGrant m (targetOf a)).writeReject m a
    | .decode => s.xbarErr 2 m a true
    | .denied => s
    | .ignored => s

end Sys2Proof.Machine
end

