-- ==== Sys2Proof/Machine/Pool.lean ====
section
/-! DEFINITION. The FRC pools (R137 to R140): requests, grants, preemption, the queue, returning units. -/

namespace Sys2Proof.Machine

/-- Units of a pool (R137). -/
def poolUnits : Nat := 8000

/-- Whether pool k is shed (R140). -/
def State.poolIsShed (s : State) (k : Nat) : Bool := s.poolShed.testBit k

/-- Units a mode-2 output asks for: its picture size at its group's frame rate, in Mpixel/s rounded up (R137). -/
def poolAskOf (t : TimSet) (num : Nat) : Nat := ceilDiv (t.hActive * t.vActive * num) (1001 * 1000000)

/-- The request of output n: from the timing set it scans by, else from its latest one; 0 without a set that names a group (R137). -/
def State.poolAsk (s : State) (n : Nat) : Nat :=
  let o := s.out n
  if o.scanning then poolAskOf o.tim (s.groupRate o.group)
  else match s.outRate n with
    | some num => if o.hasTim || o.timPend.isSome || o.timCap.isSome then poolAskOf o.latestTim num else 0
    | none => 0

/-- The outputs of a slice. -/
def sliceOuts (k : Nat) : List Nat := (List.range 8).map (fun i => 8 * k + i)

/-- Units granted in pool k (POOL_USED). -/
def State.poolUsed (s : State) (k : Nat) : Nat :=
  ((sliceOuts k).map (fun m => if (s.out m).pool = .granted then (s.out m).units else 0)).sum

/-- Units of pool k that no request can have: granted, or still in use by an output whose own request no longer holds them, up to the switching
line at which it stops (R139). -/
def State.poolBusy (s : State) (k n : Nat) : Nat :=
  ((sliceOuts k).map (fun m => let o := s.out m
    if m ≠ n ∧ (o.pool = .granted ∨ (o.pool = .queued ∧ o.inUse)) then o.units else 0)).sum

/-- Grants of strictly lower priority, in the order in which they are preempted: lowest priority first, within one priority
the highest output number first (R138). -/
def State.poolVictims (s : State) (k n prio : Nat) : List Nat :=
  ([0, 1, 2].filter (fun p => decide (p < prio))).flatMap (fun p =>
    ((sliceOuts k).reverse).filter (fun m => decide (m ≠ n) && decide ((s.out m).pool = .granted) && decide ((s.out m).prio = p)))

/-- The victims that make a request of some units fit in the free ones, none where they do not (R138). -/
def State.takeVictims (s : State) : List Nat → Nat → Nat → Option (List Nat)
  | vs, need, free =>
    if need ≤ free then some []
    else match vs with
      | [] => none
      | v :: rest => (s.takeVictims rest need (free + (s.out v).units)).map (fun l => v :: l)

/-- A request of output n decided (R137, R138, R140). An output that its own request takes out of the pool stops at its next switching
line (3 in `falls`); one already preempted still falls back there, whatever its new request gets (1). -/
def State.poolRequest (s : State) (n units prio : Nat) : State :=
  let k := n / 8
  let o := s.out n
  let ask : Out := { o with units := units, prio := prio, victims := [] }
  let out : Nat := if o.pool = .preempted then 1 else if o.inUse ∧ o.falls = 0 then 3 else o.falls
  if units = 0 ∨ !s.poolPresent k || !s.domAllowed (80 + k) then s.setOut n { ask with pool := .none, falls := out }
  else if poolUnits < units then
    let s := s.setOut n { ask with pool := .none, falls := out, overNoted := true }
    if o.overNoted then s else s.raise 0x4020 sevNotice kOut n units
  else if s.poolIsShed k then s.setOut n { ask with pool := if o.pool = .preempted then .preempted else .queued, falls := if o.pool = .preempted then 0 else out }
  else
    match s.takeVictims (s.poolVictims k n prio) units (poolUnits - s.poolBusy k n) with
    | some vs =>
      let s := s.forEach vs (fun s v => s.modOut v (fun x => { x with pool := .preempted, falls := 0 }))
      s.modOut n (fun x => { ask with pool := .granted, victims := x.victims ++ vs, falls := if o.pool = .preempted then 1 else o.falls })
    | none => s.setOut n { ask with pool := if o.pool = .preempted then .preempted else .queued, falls := if o.pool = .preempted then 0 else out }

/-- The queue served: descending priority, then ascending output number; one that does not fit blocks none (R139). -/
def State.poolServe (s : State) (k : Nat) : State :=
  if s.poolIsShed k || !s.poolPresent k then s
  else
    ([3, 2, 1, 0].flatMap (fun p => (sliceOuts k).filter (fun m =>
        decide ((s.out m).pool = .queued) && decide ((s.out m).prio = p)))).foldl
      (fun s m => let o := s.out m
        if o.units ≤ poolUnits - s.poolBusy k m then s.setOut m { o with pool := .granted, victims := [] } else s) s

/-- An output withdraws: a queued request at once, a grant at the switching line that ends its use (R139). -/
def State.poolWithdraw (s : State) (n : Nat) : State :=
  let o := s.out n
  if o.pool = .queued then s.setOut n { o with pool := .none, units := 0, victims := [] }
  else if o.pool = .none then s.setOut n { o with units := 0 } else s

/-- Output n no longer uses the pool: its units return, those that waited for it wait no longer, the queue is served (R139). -/
def State.poolLeave (s : State) (n : Nat) (standing : Pool) : State :=
  let o := s.out n
  let s := s.setOut n { o with pool := standing, inUse := false, falls := 0, victims := if standing = .granted then o.victims else [],
                               units := if standing = .none then 0 else o.units }
  let s := s.forEach (sliceOuts (n / 8)) (fun s m => s.modOut m (fun x => { x with victims := x.victims.filter (fun v => decide (v ≠ n)) }))
  s.poolServe (n / 8)

/-- What a switching line of output n does to its standing in the pool (R139, R140): a preempted output, and one whose pool is gone or whose own
request no longer fits, falls back; a grant begins when its set is in force, its victims have fallen back and its pool is powered (R356); a set with another mode
returns the units. -/
def State.poolLine (s : State) (n : Nat) : State :=
  let o := s.out n
  if o.pool = .preempted ∨ o.falls ≠ 0 then
    let s := if o.pool = .preempted ∨ o.falls = 1 then s.bump (R.outFrcPreemptCnt n) else s
    let s := if o.falls = 3 then s else s.raise 0x4020 sevNotice kOut n o.units
    let again := decide (o.latestConv.frcMode = 2) && s.poolPresent (n / 8)
    (s.setEvents (64 + n) evFrc).poolLeave n (if o.pool = .preempted then (if again then .queued else .none) else o.pool)
  else if o.conv.frcMode ≠ 2 then
    if o.pool = .granted ∧ o.latestConv.frcMode ≠ 2 then s.poolLeave n .none
    else if o.inUse then s.setOut n { o with inUse := false } else s
  else if o.pool = .granted ∧ !o.inUse ∧ o.victims = [] ∧ s.pwr.domOn.testBit (80 + n / 8) then
    ((s.setOut n { o with inUse := true }).setEvents (64 + n) evFrc).raise 0x4021 sevInfo kOut n o.units
  else s

/-- The pool is shed: every grant becomes a queued request, and falls back at its next switching line (R140). -/
def State.poolShedNow (s : State) (k : Nat) : State :=
  let s := { s with poolShed := setBit s.poolShed k }
  s.forEach (sliceOuts k) (fun s m => let o := s.out m
    if o.pool = .granted then s.setOut m { o with pool := .queued, victims := [], falls := if o.falls = 1 then 1 else 2 } else s)

/-- The shed entry is restored: the queue is served (R140). -/
def State.poolUnshed (s : State) (k : Nat) : State := { s with poolShed := clearBit s.poolShed k }.poolServe k

/-- The pool fails: grants and requests are dropped; each granted output falls back at its next switching line (R140). -/
def State.poolFail (s : State) (k : Nat) : State :=
  let s := { s with poolLost := setBit s.poolLost k }
  s.forEach (sliceOuts k) (fun s m => let o := s.out m
    s.setOut m { o with pool := .none, victims := [],
                        falls := if o.pool = .preempted ∨ o.falls = 1 then 1 else if o.pool = .granted ∨ o.inUse then 2 else 0 })

/-- A failed pool returns: every output of the slice whose current set has mode 2 asks again, ascending (R140). -/
def State.poolReturn (s : State) (k : Nat) : State :=
  let s := { s with poolLost := clearBit s.poolLost k }
  s.forEach (sliceOuts k) (fun s m => let o := s.out m
    if o.conv.frcMode = 2 then s.poolRequest m (s.poolAsk m) (bits o.conv.ctrl 29 28) else s)

end Sys2Proof.Machine
end

