-- ==== Sys2Proof/Machine/Takes.lean ====
section
/-! DEFINITION. Takes (chapter 04): landing stores, the checks of Table 4.7, commit, discard; the holds of salvos and atomic groups. -/

namespace Sys2Proof.Machine

/-! Holds. -/

/-- The refusals that follow ABSENT: a salvo holds the output (Table 4.5), an atomic group of another unit holds it (R212). -/
def State.holdRefusal (s : State) (u n : Nat) : Option Nat :=
  let o := s.out n
  if o.salvo.isSome then some stLocked
  else match o.grpHold with
    | some e => if u = 128 + e then none else some stBusy
    | none => none

/-! Landing stores (R78, R98, R99, R109). -/

/-- Whether a flow index is taken: bound, being released or a landing store. -/
def Flow.occupied (f : Flow) : Bool := f.valid || f.releasing.isSome || f.landing.isSome

/-- The lowest free flow index of a slice (R78). -/
def State.freeIndex (s : State) (k : Nat) : Option Nat :=
  ((List.range 2048).map (fun i => 2048 * k + i)).find? (fun f => !(s.flow f).occupied)

/-- Flow contexts in use in a slice. -/
def State.sliceFlows (s : State) (k : Nat) : Nat :=
  (s.flows.filter (fun p => decide (p.1 / 2048 = k) && p.2.occupied)).length

/-- Places of the free values that describe a remote flow to this device. The spec does not say how the device knows the
format of a flow of another device at the issue cycle of a take: each is a free value of the flow (log entry 12). -/
def remoteKey (dev idx : Nat) : Nat := dev * 16384 + idx
def remoteRatio (dev idx : Nat) : Nat := [2, 3, 4, 6, 8].getD (Config.free 15 (remoteKey dev idx) % 5) 4

/-- Bytes of the audio area of a landing slot: c channels at a matrix rate and a frame rate in 1/1001 per second (R237). -/
def audioArea (fs num c : Nat) : Nat :=
  if c = 0 ∨ num = 0 then 0 else 16 + ceilDiv ((ceilDiv (fs * 1001) num + 1) * c * 3) 128 * 129

/-- The landing store of a remote flow before it has memory: its format, its charge (R107), the LOSS_POLICY of the source flow (R110). -/
def landingFlow (fast : Bool) (dev idx : Nat) : Flow :=
  let k := remoteKey dev idx
  let fmt0 := word (Config.free 10 k)
  let fmt1 := word (Config.free 11 k)
  let rateQ := Config.free 12 k
  let depth := Config.free 13 k % 4 + 1
  { info := 0x00200000, fmt0 := fmt0, fmt1 := fmt1, fmt2 := word (Config.free 14 k), rateQ := rateQ,
    storeW := word (depth * 256 + remoteRatio dev idx), wr := creditsOf rateQ (remoteRatio dev idx),
    slotBytes := slotBytesOf fmt0 fmt1 (remoteRatio dev idx)
      + audioArea (if fast then 96000 else 48000) (rateNum (bits fmt1 31 24)) (Config.free 16 k % 65), slots := List.replicate depth {},
    audioCount := Config.free 16 k % 65, policy := word (Config.free 17 k), landing := some (dev, idx) }

/-- Coded rate in Mb/s of a flow with c associated audio channels: the charged rate over the store ratio, and 24 bits for each channel
and matrix sample, rounded up together (R108, R237). -/
def State.codedMbps (s : State) (x : Flow) (c : Nat) : Nat :=
  let fs := if bit (s.reg R.audioCtrl) 0 then 96000 else 48000
  if x.ratio = 0 then 0 else ceilDiv (x.rateQ + c * 24 * fs * 1001 * x.ratio) (1001 * 1000000 * x.ratio)

/-- A landing store put in the pool of output n's slice, without memory yet: its index (R99). -/
def State.addLanding (s : State) (n dev idx : Nat) : Option (Nat × State) :=
  match s.freeIndex (n / 8) with
  | some f => some (f, s.setFlow f (landingFlow s.audioFast dev idx))
  | none => none

/-- The landing store gets its heap extent and the exchange starts: the source device is asked for the export; the exchange
must complete within 32 ticks (R109). -/
def State.startExchange (s : State) (n f dev idx : Nat) : Option State :=
  let x := s.flow f
  match s.alloc (x.depth * x.slotBytes) false with
  | some (b, s) =>
    let s := (s.setFlow f { x with base := b, exchange := some (s.ticksOn 32) }).landingAudio f
    some (s.stkSend dev 0x10 "EXPORT_REQ" (exchPay idx 0 0 0 n s.devId))
  | none => none

/-- Whether an output of this device has a remote flow taken or pending, or a group or a salvo holds a take of it (R109, R204). -/
def State.landingUsed (s : State) (dev idx : Nat) : Bool :=
  let isIt (x : Source) : Bool := decide (x.kind = 2 ∧ x.dev = dev ∧ x.idx = idx)
  s.outs.any (fun p => isIt p.2.cur || (match p.2.pend with | some q => isIt q.src | none => false))
    || s.groupMembers.any (fun m => match m with | .take _ q => isIt q.src | _ => false)
    || s.stk.parts.any (fun q => decide (q.phase ≠ .released) && q.outs.any (fun x => isIt x.pre
        || decide (bits x.word 31 28 = 2 ∧ bits x.word 24 14 = dev ∧ bits x.word 13 0 = idx)))

/-- A landing store released: its extent, credits and channels return, the reservation is freed (R109). -/
def State.dropLanding (s : State) (f : Nat) : State :=
  let x := s.flow f
  match x.landing with
  | some (dev, idx) =>
    let s := if x.base = 0 then s else s.freeAt x.base
    let s := s.freeChannels x.audioBase x.audioCount
    let s := { s with flows := s.flows.filter (fun p => p.1 ≠ f) }
    s.stkSend dev 0x14 "RELEASE" (exchPay idx 0 x.route x.resvRate 0 s.devId)
  | none => s

/-- Landing stores that no output uses and that were not prepared are released (R109). -/
def State.gcLandings (s : State) : State :=
  s.flows.foldl (fun s p => match p.2.landing with
    | some (dev, idx) => if p.2.prepared || s.landingUsed dev idx then s else s.dropLanding p.1
    | none => s) s

/-! The checks of TAKE (R106). -/

/-- The fields of a source word (Table 8.3). -/
def srcKind (w : Word) : Nat := bits w 31 28
def srcPath (w : Word) : Nat := bits w 27 26
def srcDev (w : Word) : Nat := bits w 24 14
def srcIdx (w : Word) : Nat := bits w 13 0

/-- A source word that Table 8.3 allows. -/
def srcWordOk (w : Word) : Bool :=
  !bit w 25 && match srcKind w with
    | 1 => decide (srcPath w ≤ 2 ∧ srcDev w = 0)
    | 2 => decide (srcPath w = 0)
    | 3 => decide (srcPath w = 0 ∧ srcDev w = 0 ∧ srcIdx w ≤ 5)
    | 4 => decide (srcPath w = 0 ∧ srcDev w = 0 ∧ srcIdx w = 0)
    | 5 => decide (srcPath w = 0 ∧ srcDev w = 0 ∧ srcIdx w = 0)
    | _ => false

/-- A source word naming this device's own flow remotely is a local word with PATH AUTO (R99, R204). -/
def State.localise (s : State) (w : Word) : Word :=
  if srcKind w = 2 ∧ srcDev w = s.devId then word (0x10000000 + srcIdx w) else w

/-- The freeze slot of an output: its base, its size, and whether the host allocated it (R105). -/
def State.freezeBase (s : State) (n : Nat) : Nat := s.reg64 (R.outFreezeBaseLo n)
def State.freezeSize (s : State) (n : Nat) : Nat := (s.reg (R.outFreezeBytes n)).toNat
def State.hostBlock (s : State) (a len : Nat) : Bool :=
  s.heap.any (fun (b, l, host) => host && decide (b ≤ a) && decide (a + len ≤ b + roundAlloc l))

/-- SLOT_BYTES of the source that an output shows. -/
def State.curSlotBytes (s : State) (x : Source) : Nat :=
  match x.kind with
  | 1 => (s.flow x.idx).slotBytes
  | 2 => match s.landingOf x.dev x.idx with | some f => (s.flow f).slotBytes | none => 0
  | _ => 0

/-- Whether a freeze of the current source may be made (R105). -/
def State.freezeOk (s : State) (n : Nat) : Bool :=
  let c := (s.out n).cur
  (decide (c.kind = 1 ∧ c.path = 1) || decide (c.kind = 2))
    && decide (0 < s.freezeSize n) && decide (s.curSlotBytes c ≤ s.freezeSize n)
    && s.hostBlock (s.freezeBase n) (s.freezeSize n)

/-- Check 3 and 4 of Table 4.7 for a source word: the source with its path and whether 0x4008 is raised, or the refusal. -/
def State.takeSource (s : State) (n : Nat) (w : Word) : Except Nat (Source × Bool) :=
  let o := s.out n
  match srcKind w with
  | 1 =>
    let f := s.flow (srcIdx w)
    if !(f.usable && f.isVideo) then .error stDenied
    else
      let slotOk := decide (f.depth ≠ 1) || s.lineAligned f n
      match choosePath (srcPath w) f.storeEn f.directEn (s.alignedTo f n) slotOk with
      | .error e => .error e
      | .ok (path, note) => .ok ({ kind := 1, path := path, idx := srcIdx w }, note)
  | 2 => if s.hasRoute (srcDev w) then .ok ({ kind := 2, path := 3, dev := srcDev w, idx := srcIdx w }, false) else .error stDenied
  | 3 => .ok ({ kind := 3, idx := srcIdx w }, false)
  | 4 => .ok ({ kind := 4 }, false)
  | _ =>
    if s.freezeOk n then
      let (wr, fin) := s.srcW o.cur
      .ok ({ kind := 5, w := wr, fin := fin }, false)
    else .error stDenied

/-- The change as the credits see it: pending on the output, or a member of the engine's group (R103, R212). -/
def State.probeTake (s : State) (e : Option Nat) (n : Nat) (p : PendTake) : State :=
  match e with
  | none => s.modOut n (fun o => { o with pend := some p })
  | some e => s.modCe e (fun c => match c.grp with
      | some g => { c with grp := some { g with members := g.members ++ [.take n p] } }
      | none => c)

/-- Whether a landing store has committed a frame, so that a take of it needs no exchange (R109). -/
def State.landingReady (s : State) (dev idx : Nat) : Bool :=
  match s.landingOf dev idx with | some f => (s.flow f).ready | none => false

/-- The checks of Table 4.7 in their order, for output n judged at the lines of output j, by unit u, as a member of the
group of engine e where there is one: the pending take and the state with the landing store that it needs. -/
def State.takeCheck (s : State) (u : Nat) (e : Option Nat) (n j : Nat) (w0 : Word) (salvo : Bool := false) :
    Except Nat (State × PendTake) :=
  let w := s.localise w0
  if !s.outPresent n then .error stAbsent
  else if srcKind w = 1 ∧ !s.slicePresent (srcIdx w / 2048) then .error stAbsent
  else if !s.memOk then .error stDenied
  else match (if salvo then none else s.holdRefusal u n) with
    | some r => .error r
    | none => match s.takeSource n w with
      | .error r => .error r
      | .ok (src, note) =>
        let p : PendTake := { src := src, commitT := s.ttime, swLeft := 2,
                              remote := decide (src.kind = 2) && !s.landingReady src.dev src.idx,
                              lines := if j = n then none else some j, own := decide (u = 64 + n) }
        let fresh := decide (src.kind = 2) && (s.landingOf src.dev src.idx).isNone
        let landed := if fresh then s.addLanding n src.dev src.idx else some (0, s)
        match landed with
        | none => .error stNoContext
        | some (f, t) =>
          let after := t.probeTake e n p
          if !(fits s.vidRd after.vidRd s.vidTotal && fits s.vidWr after.vidWr s.vidTotal) then .error stNoBandwidth
          else
            let t := if note then t.raise 0x4008 sevNotice kOut n src.idx else t
            if fresh then
              match t.startExchange n f src.dev src.idx with
              | none => .error stOverrun
              | some t => .ok (t, p)
            else .ok (t, p)

/-- A take committed: it replaces one not yet visible (R102), and follows Table 4.4. -/
def State.commitTake (s : State) (n : Nat) (p : PendTake) : State :=
  let o := s.out n
  let s := if o.pend.isSome then s.bump (R.outTakeReplacedCnt n) else s
  let p := { p with commitT := s.ttime, frames := 0, late := false }
  (s.setOut n { o with pend := some p }).gcLandings.mirror "TAKE" [s.swFrame n p.swLeft, n, p.src.kind, p.src.path, p.src.dev, p.src.idx]

/-- A pending take discarded, its charges returned (R63, R213). -/
def State.dropTake (s : State) (n : Nat) : State := (s.modOut n (fun o => { o with pend := none })).gcLandings

/-- The prepare form of TAKE (R204): checks 1, 3, 5 and 6 of Table 4.7, then the exchange without a take. A landing store for
which no heap extent is free ends as a failed exchange (log entry 13). -/
def State.prepare (s : State) (n : Nat) (w : Word) : Except Nat State :=
  if !s.outPresent n then .error stAbsent
  else if !s.memOk then .error stDenied
  else if srcDev w = s.devId then .ok s
  else if !s.hasRoute (srcDev w) then .error stDenied
  else match s.landingOf (srcDev w) (srcIdx w) with
    | some f =>
      let x := s.flow f
      let s := s.setFlow f { x with prepared := true }
      .ok (if x.ready then s.raise 0x4012 sevInfo kFlow f (srcDev w) (srcIdx w) else s)
    | none => match s.addLanding n (srcDev w) (srcIdx w) with
      | none => .error stNoContext
      | some (f, t) =>
        if !(fits s.vidWr t.vidWr s.vidTotal && fits s.vidRd t.vidRd s.vidTotal) then .error stNoBandwidth
        else match t.startExchange n f (srcDev w) (srcIdx w) with
          | some t => .ok (t.modFlow f (fun x => { x with prepared := true }))
          | none => .ok (s.raise 0x4010 sevWarn kOut n (srcDev w) (srcIdx w) stOverrun)

/-- The unprepare form of TAKE (R204). -/
def State.unprepare (s : State) (n : Nat) (w : Word) : Except Nat State :=
  if !s.outPresent n then .error stAbsent
  else if srcDev w = s.devId then .ok s
  else match s.landingOf (srcDev w) (srcIdx w) with
    | none => .ok s
    | some f => if s.landingUsed (srcDev w) (srcIdx w) then .error stBusy else .ok (s.dropLanding f)

/-- Whether a local flow is taken or pending, with the takes that groups and salvos hold, or exported to another device (R83, R102). A take in
an uncommitted group or salvo counts as a pending take (DESIGN CHOICE, log entry 53). -/
def State.flowTaken (s : State) (f : Nat) : Bool :=
  let isIt (x : Source) : Bool := decide (x.kind = 1 ∧ x.idx = f)
  s.outs.any (fun p => isIt p.2.cur || (match p.2.pend with | some q => isIt q.src | none => false))
    || s.groupMembers.any (fun m => match m with | .take _ q => isIt q.src | _ => false)
    || s.stk.parts.any (fun q => decide (q.phase ≠ .released) && q.outs.any (fun x => isIt x.pre || decide (bits x.word 31 28 = 1 ∧ bits x.word 13 0 = f)))
    || s.stk.exports.any (fun x => decide (x.flow = f))

end Sys2Proof.Machine
end

