-- ==== Sys2Proof/Machine/Sets.lean ====
section
/-! DEFINITION. The other committed changes of an output: conversion sets (R120, R122), timing sets (R146, R149), plane flips (R161, R163), ancillary sets (R195), LUT loads (R131), channel maps and crossfades (R185, R187); and the members of an atomic group (R212, R213). -/

namespace Sys2Proof.Machine

/-- An accepted member joins the open group of engine e (R212). -/
def State.addMember (s : State) (e : Nat) (m : Member) : State :=
  s.modCe e (fun c => match c.grp with
    | some g => { c with grp := some { g with members := g.members ++ [m] } }
    | none => c)

/-! Conversion sets. -/

/-- The staged conversion set of an output (R120). -/
def State.stagedConv (s : State) (n : Nat) : ConvSet :=
  { ctrl := s.reg (R.outConvCtrlNext n), cropOrg := s.reg (R.outCropOrgNext n), cropSize := s.reg (R.outCropSizeNext n),
    destOrg := s.reg (R.outDestOrgNext n), destSize := s.reg (R.outDestSizeNext n),
    bg := s.reg (R.outBgColourNext n), colour := s.reg (R.outColourNext n) }

def ConvSet.lutEn (c : ConvSet) : Bool := bit c.ctrl 8

/-- The LUT bank that will be active at a switching line still to come, and whether it is valid (R122, R131). -/
def Lut.nextBank (l : Lut) : Nat := if l.swapLeft.isSome then 1 - l.active else l.active
def Lut.validBank (l : Lut) (b : Nat) : Bool := if b = 0 then l.valid0 else l.valid1

/-- The source that conversion changes are judged against: the pending one if there is one (R121). -/
def Out.latestSrc (o : Out) : Source := match o.pend with | some p => p.src | none => o.cur

/-- The checks of Table 5.3 (R122). -/
def State.fmtCheck (s : State) (u : Nat) (e : Option Nat) (n j : Nat) (geom : Option (Nat × Word × Word × Word × Word) := none) :
    Except Nat PendConv :=
  let o := s.out n
  let c := s.stagedConv n
  if !s.outPresent n then .error stAbsent
  else match s.holdRefusal u n with
    | some r => .error r
    | none =>
      let x := o.latestSrc
      let f := s.flow x.idx
      if c.lutEn && !o.lut.validBank o.lut.nextBank then .error stDenied
      else if decide (x.kind = 1 ∧ x.path = 2) && !f.storeEn && !directCompat f o.latestTim c (s.geo n c o.latestTim geom) then .error stNotAligned
      else
        let p : PendConv := { set := c, geom := geom, lines := if j = n then none else some j }
        let after := match e with
          | none => s.setOut n { o with convPend := some p }
          | some e => s.addMember e (.fmt n p)
        if fits s.vidRd after.vidRd s.vidTotal then .ok p else .error stNoBandwidth

/-- A conversion set committed: it replaces one not yet current (R121); the pool request is decided, or withdrawn (R137 to R139). -/
def State.commitFmt (s : State) (n : Nat) (p : PendConv) : State :=
  let s := s.modOut n (fun o => { o with convPend := some { p with swLeft := 2 } })
  let s := if p.set.frcMode = 2 then s.poolRequest n (s.poolAsk n) (bits p.set.ctrl 29 28)
    else s.poolWithdraw n
  s.mirror "FMT" [s.swFrame n 2, n]

/-! Timing sets. -/

/-- The staged timing set of an output. -/
def State.stagedTim (s : State) (n : Nat) : TimSet :=
  { h0 := s.reg (R.outTimH0Next n), h1 := s.reg (R.outTimH1Next n), v0 := s.reg (R.outTimV0Next n),
    v1 := s.reg (R.outTimV1Next n), ctrl := s.reg (R.outTimCtrlNext n) }

/-- Bits per pixel of a conversion set's output sampling and depth (Table 5.15). -/
def ConvSet.bpp (c : ConvSet) : Nat := bitsPerPixel (bits c.colour 23 22) (bits c.colour 21 20)

/-- The higher of the payloads per pixel of the current and the pending set (Table 6.3). -/
def Out.topBpp (o : Out) : Nat := max o.conv.bpp o.latestConv.bpp

/-- Rows 3 of Table 6.3 that need a group. -/
def State.tsetGroupOk (s : State) (n : Nat) (t : TimSet) : Bool :=
  let g := t.group
  let o := s.out n
  let num := s.groupRate g
  s.groupEnabled g && (s.group g).running && decide (t.scan = s.groupScan g)
    && (!s.portIsSdi n || (sdiClassFor (s.sdiClass n) (modeLinks (s.portMode n)) t.hTotal t.vTotal t.vActive t.scan num
          (bits o.latestConv.colour 23 22) (bits o.latestConv.colour 21 20)).isSome)
    && (!s.portIsSdi n || (s.pickSyn n (sdiFamily num)).isSome)

/-- The checks of Table 6.3 (R146) on output n, captured at the latch line of output j (R166). -/
def State.tsetCheck (s : State) (u : Nat) (e : Option Nat) (n j : Nat) (tile : Bool) : Except Nat PendTim :=
  let o := s.out n
  let t := s.stagedTim n
  let mode := s.portMode n
  if !s.outPresent n then .error stAbsent
  else match s.holdRefusal u n with
    | some r => .error r
    | none =>
      if (!tile && (s.tileOf n).isSome) || decide (mode = 0) || decide (mode = 10) then .error stDenied
      else if t.group = 0xFF then
        if t.limitsOk then .ok { set := t, commitT := s.ttime, lines := if j = n then none else some j } else .error stRange
      else if !s.tsetGroupOk n t then .error stDenied
      else
        let num := s.groupRate t.group
        if !(t.limitsOk && t.rasterRateOk num) then .error stRange
        else if s.portIsEth n && decide (48000000000 * 1001 < t.hActive * t.vActive * o.topBpp * num) then .error stNoBandwidth
        else
          let p : PendTim := { set := t, commitT := s.ttime, lines := if j = n then none else some j }
          let after := match e with
            | none => s.setOut n { o with timPend := some p }
            | some e => s.addMember e (.tset n p)
          if decide (s.outRate n = some num) || (fits s.vidRd after.vidRd s.vidTotal && fits s.gfxHeld after.gfxHeld s.gfxTotal)
          then .ok p else .error stNoBandwidth

/-- A timing set that an output which does not scan takes over: one without a group is current at once (log entry 14), another one is captured
and waits for the first frame start of its group (Table 6.5). -/
def Out.captureTim (o : Out) (p : PendTim) : Out :=
  if p.set.group = 0xFF then { o with tim := p.set, hasTim := true, timPend := none, timCap := none, group := 0xFF }
  else { o with timPend := none, timCap := some p }

/-- A timing set committed (R149): it replaces one not yet captured; an output that does not scan captures it at once; an SDI
output's synthesiser is reserved (R324). -/
def State.commitTset (s : State) (n : Nat) (p : PendTim) : State :=
  let o := s.out n
  let s := s.dropSyn (64 + n)
  let s := if s.portIsSdi n && decide (p.set.group ≠ 0xFF) then (s.takeSyn n (sdiFamily (s.groupRate p.set.group)) (64 + n)).getD s else s
  let p := { p with commitT := s.ttime }
  let s := s.setOut n (if o.scanning then { o with timPend := some p } else o.captureTim p)
  s.mirror "TSET" [s.latchFrame n, n]

/-- A pending timing set discarded. One that already applies, while the output waits for its new group, stands (R151, R152). -/
def State.dropTset (s : State) (n : Nat) : State :=
  if (s.out n).cutWait then s.modOut n (fun o => { o with timPend := none })
  else (s.modOut n (fun o => { o with timPend := none, timCap := none })).dropSyn (64 + n)

/-! Planes. -/

/-- The staged registers of plane p of an output with a base (R161). -/
def State.stagedPlane (s : State) (n p base : Nat) : PlaneSet :=
  { ctrl := s.reg (R.outPlCtrlNext n p), org := s.reg (R.outPlOrgNext n p), size := s.reg (R.outPlSizeNext n p),
    stride := s.reg (R.outPlStrideNext n p), base := base }

/-- The conditions of R159 on an enabled plane. -/
def State.planeOk (s : State) (p : PlaneSet) : Bool :=
  decide (0 < p.w ∧ 0 < p.h) && decide (p.strideB % 64 = 0 ∧ p.w * p.bpp ≤ p.strideB ∧ p.strideB ≤ 0xFFFFC0)
    && decide (p.base + (p.h - 1) * p.strideB + p.w * p.bpp ≤ popBytes s)

def Out.plane (o : Out) (p : Nat) : Plane := if p = 0 then o.p0 else o.p1
def Out.setPlane (o : Out) (p : Nat) (x : Plane) : Out := if p = 0 then { o with p0 := x } else { o with p1 := x }

/-- Rows 2 to 4 of Table 6.8. -/
def State.flipRows (s : State) (e : Option Nat) (n j p : Nat) (c : PlaneSet) (tile : Bool) : Except Nat PendFlip :=
  let o := s.out n
  if !tile && (s.tileOf n).isSome then .error stDenied
  else if c.enabled && !s.planeOk c then .error stRange
  else
    let f : PendFlip := { set := c, late := (s.out j).latchSeen, commitT := s.ttime, lines := if j = n then none else some j }
    let after := match e with
      | none => s.setOut n (o.setPlane p { o.plane p with pend := some f })
      | some e => s.addMember e (.flip n p f)
    if fits s.gfxHeld after.gfxHeld s.gfxTotal then .ok f else .error stNoBandwidth

/-- The checks of Table 6.8 (R161) for plane p of output n with the staged registers of output j; the hold of another
unit's group stands after ABSENT (R212). -/
def State.flipCheck (s : State) (u : Nat) (e : Option Nat) (n j p base : Nat) (tile : Bool) : Except Nat PendFlip :=
  if !s.outPresent n then .error stAbsent
  else if (match (s.out n).grpHold with | some g => decide (u ≠ 128 + g) | none => false) then .error stBusy
  else if !s.memOk then .error stRange
  else s.flipRows e n j p (s.stagedPlane j p base) tile

/-- A replaced or discarded flip reported as stale (R163). -/
def State.staleFlip (s : State) (n p : Nat) (base : Nat) : State :=
  let s := s.modOut n (fun o => o.setPlane p { o.plane p with stale := base, result := stStale })
  (s.bump (R.outFlipStaleCnt n)).raise 0x4032 sevInfo kOut n p base (base / 2 ^ 32)

/-- A flip committed (R161): it replaces one not yet captured, which is stale (R163). One already captured waits for its frame start. -/
def State.commitFlip (s : State) (n p : Nat) (f : PendFlip) : State :=
  let j := s.out (f.lines.getD n)
  let f := { f with commitT := s.ttime, late := j.latchSeen && j.scanning }
  let s := match ((s.out n).plane p).pend with
    | some q => s.staleFlip n p q.set.base
    | none => s.modOut n (fun o => o.setPlane p { o.plane p with result := stOk })
  let s := s.modOut n (fun o => o.setPlane p { o.plane p with pend := some f })
  s.mirror "FLIP" [s.latchFrame n, n, p, f.set.base]

def State.dropFlip (s : State) (n p : Nat) : State :=
  let x := (s.out n).plane p
  let s := s.modOut n (fun o => o.setPlane p { o.plane p with pend := none, cap := none })
  let s := match x.cap with | some q => s.staleFlip n p q.set.base | none => s
  match x.pend with | some q => s.staleFlip n p q.set.base | none => s

/-! Ancillary sets. -/

/-- Word i of staged insert slot k of an output (Table 7.11). -/
def State.insWord (s : State) (n k i : Nat) : Word := s.reg (R.outIns n (128 * k + i))

/-- Whether a staged insert slot is valid. -/
def State.insValid (s : State) (n k : Nat) : Bool := bit (s.insWord n k 0) 31

/-- A staged insert slot read as a packet (R193). -/
def State.stagedIns (s : State) (n k : Nat) : InsSlot :=
  let w := s.insWord n k 0
  let cnt := bits (s.insWord n k 1) 7 0
  { valid := true, rep := bit w 30, line := bits w 28 16, did := bits w 15 8, sdid := bits w 7 0,
    words := (List.range cnt).map (fun i => fieldOf (s.insWord n k (2 + i / 3)).toNat (10 * (i % 3) + 9) (10 * (i % 3))) }

/-- The staged ancillary set with the insert slots of a mask (R195). -/
def State.stagedAnc (s : State) (n mask : Nat) : AncSet :=
  { ctrl := s.reg (R.outAncCtrlNext n), tcLoad := s.reg (R.outTcLoadNext n),
    rules := (List.range 32).map (fun r => s.reg (R.outAncRuleNext n r)),
    ins := ((List.range 16).filter (fun k => mask.testBit k)).map (fun k => (k, s.stagedIns n k)) }

/-- The refusals of ANC (R195). -/
def State.ancCheck (s : State) (u n mask : Nat) : Except Nat PendAnc :=
  if !s.outPresent n then .error stAbsent
  else match s.holdRefusal u n with
    | some r => .error r
    | none => .ok { set := s.stagedAnc n mask, commitT := s.ttime }

def State.commitAnc (s : State) (n : Nat) (p : PendAnc) : State :=
  (s.modOut n (fun o => { o with ancPend := some { p with commitT := s.ttime } })).mirror "ANC" [s.latchFrame n, n]

/-! LUT loads. -/

def lutBytes : Nat := 287560

/-- LUT on an output (Table 5.8, the issue-cycle rows): the load starts into the inactive bank. -/
def State.lutStart (s : State) (n : Nat) : Except Nat State :=
  let o := s.out n
  let src := s.reg64 (R.outLutSrcLo n)
  if !s.outPresent n then .error stAbsent
  else if o.lut.loading.isSome || o.lut.swapLeft.isSome then .error stBusy
  else if decide (src % 64 ≠ 0) || decide (popBytes s < src + lutBytes) then .error stRange
  else
    let l := if o.lut.active = 0 then { o.lut with valid1 := false } else { o.lut with valid0 := false }
    .ok (s.setOut n { o with lut := { l with loading := some (s.ticksOn 8), src := src } })

/-! Channel maps. -/

/-- The code of the i-th channel of a map: kind 0 input block, 1 source code, 2 follow (Table 7.10). -/
def mapCode (kind src i : Nat) : Nat :=
  if kind = 0 then src + i else if kind = 1 then src else 0x4000 + (fieldOf src 13 8) * 256 + (fieldOf src 5 0 + i)

/-- The checks of Table 7.4 (R185). -/
def State.amapCheck (s : State) (u : Nat) (r : AmapReq) : Except Nat AmapReq :=
  let absent := !s.audioPresent || (decide (r.ref ≠ 0xFE) && !s.outPresent r.ref) || (decide (r.kind = 2) && !s.outPresent (fieldOf r.src 13 8))
  if absent then .error stAbsent
  else match (if r.ref = 0xFE then none else s.holdRefusal u r.ref) with
    | some x => .error x
    | none =>
      if (List.range r.count).any (fun i => match (s.oc (r.oc + i)).pend with | some q => decide (q.ref ≠ r.ref) | none => false)
      then .error stBusy else .ok r

/-- A channel map committed (R185): at the lines of its reference, or from one tick later where it has none or does not scan. -/
def State.commitAmap (s : State) (r : AmapReq) : State :=
  let timed := decide (r.ref = 0xFE) || !(s.out r.ref).scanning
  let s := s.forEach (List.range r.count) (fun s i => s.modOc (r.oc + i) (fun x =>
    { x with pend := some { src := mapCode r.kind r.src i, ref := r.ref, swLeft := 2,
                            fromT := if timed then some (s.ttime + tickLen) else none } }))
  s.mirror "AMAP" [s.swFrame r.ref 2, r.oc, r.count, r.kind, r.src, r.ref]

/-- AXF: the crossfade registers of a block (R187). -/
def State.commitAxf (s : State) (oc count : Nat) (xf : Word) : State :=
  (s.forEach (List.range count) (fun s i => s.setReg (R.audioOcXf (oc + i)) xf)).mirror "AXF" [oc, count, xf.toNat]

def State.axfCheck (s : State) (u ref : Nat) : Except Nat Unit :=
  if !s.audioPresent then .error stAbsent
  else if ref = 0xFE then .ok ()
  else if !s.outPresent ref then .error stAbsent
  else match s.holdRefusal u ref with | some x => .error x | none => .ok ()

/-! Members of an atomic group. -/

/-- An accepted member committed (R213). -/
def State.commitMember (s : State) : Member → State
  | .take n p => s.commitTake n p
  | .flip n k f => s.commitFlip n k f
  | .tset n p => s.commitTset n p
  | .fmt n p => s.commitFmt n p
  | .amap r => s.commitAmap r
  | .axf oc count xf => s.commitAxf oc count xf
  | .anc n p => s.commitAnc n p
  | .ffmt f w0 w1 w2 => (s.modFlow f (fun x => { x with fmtPend := some (w0, w1, w2) })).mirror "FFMT" [f, w0.toNat, w1.toNat, w2.toNat]

/-- A checked change made: committed at once, or held by the open group of engine e, which holds its outputs (R212). -/
def State.absorb (s : State) (e : Option Nat) (m : Member) : State :=
  match e with
  | none => s.commitMember m
  | some e =>
    let s := s.addMember e m
    s.forEach m.outs (fun s n => s.modOut n (fun o => { o with grpHold := some e }))

/-- A change made on each output of a list, each checked on the state the earlier ones leave; the first refusal ends it (R166). -/
def State.onEach (e : Option Nat) (chk : State → Nat → Except Nat (State × Member)) : List Nat → State → Except Nat State
  | [], s => .ok s
  | n :: ns, s => match chk s n with
    | .error r => .error r
    | .ok (t, m) => State.onEach e chk ns (t.absorb e m)

/-- The outputs held by engine e are free again; landing stores no longer used are released (R212, R213). -/
def State.endGroup (s : State) (e : Nat) : State :=
  let s := s.modCe e (fun c => { c with grp := none })
  let s := { s with outs := s.outs.map (fun (p : Nat × Out) => (p.1, if p.2.grpHold = some e then { p.2 with grpHold := none } else p.2)) }
  s.gcLandings

/-! Discards of an output (R63). -/

/-- Every change of output n that is committed and not yet visible or in effect is discarded, its charges returned, each
discarded flip reported as stale (R63, R102, R121, R152, R190). With a discarded conversion set its request to the pool goes too: that of the
current set stands again (R137). -/
def State.discardOut (s : State) (n : Nat) : State :=
  let s := (s.dropTake n).dropTset n
  let s := (s.dropFlip n 0).dropFlip n 1
  let had := (s.out n).convPend.isSome
  let s := s.modOut n (fun o => { o with convPend := none, ancPend := none, ancCap := none })
  let c := (s.out n).conv
  let s := if c.frcMode ≠ 2 then s.poolWithdraw n else if had then s.poolRequest n (s.poolAsk n) (bits c.ctrl 29 28) else s
  { s with audio := { s.audio with ocs := s.audio.ocs.map (fun p => (p.1,
      match p.2.pend with | some q => if q.ref = n then { p.2 with pend := none } else p.2 | none => p.2)) } }

end Sys2Proof.Machine
end

