-- ==== Sys2Proof/Machine/Signals.lean ====
section
/-! DEFINITION. Signals to the host and the event log: MSI-X messages (R438), an event entering the ring and its routing (R452 to R454). -/

namespace Sys2Proof.Machine

/-! MSI-X. -/

/-- The mask bit of a vector in its table entry (R438). -/
def State.msixMasked (s : State) (v : Nat) : Bool := bit (s.reg (R.msixTab (4 * v + 3))) 0

/-- The pending bit of a vector. -/
def State.msixPending (s : State) (v : Nat) : Bool := bit (s.reg (R.msixPba (v / 32))) (v % 32)

def State.setPba (s : State) (v : Nat) (b : Bool) : State :=
  let w := (s.reg (R.msixPba (v / 32))).toNat
  s.setReg (R.msixPba (v / 32)) (word (if b then setBit w (v % 32) else clearBit w (v % 32)))

/-- Whether the host has bus mastering enabled in configuration space. No command of the block writes configuration space:
a free value (log entry 15). -/
def State.busMaster (s : State) : Bool := Config.freeBool 20 s.freeCtr

/-- A source condition signals a vector: one message, or its pending bit where it is masked or bus mastering is off (R438). -/
def State.msix (s : State) (v : Nat) : State :=
  if s.msixMasked v || !s.busMaster then s.setPba v true else s.emit "MSIX" v 0 []

/-- A vector unmasked: a pending one sends its one message (R438). -/
def State.msixUnmask (s : State) (v : Nat) : State :=
  let w := s.reg (R.msixTab (4 * v + 3))
  let s := s.setReg (R.msixTab (4 * v + 3)) (setBits w 0 0 0)
  if s.msixPending v && s.busMaster then (s.setPba v false).emit "MSIX" v 0 [] else s

/-! The event log. -/

/-- The eight words of an entry (Table 20.5). -/
def Event.words (e : Event) (seq : Nat) : List Word :=
  [word (e.code + e.sev * 2 ^ 16 + flag e.aon 23), word e.src, lo32 e.stamp, hi32 e.stamp, e.a0, e.a1, e.a2, word seq]

/-- The pending bits that events set in the present management cycle, which a clear of that cycle leaves set (R454). -/
def State.noteSet (s : State) (m a g : Nat) : State :=
  let l := s.evlog
  let l : EvLog := if l.setCycle = s.ttime / 2 then l else { l with setCycle := s.ttime / 2, setMsix := 0, setAlarm := 0, setGpio := 0 }
  { s with evlog := { l with setMsix := l.setMsix ||| m, setAlarm := l.setAlarm ||| a, setGpio := l.setGpio ||| g } }

/-- A set of pending bits noted in the present management cycle. -/
def State.justSet (s : State) (f : EvLog → Nat) : Nat := if s.evlog.setCycle = s.ttime / 2 then f s.evlog else 0

/-- The routing of an event by its class (R454). -/
def State.routeEvent (s : State) (e : Event) : State :=
  let c := e.code / 0x1000
  let r := s.reg (R.eventRoute c)
  let hits (f : Nat) : Bool := decide (f ≤ 4) && decide (f ≤ e.sev)
  let pend := s.reg R.eventMsixPend
  let out := hits (bits r 14 12) && bit (s.reg R.eventGpioCtrl) (bits r 4 0)
  let s := s.noteSet (if hits (bits r 26 24) then 2 ^ c else 0) (if hits (bits r 10 8) then 2 ^ c else 0) (if out then 2 ^ bits r 4 0 else 0)
  let s := if hits (bits r 26 24) then
      let s := if bit pend c then s else s.msix (bits r 21 16)
      s.setReg R.eventMsixPend (pend ||| word (2 ^ c))
    else s
  let s := if hits (bits r 10 8) then s.setReg R.eventAlarmPend (s.reg R.eventAlarmPend ||| word (2 ^ c)) else s
  if out then { s with evlog := { s.evlog with held := setBit s.evlog.held (bits r 4 0) } } else s

/-- An entry written at the tail; on a full ring it takes the place of the oldest unconsumed one (R452, R453). -/
def State.logEntry (s : State) (e : Event) : State :=
  let tail := (s.reg R.eventLogTail).toNat
  let head := (s.reg R.eventLogHead).toNat
  let full := (tail + 8192 - head) % 8192 = 4096
  let ws := e.words (s.evlog.seq + 1)
  let s := { s with evlog := { s.evlog with ring := Tbl.set [] s.evlog.ring (tail % 4096) ws, seq := s.evlog.seq + 1 } }
  let s := s.setRegN R.eventLogTail ((tail + 1) % 8192)
  let s := if full then
      ((s.setRegN R.eventLogHead ((head + 1) % 8192)).bump R.eventOverwriteCnt).raiseLim 0 0xB020 sevNotice kOther 0
    else s
  let s := if e.sev = sevFatal then s.bump R.hlthLifeFatal else s
  if e.sev < sevError then s
  else if s.faultQ.length < 112 then { s with faultQ := s.faultQ ++ [ws] }
  else (s.bump R.saffronLogDropCnt).raise 0x700B sevWarn kOther 0

/-- The first of the raised events enters the log ring and is routed (R28, R452), in the management cycle after its stamp: what is raised
later carries a later stamp, so equal stamps are always placed together. -/
def State.takeEvent (s : State) : State :=
  match s.raised with
  | [] => s
  | e :: es => (({ s with raised := es }.advance ((e.stamp / 2 + 1) * 2)).logEntry e).routeEvent e

/-- Events that have waited for 1 µs by an instant enter the log ring (R25, Table 1.5). -/
def State.logDue (s : State) (t : Nat) : State :=
  s.forEach (s.raised.filter (fun e => decide (e.stamp + 1600 ≤ t))) (fun s _ => s.takeEvent)

/-- ALARM_N is driven low while any bit of ALARM_PEND is set (R454), while a strap floats (R467), when no push has come (R369), and while
the baseplate holds power-up (R490). -/
def State.alarmLow (s : State) : Bool := decide (s.reg R.eventAlarmPend ≠ 0) || s.boot.strapFloat || s.boot.pushAlarm || s.pwr.heldCold

end Sys2Proof.Machine
end

