-- ==== Sys2Proof/Machine/CeQueue.lean ====
section
/-! DEFINITION. The host queues of the command engines (R217 to R222): blocks, their checks, completions, the end of a command; the end of an atomic group (R213); memories of the units (R45). -/

namespace Sys2Proof.Machine

/-! Program memories (R45): bytes kept at their control addresses. -/

/-- The control address of a unit's memory (the table of R45). -/
def unitMemBase (u : Nat) : Nat :=
  if u < 64 then 0x01000000 + u * 0x10000
  else if u < 128 then 0x01400000 + (u - 64) * 0x10000
  else 0x01800000 + (u - 128) * 0x40000

/-- Bytes of a unit's memory (Table 2.1). -/
def unitMemSize (u : Nat) : Nat := if u < 128 then 0x10000 else 0x40000

/-- Physical offset of a logical byte of a unit: the active bank lies at logical 0 (R45). -/
def UnitState.phys (x : UnitState) (u a : Nat) : Nat :=
  if u < 128 then (if a < 0x8000 then x.bank * 0x8000 + a else (1 - x.bank) * 0x8000 + (a - 0x8000)) else a

/-- n little-endian bytes of a unit's memory at a logical address. -/
def State.unitLoad (s : State) (u a n : Nat) : Nat :=
  ofLeBytes ((List.range n).map (fun i => Memory.read s.mem.prog (unitMemBase u + (s.unit u).phys u (a + i))))

/-- The words of a unit's memory that a control-side write of n bytes at a control address reaches, kept for the cycle (R47). -/
def UnitState.keepCtl (x : UnitState) (a n c : Nat) : UnitState :=
  let ws := (List.range (n + 3)).map (fun i => (a + i) / 4) |>.filter (fun w => decide (w * 4 < a + n))
  { x with ctlWords := ws ++ (if x.ctlCycle = c + 1 then x.ctlWords else []), ctlCycle := c + 1 }

/-- Whether the control side has written the word at a control address in the cycle of TTIME. -/
def State.ctlWrote (s : State) (u a : Nat) : Bool :=
  decide (u < 128 ∧ (s.unit u).ctlCycle = cycleOf u s.ttime + 1) && (s.unit u).ctlWords.contains (a / 4)

/-- The low n bytes of a value stored at a logical address; over a word that the control side writes in the same cycle its value remains
(R47). -/
def State.unitStore (s : State) (u a n v : Nat) : State :=
  if s.ctlWrote u (unitMemBase u + (s.unit u).phys u a) then s else
  (s.progScatter ((List.range n).map (fun i => unitMemBase u + (s.unit u).phys u (a + i))) (leBytes n v)).mirror "PROG" ((unitMemBase u + (s.unit u).phys u a) :: (leBytes n v).map BitVec.toNat)

/-- Bytes written into a unit's memory at a physical offset; a twin mirrors program memories (Table 12.3). -/
def State.unitWrite (s : State) (u a : Nat) (bs : List Byte) : State :=
  (s.progPut (unitMemBase u + a) bs).mirror "PROG" ((unitMemBase u + a) :: bs.map BitVec.toNat)

/-! The rings (Table 8.11): SRAM bytes kept at their BAR2 offsets. -/

def sqBase (e : Nat) : Nat := e * 0x100000
def cqBase (e : Nat) : Nat := 0x400000 + e * 0x80000
def stageBase : Nat := 0x01000000
def stageSize : Nat := 0x03000000

/-- Word w of the k-th block after the head of engine e's command ring (R218). -/
def State.blockWord (s : State) (e head k w : Nat) : Word :=
  word (Memory.readLe s.mem.sram (sqBase e + 64 * ((head + k) % 16384) + 4 * w) 4)

/-- Blocks posted and not yet consumed (R222). -/
def Ce.posted (c : Ce) : Nat := (c.sqTail + 0x8000 - c.sqHead) % 0x8000

/-- Completion records not yet consumed (R221). -/
def Ce.unread (c : Ce) : Nat := (c.cqTail + 0x8000 - c.cqHead) % 0x8000

/-- A completion record of R221 written at CQ_TAIL, with its MSI-X signal; a STOP_ON_ERR command that failed stops the queue (R222). -/
def State.complete (s : State) (e : Nat) (cmd status : Nat) (tag : Word) (idx : Nat) (pc fault : Nat) (v1 v2 : Word)
    (irq stop : Bool) : State :=
  let c := s.ce e
  let phase := if c.cqTail < 16384 then 1 else 0
  let w0 := phase * 2 ^ 16 + (cmd % 256) * 256 + status
  let ws := [word w0, tag, word idx, word (pc * 2 ^ 16 + fault), v1, v2, lo32 s.ttime, hi32 s.ttime]
  let s := s.sramPut (cqBase e + 32 * (c.cqTail % 16384)) (wordsBytes ws)
  let s := s.setCe e { c with cqTail := (c.cqTail + 1) % 0x8000 }
  let s := s.bump (R.ceqBlockCnt e)
  let q := s.reg (R.ceqQCtrl e)
  let s := if irq || bit q 8 then s.msix (bits q 21 16) else s
  if stop && decide (status ≠ stOk) then
    (s.modCe e (fun c => { c with qstate := 2 })).raise 0x8026 sevNotice kCe e tag.toNat status
  else s

/-- The end of a transaction of master m under R433, with what the target took of it: the event names the master, the target and the
beats delivered. -/
def State.endXact (s : State) (m : Nat) : State :=
  match Tbl.find s.xbar.xacts m with
  | none => s
  | some x =>
    let s := (s.bump (R.xbarMasterResetCnt m)).raise 0x8030 sevNotice kOther 0 m x.target x.delivered
    { s with xbar := { s.xbar with xacts := Tbl.set Xact.none s.xbar.xacts m Xact.none } }

/-- A reset of master m clears its TTIME capture and the high halves held for it (R432). -/
def State.masterClear (s : State) (m : Nat) : State :=
  { s with capT := Tbl.set 0 s.capT m 0, frozen := s.frozen.filter (fun p => decide (p.1 / 2 ^ 32 ≠ m)) }

/-- The bytes a LOADP copies. -/
def State.loadpBytes (s : State) (e : Nat) (l : Loadp) : List Byte :=
  if l.srcInEngine then Memory.readBytes s.mem.prog (unitMemBase (128 + e) + l.src) (4 * l.words)
  else Memory.readBytes s.mem.sram (stageBase + l.src) (4 * l.words)

/-- A LOADP of engine e that stops before its end: how many of its bytes are in the bank is a free value (R215). -/
def State.loadpPartial (s : State) (e : Nat) : State :=
  match (s.ce e).loadp with
  | none => s
  | some l =>
    let (n, s) := s.freeNat 32
    (s.unitWrite l.tgt (l.bank * 0x8000) ((s.loadpBytes e l).take (n % (4 * l.words)))).modCe e (fun c => { c with loadp := none })

/-- The end of an executing command (Table 8.14): an open group is discarded, a LOADP in progress stops, a transaction of the engine ends
(R432), the completion is written with the fault that ended it, the unit is free. -/
def State.endCommand (s0 : State) (e status : Nat) (fault : Nat := 0) : State :=
  let s := s0.loadpPartial e
  match (s.ce e).exec with
  | none => s0
  | some x =>
    let u := 128 + e
    let open_ := (s.ce e).grp.isSome
    let s := if open_ then s.endGroup e else s
    let s := (s.endXact (4 + e)).masterClear (4 + e)
    let st := if status = stOk ∧ open_ then stAborted else status
    let n := s.unit u
    let s := s.setUnit u { n with run := .idle, wait := none, stalled := false, mark := none }
    let s := s.modCe e (fun c => { c with exec := none, loadp := none, salvo := none,
                                          sqHead := (c.sqHead + x.nblk) % 0x8000 })
    s.complete e x.cmd st x.tag x.idx n.pc fault
      (Tbl.get 0 n.regs 1) (Tbl.get 0 n.regs 2) x.irq x.stopOnErr

/-- A command that does not execute: completed with a status, its blocks consumed (R219). -/
def State.rejectCommand (s : State) (e status nblk : Nat) : State :=
  let c := s.ce e
  let w0 := s.blockWord e c.sqHead 0 0
  let idx := c.sqHead
  let s := s.setCe e { c with sqHead := (c.sqHead + nblk) % 0x8000, partialAt := none }
  let s := s.bump (R.ceqBlockRejectCnt e)
  s.complete e (bits w0 7 0) status (s.blockWord e idx 0 1) idx 0 0 0 0 (bit w0 16) (bit w0 18)

/-- Row 2 of Table 8.13: CMD not listed, reserved bits set, NBLK outside 1 to 63. -/
def State.blockFieldsOk (s : State) (e : Nat) : Bool :=
  let h := (s.ce e).sqHead
  let w0 := s.blockWord e h 0 0
  let w2 := s.blockWord e h 0 2
  let w3 := s.blockWord e h 0 3
  let cmd := bits w0 7 0
  let nblk := bits w0 15 8
  decide (1 ≤ cmd ∧ cmd ≤ 4) && decide (bits w0 31 19 = 0) && !bit w0 17 && decide (1 ≤ nblk ∧ nblk ≤ 63)
    && decide (bits w2 31 16 = 0) && decide (bits w3 23 18 = 0)
    && (match cmd with
        | 2 => decide (bits w3 17 16 = 0)
        | 4 => (List.range 10).all (fun i => decide (s.blockWord e h 0 (6 + i) = 0))
        | _ => decide (bits w3 17 0 = 0))

/-- Row 3 of Table 8.13. -/
def State.blockRangesOk (s : State) (e : Nat) : Bool :=
  let h := (s.ce e).sqHead
  let w3 := s.blockWord e h 0 3
  let timing := bits w3 31 24
  let cmd := bits (s.blockWord e h 0 0) 7 0
  (decide (timing < 16) || decide (timing = 255))
    && (if cmd = 4 then
          let off := (s.blockWord e h 0 4).toNat
          let len := (s.blockWord e h 0 5).toNat
          decide (len % 4 = 0 ∧ off + len ≤ stageSize ∧ bits w3 17 0 + len ≤ 0x3F000)
        else true)

/-- Where the block at the head of an engine's ring stands (R219, R221). -/
inductive BlockAt where
  | nothing | waitSpace | partly | reject (status nblk : Nat) | ready
  deriving DecidableEq, Repr

/-- The order of R219 and Table 8.13 for the command at the head: with nothing posted, a stopped or busy queue or an absent
engine there is none; TAMPER, then RANGE; on a STANDBY every command ends DENIED (R297). -/
def State.headBlock (s : State) (e : Nat) : BlockAt :=
  let c := s.ce e
  if c.qstate ≠ 1 ∨ c.exec.isSome ∨ c.posted = 0 then .nothing
  else if c.unread = 16384 then .waitSpace
  else
    let nblk := bits (s.blockWord e c.sqHead 0 0) 15 8
    let n := if 1 ≤ nblk ∧ nblk ≤ 63 then nblk else 1
    if s.tamperLock then .reject stTamper (min n c.posted)
    else if s.isStandby then .reject stDenied (min n c.posted)
    else if !s.blockFieldsOk e then .reject stRange (min n c.posted)
    else if c.posted < nblk then .partly
    else if !s.blockRangesOk e then .reject stRange n
    else .ready

/-- What the engine does with the block at the head before any command runs: it waits for completion space or for the rest of
the command, or completes the command without executing it (R219, R221). -/
def State.settleHead (s : State) (e : Nat) : State :=
  match s.headBlock e with
  | .waitSpace => s.modCe e (fun c => { c with waitCq := true })
  | .partly => match (s.ce e).partialAt with
    | some _ => s
    | none => s.modCe e (fun c => { c with partialAt := some (s.ticksOn 8) })
  | .reject st n => s.rejectCommand e st n
  | _ => s

/-- The start of execution (R218): the first block copied into the engine's memory, S_TIMING set, v1 to v15 cleared. -/
def State.beginCommand (s : State) (e : Nat) : State :=
  let c := s.ce e
  let h := c.sqHead
  let u := 128 + e
  let w0 := s.blockWord e h 0 0
  let t := bits (s.blockWord e h 0 2) 15 0
  let block := (List.range 16).flatMap (fun w => leBytes 4 (s.blockWord e h 0 w).toNat)
  let s := s.unitWrite u 0x3FFC0 block
  let x : Exec := { idx := h, nblk := bits w0 15 8, cmd := bits w0 7 0, tag := s.blockWord e h 0 1,
                    irq := bit w0 16, stopOnErr := bit w0 18,
                    deadline := s.ticksOn (if t = 0 then 1600 else t) }
  let s := s.setCe e { c with partialAt := none, waitCq := false, exec := some x }
  s.modUnit u (fun n => { n with regs := [], timing := bits (s.blockWord e h 0 3) 31 24, run := .run, wait := none,
                                 stalled := false, resultAt := 0, resultReg := 0,
                                 nextIssue := alignUp mgmtCycle (s.ttime + 1) })

/-- A command of a kind taken from the head of the ring; s unchanged where the command there is of another kind. -/
def State.onCommand (s : State) (e kind : Nat) (run : State → State) : State :=
  if 4 ≤ e then s
  else
    let c := s.ce e
    match s.headBlock e with
    | .ready => if bits (s.blockWord e c.sqHead 0 0) 7 0 = kind then run s else s
    | _ => s.settleHead e

/-- CALL runs from word ENTRY (R218). -/
def State.cmdCall (s : State) (e : Nat) : State :=
  s.onCommand e 2 (fun s =>
    let entry := bits (s.blockWord e (s.ce e).sqHead 0 3) 15 0
    (s.beginCommand e).modUnit (128 + e) (fun n => { n with pc := entry }))

/-- INLINE copies its code words to the inline area and runs from word 0xFC00 (R218). -/
def State.cmdInline (s : State) (e : Nat) : State :=
  s.onCommand e 3 (fun s =>
    let h := (s.ce e).sqHead
    let nblk := bits (s.blockWord e h 0 0) 15 8
    let code := ((List.range 12).map (fun i => s.blockWord e h 0 (4 + i)))
      ++ (List.range (nblk - 1)).flatMap (fun k => (List.range 16).map (fun w => s.blockWord e h (k + 1) w))
    let s := s.unitWrite (128 + e) (4 * 0xFC00) (wordsBytes code)
    (s.beginCommand e).modUnit (128 + e) (fun n => { n with pc := 0xFC00 }))

/-- A command that runs no code ends at once (R218). -/
def State.plainCommand (s : State) (e : Nat) : State :=
  let c := s.ce e
  let h := c.sqHead
  let w0 := s.blockWord e h 0 0
  let s := s.setCe e { c with sqHead := (h + bits w0 15 8) % 0x8000, partialAt := none, waitCq := false }
  s.complete e (bits w0 7 0) stOk (s.blockWord e h 0 1) h 0 0 0 0 (bit w0 16) (bit w0 18)

def State.cmdNop (s : State) (e : Nat) : State := s.onCommand e 1 (fun s => s.plainCommand e)

/-- LOADC copies bytes from the staging area into engine memory (R218). -/
def State.cmdLoadc (s : State) (e : Nat) : State :=
  s.onCommand e 4 (fun s =>
    let h := (s.ce e).sqHead
    let off := (s.blockWord e h 0 4).toNat
    let len := (s.blockWord e h 0 5).toNat
    let dst := bits (s.blockWord e h 0 3) 17 0
    (s.unitWrite (128 + e) dst (Memory.readBytes s.mem.sram (stageBase + off) len)).plainCommand e)

/-! The queue registers (R222). -/

/-- SQ_TAIL: the doorbell, bits 14:0. False where the write is out of range (R222). -/
def State.doorbell (s : State) (e w : Nat) : State × Bool :=
  let c := s.ce e
  let v := w % 0x8000
  if c.qstate = 0 ∨ 0x4000 < (v + 0x8000 - c.sqHead) % 0x8000 then (s, false)
  else ((s.setCe e { c with sqTail := v }).settleHead e, true)

/-- CQ_HEAD: the host consumes records; out of range past CQ_TAIL. -/
def State.cqHeadWrite (s : State) (e w : Nat) : State × Bool :=
  let c := s.ce e
  let v := w % 0x8000
  if c.unread < (v + 0x8000 - c.cqHead) % 0x8000 then (s, false)
  else ((s.setCe e { c with cqHead := v }).settleHead e, true)

/-- Q_CTRL: enabling (ENABLE from 0 to 1; DEDUCED, log entry 57) zeroes the indices and the completion ring; the queue reads RUN from the next tick boundary; disabling is
rejected while a command executes (R222). -/
def State.qCtrlWrite (s : State) (e : Nat) (v : Word) : State × Bool :=
  let c := s.ce e
  let old := s.reg (R.ceqQCtrl e)
  let on := bit v 31
  if !on && c.exec.isSome then (s, false)
  else
    let s := s.setReg (R.ceqQCtrl e) (maskWrite old v 0x803F0100)
    if on && !bit old 31 then
      let s := s.sramClear (cqBase e) 0x80000
      (s.setCe e { c with qstate := 0, sqHead := 0, sqTail := 0, cqTail := 0, cqHead := 0, waitCq := false, partialAt := none,
                          enableAt := some ((s.tick + 1) * tickLen) }, true)
    else if !on then (s.setCe e { c with qstate := 0, enableAt := none }, true)
    else (s, true)

/-- Q_RESUME: bit 0 resumes a STOPPED queue; out of range in other states (R222). -/
def State.qResume (s : State) (e : Nat) (v : Word) : State × Bool :=
  let c := s.ce e
  if c.qstate ≠ 2 then (s, false)
  else if bit v 0 then ((s.setCe e { c with qstate := 1 }).settleHead e, true)
  else (s, true)

/-! The end of a group (Table 8.7). -/

/-- The holds of a group end without a release of landing stores, which its members still need. -/
def State.unholdGroup (s : State) (e : Nat) : State :=
  let s := s.modCe e (fun c => { c with grp := none })
  { s with outs := s.outs.map (fun (p : Nat × Out) => (p.1, if p.2.grpHold = some e then { p.2 with grpHold := none } else p.2)) }

/-- The members of a group in the order in which they are committed: conversion sets last, in ascending output number, which is the order of
their requests to the FRC pools (R138). -/
def commitOrder (ms : List Member) : List Member :=
  let isFmt (m : Member) : Bool := match m with | .fmt _ _ => true | _ => false
  ms.filter (fun m => !isFmt m)
    ++ (ms.filter isFmt).mergeSort (fun a b => decide (a.outs.headD 0 ≤ b.outs.headD 0))

/-- COMMIT: every accepted member committed at one edge (R213). -/
def State.groupCommit (s : State) (e : Nat) : Nat × State :=
  match (s.ce e).grp with
  | none => (stDenied, s)
  | some g =>
    if g.expired then (stTimeout, s.endGroup e)
    else if g.failed then (stAborted, s.endGroup e)
    else (stOk, (commitOrder g.members).foldl (fun s m => s.commitMember m) (s.unholdGroup e))

/-- ABORT: the members discarded (R213). -/
def State.groupAbort (s : State) (e : Nat) : Nat × State :=
  match (s.ce e).grp with
  | none => (stDenied, s)
  | some _ => (stOk, s.endGroup e)

/-- A group open for 64 ticks expires: its members are discarded, later members are refused until it is ended (R213). -/
def State.groupExpire (s : State) (e : Nat) : State :=
  match (s.ce e).grp with
  | some g =>
    if g.deadline ≤ s.ttime ∧ !g.expired then
      let s := s.endGroup e
      (s.modCe e (fun c => { c with grp := some { g with members := [], expired := true } })).raise 0x8024 sevWarn kCe e g.count
    else s
  | none => s

end Sys2Proof.Machine
end

