-- ==== Sys2Proof/Machine/Flags.lean ====
section
/-! DEFINITION. The results and flags of the core arithmetic (R53, Table 2.5). -/

namespace Sys2Proof.Machine

/-- A result with the flags Z, N and C that it sets; T and E keep their values. -/
structure AluOut where
  res : Word
  z : Bool
  n : Bool
  c : Bool
  deriving DecidableEq, Repr

/-- Z and N from a result, with a given C. -/
def AluOut.ofRes (r : Word) (c : Bool) : AluOut := { res := r, z := decide (r = 0), n := bit r 31, c := c }

/-- ADD: C is the carry out. -/
def aluAdd (a b : Word) : AluOut := AluOut.ofRes (a + b) (decide (2 ^ 32 ≤ a.toNat + b.toNat))

/-- SUB and CMP: N is signed less-than, C unsigned less-than. -/
def aluSub (a b : Word) : AluOut :=
  { res := a - b, z := decide (a - b = 0), n := decide (sInt a < sInt b), c := decide (a.toNat < b.toNat) }

/-- AND, OR, XOR: C is 0. -/
def aluAnd (a b : Word) : AluOut := AluOut.ofRes (a &&& b) false
def aluOr (a b : Word) : AluOut := AluOut.ofRes (a ||| b) false
def aluXor (a b : Word) : AluOut := AluOut.ofRes (a ^^^ b) false

/-- SHL by k places: C is the last bit shifted out; 32 or more gives 0 with C = 0, 0 places give C = 0. -/
def aluShl (a : Word) (k : Nat) : AluOut :=
  if k = 0 then AluOut.ofRes a false
  else if 32 ≤ k then AluOut.ofRes 0 false
  else AluOut.ofRes (a <<< k) (bit a (32 - k))

/-- SHR by k places, logical or arithmetic. -/
def aluShr (arith : Bool) (a : Word) (k : Nat) : AluOut :=
  if k = 0 then AluOut.ofRes a false
  else if 32 ≤ k then AluOut.ofRes (if arith && bit a 31 then BitVec.allOnes 32 else 0) false
  else AluOut.ofRes (if arith then a.sshiftRight k else a >>> k) (bit a (k - 1))

/-- MIN and MAX: C = 1 where the second operand was chosen; equal operands select the first. -/
def aluLess (sgn : Bool) (a b : Word) : Bool := if sgn then decide (sInt a < sInt b) else decide (a.toNat < b.toNat)
def aluMin (sgn : Bool) (a b : Word) : AluOut := if aluLess sgn b a then AluOut.ofRes b true else AluOut.ofRes a false
def aluMax (sgn : Bool) (a b : Word) : AluOut := if aluLess sgn a b then AluOut.ofRes b true else AluOut.ofRes a false

/-- The flags after a result (R43). -/
def Flags.after (f : Flags) (o : AluOut) : Flags := { f with z := o.z, n := o.n, c := o.c }

/-- S_FLAGS: bits 4:0 = E, T, C, N, Z (Table 2.7). -/
def Flags.toWord (f : Flags) : Word := word (flag f.z 0 + flag f.n 1 + flag f.c 2 + flag f.t 3 + flag f.e 4)
def Flags.ofWord (w : Word) : Flags := { z := bit w 0, n := bit w 1, c := bit w 2, t := bit w 3, e := bit w 4 }

/-- The conditions of Table 2.4; 0xF is illegal. -/
def Flags.cond (f : Flags) (c : Nat) : Option Bool :=
  match c with
  | 0 => some true | 1 => some f.z | 2 => some (!f.z) | 3 => some f.n | 4 => some (!f.n)
  | 5 => some (!f.n && !f.z) | 6 => some (f.n || f.z) | 7 => some f.c | 8 => some (!f.c)
  | 9 => some (!f.c && !f.z) | 10 => some (f.c || f.z) | 11 => some f.t | 12 => some (!f.t)
  | 13 => some f.e | 14 => some (!f.e) | _ => none

end Sys2Proof.Machine
end

