-- ==== Sys2Proof/Machine/Operands.lean ====
section
/-! DEFINITION. The operand forms of Umber: registers (R42), immediates, effective addresses (R46), target, source, channel and unit words (Tables 8.1 to 8.4), encodings (Tables 2.2, 2.3, 8.2). -/

namespace Sys2Proof.Machine

/-! Registers: v0 reads 0, writes to it are discarded (R42). -/

def UnitState.v (x : UnitState) (r : VReg) : Word := if r = 0 then 0 else Tbl.get 0 x.regs r.toNat
def UnitState.setV (x : UnitState) (r : VReg) (w : Word) : UnitState :=
  if r = 0 then x else { x with regs := Tbl.set 0 x.regs r.toNat w }

def State.v (s : State) (u : Nat) (r : VReg) : Word := (s.unit u).v r
def State.setV (s : State) (u : Nat) (r : VReg) (w : Word) : State := s.modUnit u (fun x => x.setV r w)

/-! Immediates. -/

def sext18 (i : BitVec 18) : Word := i.signExtend 32
def zext18 (i : BitVec 18) : Word := i.setWidth 32

/-- The registers an ALU source reads. -/
def srcRegs : AluSrc → List VReg
  | .reg b _ => [b]
  | .imm _ => []

/-- The effective address of LD and ST, modulo 2^32 (R46). -/
def effAddr (base : Word) (i : BitVec 18) : Nat := (base + sext18 i).toNat

def sizeBytes : Size → Nat
  | .word => 4 | .half => 2 | .byte => 1

/-- Fault codes of Table 2.10. -/
def fltOpcode : Nat := 1
def fltOperand : Nat := 2
def fltStackOver : Nat := 3
def fltStackUnder : Nat := 4
def fltPmem : Nat := 5
def fltWait : Nat := 6

/-- The check of an access of n bytes at an address of unit u: misalignment before the bound, the lower code (R62). -/
def accessFault (u a n : Nat) : Option Nat :=
  if a % n ≠ 0 then some fltOperand else if unitMemSize u < a + n then some fltPmem else none

/-- The fetch range of a unit in words (Table 2.1). -/
def fetchRange (u : Nat) : Nat := if u < 128 then 8192 else 65536

/-! Target words (Table 8.1). -/

inductive Target where
  | out (n : Nat)
  | tile (t : Nat)
  deriving DecidableEq, Repr

/-- A target word read by unit u; BASE_HI is allowed in FLIP only. None where an operand is out of range. -/
def readTarget (u : Nat) (flip : Bool) (w : Word) : Option Target :=
  let t := bits w 7 0
  if bits w 31 24 ≠ 0 ∨ bits w 15 8 ≠ 0 ∨ (!flip ∧ bits w 23 16 ≠ 0) then none
  else if t < 64 then some (.out t)
  else if 0x80 ≤ t ∧ t < 0x90 then some (.tile (t - 0x80))
  else if t = 0xFF ∧ u < 128 then some (.out (u % 64))
  else none

/-- Whether unit u may name a target in an output instruction (R201). -/
def State.mayTarget (s : State) (u : Nat) (t : Target) : Bool :=
  if 128 ≤ u then true
  else if u < 64 then false
  else match t with
    | .out n => decide (n = u - 64)
    | .tile k => (s.tileMembers k).contains (u - 64)

/-- The outputs of a target with the output at whose lines they are judged; none for a tile group not enabled (R166). -/
def State.targetOuts (s : State) (t : Target) : Option (List Nat × Nat) :=
  match t with
  | .out n => some ([n], n)
  | .tile k => if s.tileEnabled k then (match s.tileMembers k with | m :: ms => some (m :: ms, m) | [] => none) else none

def Target.isTile : Target → Bool
  | .tile _ => true
  | .out _ => false

/-! Channel words (Table 8.4) and unit words. -/

/-- A channel word read by unit u: the reference output (0xFE none) and the first channel. -/
def readChannel (u : Nat) (w : Word) : Option (Nat × Nat) :=
  let r := bits w 23 16
  if bits w 31 24 ≠ 0 ∨ bits w 15 13 ≠ 0 then none
  else if r < 64 ∨ r = 0xFE then some (r, bits w 12 0)
  else if r = 0xFF ∧ u < 128 then some (u % 64, bits w 12 0)
  else none

/-- Whether a unit may name a reference output (R201, R206): an output sequencer its own or none. -/
def mayRef (u ref : Nat) : Bool := decide (128 ≤ u) || (decide (64 ≤ u) && (decide (ref = u - 64) || decide (ref = 0xFE)))

/-- A unit word: bits 9:8 the kind, bits 6:0 the index; the unit number of R67. -/
def readUnitWord (w : Word) : Option Nat :=
  let k := bits w 9 8
  let i := bits w 6 0
  if bits w 31 10 ≠ 0 ∨ bit w 7 ∨ k = 3 then none
  else some (if k = 2 then 128 + i else if i < 64 then 64 * k + i else 999)

/-! Declared formats (Tables 3.12, 3.14). -/

/-- Format words whose every field is listed and whose reserved bits are 0. -/
def formatOk (w0 w1 w2 : Word) : Bool :=
  decide (bits w0 31 30 = 0 ∧ bits w0 15 13 = 0)
    && decide (1 ≤ bits w1 31 24 ∧ bits w1 31 24 ≤ 13 ∧ bits w1 23 22 ≤ 2 ∧ bits w1 21 20 ≤ 2 ∧ bits w1 19 18 ≤ 2
        ∧ bits w1 17 16 ≤ 2 ∧ bits w1 14 12 = 0 ∧ bits w1 11 8 ≤ 4 ∧ bits w1 7 0 = 0)
    && decide (bits w2 31 29 = 0 ∧ bits w2 15 14 = 0)

/-! Encodings (Table 2.2): the word of an instruction, for FAULT_WORD. -/

def encA (op : Nat) (d a b : VReg) (fn : Nat) : Word :=
  word (op * 2 ^ 26 + d.toNat * 2 ^ 22 + a.toNat * 2 ^ 18 + b.toNat * 2 ^ 14 + fn % 2 ^ 14)
def encI (op : Nat) (d a : VReg) (i : BitVec 18) : Word := word (op * 2 ^ 26 + d.toNat * 2 ^ 22 + a.toNat * 2 ^ 18 + i.toNat)
def encJ (op cond : Nat) (off : BitVec 22) : Word := word (op * 2 ^ 26 + (cond % 16) * 2 ^ 22 + off.toNat)
def encM (op sub : Nat) (a b : VReg) (i : BitVec 14) : Word :=
  word (op * 2 ^ 26 + (sub % 16) * 2 ^ 22 + a.toNat * 2 ^ 18 + b.toNat * 2 ^ 14 + i.toNat)

/-- The word of an ALU instruction: its fn[3:0] in the register form, its opcode in the immediate form (Table 2.3). -/
def encAlu (fn op : Nat) (d a : VReg) : AluSrc → Word
  | .reg b g => encA 0x08 d a b (fn + flag g 4)
  | .imm v => encI op d a v

/-! Illegal words (R51, Tables 2.3 and 8.2). -/

/-- Whether op with its unused fields is one that the tables assign to a unit of the profile. -/
def legalWord (ce : Bool) (w : Word) : Bool :=
  let op := bits w 31 26
  let d := bits w 25 22
  let a := bits w 21 18
  let b := bits w 17 14
  let fn := bits w 13 0
  let f := fn % 16
  if op = 0x01 ∨ op = 0x05 ∨ op = 0x06 then decide (d = 0 ∧ a = 0 ∧ b = 0 ∧ fn = 0)
  else if op = 0x02 then decide (d = 0 ∧ b = 0 ∧ fn = 0)
  else if op = 0x03 then decide (d ≠ 15)
  else if op = 0x04 then decide (d = 0)
  else if op = 0x07 then decide (d = 0 ∧ a = 0)
  else if op = 0x08 then
    decide (1 ≤ f ∧ f ≤ 10 ∧ fn / 32 = 0) && (decide (fn / 16 % 2 = 0) || decide (f = 7 ∨ f = 9 ∨ f = 10)) && (decide (f ≠ 8) || decide (d = 0))
  else if op = 0x09 ∨ op = 0x0A then decide (a = 0)
  else if op = 0x12 then decide (d = 0)
  else if 0x0B ≤ op ∧ op ≤ 0x14 then true
  else if (0x18 ≤ op ∧ op ≤ 0x1A) ∨ (0x1C ≤ op ∧ op ≤ 0x1E) then true
  else if op = 0x20 then decide (a = 0)
  else if op = 0x21 then decide (d = 0)
  else if op = 0x28 then decide (d ≤ 3)
  else if op = 0x30 then decide (d ≤ 2)
  else if op = 0x31 then decide (d ≤ 1)
  else if op = 0x32 ∨ op = 0x34 then decide (d = 0 ∧ b = 0)
  else if op = 0x33 then decide (d = 1 ∨ (d = 0 ∧ b = 0))
  else if op = 0x35 ∨ op = 0x38 then decide (d ≤ 2)
  else if op = 0x36 ∨ op = 0x37 then decide (d = 0)
  else if op = 0x39 then decide (d ≤ 1 ∧ b = 0)
  else if op = 0x3A then decide (d = 0 ∨ (d = 1 ∧ b = 0))
  else if op = 0x3B then decide (d = 0 ∧ a = 0 ∧ b = 0) && !ce
  else if op = 0x3C then decide (d ≤ 1) && ce
  else if op = 0x3D then decide (d ≤ 2 ∧ a = 0 ∧ b = 0) && ce
  else if op = 0x3E then decide (d ≤ 2) && ce
  else false

/-- The NOP word (Table 2.3). -/
def nopWord : Word := 0x04000000

end Sys2Proof.Machine
end

