-- ==== Sys2Proof/Machine/Umber.lean ====
section
/-! DEFINITION. The Umber machine (chapter 02): issue, faults and SAFE, timing contexts and waits, special registers, control of the sequencers. -/

namespace Sys2Proof.Machine

/-! Names of a unit in events. -/

def unitKind (u : Nat) : Nat := if u < 64 then kIs else if u < 128 then kOs else kCe
def unitIndex (u : Nat) : Nat := if u < 64 then u else if u < 128 then u - 64 else u - 128

/-! Faults (R62 to R64). -/

/-- An acknowledgement of a participant: to its master, and to the standby master where one is heard (R288). -/
def State.ackSalvo (s : State) (p : Part) (code outs : Nat) : State :=
  let pay := leNats 4 p.id ++ [code, outs]
  let links := ((s.stk.heard.filter (fun h => h.standby && decide (h.id = p.master ∧ s.ttime ≤ h.t + 48 * tickLen))).map Heard.link).eraseDups
  s.forEach links (fun s l => (s.emit "ACK" l p.master pay).bump R.stkMsgTxCnt) |>.stkSend p.master 0x27 "ACK" pay

/-- A participating output whose sequencer faults before t_T: its salvo take is discarded and ACK FAULT is sent (R288). -/
def State.salvoFault (s : State) (n : Nat) : State :=
  let hit (p : Part) : Bool := (decide (p.phase = .ready) || decide (p.phase = .committed)) && p.outs.any (fun x => decide (x.out = n))
  let s := s.forEach (s.stk.parts.filter hit) (fun s p => s.ackSalvo p 2 1)
  { s with stk := { s.stk with parts := s.stk.parts.map (fun p =>
      if hit p then { p with acked := true, outs := p.outs.map (fun x => if x.out = n then { x with faulted := true } else x) } else p) } }

/-- A fault of unit u with a code of Table 2.10 at a PC: a sequencer enters SAFE and its output discards what is not yet visible;
a command engine ends its command with ABORTED. -/
def State.umberFault (s : State) (u code pc : Nat) (w : Word) : State :=
  let s := (s.bump (R.seqFaultCnt u)).raise (0x8000 + code) sevError (unitKind u) (unitIndex u) pc w.toNat
  let s := s.modUnit u (fun x => { x with faultCode := code, faultPc := pc, faultWord := w, faultTtime := s.ttime, pc := pc,
                                          wait := none, swapArmed := false, swapDue := false })
  if u < 128 then
    let s := s.modUnit u (fun x => { x with run := .safe, start := none, startDue := false })
    if 64 ≤ u then
      let n := u - 64
      let s := (s.discardOut n).salvoFault n
      s.modOut n (fun o => { o with safeDue := true })
    else s
  else s.endCommand (u - 128) stAborted code

/-! Issue (R39, R53, R57, R202). -/

/-- Whether unit u issues an instruction now: present, in RUN, not stalled, no start or bank swap due in this cycle. -/
def State.runs (s : State) (u : Nat) : Bool :=
  let x := s.unit u
  s.unitPresent u && decide (x.run = .run) && !x.stalled && !x.swapDue && !x.startDue

/-- The instant of the issue cycle: the first cycle of the unit's clock not before its next one; an instruction that must wait
for the result of an engine's last media instruction waits for it (R202). -/
def State.issueAt (s : State) (u : Nat) (held : Bool) (reads : List VReg) : Nat :=
  let x := s.unit u
  let t := max s.ttime x.nextIssue
  let t := if held || reads.any (fun r => decide (r.toNat = x.resultReg ∧ r ≠ 0)) then max t x.resultAt else t
  alignUp (unitCycle u) t

/-- One instruction with word w on unit u: time moves to its issue cycle; a fetch beyond the range faults (the word there is a
free value), an illegal word faults; else the body gives the state, its PC already past the instruction, or a fault code, and
then it changes nothing (R46, R51, R62). -/
def State.umber (s : State) (u : Nat) (w : Word) (held : Bool) (reads : List VReg) (body : State → Nat → Except Nat State) : State :=
  if !s.runs u then s
  else
    let s := s.advance (s.issueAt u held reads)
    let s := s.modUnit u (fun x => { x.settle (cycleOf u s.ttime) with nextIssue := s.ttime + unitCycle u })
    let pc := (s.unit u).pc
    if fetchRange u ≤ pc then
      let (v, s) := s.freeNat 30
      s.umberFault u fltPmem pc (word v)
    else if !legalWord (decide (128 ≤ u)) w then s.umberFault u fltOpcode pc w
    else match body (s.modUnit u (fun x => { x with pc := pc + 1 })) pc with
      | .ok t => t
      | .error c => s.umberFault u c pc w

/-- A jump to a word index: a target outside the fetch range faults (R46). -/
def State.jumpTo (s : State) (u : Nat) (target : Int) : Except Nat State :=
  if target < 0 ∨ (fetchRange u : Int) ≤ target then .error fltPmem
  else .ok (s.modUnit u (fun x => { x with pc := target.toNat }))

/-- The outcome of an ALU instruction written: the result where there is a destination, and the flags. -/
def State.setAlu (s : State) (u : Nat) (d : Option VReg) (o : AluOut) : State :=
  s.modUnit u (fun x =>
    let x := { x with flags := x.flags.after o }
    match d with | some d => x.setV d o.res | none => x)

/-! Timing contexts (R41). -/

/-- The output whose lines a command engine's group gives in this frame (R41). -/
def State.groupLiner (s : State) (g : Nat) : Option Nat := (s.group g).liner

/-- The lowest-numbered member of a group that scans gives its lines from the frame start on (R41). -/
def State.settleLiner (s : State) (g : Nat) : State :=
  s.setGroup g { s.group g with liner := (s.outs.find? (fun p => p.2.scanning && decide (p.2.group = g))).map Prod.fst }

/-- The timing group of a unit's context, for outputs and engines. -/
def State.unitGroup (s : State) (u : Nat) : Option Nat :=
  if u < 64 then none
  else if u < 128 then (let o := s.out (u - 64); if o.hasTim ∧ o.group < 16 then some o.group else none)
  else if (s.unit u).timing < 16 then some (s.unit u).timing else none

/-- The frame count of a unit's timing context (S_FRAME). For an input sequencer the spec names no count: the model takes the frame starts
of the received signal since reset, on an Ethernet port FRAMES_IN of the flow (DESIGN CHOICE, log entry 53). -/
def State.ctxFrame (s : State) (u : Nat) : Nat :=
  if u < 64 then
    if s.portIsEth u then (match s.portVideo u with | some f => s.ctrOf (R.flowFramesIn f) | none => 0) else (s.port u).frame
  else match s.unitGroup u with | some g => (s.group g).frame | none => 0

/-- The current line of a unit's timing context (S_LINE). -/
def State.ctxLine (s : State) (u : Nat) : Nat :=
  if u < 64 then (s.port u).line
  else if u < 128 then s.curLine (u - 64)
  else match s.unitGroup u with
    | some g => (match s.groupLiner g with | some n => s.curLine n | none => 0)
    | none => 0

/-- The total line count of a unit's timing context, none where no total is known (Table 2.6). -/
def State.ctxLines (s : State) (u : Nat) : Option Nat :=
  if u < 64 then
    if s.portIsEth u then (s.portVideo u).map (fun f => (s.flow f).vActive)
    else if (s.port u).vTotal = 0 then none else some (s.port u).vTotal
  else if u < 128 then (let o := s.out (u - 64); if o.hasTim ∧ o.group < 16 then some o.tim.vTotal else none)
  else match s.unitGroup u with
    | some g => (match s.groupLiner g with | some n => some (s.out n).tim.vTotal | none => some 1)
    | none => none

/-- The output whose scan gives the lines of a unit. -/
def State.ctxOut (s : State) (u : Nat) : Option Nat :=
  if u < 64 then none
  else if u < 128 then (if (s.out (u - 64)).scanning then some (u - 64) else none)
  else match s.unitGroup u with | some g => s.groupLiner g | none => none

/-! Waits (R54, R55). -/

/-- The instant, not after t, at which the condition of a wait of unit u first holds: none where it does not by then (Table 2.6, R55). A line
of a scanning output starts at an instant that is known before it comes, a target of TTIME likewise. -/
def State.waitMet (s : State) (u : Nat) (w : Wait) (t : Nat) : Option Nat :=
  let by_ (i : Nat) : Option Nat := if i ≤ t then some i else none
  match w.metAt with
  | some i => by_ i
  | none => match w.kind with
    | .line => match s.ctxOut u with
      | some n => if w.arg < (s.out n).tim.vTotal ∧ w.issued ≤ s.lineStart n w.arg then by_ (s.lineStart n w.arg) else none
      | none => none
    | .time => by_ (w.issued + (if (w.issued + 2 ^ 32 - w.arg % 2 ^ 32) % 2 ^ 32 < 2 ^ 31 then 0 else (w.arg + 2 ^ 32 - w.issued % 2 ^ 32) % 2 ^ 32))
    | _ => none

/-- The cycle in which the condition of a wait first holds, by its start: not after its last one and not after the cycle of t. -/
def State.waitEnd (s : State) (u : Nat) (w : Wait) (t : Nat) : Option Nat :=
  match s.waitMet u w (min t w.deadline) with
  | some i => if alignUp (unitCycle u) i ≤ w.deadline then some (max w.issued (alignUp (unitCycle u) i)) else none
  | none => none

/-- A wait issued: its operand and its timeout checked, the unit in WAIT; a start seen in the issue cycle counts (R54, R55). -/
def State.startWait (s : State) (u : Nat) (k : WaitKind) (arg : Word) (timeout : Word) : Except Nat State :=
  let x := s.unit u
  let a := arg.toNat
  let noCtx := decide (128 ≤ u) && decide (x.timing = 255)
  let badArg : Bool := match k with
    | .line => noCtx || (match s.ctxLines u with | some n => decide (n ≤ a) | none => decide (8191 < a))
    | .frame => noCtx || decide (a = 0 ∨ 255 < a)
    | .event => decide (a = 0 ∨ 0x1000 ≤ a)
    | .time => false
  if badArg then .error fltOperand
  else if timeout.toNat = 0 ∨ 0x40000000 < timeout.toNat then .error fltWait
  else
    let c := cycleOf u s.ttime
    let seen : Nat := match k with
      | .frame => if x.lastFrame.map (seenCycle u) = some c then 1 else 0
      | .line =>
        if x.lastLine.map (fun p => (p.1, seenCycle u p.2)) = some (a, c) then 1
        else if decide (a = 0) && decide (x.lastFrame.map (seenCycle u) = some c) && decide (64 ≤ u) then 1 else 0
      | _ => 0
    let met : Option Nat := match k with
      | .frame => if a ≤ seen then some s.ttime else none
      | .line => if 0 < seen then some s.ttime else none
      | .event => if x.events &&& arg ≠ 0 then some s.ttime else if x.eventsNew &&& arg ≠ 0 then some ((c + 1) * unitCycle u) else none
      | .time => none
    .ok (s.setUnit u { x with run := .wait,
                              wait := some { kind := k, arg := a, issued := s.ttime, deadline := s.ttime + timeout.toNat * unitCycle u,
                                             seen := seen, metAt := met } })

/-- A wait ends in the cycle that starts at t with a value of T: the next instruction issues in the cycle after (R55). -/
def State.endWait (s : State) (u t : Nat) (b : Bool) : State :=
  let x := s.unit u
  let x := { x.settle (cycleOf u s.ttime) with run := .run, wait := none, nextIssue := t + unitCycle u }
  s.setUnit u { x with flags := { x.flags with t := b } }

/-- WAIT_COMPLETE: by the instant tAt the condition holds: the wait ends in the first cycle in which it does (R55). In the cycle of a bank
swap the swap ends it (R48). -/
def State.waitComplete (s : State) (u tAt : Nat) : State :=
  let x := s.unit u
  match x.wait with
  | some w =>
    if x.run ≠ .wait ∨ x.swapDue then s
    else match s.waitEnd u w (alignUp (unitCycle u) (max s.ttime tAt)) with
      | some t => (s.advance t).endWait u t false
      | none => s
  | none => s

/-- WAIT_TIMEOUT: the last cycle of the wait. A condition that has come true by then ended the wait with T = 0, in its first cycle; else
T = 1, counted (R55). -/
def State.waitTimeout (s : State) (u : Nat) : State :=
  let x := s.unit u
  match x.wait with
  | some w =>
    if x.run ≠ .wait ∨ x.swapDue then s
    else match s.waitEnd u w w.deadline with
      | some t => (s.advance t).endWait u t false
      | none => ((s.advance w.deadline).bump (R.seqTimeoutCnt u)).endWait u w.deadline true
  | none => s

/-! Frame and line starts seen by a unit (R22, R41, R48, R66, R208). -/

/-- A pending MARK of sub 0x1 raises its event at the frame start (R208), unless one was logged within 256 cycles. -/
def State.logMark (s : State) (u code : Nat) (v : Word) (t : Nat) : State :=
  let x := s.unit u
  let near := match x.lastMark with | some l => decide (t < l + 256 * unitCycle u) | none => false
  if near then s.bump (R.seqTrapDropCnt u)
  else (s.setUnit u { x with lastMark := some t }).raiseAt t 0x8023 sevInfo (unitKind u) (unitIndex u) code v.toNat

/-- A start counted towards a wait for n of them. -/
def Wait.counted (w : Wait) (n t : Nat) : Wait :=
  { w with seen := w.seen + 1, metAt := if w.metAt.isNone ∧ n ≤ w.seen + 1 then some t else w.metAt }

/-- A frame start of the timing context of unit u is seen now: S_EVENTS.FRAME, waits, an armed swap and a pending start become
due, a pending MARK is logged with the frame start's TTIME. To a command engine the start comes through a synchroniser of at most 3 management
cycles; the model takes the lag as 0 (R41; DESIGN CHOICE, log entry 53). -/
def State.frameSeen (s : State) (u t : Nat) : State :=
  if !s.unitPresent u then s
  else
    let s := s.setEvents u evFrame
    let x := s.unit u
    let mk := x.mark
    let w := x.wait.map (fun w => match w.kind with
      | .frame => w.counted w.arg s.ttime
      | .line => if w.arg = 0 then w.counted 1 s.ttime else w
      | _ => w)
    let s := s.setUnit u { x with wait := w, lastFrame := some s.ttime, mark := none,
                                  swapDue := x.swapDue || (x.swapArmed && (decide (x.run = .run) || decide (x.run = .wait))),
                                  startDue := x.startDue || x.start.isSome }
    match mk with
    | some m => s.logMark u m.code m.value t
    | none => s

/-- A line start of the timing context of unit u is seen now. -/
def State.lineSeen (s : State) (u l : Nat) : State :=
  s.modUnit u (fun x => { x with lastLine := some (l, s.ttime),
                                 wait := x.wait.map (fun w => if w.kind = .line ∧ w.arg = l then w.counted 1 s.ttime else w) })

/-- Waits for a line that have come true in the frame that now ends keep it (R55). -/
def State.noteLines (s : State) (us : List Nat) : State :=
  s.forEach us (fun s u => match (s.unit u).wait with
    | some w => (match s.waitMet u w s.ttime with
      | some i => if w.kind = .line then s.modUnit u (fun x => { x with wait := some { w with seen := 1, metAt := some i } }) else s
      | none => s)
    | none => s)

/-- Unit u starts at word 0 of its active bank (R66): registers and flags 0, the stack and S_EVENTS empty. -/
def State.startUnit (s : State) (u : Nat) : State :=
  s.modUnit u (fun x => { x with regs := [], flags := {}, stack := [], events := 0, eventsNew := 0, pc := 0, run := .run,
                                 start := none, startDue := false, wait := none, nextIssue := alignUp (unitCycle u) (s.ttime + 1) })

/-- The bank swap (R48): banks exchange roles, a wait in progress ends with T unchanged, the stack empties, word 0 follows. -/
def State.swapBank (s : State) (u : Nat) : State :=
  let x := s.unit u
  if x.swapDue ∧ x.swapArmed ∧ (x.run = .run ∨ x.run = .wait) then
    s.setUnit u { x with bank := 1 - x.bank, swapArmed := false, swapDue := false, wait := none, run := .run, stack := [], pc := 0,
                         nextIssue := alignUp (unitCycle u) s.ttime + unitCycle u }
  else s

/-! SEQ[u].CTRL (Table 2.13). Each bit's write: none where it is out of range. -/

/-- START and RESTART (R66): at the next frame start, or 8 ticks after the write. A STANDBY rejects START (R297); one whose slice PD_REQ forbids is
rejected (R355). -/
def State.seqStart (s : State) (u : Nat) (restart : Bool) : Option State :=
  let x := s.unit u
  let ok := decide (u < 128) && x.start.isNone && s.domAllowed (72 + u % 64 / 8)
    && (if restart then decide (x.run = .safe) || decide (x.run = .halted) else decide (x.run = .idle) && !s.isStandby)
  if ok then some (s.setUnit u { x with start := some { restart := restart, limit := s.ticksOn 8 } }) else none

/-- HALT at the next cycle boundary: a sequencer enters HALTED with an armed swap disarmed; an engine's command ends ABORTED (R65, R220). -/
def State.seqHalt (s : State) (u : Nat) : Option State :=
  let x := s.unit u
  if x.run = .run ∨ x.run = .wait then
    if u < 128 then some (s.setUnit u { x with run := .halted, wait := none, swapArmed := false, swapDue := false })
    else some ((s.setUnit u { x with wait := none }).endCommand (u - 128) stAborted)
  else none

/-- SWAP_DISARM; ignored when none is armed (R48). -/
def State.swapDisarm (s : State) (u : Nat) : State := s.modUnit u (fun x => { x with swapArmed := false, swapDue := false })

/-- A write of SEQ[u].CTRL as a whole: POLICY stored, the write-only bits acting; nothing where any of it is out of range (R13, R14). -/
def State.seqCtrlWrite (s : State) (u : Nat) (v : Word) : State × Bool :=
  if bit v 4 && !(decide (64 ≤ u) && decide (u < 128)) then (s, false)
  else
    let s1 := s.setReg (R.seqCtrl u) (maskWrite (s.reg (R.seqCtrl u)) v 0x10)
    let step (o : Option State) (b : Bool) (f : State → Option State) : Option State :=
      if b then o.bind f else o
    let r := step (some s1) (bit v 0) (fun s => s.seqStart u false)
    let r := step r (bit v 2) (fun s => s.seqStart u true)
    let r := step r (bit v 1) (fun s => s.seqHalt u)
    let r := step r (bit v 8) (fun s => some (s.swapDisarm u))
    match r with | some t => (t, true) | none => (s, false)

/-- KICK: bit 0 sets S_EVENTS.HOST; any other bit is out of range (Table 2.12). -/
def State.kick (s : State) (u : Nat) (v : Word) : State × Bool :=
  if 1 < v.toNat then (s, false) else if v = 1 then (s.setEvents u evHost, true) else (s, true)

/-! SEQ[u] status registers (Tables 2.12 and 2.14). -/

def RunState.code : RunState → Nat
  | .idle => 0 | .run => 1 | .wait => 2 | .halted => 3 | .safe => 4

def State.seqState (s : State) (u : Nat) : Nat :=
  if !s.unitPresent u then 5
  else
    let x := s.unit u
    (x.pc % 65536) * 65536 + x.stack.length * 256 + flag x.start.isSome 7 + x.bank * 64 + flag x.swapArmed 5 + x.run.code

def UnitState.faultReg (x : UnitState) : Word := word ((x.faultPc % 65536) * 65536 + x.faultCode)

/-! Special registers (R60, R61, Table 2.7). -/

/-- The mailbox messages visible in a cycle: those that came in an earlier one (R61). -/
def UnitState.mail (x : UnitState) (u t : Nat) : List (Word × Nat) := x.mbox.filter (fun p => decide (seenCycle u p.2 < cycleOf u t))

def State.unitSig (s : State) (u : Nat) : Word :=
  if u < 64 then (match s.portVideo u with | some f => (s.flow f).sig | none => 0)
  else if u < 128 then (s.out (u - 64)).sigOut else 0

/-- MFS: the value of a special register and the state after its latching or popping; none for an index not listed. -/
def State.readSpecial (s : State) (u i : Nat) : Option (Word × State) :=
  let x := s.unit u
  let keep (n : Nat) : Option (Word × State) := some (word n, s)
  if i = 0x001 then keep (s.ctxLine u)
  else if i = 0x002 then some (word (s.ctxFrame u), s.setUnit u { x with latFrameHi := word (s.ctxFrame u / 2 ^ 32 % 65536) })
  else if i = 0x003 then some (lo32 s.ttime, s.setUnit u { x with latTtimeHi := hi32 s.ttime })
  else if i = 0x004 then some (x.latTtimeHi, s)
  else if i = 0x005 then some (x.latFrameHi, s)
  else if i = 0x006 then keep (if u < 128 then x.bank + flag x.swapArmed 1 else 0)
  else if i = 0x008 then keep x.status
  else if i = 0x009 then some (x.faultReg, s)
  else if i = 0x00A then some (x.flags.toWord, s)
  else if i = 0x00B then keep x.stack.length
  else if i = 0x00C then keep (s.devId * 65536 + unitKind u * 256 + unitIndex u)
  else if i = 0x010 then keep (s.srcSeen u)
  else if i = 0x011 then some (x.events, s)
  else if i = 0x018 then keep (if u < 128 then (match s.unitGroup u with | some g => g | none => 255) else x.timing)
  else if i = 0x020 then some (s.unitSig u, s)
  else if i = 0x030 then
    match x.mail u s.ttime with
    | [] => keep 0
    | m :: _ => some (m.1, s.setUnit u { x with mbox := x.mbox.tail })
  else if i = 0x031 then keep (x.mail u s.ttime).length
  else if 0x040 ≤ i ∧ i ≤ 0x047 then some (s.paramSeen u (i - 0x040), s)
  else none

/-- MTS: the writable special registers with their reserved bits; none for the rest (R60). A value of S_TIMING from 16 to 254 has no reserved
bit set and names no group: the model faults it as an operand out of range (DESIGN CHOICE, log entry 53). -/
def State.writeSpecial (s : State) (u i : Nat) (w : Word) : Option State :=
  let x := s.unit u
  if i = 0x00A then (if 32 ≤ w.toNat then none else some (s.setUnit u { x with flags := Flags.ofWord w }))
  else if i = 0x011 then
    (if 0x1000 ≤ w.toNat then none else some (s.setUnit u { x with events := x.events &&& ~~~w }))
  else if i = 0x018 ∧ 128 ≤ u then
    (if w.toNat < 16 ∨ w.toNat = 255 then some (s.setUnit u { x with timing := w.toNat }) else none)
  else none

/-! Results of media and command-profile instructions (R199, R202). -/

/-- E and S_STATUS set from a status. On an engine the result returns within 32 management cycles, how soon is a free value
(log entry 16); r is the destination register that returns with it. -/
def State.mediaResult (s : State) (u st : Nat) (r : VReg := 0) : State :=
  let (v, s) := if u < 128 then (0, s) else s.freeNat 31
  s.modUnit u (fun x => { x with flags := { x.flags with e := decide (st ≠ 0) }, status := st,
                                 resultAt := if u < 128 then x.resultAt else s.ttime + mgmtCycle * (1 + v % 32), resultReg := r.toNat })

/-- The open atomic group of a command engine. -/
def State.openGroup (s : State) (u : Nat) : Option Group := if u < 128 then none else (s.ce (u - 128)).grp

/-- A media instruction that may be a member of a group: permission, then the group's own refusals, then its checks, in order
(R199, R212). `run` gets the engine of the open group. -/
def State.media (s : State) (u : Nat) (allowed : Bool) (run : Option Nat → State → Except Nat State) : State :=
  match s.openGroup u with
  | none =>
    if !allowed then s.mediaResult u stDenied
    else match run none s with
      | .ok t => t.mediaResult u stOk
      | .error r => s.mediaResult u r
  | some g =>
    let e := u - 128
    if g.expired then s.mediaResult u stTimeout
    else
      let k := g.count + 1
      let s := s.modCe e (fun c => { c with grp := some { g with count := k } })
      let r := if !allowed then .error stDenied else if 64 < k then .error stRange else run (some e) s
      match r with
      | .ok t => t.mediaResult u stOk
      | .error r =>
        let s := s.modCe e (fun c => { c with grp := some { g with count := k, failed := true },
                                              groupFail := if g.failed then c.groupFail else word (2 ^ 31 + r * 256 + k % 128) })
        s.mediaResult u r

/-- A media instruction that is refused inside a group (R212). -/
def State.loneMedia (s : State) (u : Nat) (allowed : Bool) (r : VReg) (run : State → Except Nat State) : State :=
  if !allowed || (s.openGroup u).isSome then s.mediaResult u stDenied
  else match run s with
    | .ok t => t.mediaResult u stOk r
    | .error x => s.mediaResult u x

end Sys2Proof.Machine
end

