-- ==== Sys2Proof/Machine/UmberCore.lean ====
section
/-! DEFINITION. The core instructions of Umber, the waits and the control of the sequencers (R40 to R66, Table 2.5, Table 2.6, Table 2.13). -/

namespace Sys2Proof.Machine


/-! Control flow. -/

/-- JMP: PC ← va. -/
def execJmp (u : Nat) (a : VReg) (s : State) : Host.Outcome State Fault Refusal :=
  .next (s.umber u (encA 0x02 0 a 0 0) false [a] (fun s _ => s.jumpTo u (s.v u a).toNat))

/-- J.cond: a jump relative to the jump itself (R50, R52). -/
def execJcond (u : Nat) (cond : BitVec 4) (off : BitVec 22) (s : State) : Host.Outcome State Fault Refusal :=
  .next (s.umber u (encJ 0x03 cond.toNat off) (decide (cond.toNat = 13 ∨ cond.toNat = 14)) [] (fun s pc =>
    match (s.unit u).flags.cond cond.toNat with
    | some true => s.jumpTo u (pc + off.toInt)
    | some false => .ok s
    | none => .error fltOpcode))

/-- CALL: push PC + 1 on the stack of 8, then jump (R44). -/
def execCall (u : Nat) (off : BitVec 22) (s : State) : Host.Outcome State Fault Refusal :=
  .next (s.umber u (encJ 0x04 0 off) false [] (fun s pc =>
    let x := s.unit u
    if 8 ≤ x.stack.length then .error fltStackOver
    else (s.setUnit u { x with stack := (pc + 1) :: x.stack }).jumpTo u (pc + off.toInt)))

/-- RET: PC ← pop (R44). -/
def execRet (u : Nat) (s : State) : Host.Outcome State Fault Refusal :=
  .next (s.umber u (encA 0x05 0 0 0 0) false [] (fun s _ =>
    let x := s.unit u
    match x.stack with
    | [] => .error fltStackUnder
    | r :: rs => (s.setUnit u { x with stack := rs }).jumpTo u (r : Nat)))

/-- HALT (R65): a sequencer stops in HALTED with its armed swap disarmed, an engine's command ends with OK, or with ABORTED where
a group is open (R220). -/
def execHalt (u : Nat) (s : State) : Host.Outcome State Fault Refusal :=
  .next (s.umber u (encA 0x06 0 0 0 0) false [] (fun s _ =>
    if u < 128 then
      .ok ((s.modUnit u (fun x => { x with run := .halted, swapArmed := false, swapDue := false })).raise 0x8021 sevInfo (unitKind u) (unitIndex u))
    else .ok (s.endCommand (u - 128) stOk)))

/-- TRAP (R65): event 0x8020 with the unit, the PC and the code, unless one was logged within 256 cycles. One that comes exactly 256 cycles
after the last logged one is logged (DESIGN CHOICE, log entry 53). -/
def execTrap (u : Nat) (imm : BitVec 18) (s : State) : Host.Outcome State Fault Refusal :=
  .next (s.umber u (encI 0x07 0 0 imm) false [] (fun s pc =>
    let x := s.unit u
    let near := match x.lastTrap with | some t => decide (s.ttime < t + 256 * unitCycle u) | none => false
    if near then .ok (s.bump (R.seqTrapDropCnt u))
    else .ok ((s.setUnit u { x with lastTrap := some s.ttime }).raise 0x8020 (imm.toNat / 2 ^ 16) (unitKind u) (unitIndex u)
      pc (imm.toNat % 2 ^ 16))))

/-! Constants and arithmetic (Table 2.5). -/

/-- LI: vd ← sext(imm18). -/
def execLi (u : Nat) (d : VReg) (imm : BitVec 18) (s : State) : Host.Outcome State Fault Refusal :=
  .next (s.umber u (encI 0x09 d 0 imm) false [] (fun s _ => .ok (s.setV u d (sext18 imm))))

/-- LUI: vd ← imm18[13:0] << 18; the rest of the immediate must be 0. -/
def execLui (u : Nat) (d : VReg) (imm : BitVec 18) (s : State) : Host.Outcome State Fault Refusal :=
  .next (s.umber u (encI 0x0A d 0 imm) false [] (fun s _ =>
    if 2 ^ 14 ≤ imm.toNat then .error fltOperand else .ok (s.setV u d (word (imm.toNat * 2 ^ 18)))))

/-- The second operand with a sign-extended immediate (ADD, SUB, CMP) and with a zero-extended one. -/
def State.opS (s : State) (u : Nat) : AluSrc → Word
  | .reg b _ => s.v u b
  | .imm i => sext18 i
def State.opZ (s : State) (u : Nat) : AluSrc → Word
  | .reg b _ => s.v u b
  | .imm i => zext18 i

/-- Whether the signed form is asked for: fn[4] of the register form. -/
def srcSigned : AluSrc → Bool
  | .reg _ g => g
  | .imm _ => false

def execAdd (u : Nat) (d a : VReg) (b : AluSrc) (s : State) : Host.Outcome State Fault Refusal :=
  .next (s.umber u (encAlu 0x1 0x0B d a b) false (a :: srcRegs b) (fun s _ => .ok (s.setAlu u (some d) (aluAdd (s.v u a) (s.opS u b)))))

def execSub (u : Nat) (d a : VReg) (b : AluSrc) (s : State) : Host.Outcome State Fault Refusal :=
  .next (s.umber u (encAlu 0x2 0x0C d a b) false (a :: srcRegs b) (fun s _ => .ok (s.setAlu u (some d) (aluSub (s.v u a) (s.opS u b)))))

/-- CMP: as SUB, the result discarded. -/
def execCmp (u : Nat) (a : VReg) (b : AluSrc) (s : State) : Host.Outcome State Fault Refusal :=
  .next (s.umber u (encAlu 0x8 0x12 0 a b) false (a :: srcRegs b) (fun s _ => .ok (s.setAlu u none (aluSub (s.v u a) (s.opS u b)))))

def execAnd (u : Nat) (d a : VReg) (b : AluSrc) (s : State) : Host.Outcome State Fault Refusal :=
  .next (s.umber u (encAlu 0x3 0x0D d a b) false (a :: srcRegs b) (fun s _ => .ok (s.setAlu u (some d) (aluAnd (s.v u a) (s.opZ u b)))))

def execOr (u : Nat) (d a : VReg) (b : AluSrc) (s : State) : Host.Outcome State Fault Refusal :=
  .next (s.umber u (encAlu 0x4 0x0E d a b) false (a :: srcRegs b) (fun s _ => .ok (s.setAlu u (some d) (aluOr (s.v u a) (s.opZ u b)))))

def execXor (u : Nat) (d a : VReg) (b : AluSrc) (s : State) : Host.Outcome State Fault Refusal :=
  .next (s.umber u (encAlu 0x5 0x0F d a b) false (a :: srcRegs b) (fun s _ => .ok (s.setAlu u (some d) (aluXor (s.v u a) (s.opZ u b)))))

/-- SHL by vb[31:0] or imm18[4:0]; the rest of the immediate must be 0. -/
def execShl (u : Nat) (d a : VReg) (b : AluSrc) (s : State) : Host.Outcome State Fault Refusal :=
  .next (s.umber u (encAlu 0x6 0x10 d a b) false (a :: srcRegs b) (fun s _ =>
    match b with
    | .reg r _ => .ok (s.setAlu u (some d) (aluShl (s.v u a) (s.v u r).toNat))
    | .imm i => if 32 ≤ i.toNat then .error fltOperand else .ok (s.setAlu u (some d) (aluShl (s.v u a) i.toNat))))

/-- SHR and SHR.s: fn[4] or imm18[5] selects the arithmetic shift; imm18[17:6] must be 0. -/
def execShr (u : Nat) (d a : VReg) (b : AluSrc) (s : State) : Host.Outcome State Fault Refusal :=
  .next (s.umber u (encAlu 0x7 0x11 d a b) false (a :: srcRegs b) (fun s _ =>
    match b with
    | .reg r g => .ok (s.setAlu u (some d) (aluShr g (s.v u a) (s.v u r).toNat))
    | .imm i =>
      if 64 ≤ i.toNat then .error fltOperand
      else .ok (s.setAlu u (some d) (aluShr (decide (32 ≤ i.toNat)) (s.v u a) (i.toNat % 32)))))

def execMin (u : Nat) (d a : VReg) (b : AluSrc) (s : State) : Host.Outcome State Fault Refusal :=
  .next (s.umber u (encAlu 0x9 0x13 d a b) false (a :: srcRegs b) (fun s _ => .ok (s.setAlu u (some d) (aluMin (srcSigned b) (s.v u a) (s.opZ u b)))))

def execMax (u : Nat) (d a : VReg) (b : AluSrc) (s : State) : Host.Outcome State Fault Refusal :=
  .next (s.umber u (encAlu 0xA 0x14 d a b) false (a :: srcRegs b) (fun s _ => .ok (s.setAlu u (some d) (aluMax (srcSigned b) (s.v u a) (s.opZ u b)))))

/-! Memory (R46). -/

/-- The opcode of an access of a size, from that of the word form. -/
def sizeOp (z : Size) (base : Nat) : Nat := match z with | .word => base | .half => base + 1 | .byte => base + 2

/-- LD: vd ← zext(mem[va + sext(imm18)]). -/
def execLd (u : Nat) (z : Size) (d a : VReg) (imm : BitVec 18) (s : State) : Host.Outcome State Fault Refusal :=
  .next (s.umber u (encI (sizeOp z 0x18) d a imm) false [a] (fun s _ =>
    let p := effAddr (s.v u a) imm
    match accessFault u p (sizeBytes z) with
    | some c => .error c
    | none => .ok (s.setV u d (word (s.unitLoad u p (sizeBytes z))))))

/-- ST: mem[va + sext(imm18)] ← low bytes of vd. -/
def execSt (u : Nat) (z : Size) (d a : VReg) (imm : BitVec 18) (s : State) : Host.Outcome State Fault Refusal :=
  .next (s.umber u (encI (sizeOp z 0x1C) d a imm) false [d, a] (fun s _ =>
    let p := effAddr (s.v u a) imm
    match accessFault u p (sizeBytes z) with
    | some c => .error c
    | none => .ok (s.unitStore u p (sizeBytes z) (s.v u d).toNat)))

/-! Special registers (R60). -/

/-- Whether reading a special register waits for the last media result (R202). -/
def specialHeld (imm : BitVec 18) : Bool := decide (imm.toNat = 0x008 ∨ imm.toNat = 0x00A)

/-- MFS: vd ← special[imm18[11:0]], with the latching or popping of that register. -/
def execMfs (u : Nat) (d : VReg) (imm : BitVec 18) (s : State) : Host.Outcome State Fault Refusal :=
  .next (s.umber u (encI 0x20 d 0 imm) (specialHeld imm) [] (fun s _ =>
    match s.readSpecial u imm.toNat with
    | some (v, t) => .ok (t.setV u d v)
    | none => .error fltOperand))

/-- MTS: special[imm18[11:0]] ← va. -/
def execMts (u : Nat) (a : VReg) (imm : BitVec 18) (s : State) : Host.Outcome State Fault Refusal :=
  .next (s.umber u (encI 0x21 0 a imm) false [a] (fun s _ =>
    match s.writeSpecial u imm.toNat (s.v u a) with
    | some t => .ok t
    | none => .error fltOperand))

/-! Waits (R54, R55). -/

def execWaitl (u : Nat) (a b : VReg) (s : State) : Host.Outcome State Fault Refusal :=
  .next (s.umber u (encM 0x28 0 a b 0) false [a, b] (fun s _ => s.startWait u .line (s.v u a) (s.v u b)))

def execWaitf (u : Nat) (a b : VReg) (s : State) : Host.Outcome State Fault Refusal :=
  .next (s.umber u (encM 0x28 1 a b 0) false [a, b] (fun s _ => s.startWait u .frame (s.v u a) (s.v u b)))

def execWaite (u : Nat) (a b : VReg) (s : State) : Host.Outcome State Fault Refusal :=
  .next (s.umber u (encM 0x28 2 a b 0) false [a, b] (fun s _ => s.startWait u .event (s.v u a) (s.v u b)))

def execWaitt (u : Nat) (a b : VReg) (s : State) : Host.Outcome State Fault Refusal :=
  .next (s.umber u (encM 0x28 3 a b 0) false [a, b] (fun s _ => s.startWait u .time (s.v u a) (s.v u b)))

/-- The condition of unit u's wait holds at an instant (R55). -/
def execWaitComplete (u tAt : Nat) (s : State) : Host.Outcome State Fault Refusal := .next (s.waitComplete u tAt)

/-- The wait of unit u reaches its timeout count (R55). -/
def execWaitTimeout (u : Nat) (s : State) : Host.Outcome State Fault Refusal := .next (s.waitTimeout u)

/-! Bank swap and sequencer control (R48, R65, R66, Table 2.13). -/

/-- BANK_SWAP: the swap that a frame start has made due takes effect. -/
def execBankSwap (u : Nat) (s : State) : Host.Outcome State Fault Refusal := .next (s.swapBank u)

/-- A write of the CTRL register of unit u by a master: a bit out of range rejects it (R14). -/
def State.ctrlBit (s : State) (m u : Nat) (r : Option State) : State :=
  if u < 132 then s.regWriteBy m (R.seqCtrl u) (match r with | some t => (t, true) | none => (s, false)) else s

def execSeqCtrlStart (m u : Nat) (s : State) : Host.Outcome State Fault Refusal := .next (s.ctrlBit m u (s.seqStart u false))

def execSeqCtrlRestart (m u : Nat) (s : State) : Host.Outcome State Fault Refusal := .next (s.ctrlBit m u (s.seqStart u true))

def execSeqCtrlSwapDisarm (m u : Nat) (s : State) : Host.Outcome State Fault Refusal := .next (s.ctrlBit m u (some (s.swapDisarm u)))

/-- A pending start that a frame start has made due takes place (R66). -/
def execSeqStartAtFrame (u : Nat) (s : State) : Host.Outcome State Fault Refusal :=
  let x := s.unit u
  .next (if x.start.isSome ∧ x.startDue then s.startUnit u else s)

/-- A pending start takes place at its limit of 8 ticks; a START raises START_NO_FRAME (R66). -/
def execStartNoFrame (u : Nat) (s : State) : Host.Outcome State Fault Refusal :=
  .next (match (s.unit u).start with
    | some r =>
      if (s.unit u).startDue then s
      else
        let s := (s.advance r.limit).startUnit u
        if r.restart then s else s.raise 0x8022 sevNotice (unitKind u) (unitIndex u)
    | none => s)

/-- KICK (R61, Table 2.12). -/
def execKick (m u : Nat) (v : Word) (s : State) : Host.Outcome State Fault Refusal :=
  .next (if u < 132 then s.regWriteBy m (R.seqKick u) (s.kick u v) else s)

end Sys2Proof.Machine
end

