-- ==== Sys2Proof/Machine/Flows.lean ====
section
/-! DEFINITION. Flow contexts (R73 to R83): the BIND descriptor, its checks, its effects, the release; the declared format replaced (R82). -/

namespace Sys2Proof.Machine

/-! Records in a unit's own memory, read under the LD.w rules (R203). -/

/-- n words at a byte address of unit u, or the fault: misaligned, or beyond the range. -/
def State.readRecord (s : State) (u a n : Nat) : Except Nat (List Word) :=
  if a % 4 ≠ 0 then .error fltOperand
  else if unitMemSize u < a + 4 * n then .error fltPmem
  else .ok ((List.range n).map (fun i => word (s.unitLoad u (a + 4 * i) 4)))

/-- Word i of a record. -/
def wordAt (ws : List Word) (i : Nat) : Word := ws.getD i 0

/-! The descriptor of BIND (R209, Table 8.5). -/

def bindType (ws : List Word) : Nat := bits (wordAt ws 0) 30 28
def bindIp (ws : List Word) : Bool := bit (wordAt ws 0) 27
def bindProt (ws : List Word) : Bool := bit (wordAt ws 0) 23
def bindStore (ws : List Word) : Bool := bit (wordAt ws 0) 21
def bindPortA (ws : List Word) : Nat := bits (wordAt ws 0) 5 0
def bindPortB (ws : List Word) : Nat := bits (wordAt ws 0) 13 8
def bindRatio (ws : List Word) : Nat := bits (wordAt ws 1) 3 0
def bindDepth (ws : List Word) : Nat := bits (wordAt ws 1) 10 8

/-- Word 0: the BIND_INFO layout with VALID 0; PORT_B equals PORT_A when unprotected. -/
def bindInfoOk (w : Word) : Bool :=
  decide (bits w 31 31 = 0 ∧ bits w 30 28 ≤ 3 ∧ bits w 26 24 = 0 ∧ bits w 20 14 = 0 ∧ bits w 7 6 = 0)
    && (bit w 23 || decide (bits w 13 8 = bits w 5 0))

/-- Word 1: depth and ratio with a store, 0 without; only video has a store. -/
def bindStoreOk (ws : List Word) : Bool :=
  let w := wordAt ws 1
  if bindStore ws then
    decide (bindType ws = 0) && decide (bits w 31 11 = 0 ∧ bits w 7 4 = 0 ∧ 1 ≤ bits w 10 8 ∧ bits w 10 8 ≤ 4)
      && [2, 3, 4, 6, 8].contains (bits w 3 0)
  else decide (w = 0)

/-- Words 2 to 4: a declared format on video flows, 0 on the others; FORMAT2 is 0 on IP. -/
def bindFormatOk (ws : List Word) : Bool :=
  if bindType ws = 0 then
    formatOk (wordAt ws 2) (wordAt ws 3) (wordAt ws 4) && (!bindIp ws || decide (wordAt ws 4 = 0))
  else decide (wordAt ws 2 = 0 ∧ wordAt ws 3 = 0 ∧ wordAt ws 4 = 0)

/-- Words 5 to 10: the match keys of the legs in use. -/
def bindLegsOk (ws : List Word) : Bool :=
  let zero (i : Nat) : Bool := decide (wordAt ws i = 0 ∧ wordAt ws (i + 1) = 0 ∧ wordAt ws (i + 2) = 0)
  (if bindIp ws then decide (bits (wordAt ws 7) 31 24 = 0) else zero 5)
    && (if bindIp ws && bindProt ws then decide (bits (wordAt ws 10) 31 24 = 0) else zero 8)

/-- Words 11 to 15. -/
def bindRestOk (ws : List Word) : Bool :=
  let w12 := wordAt ws 12
  let w13 := wordAt ws 13
  let w14 := wordAt ws 14
  (if bindIp ws then decide (bits (wordAt ws 11) 31 8 = 0) else decide (wordAt ws 11 = 0))
    && (match bindType ws with
        | 3 => true
        | 1 => decide (bits w12 31 21 = 0 ∧ bits w12 15 9 = 0 ∧ bits w12 7 7 = 0 ∧ bits w12 20 16 ≤ 20
            ∧ 1 ≤ bits w12 6 0 ∧ bits w12 6 0 ≤ (if bindIp ws then 64 else 32))
        | _ => decide (w12 = 0))
    && (if bindIp ws && decide (bindType ws = 1 ∨ bindType ws = 2) then
          (if bit w13 31 then decide (bits w13 30 14 = 0) else decide (w13 = 0))
        else decide (w13 = 0))
    && (if bindProt ws then decide (w14.toNat ≤ 100) else decide (w14 = 0))
    && decide (wordAt ws 15 = 0)

/-- The operand checks of R209. -/
def bindOperandOk (ws : List Word) : Bool :=
  bindInfoOk (wordAt ws 0) && bindStoreOk ws && bindFormatOk ws && bindLegsOk ws && bindRestOk ws

/-! The checks of Table 3.3. -/

/-- Whether two match keys are the same (R73); words DST, SRC and word 2. -/
def sameKey (a b : List Word) : Bool :=
  let p := wordAt a 2
  let q := wordAt b 2
  decide (wordAt a 0 = wordAt b 0 ∧ wordAt a 1 = wordAt b 1 ∧ bits p 15 0 = bits q 15 0 ∧ bits p 23 23 = bits q 23 23)
    && (!bit p 23 || decide (bits p 22 16 = bits q 22 16))

def bindLegA (ws : List Word) : List Word := [wordAt ws 5, wordAt ws 6, wordAt ws 7]
def bindLegB (ws : List Word) : List Word := [wordAt ws 8, wordAt ws 9, wordAt ws 10]

/-- Pictures that an ST 2110-20 receiver takes (Table 3.2). A larger one is not carried by the port (DESIGN CHOICE, log entry 54). -/
def sizeTaken (w0 : Word) : Bool := decide (bits w0 29 16 ≤ 7680 ∧ bits w0 12 0 ≤ 4320)

/-- The interface class of an SDI port: that of its mode, with automatic class the one that the deframer finds, 0 while there is none (R70). -/
def State.sdiClassNow (s : State) (n : Nat) : Nat := if s.sdiClass n = 0 then (s.port n).cls else s.sdiClass n

/-- Check 2: type and transport carried by the ports' mode, the slices of the legs, the raster on SDI, the associated flow. -/
def State.bindCarried (s : State) (ws : List Word) : Bool :=
  let a := bindPortA ws
  let b := bindPortB ws
  if bindIp ws then
    s.portIsEth a && s.portIsEth b && decide (a / 8 = b / 8) && (decide (bindType ws ≠ 0) || sizeTaken (wordAt ws 2))
      && (!bit (wordAt ws 13) 31 || (let x := s.flow (bits (wordAt ws 13) 13 0); x.usable && x.isVideo))
  else if bindProt ws || !s.portIsSdi a then false
  else match bindType ws with
    | 0 => decide (linksOf (wordAt ws 3) = modeLinks (s.portMode a))
        && (sdiClassFor (s.sdiClass a) (linksOf (wordAt ws 3)) (bits (wordAt ws 4) 13 0) (bits (wordAt ws 4) 28 16)
              (bits (wordAt ws 2) 12 0) (bits (wordAt ws 3) 23 22) (rateNum (bits (wordAt ws 3) 31 24))
              (bits (wordAt ws 3) 21 20) (bits (wordAt ws 3) 19 18)).isSome
    | 1 => decide (s.sdiClassNow a ≠ 1) && (decide (s.sdiClassNow a ≠ 2) || decide (bits (wordAt ws 12) 6 0 ≤ 16))
    | _ => false

/-- Check 3: a key already in use. -/
def State.bindKeyBusy (s : State) (ws : List Word) : Bool :=
  let inUse (n : Nat) (k : List Word) : Bool := (s.port n).table.any (fun (p : Nat × List Word) => sameKey p.2 k)
  bindIp ws && (inUse (bindPortA ws) (bindLegA ws)
    || (bindProt ws && (inUse (bindPortB ws) (bindLegB ws)
        || (decide (bindPortA ws = bindPortB ws) && sameKey (bindLegA ws) (bindLegB ws)))))

/-- Flows that hold a context on a port, and video flows ingested by it (R78). -/
def State.portFlows (s : State) (n : Nat) : Nat :=
  (s.flows.filter (fun (p : Nat × Flow) => (p.2.valid || p.2.releasing.isSome) && p.2.landing.isNone
    && (decide (p.2.portA = n) || decide (p.2.portB = n)))).length
def State.portVideos (s : State) (n : Nat) : Nat :=
  (s.flows.filter (fun (p : Nat × Flow) => (p.2.valid || p.2.releasing.isSome) && p.2.landing.isNone && p.2.isVideo
    && decide (p.2.portA = n))).length

/-- The lowest free match entry of a port, and the next one. -/
def State.freeEntry (s : State) (n : Nat) : Option Nat := freeRun 1 512 0 (Tbl.keys (s.port n).table)

/-- An entry written in a port's match table (Table 3.11). -/
def State.writeMatch (s : State) (n i leg f : Nat) (key : List Word) : State :=
  s.modPort n (fun p => { p with table := Tbl.set [] p.table i (key ++ [word (2 ^ 31 + leg * 2 ^ 30 + f)]) })

/-- Channels of audio flows that run the ASRC (R179). -/
def State.asrcUsed (s : State) : Nat := (s.audio.ics.filter (fun (p : Nat × Ic) => decide (p.1 < 8160) && p.2.asrc)).length

/-- The charged rate of a request (R79). -/
def State.bindRateQ (s : State) (ws : List Word) : Nat :=
  match bindType ws with
  | 0 => videoRateQ (bindIp ws) (s.sdiClass (bindPortA ws)) (wordAt ws 2) (wordAt ws 3) (wordAt ws 4)
  | 3 => (wordAt ws 12).toNat * 1000000 * 1001
  | _ => 0

/-- The merge window of a request in ms (R75). -/
def bindWindow (ws : List Word) : Nat := if bits (wordAt ws 14) 6 0 = 0 then 10 else bits (wordAt ws 14) 6 0

/-- The flow context that an accepted request creates, before its memory (R78 to R80). -/
def State.bindFlow (s : State) (ws : List Word) : Flow :=
  let rateQ := s.bindRateQ ws
  let merged := bindProt ws && decide (bindType ws = 0 ∨ bindType ws = 3)
  let w12 := wordAt ws 12
  { valid := true, info := word ((wordAt ws 0).toNat + 2 ^ 31), fmt0 := wordAt ws 2, fmt1 := wordAt ws 3, fmt2 := wordAt ws 4,
    storeW := wordAt ws 1, rateQ := rateQ, wr := if bindStore ws then creditsOf rateQ (bindRatio ws) else 0,
    merge := if merged then creditsOf rateQ 1 else 0,
    slotBytes := if bindStore ws then slotBytesOf (wordAt ws 2) (wordAt ws 3) (bindRatio ws) else 0,
    slots := if bindStore ws then List.replicate (bindDepth ws) {} else [],
    sa := bits (wordAt ws 11) 7 0, window := if bindProt ws then bindWindow ws else 10,
    skewMax := if bindProt ws then bindWindow ws else 10,
    audioCount := if bindType ws = 1 then bits w12 6 0 else 0,
    playout := if bits w12 20 16 = 0 then 3 else bits w12 20 16,
    assoc := if bit (wordAt ws 13) 31 then some (bits (wordAt ws 13) 13 0) else none,
    det := .acquire, bindT := s.ttime, lastRef := s.ttime, audioT := s.ttime, acquireT := s.ttime, lastGood := s.ttime,
    legALast := s.ttime, legBLast := s.ttime, absentFrom := some s.ttime }

/-- The audio channels of an accepted audio flow: the block, the ASRC where all its channels fit (R176, R179). -/
def State.bindAudio (s : State) (f base c : Nat) (ip wantAsrc : Bool) : State :=
  let asrc := wantAsrc && decide (s.asrcUsed + c ≤ 992)
  let s := if wantAsrc && !asrc then s.raise 0x4053 sevNotice kFlow f c else s
  let s := s.modFlow f (fun x => { x with audioBase := base, asrc := asrc })
  s.forEach (List.range c) (fun s j => s.setIc (base + j)
    { valid := true, source := if ip then 1 else 0, asrc := asrc, state := 1, chan := j, flow := f })

/-- The counters of a flow cleared by BIND (R96). -/
def State.clearFlowCounters (s : State) (f : Nat) : State :=
  s.forEach [R.flowFramesIn f, R.flowFramesCommitted f, R.flowWrDropCnt f, R.flowRejectCnt f, R.flowRtpLossCnt f,
    R.flowRxOverflowCnt f, R.flowSkewExceedCnt f] (fun s a => s.setCtr a 0)

/-- The registers of a new context: POLICY at its reset value, SKEW_MAX at the window of BIND (R96). -/
def State.bindRegs (s : State) (f window : Nat) : State :=
  ((s.setRegN (R.flowPolicy f) 0xFF20).setRegN (R.flowSkewMax f) window).clearFlowCounters f

/-- A multicast destination, for which a report is due within 4 ticks (R74). -/
def isMulticast (w : Word) : Bool := decide (bits w 31 28 = 14)

/-- The memory, the match entries and the context written (R74, R76, R81). -/
def State.bindMake (s : State) (ws : List Word) (f : Nat) (x : Flow) (base mbase : Nat) : State :=
  let a := bindPortA ws
  let b := bindPortB ws
  let ia := (s.freeEntry a).getD 0
  let s := if bindIp ws then s.writeMatch a ia 0 f (bindLegA ws) else s
  let ib := (s.freeEntry b).getD 0
  let s := if bindIp ws && bindProt ws then s.writeMatch b ib 1 f (bindLegB ws) else s
  let due := bindIp ws && (isMulticast (wordAt ws 5) || (bindProt ws && isMulticast (wordAt ws 8)))
  let x := { x with base := base, mergeBase := if x.merge = 0 then none else some mbase,
                    matchA := if bindIp ws then some ia else none,
                    matchB := if bindIp ws && bindProt ws then some ib else none,
                    igmp := { due := if due then some (s.ttime + 4 * tickLen) else none } }
  let ab := (s.freeIcs x.audioCount).getD 0
  let s := (s.setFlow f x).bindRegs f x.window
  let s := if x.audioCount = 0 then s else s.bindAudio f ab x.audioCount (bindIp ws) (bit (wordAt ws 12) 8)
  s.mirror "BIND" (f :: ws.map BitVec.toNat)

/-- The checks of Table 3.3 in their order: the new flow index and the state, or the refusal (R81). -/
def State.bindRows (s : State) (ws : List Word) : Except Nat (Nat × State) :=
  let a := bindPortA ws
  let b := bindPortB ws
  let x := s.bindFlow ws
  let k := a / 8
  let noEntry := bindIp ws && (decide (512 ≤ (s.port a).table.length)
    || (bindProt ws && decide (512 ≤ (s.port b).table.length + (if a = b then 1 else 0))))
  if !(s.portPresent a && s.portPresent b) then .error stAbsent
  else if !s.memOk then .error stDenied
  else if !s.bindCarried ws then .error stDenied
  else if s.bindKeyBusy ws then .error stBusy
  else if decide (512 ≤ s.portFlows a) || decide (512 ≤ s.portFlows b) || (x.isVideo && decide (16 ≤ s.portVideos a)) || noEntry
      || (decide (x.audioCount ≠ 0) && (s.freeIcs x.audioCount).isNone) then .error stNoContext
  else match s.freeIndex k with
    | none => .error stNoContext
    | some f =>
      let limit := 48000000000 * 1001
      if limit < s.portRateQ a + x.rateQ ∨ limit < s.portRateQ b + x.rateQ then .error stNoBandwidth
      else if !(fits 0 (x.wr + x.merge) (s.vidTotal - s.vidWr) && fits 0 x.merge (s.vidTotal - s.vidRd)) then .error stNoBandwidth
      else match (if x.slots = [] then some (0, s) else s.alloc (x.slots.length * x.slotBytes) false) with
        | none => .error stOverrun
        | some (base, s1) => match (if x.merge = 0 then some (0, s1) else s1.alloc (mergeBytes x.rateQ x.window) false) with
          | none => .error stOverrun
          | some (mbase, s2) => .ok (f, s2.bindMake ws f x base mbase)

/-! Release (R83). -/

/-- The match entries of a flow removed. -/
def State.dropMatches (s : State) (f : Nat) : State :=
  let x := s.flow f
  let s := match x.matchA with | some i => s.modPort x.portA (fun p => { p with table := Tbl.set [] p.table i [] }) | none => s
  match x.matchB with | some i => s.modPort x.portB (fun p => { p with table := Tbl.set [] p.table i [] }) | none => s

/-- BIND.r: refused while taken, else match entries, commits and channels end at once; the context waits (R83, R176). -/
def State.release (s : State) (f : Nat) : Except Nat State :=
  if !s.slicePresent (f / 2048) then .error stAbsent
  else if !(s.flow f).usable then .error stDenied
  else if s.flowTaken f then .error stBusy
  else
    let x := s.flow f
    let us := s.flowUnits f
    let s1 := (s.dropMatches f).freeChannels x.audioBase x.audioCount
    let s1 := s1.setFlow f { x with valid := false, releasing := some (s.ticksOn 8), det := .idle, matchA := none,
                                    matchB := none, audioCount := 0, aligned := false, igmp := {}, live := [], anc := [], inFrame := false,
                                    info := word (x.info.toNat % 2 ^ 31) }
    .ok ((s.noteSrc s1 us).mirror "BIND_R" [f])

/-- The context of a released flow returns with its credits and its memory (R83). -/
def State.returnContext (s : State) (f : Nat) : State :=
  let x := s.flow f
  if x.releasing.isNone then s
  else
    let s := if x.slots = [] then s else s.freeAt x.base
    let s := match x.mergeBase with | some b => s.freeAt b | none => s
    { s with flows := s.flows.filter (fun (p : Nat × Flow) => decide (p.1 ≠ f)) }

/-! FMT on a flow (R82, R205). -/

/-- The refusals of R82 and R205 in their order. -/
def State.fmtFlowCheck (s : State) (f : Nat) (w0 w1 w2 : Word) : Except Nat Unit :=
  let x := s.flow f
  if !s.slicePresent (f / 2048) then .error stAbsent
  else if !(x.usable && x.isVideo) then .error stDenied
  else if x.isIp && !sizeTaken w0 then .error stDenied
  else if !x.isIp && (decide (linksOf w1 ≠ x.links)
      || (sdiClassFor (s.sdiClass x.portA) x.links (bits w2 13 0) (bits w2 28 16) (bits w0 12 0) (bits w1 23 22)
            (rateNum (bits w1 31 24)) (bits w1 21 20) (bits w1 19 18)).isNone) then .error stDenied
  else
    let rate := videoRateQ x.isIp (s.sdiClass x.portA) w0 w1 w2
    if (x.storeEn && (decide (x.slotBytes < slotBytesOf w0 w1 x.ratio) || decide (x.wr < creditsOf rate x.ratio)))
      || (x.prot && decide (x.merge < creditsOf rate 1)) then .error stNoBandwidth
    else .ok ()

end Sys2Proof.Machine
end

