-- ==== Sys2Proof/Machine/UmberMedia.lean ====
section
/-! DEFINITION. The media instructions of Umber and the command-profile instructions that need no crossbar and no fabric (R199 to R215, Table 8.2). -/

namespace Sys2Proof.Machine

/-! Instructions on outputs. -/

/-- The members of a target changed, each checked and taken in ascending order (R166); a tile group not enabled is refused. -/
def State.onTarget (s : State) (e : Option Nat) (t : Target) (chk : Nat → State → Nat → Except Nat (State × Member)) : Except Nat State :=
  match s.targetOuts t with
  | none => .error stDenied
  | some (ns, j) => State.onEach e (chk j) ns s

/-- An instruction that carries a target word in register a. -/
def State.withTarget (s : State) (u : Nat) (a : VReg) (flip : Bool) (run : Target → Except Nat State) : Except Nat State :=
  match readTarget u flip (s.v u a) with
  | none => .error fltOperand
  | some t => run t

/-- TAKE (R101, R204). -/
def execTake (u : Nat) (a b : VReg) (s : State) : Host.Outcome State Fault Refusal :=
  .next (s.umber u (encM 0x30 0 a b 0) true [a, b] (fun s _ => s.withTarget u a false (fun t =>
    let w := s.v u b
    if !srcWordOk w then .error fltOperand
    else .ok (s.media u (s.mayTarget u t) (fun e s => s.onTarget e t (fun j s n =>
      (s.takeCheck u e n j w).map (fun (r : State × PendTake) => (r.1, Member.take n r.2))))))))

/-- A change without a member made on each output of a target. -/
def State.onOuts (f : State → Nat → Except Nat State) : List Nat → State → Except Nat State
  | [], s => .ok s
  | n :: ns, s => match f s n with
    | .error r => .error r
    | .ok t => State.onOuts f ns t

/-- The shape of TAKE.p and TAKE.u: KIND 0x2 or a fault (R204). -/
def State.remoteForm (s : State) (u sub : Nat) (a b : VReg) (f : Word → State → Nat → Except Nat State) : State :=
  s.umber u (encM 0x30 sub a b 0) true [a, b] (fun s _ => s.withTarget u a false (fun t =>
    let w := s.v u b
    if !(srcWordOk w && decide (srcKind w = 2)) then .error fltOperand
    else .ok (s.media u (s.mayTarget u t) (fun _ s => match s.targetOuts t with
      | none => .error stDenied
      | some (ns, _) => State.onOuts (f w) ns s))))

/-- TAKE.p (R204). -/
def execTakeP (u : Nat) (a b : VReg) (s : State) : Host.Outcome State Fault Refusal :=
  .next (s.remoteForm u 1 a b (fun w s n => s.prepare n w))

/-- TAKE.u (R204). -/
def execTakeU (u : Nat) (a b : VReg) (s : State) : Host.Outcome State Fault Refusal :=
  .next (s.remoteForm u 2 a b (fun w s n => s.unprepare n w))

/-- FLIP of a plane: base = BASE_HI × 2^38 + vb × 2^6 (R161, R205). -/
def execFlip (u : Nat) (plane : Bool) (a b : VReg) (s : State) : Host.Outcome State Fault Refusal :=
  .next (s.umber u (encM 0x31 (if plane then 1 else 0) a b 0) true [a, b] (fun s _ => s.withTarget u a true (fun t =>
    let p := if plane then 1 else 0
    let base := bits (s.v u a) 23 16 * 2 ^ 38 + (s.v u b).toNat * 64
    .ok (s.media u (s.mayTarget u t) (fun e s => s.onTarget e t (fun j s n =>
      (s.flipCheck u e n j p base t.isTile).map (fun f => (s, Member.flip n p f))))))))

/-- TSET (R146, R149). -/
def execTset (u : Nat) (a : VReg) (s : State) : Host.Outcome State Fault Refusal :=
  .next (s.umber u (encM 0x32 0 a 0 0) true [a] (fun s _ => s.withTarget u a false (fun t =>
    .ok (s.media u (s.mayTarget u t) (fun e s => s.onTarget e t (fun j s n =>
      (s.tsetCheck u e n j t.isTile).map (fun p => (s, Member.tset n p))))))))

/-- The staged geometry that a tile-form FMT commits with it (R166). -/
def State.tileGeom (s : State) : Target → Option (Nat × Word × Word × Word × Word)
  | .out _ => none
  | .tile k => some (k, s.reg (R.tileCropOrgNext k), s.reg (R.tileCropSizeNext k), s.reg (R.tileDestOrgNext k), s.reg (R.tileDestSizeNext k))

/-- FMT on an output (R120, R122). -/
def execFmt (u : Nat) (a : VReg) (s : State) : Host.Outcome State Fault Refusal :=
  .next (s.umber u (encM 0x33 0 a 0 0) true [a] (fun s _ => s.withTarget u a false (fun t =>
    .ok (s.media u (s.mayTarget u t) (fun e s => s.onTarget e t (fun j s n =>
      (s.fmtCheck u e n j (s.tileGeom t)).map (fun p => (s, Member.fmt n p))))))))

/-- Whether unit u may act on a flow (R201). -/
def State.mayFlow (s : State) (u f : Nat) : Bool :=
  decide (128 ≤ u) || (decide (u < 64) && (s.flow f).usable && decide ((s.flow f).portA = u))

/-- FMT.f: a 12-byte format record replaces the declared format from the next input frame start (R82, R205). -/
def execFmtF (u : Nat) (a b : VReg) (s : State) : Host.Outcome State Fault Refusal :=
  .next (s.umber u (encM 0x33 1 a b 0) true [a, b] (fun s _ =>
    let w := s.v u a
    let f := bits w 13 0
    if bits w 31 14 ≠ 0 then .error fltOperand
    else match s.readRecord u (s.v u b).toNat 3 with
      | .error c => .error c
      | .ok ws =>
        let w0 := wordAt ws 0
        let w1 := wordAt ws 1
        let w2 := wordAt ws 2
        if !formatOk w0 w1 w2 || ((s.flow f).usable && (s.flow f).isIp && decide (w2 ≠ 0)) then .error fltOperand
        else .ok (s.media u (s.mayFlow u f) (fun e s => match s.fmtFlowCheck f w0 w1 w2 with
          | .error r => .error r
          | .ok _ => .ok (s.absorb e (.ffmt f w0 w1 w2))))))

/-- LUT (R131, R205): refused inside a group and on a tile. -/
def execLut (u : Nat) (a : VReg) (s : State) : Host.Outcome State Fault Refusal :=
  .next (s.umber u (encM 0x34 0 a 0 0) true [a] (fun s _ => s.withTarget u a false (fun t =>
    .ok (s.loneMedia u (s.mayTarget u t) 0 (fun s => match t with
      | .tile _ => .error stDenied
      | .out n => match (s.out n).grpHold with
        | some _ => if s.outPresent n then .error stBusy else .error stAbsent
        | none => s.lutStart n)))))

/-! Channel maps (R185, R186, R206). -/

/-- The shape of AMAP and AXF: the channel word, the count, the block within OC8191. -/
def State.channelForm (s : State) (u : Nat) (a : VReg) (imm : BitVec 14) (run : Nat → Nat → Nat → Except Nat State) : Except Nat State :=
  match readChannel u (s.v u a) with
  | none => .error fltOperand
  | some (ref, oc) =>
    let n := imm.toNat % 64 + 1
    if 64 ≤ imm.toNat ∨ 8192 < oc + n then .error fltOperand else run ref oc n

/-- A checked map made, or held by the group (R185, R212). -/
def State.amap (s : State) (u : Nat) (r : AmapReq) : State :=
  s.media u (mayRef u r.ref) (fun e s => match s.amapCheck u r with
    | .error x => .error x
    | .ok r => .ok (s.absorb e (.amap r)))

def execAmapInputBlock (u : Nat) (a b : VReg) (imm : BitVec 14) (s : State) : Host.Outcome State Fault Refusal :=
  .next (s.umber u (encM 0x35 0 a b imm) true [a, b] (fun s _ => s.channelForm u a imm (fun ref oc n =>
    let x := (s.v u b).toNat
    if 8192 < x + n then .error fltOperand else .ok (s.amap u { oc := oc, count := n, kind := 0, src := x, ref := ref }))))

def execAmapSourceCode (u : Nat) (a b : VReg) (imm : BitVec 14) (s : State) : Host.Outcome State Fault Refusal :=
  .next (s.umber u (encM 0x35 1 a b imm) true [a, b] (fun s _ => s.channelForm u a imm (fun ref oc n =>
    let x := (s.v u b).toNat
    if x = 0x2000 ∨ x = 0x2001 then .ok (s.amap u { oc := oc, count := n, kind := 1, src := x, ref := ref }) else .error fltOperand)))

def execAmapFollow (u : Nat) (a b : VReg) (imm : BitVec 14) (s : State) : Host.Outcome State Fault Refusal :=
  .next (s.umber u (encM 0x35 2 a b imm) true [a, b] (fun s _ => s.channelForm u a imm (fun ref oc n =>
    let w := s.v u b
    if bits w 31 14 ≠ 0 ∨ bits w 7 6 ≠ 0 ∨ 64 < bits w 5 0 + n then .error fltOperand
    else .ok (s.amap u { oc := oc, count := n, kind := 2, src := w.toNat, ref := ref }))))

/-- AXF: the crossfade of a block of channels (R187). -/
def execAxf (u : Nat) (a b : VReg) (imm : BitVec 14) (s : State) : Host.Outcome State Fault Refusal :=
  .next (s.umber u (encM 0x36 0 a b imm) true [a, b] (fun s _ => s.channelForm u a imm (fun ref oc n =>
    let w := s.v u b
    if bits w 31 19 ≠ 0 ∨ 3 < bits w 18 16 ∨ 48000 < bits w 15 0 then .error fltOperand
    else .ok (s.media u (mayRef u ref) (fun e s => match s.axfCheck u ref with
      | .error x => .error x
      | .ok _ => .ok (s.absorb e (.axf oc n w)))))))

/-- ANC (R195, R205): a mask bit of a slot that is not valid faults. -/
def execAnc (u : Nat) (a b : VReg) (s : State) : Host.Outcome State Fault Refusal :=
  .next (s.umber u (encM 0x37 0 a b 0) true [a, b] (fun s _ => s.withTarget u a false (fun t =>
    let m := (s.v u b).toNat
    let bad := match t with
      | .out n => (List.range 16).any (fun k => m.testBit k && !s.insValid n k)
      | .tile _ => false
    if decide (65536 ≤ m) || bad then .error fltOperand
    else .ok (s.media u (s.mayTarget u t) (fun e s => match t with
      | .tile _ => .error stDenied
      | .out n => match s.ancCheck u n m with
        | .error x => .error x
        | .ok p => .ok (s.absorb e (.anc n p)))))))

/-! SIG and MARK (R207, R208). -/

/-- SIG's result: vd and Z on success, a refused SIG leaves vd. -/
def State.sig (s : State) (u : Nat) (d : VReg) (r : Except Nat Word) : State :=
  match r with
  | .error x => s.mediaResult u x
  | .ok w => (s.modUnit u (fun x => { x.setV d w with flags := { x.flags with z := decide (w = 0) } })).mediaResult u stOk d

/-- The output a SIG names: 0 to 63, or 0xFF on a sequencer. -/
def sigOutput (u : Nat) (w : Word) : Option Nat :=
  if w.toNat < 64 then some w.toNat else if w.toNat = 255 ∧ u < 128 then some (u % 64) else none

def execSigO (u : Nat) (d b : VReg) (s : State) : Host.Outcome State Fault Refusal :=
  .next (s.umber u (encM 0x38 0 d b 0) true [b] (fun s _ => match sigOutput u (s.v u b) with
    | none => .error fltOperand
    | some n => .ok (s.sig u d (if s.outPresent n then .ok (s.out n).sigOut else .error stAbsent))))

def execSigSrc (u : Nat) (d b : VReg) (s : State) : Host.Outcome State Fault Refusal :=
  .next (s.umber u (encM 0x38 1 d b 0) true [b] (fun s _ => match sigOutput u (s.v u b) with
    | none => .error fltOperand
    | some n => .ok (s.sig u d (if s.outPresent n then .ok (s.out n).sigSrc else .error stAbsent))))

def execSigFlow (u : Nat) (d b : VReg) (s : State) : Host.Outcome State Fault Refusal :=
  .next (s.umber u (encM 0x38 2 d b 0) true [b] (fun s _ =>
    let f := (s.v u b).toNat
    if 16384 ≤ f then .error fltOperand
    else .ok (s.sig u d (if !s.slicePresent (f / 2048) then .error stAbsent
      else if (s.flow f).usable && (s.flow f).isVideo then .ok (s.flow f).sig else .error stDenied))))

/-- MARK now (R208). -/
def execMarkNow (u : Nat) (a : VReg) (code : BitVec 14) (s : State) : Host.Outcome State Fault Refusal :=
  .next (s.umber u (encM 0x39 0 a 0 code) true [a] (fun s _ =>
    .ok ((s.logMark u code.toNat (s.v u a) s.ttime).mediaResult u stOk)))

/-- MARK at the next frame start; one is pending at a time, and without a timing context it is refused (R208). -/
def execMarkNextFrame (u : Nat) (a : VReg) (code : BitVec 14) (s : State) : Host.Outcome State Fault Refusal :=
  .next (s.umber u (encM 0x39 1 a 0 code) true [a] (fun s _ =>
    if 128 ≤ u ∧ (s.unit u).timing = 255 then .ok (s.mediaResult u stDenied)
    else .ok ((s.modUnit u (fun x => { x with mark := some ⟨code.toNat, s.v u a⟩ })).mediaResult u stOk)))

/-! BIND (R81, R83, R209). -/

/-- BIND: the descriptor at va; the new flow index to vd on OK only. -/
def execBind (u : Nat) (d a : VReg) (s : State) : Host.Outcome State Fault Refusal :=
  .next (s.umber u (encM 0x3A 0 a d 0) true [a] (fun s _ =>
    match s.readRecord u (s.v u a).toNat 16 with
    | .error c => .error c
    | .ok ws =>
      if !bindOperandOk ws then .error fltOperand
      else .ok (s.loneMedia u (decide (128 ≤ u) || (decide (u < 64) && decide (bindPortA ws = u))) d (fun s =>
        match s.bindRows ws with
        | .error x => .error x
        | .ok (f, t) => .ok (t.setV u d (word f))))))

/-- BIND.r: the flow in va is released. -/
def execBindR (u : Nat) (a : VReg) (s : State) : Host.Outcome State Fault Refusal :=
  .next (s.umber u (encM 0x3A 1 a 0 0) true [a] (fun s _ =>
    let w := s.v u a
    if 16384 ≤ w.toNat then .error fltOperand
    else .ok (s.loneMedia u (s.mayFlow u w.toNat) 0 (fun s => s.release w.toNat))))

/-- The context returns at the next input frame start, which falls at an instant given, or at the limit of 8 ticks (R83). -/
def execFlowReleaseComplete (f tAt : Nat) (s : State) : Host.Outcome State Fault Refusal :=
  .next (match (s.flow f).releasing with
    | none => s
    | some lim => (s.advance (min lim (max s.ttime tAt))).returnContext f)

/-! SWAPP (R210). -/

/-- A LOADP that writes the inactive bank of unit u. -/
def State.loadsInactive (s : State) (u : Nat) : Bool :=
  s.ces.any (fun (p : Nat × Ce) => match p.2.loadp with
    | some l => decide (l.tgt = u ∧ l.bank ≠ (s.unit u).bank)
    | none => false)

/-- SWAPP: the swap of R48 armed; with CHECK, an inactive bank whose word 0 is 0 is refused. -/
def execSwapp (u : Nat) (imm : BitVec 14) (s : State) : Host.Outcome State Fault Refusal :=
  .next (s.umber u (encM 0x3B 0 0 0 imm) true [] (fun s _ =>
    if 2 ≤ imm.toNat then .error fltOperand
    else if s.loadsInactive u then .ok (s.mediaResult u stBusy)
    else if imm.toNat = 1 ∧ s.unitLoad u 0x8000 4 = 0 then .ok (s.mediaResult u stDenied)
    else .ok ((s.modUnit u (fun x => { x with swapArmed := true })).mediaResult u stOk)))

/-! Atomic groups (R212, R213). -/

def execBegin (u : Nat) (s : State) : Host.Outcome State Fault Refusal :=
  .next (s.umber u (encM 0x3D 0 0 0 0) true [] (fun s _ =>
    if (s.openGroup u).isSome then .ok (s.mediaResult u stBusy)
    else .ok ((s.modCe (u - 128) (fun c => { c with grp := some { deadline := s.ticksOn 64 } })).mediaResult u stOk)))

def execCommit (u : Nat) (s : State) : Host.Outcome State Fault Refusal :=
  .next (s.umber u (encM 0x3D 1 0 0 0) true [] (fun s _ =>
    let (st, t) := s.groupCommit (u - 128)
    .ok (t.mediaResult u st)))

def execAbort (u : Nat) (s : State) : Host.Outcome State Fault Refusal :=
  .next (s.umber u (encM 0x3D 2 0 0 0) true [] (fun s _ =>
    let (st, t) := s.groupAbort (u - 128)
    .ok (t.mediaResult u st)))

/-- The group of engine e reaches its 64 ticks (R213). -/
def execGroupExpired (e : Nat) (s : State) : Host.Outcome State Fault Refusal :=
  .next (match (s.ce e).grp with
    | some g => if g.expired then s else (s.advance g.deadline).groupExpire e
    | none => s)

/-! SEND (R61, R214). -/

def execSend (u : Nat) (a b : VReg) (s : State) : Host.Outcome State Fault Refusal :=
  .next (s.umber u (encM 0x3E 1 a b 0) true [a, b] (fun s _ =>
    match readUnitWord (s.v u a) with
    | none => .error fltOperand
    | some t => .ok (s.loneMedia u true 0 (fun s =>
        let x := s.unit t
        if !s.unitPresent t then .error stAbsent
        else if 4 ≤ x.mbox.length then .error stBusy
        else
          let s1 := s.setUnit t { x with mbox := x.mbox ++ [(s.v u b, s.ttime)] }
          .ok (if x.mbox = [] then s1.setEvents t evMbox else s1)))))

/-! LOADP (R215). -/

/-- The conditions of Table 8.9 that end a LOADP before its copy, in order. -/
def State.loadpRefusal (s : State) (t : Nat) (ws : List Word) : Option Nat :=
  let x := s.unit t
  let src := (wordAt ws 0).toNat
  let n := bits (wordAt ws 1) 13 0
  let staging := bit (wordAt ws 3) 4
  let active := bit (wordAt ws 3) 1
  let arm := bit (wordAt ws 3) 0
  let running := decide (x.run = .run ∨ x.run = .wait)
  if !s.unitPresent t then some stAbsent
  else if decide (128 ≤ t) || (active && (running || x.start.isSome)) || (arm && !running) || (active && arm) then some stDenied
  else if x.swapArmed || s.ces.any (fun (p : Nat × Ce) => match p.2.loadp with | some l => decide (l.tgt = t) | none => false) then some stBusy
  else if n = 0 ∨ 8192 < n ∨ (if staging then stageSize else 0x40000) < src + 4 * n then some stRange
  else none

/-- LOADP: the descriptor checked, the copy started; the engine stalls until it ends. -/
def execLoadp (u : Nat) (a b : VReg) (s : State) : Host.Outcome State Fault Refusal :=
  .next (s.umber u (encM 0x3E 2 a b 0) true [a, b] (fun s _ =>
    match readUnitWord (s.v u a) with
    | none => .error fltOperand
    | some t => match s.readRecord u (s.v u b).toNat 4 with
      | .error c => .error c
      | .ok ws =>
        if bits (wordAt ws 1) 31 14 ≠ 0 ∨ bits (wordAt ws 3) 31 5 ≠ 0 ∨ bits (wordAt ws 3) 3 2 ≠ 0 then .error fltOperand
        else if (s.openGroup u).isSome then .ok (s.mediaResult u stDenied)
        else match s.loadpRefusal t ws with
          | some r => .ok (s.mediaResult u r)
          | none =>
            let bank := if bit (wordAt ws 3) 1 then (s.unit t).bank else 1 - (s.unit t).bank
            let l : Loadp := { tgt := t, srcInEngine := !bit (wordAt ws 3) 4, src := (wordAt ws 0).toNat,
                               words := bits (wordAt ws 1) 13 0, crc := wordAt ws 2, bank := bank, arm := bit (wordAt ws 3) 0,
                               started := s.ttime, deadline := s.ticksOn 2 }
            .ok ((s.modCe (u - 128) (fun c => { c with loadp := some l })).modUnit u (fun x => { x with stalled := true }))))

/-- A stalled engine goes on with a status (R59). -/
def State.unstall (s : State) (e st : Nat) : State :=
  let u := 128 + e
  (s.modUnit u (fun x => { x with stalled := false, nextIssue := alignUp mgmtCycle (s.ttime + 1) })).mediaResult u st

/-- The copy of engine e ends: the bank is written, the image verified, the swap armed where asked (Table 8.9). The copy takes a
management cycle for 16 bytes. -/
def execLoadpComplete (e : Nat) (s : State) : Host.Outcome State Fault Refusal :=
  .next (match (s.ce e).loadp with
    | none => s
    | some l =>
      let s := s.advance (l.started + ceilDiv l.words 4 * mgmtCycle)
      let bs := s.loadpBytes e l
      let x := s.unit l.tgt
      let s := (s.unitWrite l.tgt (l.bank * 0x8000) bs).modCe e (fun c => { c with loadp := none })
      let running := decide (x.run = .run ∨ x.run = .wait)
      if word (crc32c bs) ≠ l.crc then s.unstall e stCheckFail
      else if l.arm && !running then s.unstall e stDenied
      else if l.arm then (s.modUnit l.tgt (fun x => { x with swapArmed := true })).unstall e stOk
      else s.unstall e stOk)

/-- The copy of engine e is not complete after 2 ticks: how many of its bytes are in the bank is a free value (R215). -/
def execLoadpTimeout (e : Nat) (s : State) : Host.Outcome State Fault Refusal :=
  .next (match (s.ce e).loadp with
    | none => s
    | some l => ((s.advance l.deadline).loadpPartial e).unstall e stTimeout)

/-! The host queues as commands (R217 to R222). -/

def execSqTailDoorbell (m e : Nat) (v : Word) (s : State) : Host.Outcome State Fault Refusal :=
  .next (if e < 4 then s.regWriteBy m (R.ceqSqTail e) (s.doorbell e v.toNat) else s)

def execCqHeadWrite (m e : Nat) (v : Word) (s : State) : Host.Outcome State Fault Refusal :=
  .next (if e < 4 then s.regWriteBy m (R.ceqCqHead e) (s.cqHeadWrite e v.toNat) else s)

/-- A write of Q_CTRL, which enables or disables the queue. -/
def execQCtrlEnable (m e : Nat) (v : Word) (s : State) : Host.Outcome State Fault Refusal :=
  .next (if e < 4 then s.regWriteBy m (R.ceqQCtrl e) (s.qCtrlWrite e v) else s)

def execQResume (m e : Nat) (v : Word) (s : State) : Host.Outcome State Fault Refusal :=
  .next (if e < 4 then s.regWriteBy m (R.ceqQResume e) (s.qResume e v) else s)

def execCmdNop (e : Nat) (s : State) : Host.Outcome State Fault Refusal := .next (s.cmdNop e)

def execCmdCall (e : Nat) (s : State) : Host.Outcome State Fault Refusal := .next (s.cmdCall e)

def execCmdInline (e : Nat) (s : State) : Host.Outcome State Fault Refusal := .next (s.cmdInline e)

def execCmdLoadc (e : Nat) (s : State) : Host.Outcome State Fault Refusal := .next (s.cmdLoadc e)

/-- A command lacks posted blocks for 8 ticks: RANGE, the posted blocks are consumed (R219). -/
def execBlockPartialTimeout (e : Nat) (s : State) : Host.Outcome State Fault Refusal :=
  .next (match (s.ce e).partialAt with
    | some t =>
      let s := s.advance t
      if s.headBlock e = .partly then s.rejectCommand e stRange (s.ce e).posted else s
    | none => s)

/-- Completion records were consumed: a waiting engine goes on with the block at its head (R221). -/
def execCompletionSpaceFreed (e : Nat) (s : State) : Host.Outcome State Fault Refusal :=
  .next (if (s.ce e).waitCq && decide ((s.ce e).unread < 16384) then (s.modCe e (fun c => { c with waitCq := false })).settleHead e else s)

end Sys2Proof.Machine
end

