-- ==== Sys2Proof/Machine/Ingest.lean ====
section
/-! DEFINITION. What arrives at the ports (chapter 03): SDI lines, packets, detection, the frame synchronisers, the direct path's alignment, and the remote exchange at the taker (R109, R110). -/

namespace Sys2Proof.Machine

/-! Reference and detection (R84, R85). -/

/-- The reference timeout of a flow: 10 ms on IP, 2 ms on SDI (Table 3.5). -/
def Flow.refLimit (f : Flow) : Nat := if f.isIp then 16000000 else 3200000

/-- LOCK_FRAMES and ALIGN_GROUP in force. -/
def Flow.lockFrames (f : Flow) : Nat := bits f.policy 7 4
def Flow.alignTo (f : Flow) : Nat := bits f.policy 15 8
def Flow.lossBlack (f : Flow) : Bool := bit f.policy 0

/-- Whether an output shows a flow on a path that alignment holds up: direct, or a store of depth 1 (R90, R93). -/
def State.alignUsed (s : State) (f : Nat) : Bool :=
  s.outs.any (fun (p : Nat × Out) => decide (p.2.cur.kind = 1 ∧ p.2.cur.idx = f)
    && (decide (p.2.cur.path = 2) || decide (p.2.cur.path = 1 ∧ (s.flow f).depth = 1)))

/-- A flow loses alignment: ALIGN_LOST where an output takes it so (R92, R93). -/
def State.loseAlign (s : State) (f : Nat) : State :=
  let x := s.flow f
  let s1 := s.setFlow f { x with aligned := false, alignRun := 0 }
  if x.aligned && s.alignUsed f then s1.raise 0x4007 sevWarn kFlow f else s1

/-- A change of a flow's detection state, with S_SRCSTAT followed (R61, Table 2.8). A store that LOCKED left is dark under BLACK until it is
LOCKED again (R86); entry to ACQUIRE begins the 3-frame limit afresh (R85). -/
def State.detTo (s : State) (f : Nat) (d : Det) : State :=
  let us := s.flowUnits f
  let s1 := s.modFlow f (fun x => { x with det := d, dark := decide (d = .unstable ∨ d = .noSignal) || (x.dark && decide (d ≠ .locked)),
                                           acquireT := if d = .acquire then s.ttime else x.acquireT,
                                           absentAcc := if d = .acquire then 0 else x.absentAcc })
  let s1 := if d = .locked then s1 else s1.loseAlign f
  let s1 := if (s.flow f).det = .locked ∧ d ≠ .locked then s1.audioLose false f else s1
  s.noteSrc s1 us

/-- Reference seen on a flow: NO_SIGNAL moves to ACQUIRE, and a flow that declares no format moves on to LOCKED (R85). -/
def State.refSeen (s : State) (f : Nat) : State :=
  let x := s.flow f
  if !x.valid then s
  else
    let base := max x.lastGood (max x.bindT x.acquireT)
    let s := s.setFlow f { x with refOk := true, lastRef := s.ttime, absentFrom := none,
                                  absentAcc := match x.absentFrom with | some t => x.absentAcc + (s.ttime - max t base) | none => x.absentAcc }
    let s := if x.det = .noSignal then (s.modFlow f (fun y => { y with good := 0 })).detTo f .acquire else s
    if !x.isVideo ∧ (s.flow f).det = .acquire then (s.detTo f .locked).raise 0x4003 sevInfo kFlow f else s

/-- Flows ingested on a port. -/
def State.flowsOn (s : State) (n : Nat) : List Nat :=
  (s.flows.filter (fun (p : Nat × Flow) => p.2.usable && decide (p.2.portA = n))).map Prod.fst

/-! The lines of a picture (R70, R88, R90). -/

/-- Ancillary packets that outputs regenerate and no frame carries: audio data and control, the ST 352 payload ID, EDH (R191; the DIDs of the
standards, PRESUMED, log entry 55). -/
def regenerated (p : AncPkt) : Bool :=
  let did := p.words.getD 0 0 % 256
  [0xFF, 0xFD, 0xFB, 0xF9, 0xE7, 0xE6, 0xE5, 0xE4, 0xEF, 0xEE, 0xED, 0xEC, 0xE3, 0xE2, 0xE1, 0xE0, 0xF4].contains did
    || (decide (did = 0x41) && decide (p.words.getD 1 0 % 256 = 0x01))

/-- Ancillary packets join the frame in progress of a video flow. -/
def State.ancIn (s : State) (f : Nat) (ps : List AncPkt) : State :=
  if ps = [] then s else s.modFlow f (fun x => { x with anc := x.anc ++ ps.filter (fun p => !regenerated p) })

/-- Groups of active line y of a flow arrive. A pair that they complete is written to the slot in progress; at depth 1 not from UNSTABLE or
NO_SIGNAL on (R90). -/
def State.pixelsIn (s : State) (f y start : Nat) (gs : List (List Nat)) : State :=
  let x := s.flow f
  if !x.isVideo || decide (x.vActive ≤ y) then s
  else
    let r := (Row.patch (Tbl.get [] x.live y) start gs).take x.fix.lineGroups
    let s := s.modFlow f (fun z => { z with live := Tbl.set [] z.live y r })
    if r.length < x.fix.lineGroups ∨ (x.depth = 1 ∧ (x.det = .unstable ∨ x.det = .noSignal)) then s else s.writePair (s.flow f) y

/-! SDI (R70 to R72). -/

/-- The video flow of an SDI port, and the links that are not missing from its current frame: they keep their timing references, their lanes
are locked, they lag no more than 3,200 cycles (R72). -/
def State.linksHere (s : State) (n : Nat) : Nat :=
  ((List.range (modeLinks (s.portMode n))).filter (fun i =>
    let p := s.port n
    p.trsOk.testBit i && !p.missing.testBit i && (s.lane (32 + 4 * n + i)).cdr)).foldl setBit 0

/-- The payload IDs of a port's links: present on all of them in the frame, and on several links each naming a position of its own (R71). -/
def State.pidsOk (s : State) (n : Nat) : Bool :=
  let k := modeLinks (s.portMode n)
  let p := s.port n
  let pos := (List.range k).map (fun i => p.linkNo.getD i k)
  decide (p.pids % 2 ^ k = 2 ^ k - 1) && (decide (k ≤ 1) || (List.range k).all (fun i => pos.contains i))

/-- A frame of a port begins: what the frame before it showed of payload IDs and skew stands (Table 3.8). -/
def Port.frameEnds (p : Port) : Port :=
  { p with vTotal := p.line + 1, frame := p.frame + 1, skew := p.skewNow, skewNow := 0, missing := 0, pids := 0,
           payload := p.payload.zipIdx.map (fun w => if p.pids.testBit w.2 then w.1 else 0) }

/-- What a line with timing references does: its CRC, the reference it is, the picture and the packets it brings (R70, R85). Embedded audio
is that of link 1 (R177). -/
def State.sdiLine (s : State) (n k : Nat) (crcOk audio : Bool) (x : SdiMore) : State :=
  let s := if !crcOk && decide (x.cls ≠ 1) then s.bump (R.portCrcErrCnt n k) else s
  let allOk := (List.range (modeLinks (s.portMode n))).all (fun i => (s.port n).trsOk.testBit i)
  let first := decide ((s.port n).linkNo.getD k k = 0)
  let s := if allOk then s.forEach (s.flowsOn n) (fun s f =>
    if (s.flow f).isVideo then s.refSeen f
    else if audio && first then (s.refSeen f).modFlow f (fun y => { y with audioT := s.ttime }) else s) else s
  match s.portVideo n with
  | some f =>
    let s := s.ancIn f x.anc
    match x.pix with
    | some (y, gs) => s.pixelsIn f y 0 gs
    | none => s
  | none => s

/-- A line received on link k of an SDI port: its number, whether timing references are valid and the line CRC agrees, the
payload ID that came with it, the measured skew, whether it carried valid audio packets, and what else it brings. -/
def execSdiLineRx (n k line : Nat) (trs crcOk : Bool) (payload : Option Word) (skew : Nat) (audio : Bool) (x : SdiMore) (s : State) :
    Host.Outcome State Fault Refusal :=
  .next (if !s.portPresent n || (s.port n).shedHold || !s.portIsSdi n || decide (modeLinks (s.portMode n) ≤ k) then s
    else
      let p := s.port n
      let had := p.trsOk.testBit k
      let gone := !trs || decide (3200 < skew) || !(s.lane (32 + 4 * n + k)).cdr
      let ok := if trs then setBit p.trsOk k else clearBit p.trsOk k
      let s := s.setPort n { p with trsOk := ok, skewNow := max p.skewNow skew, missing := if gone then setBit p.missing k else p.missing,
                                    cls := if ok = 0 then 0 else if trs then x.cls else p.cls, lvlB := if trs then x.lvlB else p.lvlB,
                                    pids := if payload.isSome then setBit p.pids k else p.pids,
                                    linkNo := match x.linkNo with
                                      | some i => (p.linkNo ++ (List.range 4).drop p.linkNo.length).set k i
                                      | none => p.linkNo,
                                    payload := match payload with
                                      | some w => (p.payload ++ List.replicate (4 - p.payload.length) 0).set k w
                                      | none => p.payload }
      if !trs then
        let s := if had then s.bump (R.portTrsLossCnt n) else s
        s.forEach (s.flowsOn n) (fun s f => s.modFlow f (fun y => { y with
          refOk := false, absentFrom := if y.absentFrom.isSome then y.absentFrom else some s.ttime,
          partialLinks := y.partialLinks && decide (ok ≠ 0), linksUp := if ok = 0 then 0 else y.linksUp }))
      else
        let s := if k = 0 ∧ line = 0 then (s.modPort n Port.frameEnds).frameSeen n s.ttime else s
        let s := s.sdiLine n k crcOk audio x
        if k = 0 then (s.modPort n (fun p => { p with line := line })).lineSeen n line else s)

/-! Packets (R73, R75, R77). -/

/-- The entry of a port's table that a packet matches, the lowest first (R73). -/
def State.matchPacket (s : State) (n : Nat) (dst src : Word) (udp pt : Nat) : Option (Nat × Nat) :=
  ((s.port n).table.find? (fun (p : Nat × List Word) =>
    let w2 := wordAt p.2 2
    decide (wordAt p.2 0 = dst) && (decide (wordAt p.2 1 = src) || decide (wordAt p.2 1 = 0))
      && decide (bits w2 15 0 = udp) && (!bit w2 23 || decide (bits w2 22 16 = pt)))).map
    (fun p => (bits (wordAt p.2 3) 13 0, bits (wordAt p.2 3) 30 30))

/-- A leg delivers a packet: it is up (R77). -/
def State.legSeen (s : State) (f leg : Nat) : State :=
  s.modFlow f (fun x => if leg = 0 then { x with legAUp := true, legALast := s.ttime, legANoted := false }
    else { x with legBUp := true, legBLast := s.ttime, legBNoted := false })

/-- Whether the channels of a flow suit the stream of a packet: 2 to 16, even, with AES3; up to 8 at levels A and B, 64 at C (Table 7.1). -/
def audioFits (p : PacketInfo) (count : Nat) : Bool :=
  if p.aes3 then decide (2 ≤ count ∧ count ≤ 16 ∧ count % 2 = 0) else decide (count ≤ if p.lvl = 2 then 64 else 8)

/-- A packet accepted by a flow: the line it starts, the picture it carries; an opaque one is forwarded as it is (Table 3.2; the spec names no
destination, log entry 54); one of an ancillary flow joins its video flow's frame; of audio its samples are scheduled for their playout instant, and
the channel status says whether they are non-PCM, which mutes them with the ASRC. A late packet is dropped and counted, one whose level or count does
not suit the flow brings nothing (R41, R178, R180, Table 7.7). -/
def State.packetIn (s : State) (n f : Nat) (p : PacketInfo) : State :=
  let x := s.flow f
  let s := match p.line with
    | some l => if s.portVideo n = some f then (s.modPort n (fun q => { q with line := l })).lineSeen n l else s
    | none => s
  let s := s.forEach p.pix (fun s (q : Nat × Nat × List (List Nat)) => s.pixelsIn f q.1 q.2.1 q.2.2)
  if x.ftype = 3 then s.emit "ST 2110-22" n f [p.seq]
  else if x.ftype = 2 then (match x.assoc with | some v => s.ancIn v p.anc | none => s)
  else if x.ftype = 1 then
    let playT := p.stamp + x.playout * 1600000
    if playT < s.ttime then s.bump R.audioLatePktCnt
    else if !audioFits p x.audioCount then s
    else
      let cs := s.audioIcs false f
      let bad := p.aes3 && p.nonPcm && x.asrc && !(s.ic x.audioBase).muted
      let s := s.forEach cs (fun s c => s.setIc c { s.ic c with source := if p.aes3 then 2 else 1, nonPcm := p.aes3 && p.nonPcm })
      let s := if bad then (s.audioMute cs true).raise 0x4057 sevWarn kFlow f else s
      (s.modFlow f (fun y => { y with audioT := s.ttime })).emit "PLAY" f playT [p.seq]
  else s

/-- A packet of a protected flow: late copies and duplicates are discarded (R75). -/
def State.mergeIn (s : State) (n f : Nat) (p : PacketInfo) : State :=
  let x := s.flow f
  let late := match p.marker with | some t => decide (t + x.skewMax * 1600000 < s.ttime) | none => false
  if late then s.bump (R.flowSkewExceedCnt f)
  else if x.mrg.seen.contains p.seq then s
  else (s.setFlow f { x with mrg := { x.mrg with seen := p.seq :: x.mrg.seen } }).packetIn n f p

/-- A packet of an unprotected flow: sequence numbers passed over are lost (R84, R94); they count in RTP_LOSS_CNT (DESIGN CHOICE, log entry
54). One beyond the receive buffer is lost too. -/
def State.seqIn (s : State) (f seq : Nat) (taken : Bool) : State :=
  let x := s.flow f
  let gap := match x.nextSeq with
    | some k => if k ≤ seq then (List.range (seq - k)).map (fun i => k + i) else []
    | none => []
  let s := s.setFlow f { x with nextSeq := some (match x.nextSeq with | some k => max k (seq + 1) | none => seq + 1),
                                lostSeqs := (x.lostSeqs.filter (fun q => decide (q ≠ seq) || !taken)) ++ gap ++ (if taken then [] else [seq]) }
  if gap = [] then s else s.bumpBy (R.flowRtpLossCnt f) gap.length

/-- Whether a packet under an association number of a slot is accepted: the slot has a key, the number is the one in use or, until a packet has come
under it, the one before (R73, R390). -/
def State.macAccepts (s : State) (i an : Nat) : Bool :=
  let (cur, old) := Tbl.get (0, false) s.woad.macAn i
  decide ((Tbl.get Slot17.reset s.woad.slots i).key ≠ []) && (decide (an = cur) || (old && decide (an = (cur + 3) % 4)))
def State.macTaken (s : State) (i an : Nat) : State :=
  let (cur, old) := Tbl.get (0, false) s.woad.macAn i
  if i ≠ 0 ∧ old ∧ an = cur then { s with woad := { s.woad with macAn := Tbl.set (0, false) s.woad.macAn i (cur, false) } } else s

/-- A received IPv4 UDP packet (R73). Every packet that matches a flow is its reference (R85), copies and late ones among them. -/
def execPacketRx (n : Nat) (dst src : Word) (udp pt : Nat) (p : PacketInfo) (s : State) : Host.Outcome State Fault Refusal :=
  .next (if !s.portPresent n || (s.port n).shedHold || !s.portIsEth n then s
    else if p.fcsBad then s.bump (R.portRxFcsErrCnt n)
    else
      let s := s.bump (R.portRxFrames n)
      match s.matchPacket n dst src udp pt with
      | none => s.bump (R.portUnmatchedCnt n)
      | some (f, leg) =>
        let x := s.flow f
        if x.sa ≠ 0 ∧ (x.sa ≠ p.sa ∨ !s.macAccepts x.sa p.an) then s.bump (R.portMacsecDropCnt n)
        else
          let s := s.macTaken x.sa p.an
          let s := (s.legSeen f leg).refSeen f
          if p.beyond then
            let s := s.bump (R.flowRxOverflowCnt f)
            if x.prot then s else s.seqIn f p.seq false
          else if x.prot then s.mergeIn n f p
          else (s.seqIn f p.seq true).packetIn n f p)

/-- The firmware sends the IGMPv3 report that is due (R74). -/
def execIgmpReport (f : Nat) (s : State) : Host.Outcome State Fault Refusal :=
  .next (let x := s.flow f
    match x.igmp.due with
    | none => s
    | some _ =>
      let leg (port k : Nat) (m : Option Nat) (s : State) : State := match m with
        | some i =>
          if !x.igmp.legs.testBit k then s else
          let e := Tbl.get [] (s.port port).table i
          if isMulticast (wordAt e 0) then
            (s.emit "IGMPv3" port (wordAt e 0).toNat [(wordAt e 1).toNat, (s.reg (R.portIpv4Addr port)).toNat]).bump (R.portTxFrames port)
          else s
        | none => s
      let s := leg x.portB 1 x.matchB (leg x.portA 0 x.matchA s)
      s.setFlow f { x with igmp := { due := none, sent := x.igmp.sent + 1 } })

/-- A query on a port: every multicast flow of the port reports again on its legs there (R74). -/
def execIgmpQuery (n : Nat) (s : State) : Host.Outcome State Fault Refusal :=
  .next (s.forEach (Tbl.keys s.flows) (fun s f =>
    let x := s.flow f
    let has (port : Nat) (m : Option Nat) : Bool := decide (port = n) && (match m with
      | some i => isMulticast (wordAt (Tbl.get [] (s.port port).table i) 0)
      | none => false)
    let legs := flag (has x.portA x.matchA) 0 + flag (has x.portB x.matchB) 1
    if legs = 0 then s
    else s.setFlow f { x with igmp := { x.igmp with due := some (match x.igmp.due with | some t => t | none => s.ticksOn 4),
                                                    legs := if x.igmp.due.isSome then x.igmp.legs ||| legs else legs } }))

/-- The merge window of a sequence number ends: missing from both legs, it is a lost packet (R75). -/
def execMergeWindowExpiry (f seq : Nat) (s : State) : Host.Outcome State Fault Refusal :=
  .next (let x := s.flow f
    if !(x.valid && x.prot) then s
    else if x.mrg.seen.contains seq then s.setFlow f { x with mrg := { x.mrg with seen := x.mrg.seen.filter (fun q => decide (q ≠ seq)) } }
    else (s.setFlow f { x with lostSeqs := x.lostSeqs ++ [seq] }).bump (R.flowRtpLossCnt f))

/-- A leg has delivered nothing for 10 ms, since the BIND or since its last packet: it is down (R77). -/
def execLegLost (f : Nat) (legB : Bool) (s : State) : Host.Outcome State Fault Refusal :=
  .next (let x := s.flow f
    if !(x.valid && x.prot && (if legB then x.legBUp || !x.legBNoted else x.legAUp || !x.legANoted)) then s
    else
      let s := s.advance ((if legB then x.legBLast else x.legALast) + 16000000)
      (s.setFlow f (if legB then { x with legBUp := false, legBNoted := true } else { x with legAUp := false, legANoted := true })).raise 0x4005 sevWarn kFlow f (if legB then 1 else 0))

/-! Frames (R82, R84, R88 to R92). -/

/-- Commit numbers that readers of a flow hold (R89). -/
def State.heldSeqs (s : State) (f : Nat) : List Nat :=
  s.outs.flatMap (fun (p : Nat × Out) => match p.2.sel with | some (g, _) => if g = f then p.2.held else [] | none => [])

/-- The newest commit number in a store, 0 for none. -/
def newestSeq (xs : List Slot) : Nat := xs.foldl (fun m x => max m x.seq) 0

/-- The slot the writer takes: the lowest empty one, else the oldest that is neither the newest nor held; one slot is always
rewritten at depth 1 (R89, R90). -/
def pickSlot (xs : List Slot) (held : List Nat) : Option Nat :=
  if xs.length = 1 then some 0
  else match xs.findIdx? (fun x => decide (x.seq = 0)) with
    | some i => some i
    | none =>
      let new := newestSeq xs
      let ok (x : Slot) : Bool := decide (x.seq ≠ new) && !held.contains x.seq
      let old := xs.foldl (fun m x => if ok x && (decide (m = 0) || decide (x.seq < m)) then x.seq else m) 0
      if old = 0 then none else xs.findIdx? (fun x => decide (x.seq = old))

/-- The writer takes a slot at an input frame start; without one the frame is dropped whole (R89); while a population is rebuilt it takes none (R340).
A slot whose committed frame was written
over by a frame then rejected counts as empty (DESIGN CHOICE, log entry 53). -/
def State.takeSlot (s : State) (f : Nat) : State :=
  let x := s.flow f
  if !x.storeEn || s.cxlRebuild || (decide (x.depth = 1) && decide (x.det = .unstable ∨ x.det = .noSignal) && x.landing.isNone) then s
  else
    let xs := x.slots.map (fun y => if y.writing then { y with writing := false } else y)
    match pickSlot xs (s.heldSeqs f) with
    | some i => s.setFlow f { x with slots := xs.modify i (fun y => { y with writing := true, startT := s.ttime,
                                                                             seq := if x.depth = 1 then y.seq else 0 }), rxPos := 0 }
    | none => (s.setFlow f { x with slots := xs }).bump (R.flowWrDropCnt f)

/-- Whether a lead lies in the window of R92: 800 CLK_D cycles to one line and 2,400 cycles; lines is V_TOTAL on SDI, V_ACTIVE on IP. -/
def leadOk (lead : Int) (num lines : Nat) : Bool :=
  decide (800 ≤ lead) && decide ((lead - 2400) * (num * lines : Nat) ≤ (clkHz * 1001 : Nat))

/-- L of a flow frame start now: to the nearest frame start of its group (DEDUCED, log entry 54), each referred to its contact. -/
def State.leadTo (s : State) (g : Nat) (contacts : Int) : Int :=
  let G := s.group g
  let num := s.groupRate g
  let k := firstK G.epoch num s.ttime
  let next : Int := (G.startOf num k : Int) - s.ttime
  let last : Int := (G.startOf num (k - 1) : Int) - s.ttime
  (if k ≠ 0 ∧ absI last < absI next then last else next) + contacts

/-- The alignment monitor at a flow frame start (R92); an ALIGN_GROUP of 0xFF disables it. `contacts` refers the two frame starts to the
contacts. -/
def State.alignStep (s : State) (f : Nat) (contacts : Int) : State :=
  let x := s.flow f
  let g := x.alignTo
  let lead := s.leadTo g contacts
  let s := if g < 16 ∧ (s.group g).running then s.modFlow f (fun y => { y with alignLead := lead }) else s
  let s := if x.alignGroup ≠ g then (s.loseAlign f).modFlow f (fun y => { y with alignGroup := g }) else s
  let x := s.flow f
  let ok := decide (g < 16) && (s.group g).running && decide (s.groupRate g = x.num)
    && leadOk lead x.num (if x.isIp then x.vActive else x.vTotal)
  if !ok then s.loseAlign f
  else
    let r := min 8 (x.alignRun + 1)
    s.setFlow f { x with alignRun := r, aligned := x.aligned || (decide (r = 8) && decide (x.det = .locked)) }

/-- What a flow takes over at its input frame start: POLICY, SKEW_MAX, and a format replaced by FMT but while the port's sequencer is in SAFE
(R63, R75, R82, R96). -/
def State.flowRegs (s : State) (f : Nat) (x : Flow) : Flow :=
  let held := decide ((s.unit x.portA).run = .safe)
  let x := match x.fmtPend with
    | some (w0, w1, w2) => if held then x else { x with fmt0 := w0, fmt1 := w1, fmt2 := w2, fmtPend := none, live := [] }
    | none => x
  if x.valid then { x with policy := s.reg (R.flowPolicy f), skewMax := (s.reg (R.flowSkewMax f)).toNat } else x

/-- An input frame start of a flow; `contacts` refers it and its group's frame start to the contacts. POLICY, SKEW_MAX and a format
replaced by FMT take effect; the writer of a video flow takes a slot (R75, R82, R89, R92, R96). -/
def execInputFrameStart (f : Nat) (contacts : Int) (s : State) : Host.Outcome State Fault Refusal :=
  .next (let x := s.flow f
    if x.releasing.isSome then s.returnContext f
    else if !(x.valid || x.landing.isSome) then s
    else
      let s := (s.setFlow f { s.flowRegs f x with overflowed := false, inFrame := x.isVideo, anc := [] }).bump (R.flowFramesIn f)
      if !x.isVideo then s
      else
        let s := s.takeSlot f
        let s := if x.valid then s.alignStep f contacts else s
        if x.valid ∧ s.portIsEth x.portA ∧ s.portVideo x.portA = some f then s.frameSeen x.portA s.ttime else s)

/-- The signature of a frame about to be committed: of its lines as received, or that of its header in a landing store. -/
def State.frameSig (s : State) (x : Flow) (i : Nat) : Word :=
  if x.landing.isSome then (if s.headOk (x.base + i * x.slotBytes) then word (s.headWord (x.base + i * x.slotBytes) 2) else 0) else x.sigNow

/-- The frame in slot i leaves on every running export of its flow: the bytes of its slot, then its audio area (R234, R237). -/
def State.exportFrame (s : State) (f i : Nat) : State :=
  let x := s.flow f
  s.forEach (s.stk.exports.filter (fun e => decide (e.flow = f) && e.running)) (fun s e =>
    let bs := Memory.readBytes s.mem.cxl (x.base + i * x.slotBytes) x.slotBytes ++ (s.frameAudio f x.num (x.slots.getD i {}).startT).2.2
    s.emit "STREAM" e.route e.dev (f :: bs.map BitVec.toNat))

/-- The frame's last line pair and check value are written: it is committed where its flow is LOCKED and the frame good; a
landing store commits each whole frame (R86, R88, R110). Ancillary packets beyond the area are dropped (R237). -/
def execFrameCommit (f : Nat) (s : State) : Host.Outcome State Fault Refusal :=
  .next (let x := s.flow f
    let landing := x.landing.isSome
    let ok := if landing then decide (x.base ≠ 0) else x.usable && decide (x.det = .locked) && !x.badLast
    match x.slots.findIdx? (fun y => y.writing) with
    | none => s
    | some i =>
      if !ok || x.overflowed then s
      else
        let q := x.commitSeq + 1
        let us := s.flowUnits f
        let kept := ancFit [] x.anc
        let dropped := x.anc.length - kept.length
        let sig := s.frameSig x i
        let s1 := s.setFlow f { x with slots := x.slots.modify i (fun y => { y with writing := false, seq := q, commitT := s.ttime, sig := sig,
                                                                                    lines := kept.map (fun p => (p.line, p.hanc)) }),
                                       commitSeq := q, commits := x.commits + 1, lastCommit := s.ttime,
                                       ready := x.ready || landing, lost := x.lost && !landing }
        let s1 := if landing then s1 else (s1.writeHeader f x i q kept).exportFrame f i
        let s1 := s1.bump (R.flowFramesCommitted f)
        let s1 := if landing then s1 else s1.bumpBy (R.ochreOePairCnt x.portA) x.pairs
        let s1 := if landing ∨ dropped = 0 then s1
          else (s1.bumpBy (R.ochreOeAncDropCnt x.portA) dropped).raiseLim x.portA 0x4072 sevNotice kPort x.portA dropped
        s.noteSrc s1 us)

/-- Within ±0.05 % of the declared rate, bounds included (Table 3.4). -/
def rateClose (num period : Nat) : Bool :=
  let x := clkHz * 1001
  let y := num * period
  decide ((if x ≤ y then y - x else x - y) * 2000 ≤ y)

/-- The step of the RTP timestamp of a frame, in 90 kHz units: a frame period, one of the two whole numbers beside it where it is none. -/
def stepClose (num step : Nat) : Bool :=
  let x := 90000 * 1001
  let y := num * step
  decide ((if x ≤ y then y - x else x - y) < num)

/-- The items of Table 3.4 and the conditions of R84; `links` are the links present, `pids` says whether all payload IDs came and name the
links' positions. Where no payload ID is present, the items it carries are not compared. -/
def Flow.frameGood (x : Flow) (needPid pids : Bool) (links : Nat) (i : FrameInfo) : Bool :=
  let size := decide (bits i.d0 29 16 = x.hActive ∧ bits i.d0 12 0 = x.vActive)
  let scan := decide (bits i.d1 23 22 = x.scan)
  if x.isIp then size && scan && rateClose x.num i.period && stepClose x.num i.step
    && !x.lostSeqs.any (fun q => decide (i.first ≤ q ∧ q ≤ i.last))
  else
    size && decide (bits i.d2 28 16 = x.vTotal ∧ bits i.d2 13 0 = x.hTotal) && scan && rateClose x.num i.period
      && decide (links = 2 ^ x.links - 1)
      && (if pids then decide (bits i.d1 21 18 = bits x.fmt1 21 18 ∧ bits i.d1 17 15 = bits x.fmt1 17 15 ∧ bits i.d1 11 8 = bits x.fmt1 11 8)
          else !needPid)

/-- Where a payload ID is required (R71): 3G level B, 6G and 12G single links, and every multi-link port. -/
def State.needsPid (s : State) (n : Nat) : Bool :=
  let p := s.port n
  decide (p.cls = 3 ∧ p.lvlB) || decide (4 ≤ p.cls) || decide (1 < modeLinks (s.portMode n))

/-- A whole frame received and judged (R84, R85, R87). A flow without signal judges none; it only learns that its links are gone. -/
def execFrameRxComplete (f : Nat) (i : FrameInfo) (s : State) : Host.Outcome State Fault Refusal :=
  .next (let x := s.flow f
    let links := if x.isIp then 1 else s.linksHere x.portA
    if !x.usable || !x.isVideo then s
    else if x.det = .noSignal then s.setFlow f { x with linksUp := links, partialLinks := x.partialLinks && decide (links ≠ 0) }
    else
      let good := x.frameGood (s.needsPid x.portA) (s.pidsOk x.portA) links i && !x.overflowed
      let partly := !x.isIp && decide (1 < x.links) && decide (links ≠ 0) && decide (links ≠ 2 ^ x.links - 1)
      let us := s.flowUnits f
      let fmtChg := decide ((i.d0, i.d1, i.d2) ≠ (x.det0, x.det1, x.det2))
      let s1 := s.setFlow f { x with det0 := i.d0, det1 := i.d1, det2 := i.d2, badLast := !good, linksUp := links, inFrame := false,
                                     good := if good then x.good + 1 else 0, lastGood := if good then s.ttime else x.lastGood,
                                     absentAcc := if good then 0 else x.absentAcc,
                                     lostSeqs := x.lostSeqs.filter (fun q => decide (i.last < q)),
                                     sig := if good then x.sigNow else x.sig,
                                     partialLinks := if partly then true else if good ∨ links = 0 then false else x.partialLinks }
      let s1 := if partly && !x.partialLinks then s1.raise 0x4004 sevWarn kFlow f links else s1
      let s1 := if !good && decide (x.det = .locked) then s1.bump (R.flowRejectCnt f) else s1
      let s1 := if fmtChg && decide (s.portVideo x.portA = some f) then s1.setEvents x.portA evFmtChg else s1
      let s1 := s.noteSrc s1 us
      if good && decide (x.lockFrames ≤ x.good + 1) && decide (x.det = .acquire ∨ x.det = .unstable) then
        (s1.detTo f .locked).raise 0x4003 sevInfo kFlow f
      else s1)

/-- The reference of a flow has been absent for its timeout, a protected flow's on both legs (R77, R85, Table 3.5). A frame cut off is bad
(R86). -/
def execFlowNoSignal (f : Nat) (s : State) : Host.Outcome State Fault Refusal :=
  .next (let x := s.flow f
    if !x.usable || decide (x.det = .noSignal) || decide (x.det = .idle) || (x.prot && (x.legAUp || x.legBUp)) then s
    else
      let s := s.advance (x.lastRef + x.refLimit)
      let cut := x.isVideo && x.inFrame
      let s := s.setFlow f { x with refOk := false, good := 0, partialLinks := x.partialLinks && decide (x.linksUp ≠ 0), inFrame := false,
                                    badLast := x.badLast || cut }
      let s := if cut && decide (x.det = .locked) then s.bump (R.flowRejectCnt f) else s
      (s.detTo f .noSignal).raise 0x4001 sevWarn kFlow f)

/-- No good frame for 3 frame periods, counted while the reference is present (R85). -/
def execFlowUnstable (f : Nat) (s : State) : Host.Outcome State Fault Refusal :=
  .next (let x := s.flow f
    if !x.usable || !x.isVideo || !x.refOk || !decide (x.det = .acquire ∨ x.det = .locked) then s
    else
      let s := s.advance (max x.lastGood (max x.bindT x.acquireT) + frameOfs x.num 3 + x.absentAcc)
      let s := s.setFlow f { x with good := 0 }
      (s.detTo f .unstable).raise 0x4002 sevWarn kFlow f)

/-! The remote exchange at the taker (R109, R110). -/

/-- A remote source stops arriving (R110). -/
def execRemoteSourceLost (f : Nat) (s : State) : Host.Outcome State Fault Refusal :=
  .next (let x := s.flow f
    if x.landing.isNone || !x.ready || x.lost then s
    else
      let us := s.flowUnits f
      s.noteSrc ((s.setFlow f { x with lost := true, retryAt := s.ticksOn 32 }).raise 0x4011 sevWarn kFlow f) us)

/-- A new reservation is tried, every 32 ticks while the source is lost (R110). -/
def execRemoteReserveRetry (f : Nat) (s : State) : Host.Outcome State Fault Refusal :=
  .next (let x := s.flow f
    match x.landing with
    | some (dev, idx) =>
      if !x.lost then s
      else
        let s := s.advance x.retryAt
        (s.setFlow f { x with retryAt := s.ticksOn 32 }).stkSend dev 0x12 "RESV" (exchPay idx 0 0 (s.codedMbps x x.audioCount) 0 s.devId)
    | none => s)

end Sys2Proof.Machine
end

