-- ==== Sys2Proof/Machine/Refs.lean ====
section
/-! DEFINITION. Reference candidates as the timing groups see them: their settings, frame pulses, alignment periods and compatible rates (R308, R318). -/

namespace Sys2Proof.Machine

def State.modMadder (s : State) (f : Madder → Madder) : State := { s with madder := f s.madder }
def State.cand (s : State) (c : Nat) : Cand := Tbl.get Cand.reset s.madder.cands c
def State.setCand (s : State) (c : Nat) (x : Cand) : State := s.modMadder (fun M => { M with cands := Tbl.set Cand.reset M.cands c x })
def State.modCand (s : State) (c : Nat) (f : Cand → Cand) : State := s.setCand c (f (s.cand c))
def State.fpIn (s : State) (i : Nat) : FpIn := Tbl.get FpIn.reset s.madder.fpIn i
def State.fpOut (s : State) (i : Nat) : FpOut := Tbl.get FpOut.reset s.madder.fpOut i
def State.setFpOut (s : State) (i : Nat) (x : FpOut) : State := s.modMadder (fun M => { M with fpOut := Tbl.set FpOut.reset M.fpOut i x })

/-- The settings of a candidate (Tables 13.11, 13.12): enabled, rank, STK_SRC, ACCEPT and REJECT in 0.001 ppm, ACCEPT_T, REJECT_T. -/
def State.candOn (s : State) (c : Nat) : Bool := bit (s.reg (R.madderCandCfg c)) 31
def State.candRank (s : State) (c : Nat) : Nat := s.regBits (R.madderCandCfg c) 27 24
def State.stkSrc (s : State) : Nat := s.regBits (R.madderCandCfg 8) 17 16
def State.acceptLim (s : State) (c : Nat) : Nat := 10 * s.regBits (R.madderCandLimits c) 9 0
def State.rejectLim (s : State) (c : Nat) : Nat := 10 * s.regBits (R.madderCandLimits c) 25 16
def State.acceptT (s : State) (c : Nat) : Nat := s.regBits (R.madderCandTimes c) 31 12
def State.rejectT (s : State) (c : Nat) : Nat := s.regBits (R.madderCandTimes c) 11 0

/-- The measured period of a frame-pulse input in CLK_D cycles, 0 where there is none (FPI_STATUS). -/
def State.fpPeriod (s : State) (i : Nat) : Nat :=
  match (s.fpIn i).last, (s.fpIn i).prev with
  | some a, some b => a - b
  | _, _ => 0

/-- The alignment period A of a candidate in 1/256 CLK_D cycle, as a fraction (Table 13.4); none where its phase is not folded. -/
def State.alignPeriod (s : State) (c : Nat) : Option (Nat × Nat) :=
  let x := s.cand c
  if c < 2 then
    match x.fmt with
    | 1 => some (256 * clkHz * 1001, 30000)
    | 2 => some (256 * clkHz, 25)
    | 3 => if rateNum x.pulseRate = 0 then none else some (256 * clkHz * 1001, rateNum x.pulseRate)
    | _ => none
  else if c < 8 then some (256 * clkHz, 1)
  else if c = 8 ∧ s.stkSrc ≠ 0 then (if s.fpPeriod (s.stkSrc - 1) = 0 then none else some (256 * s.fpPeriod (s.stkSrc - 1), 1))
  else none

/-- A phase folded into (−A/2, +A/2] for A = a / b (R314). -/
def foldPhase (x : Int) (a b : Nat) : Int :=
  let y := (x * b) % (a : Int)
  (if 2 * y > a then y - a else y) / (b : Int)

/-- A candidate's phase less an offset, folded where it is folded (R308, R314). -/
def State.phaseFrom (s : State) (c : Nat) (ofs : Int) : Int :=
  match s.alignPeriod c with
  | some (a, b) => foldPhase ((s.cand c).phase - ofs) a b
  | none => (s.cand c).phase - ofs

/-- f × T_p within 0.1 % of 1, 2 or 4, for a rate in 1/1001 per second and a period in CLK_D cycles (Table 13.4). -/
def chainOk (num period : Nat) : Bool :=
  decide (period ≠ 0) && [1, 2, 4].any (fun m => decide (absI ((num * period : Nat) - (m * (clkHz * 1001) : Nat)) * 1000 ≤ m * (clkHz * 1001)))

/-- Whether the frame pulse of a candidate is compatible with a rate code (Table 13.4). -/
def State.pulseCompat (s : State) (c code : Nat) : Bool :=
  let x := s.cand c
  let num := rateNum code
  if num = 0 then false
  else if c < 2 then
    match x.fmt with
    | 1 => [4, 9, 12].contains code
    | 2 => [3, 8, 11].contains code
    | 3 => [1, 2, 4].any (fun m => decide (num = m * rateNum x.pulseRate))
    | _ => false
  else if c < 4 then [2, 3, 5, 7, 8, 10, 11, 13].contains code
  else if c < 8 then true
  else if c = 8 then decide (s.stkSrc ≠ 0) && chainOk num (s.fpPeriod (s.stkSrc - 1))
  else false

end Sys2Proof.Machine
end

