-- ==== Sys2Proof/Machine/Lines.lean ====
section
/-! DEFINITION. The frame of an output: its frame start, its switching, latch and selection lines, its scanned lines (R101 to R105, R120 to R139, R145 to R170, R191 to R195); the timing groups (R113 to R116); tile groups (R164); LUT loads (R131). -/

namespace Sys2Proof.Machine

/-! Timing groups (R113 to R115). -/

/-- PHASE_OFS of a group. -/
def State.phaseOfs (s : State) (g : Nat) : Int := sInt (s.reg (R.tgrpPhaseOfs g))

/-- The first tick boundary at or after an instant. -/
def tickAfter (t : Nat) : Nat := alignUp tickLen t

/-- Member outputs of a group (MEMBERS): those that scan in it, and those whose latest committed timing set names it (R115). -/
def State.groupOutputs (s : State) (g : Nat) : Nat :=
  (s.outs.filter (fun (p : Nat × Out) => (p.2.scanning && decide (p.2.group = g))
    || (decide (p.2.latestTim.group = g) && (p.2.hasTim || p.2.timPend.isSome || p.2.timCap.isSome)))).length
/-- Flows that refer to a group. -/
def State.groupFlows (s : State) (g : Nat) : Nat :=
  (s.flows.filter (fun (p : Nat × Flow) => p.2.valid && decide (bits (s.reg (R.flowPolicy p.1)) 15 8 = g))).length

/-- The magnitude of PHASE_OFS below P of a rate in 1/1001 per second (Table 4.12). -/
def phaseOk (ofs : Int) (num : Nat) : Bool := decide (absI ofs * num < clkHz * 1001)

/-- The epoch of a group fixed at an instant: frame starts run from the first t_k at or after it (R114). -/
def State.fixEpoch (s : State) (g : Nat) (epoch : Int) (t : Nat) (free : Bool) : State :=
  s.setGroup g { s.group g with fixed := true, waiting := none, epoch := epoch, fixT := t, free := free, running := false }

/-- A write of TGRP[g].CTRL: rejected as R115 and Table 4.13 say; enabling starts the group, disabling ends it, and FRAME, LAST_START and
STATUS read 0 then (DESIGN CHOICE, log entry 53). -/
def State.tgrpCtrlWrite (s : State) (g : Nat) (v : Word) : State × Bool :=
  let old := s.reg (R.tgrpCtrl g)
  let new := maskWrite old v 0x80FF3700
  let num := rateNum (bits v 23 16)
  let bad := decide (bits v 13 12 = 3) || decide (4 < bits v 10 8)
    || (bit v 31 && (decide (num = 0) || !phaseOk (s.phaseOfs g) num))
    || decide (s.groupOutputs g ≠ 0) || (bit old 31 && bit v 31 && decide (new ≠ old))
  if bad then (s, false)
  else
    let s1 := s.setReg (R.tgrpCtrl g) new
    if bit v 31 && !bit old 31 then
      if bits v 10 8 = 0 then (s1.fixEpoch g ((tickAfter s.ttime : Nat) + s.phaseOfs g) s.ttime false, true)
      else (s1.setGroup g { TGroup.reset with waiting := some (s.ticksOn 8), fixT := s.ttime }, true)
    else if bit old 31 && !bit v 31 then
      let s1 := s1.setGroup g TGroup.reset
      ((s1.flows.filter (fun (p : Nat × Flow) => decide (p.2.alignGroup = g))).foldl (fun s (p : Nat × Flow) => s.loseAlign p.1) s1, true)
    else (s1, true)

/-- A write of TGRP[g].PHASE_OFS (R115, Table 4.12). A held RATE that no rate is listed for limits it as 0x00 does (DESIGN CHOICE, log entry 53). -/
def State.phaseWrite (s : State) (g : Nat) (v : Word) : State × Bool :=
  let num := s.groupRate g
  if s.groupOutputs g ≠ 0 ∨ s.groupEnabled g ∨ !phaseOk (sInt v) (if num = 0 then 24000 else num) then (s, false)
  else (s.setReg (R.tgrpPhaseOfs g) v, true)

/-- A write of TGRP[g].CTRL that enables the group. -/
def execTgrpEnable (m g : Nat) (v : Word) (s : State) : Host.Outcome State Fault Refusal :=
  .next (if g < 16 ∧ bit v 31 then s.regWriteBy m (R.tgrpCtrl g) (s.tgrpCtrlWrite g v) else s)

/-- A write of TGRP[g].CTRL that disables the group. -/
def execTgrpDisable (m g : Nat) (v : Word) (s : State) : Host.Outcome State Fault Refusal :=
  .next (if g < 16 ∧ !bit v 31 then s.regWriteBy m (R.tgrpCtrl g) (s.tgrpCtrlWrite g v) else s)

/-- Whether the pulses of a group's source are compatible with its rate (R114, R318). -/
def State.sourceCompat (s : State) (g : Nat) : Bool :=
  let code := s.regBits (R.tgrpCtrl g) 23 16
  match s.groupSource g with
  | 1 => s.pulseCompat s.madder.sel code
  | 2 => chainOk (rateNum code) (s.fpPeriod 0)
  | 3 => chainOk (rateNum code) (s.fpPeriod 1)
  | _ => false

/-- The first compatible pulse after the enable, at an instant not after TTIME, fixes the epoch of a group that waits for it (R114). -/
def execTgrpEpochFixed (g pulse : Nat) (s : State) : Host.Outcome State Fault Refusal :=
  .next (if g < 16 ∧ (s.group g).waiting.isSome ∧ s.sourceCompat g ∧ (s.group g).fixT ≤ pulse ∧ pulse ≤ s.ttime then
      s.fixEpoch g ((pulse : Int) + s.phaseOfs g) s.ttime false
    else s)

/-- No compatible pulse within 8 ticks: the group runs FREE (R114). -/
def execTgrpFree (g : Nat) (s : State) : Host.Outcome State Fault Refusal :=
  .next (match (s.group g).waiting with
    | some lim =>
      let s := s.advance lim
      let b := tickAfter s.ttime
      (s.fixEpoch g ((b : Int) + s.phaseOfs g) b true).raise 0x2010 sevWarn kOther g
    | none => s)

/-- The command engines whose timing context is a group. -/
def State.groupEngines (s : State) (g : Nat) : List Nat := [128, 129, 130, 131].filter (fun u => decide ((s.unit u).timing = g))

/-- The sequencers of the outputs that scan in a group. -/
def State.groupSeqs (s : State) (g : Nat) : List Nat :=
  ((s.outs.filter (fun (p : Nat × Out) => p.2.scanning && decide (p.2.group = g))).map (fun p => 64 + p.1))

/-- A group reaches its next frame start t_k (R113). -/
def execTgrpFrameStart (g : Nat) (s : State) : Host.Outcome State Fault Refusal :=
  .next (if g < 16 ∧ s.groupEnabled g ∧ (s.group g).fixed then
      let (k, t) := s.nextStart g
      let s := s.advance t
      let s := s.noteLines (s.groupEngines g ++ s.groupSeqs g)
      let s := (s.setGroup g { s.group g with running := true, frame := k % 2 ^ 48, lastStart := t }).settleLiner g
      s.forEach (s.groupEngines g) (fun s u => s.frameSeen u t)
    else s)

/-! The source of the next picture. -/

/-- The source whose lines the next active picture carries: the pending one where it becomes visible at the next switching line (Table 4.4). -/
def Out.nextSrc (o : Out) : Source :=
  match o.pend with
  | some p => if p.swLeft ≤ 1 ∧ !p.remote ∧ (p.src.kind ≠ 5 ∨ 2 ≤ p.frames) then p.src else o.cur
  | none => o.cur

/-- The store a source reads: a flow on its store path, a landing store. -/
def State.storeOf (s : State) (x : Source) : Option Nat :=
  match x.kind with
  | 1 => if x.path = 1 then some x.idx else none
  | 2 => s.landingOf x.dev x.idx
  | _ => none

/-- The conversion set in force for the next active picture (Table 4.4). -/
def Out.nextConv (o : Out) : ConvSet :=
  match o.convPend with | some p => if p.swLeft ≤ 1 then p.set else o.conv | none => o.conv

/-- The mode that a source can supply to an output configured for mode m (R134): 3 for none. -/
def State.frcSupply (s : State) (m : Nat) (x : Source) : Nat :=
  if x.kind ≠ 1 ∧ x.kind ≠ 2 then 3
  else match s.storeOf x with
    | none => 0
    | some f => min m ((s.flow f).depth - 1)

/-- The conversion mode in effect (R134): 3 for none; an output that the pool does not serve runs blend in mode 2 (R137 to R140). -/
def State.frcEffective (s : State) (o : Out) (m : Nat) (x : Source) : Nat :=
  let q := s.frcSupply m x
  if q = 2 ∧ !o.inUse then 1 else q

/-- Whether a source of some height and scan is deinterlaced for an output (Table 5.5). -/
def needsDeint (scan v : Nat) (t : TimSet) : Bool := decide (scan = 1) && !decide (t.scan = 1 ∧ v = t.vActive)

/-- CLIPPED and DECIMATE of the picture of output n that shows a source of some size (R123, R124). -/
def State.geometry (s : State) (n srcW srcH : Nat) : Bool × Bool :=
  let o := s.out n
  let (c, d, clipped) := (s.geo n o.conv o.tim none).rects srcW srcH
  (clipped, decide (0 < d.w ∧ 0 < d.h) && decide (boxOf c.w d.w ≠ 1 ∨ boxOf c.h d.h ≠ 1))

/-! Detectors (R169, R170). -/

def State.raiseOut (s : State) (n code sev : Nat) (a0 a1 : Nat := 0) : State := s.raise code sev kOut n a0 a1

/-- One detector with its count: set where the count reaches N, cleared at the first frame that fails (R170). -/
def State.detect (s : State) (n : Nat) (was hit : Bool) (run N code cnt : Nat) : State × Bool × Nat :=
  if N = 0 then (s, false, 0)
  else if hit then
    let r := min 255 (run + 1)
    if N ≤ r ∧ !was then ((s.bump cnt).raiseOut n code sevWarn, true, r) else (s, was, r)
  else if was then (s.raiseOut n 0x4043 sevInfo code, false, 0) else (s, false, 0)

/-- The sampled places of the frame that ends, as one list of pixels in raster order (R168). -/
def Out.samples (o : Out) : List (List Nat) := o.sigRows.flatMap (fun (r : Nat × List (List Nat)) => r.2)

/-- The spread of component i over sampled places. -/
def spreadOf (xs : List (List Nat)) (i : Nat) : Nat :=
  match xs.map (fun p => p.getD i 0) with
  | [] => 0
  | v :: vs => vs.foldl max v - vs.foldl min v

/-- SIG_SRC of the frame that ends: of the frame read from memory, or of the picture that the direct path brought (R168). -/
def State.srcSigOf (s : State) (o : Out) : Word :=
  if o.seen.kind = 1 ∧ o.seen.path = 2 then (s.flow o.seen.idx).sigNow else o.srcSig

/-- The detectors at the end of an output frame (R168 to R170). -/
def State.detectors (s : State) (n : Nat) : State :=
  let o := s.out n
  let c := s.reg (R.outDetCtrl n)
  let l := s.reg (R.outDetLevels n)
  let xs := o.samples
  let sig := sigOf (xs.map (fun p => p.getD 0 0))
  let src := s.srcSigOf o
  let picture := decide (o.seen.kind = 1 ∨ o.seen.kind = 2)
  let (s, fz, fr) :=
    if !picture || decide (sig ≠ o.sigOut) then (if o.freeze then (s.raiseOut n 0x4043 sevInfo 0x4040, false, 0) else (s, false, 0))
    else if o.srcNew && decide (src ≠ o.sigSrc) then s.detect n o.freeze true o.freezeRun (bits c 23 16) 0x4040 (R.outFreezeCnt n)
    else (s, o.freeze, o.freezeRun)
  let black := xs.all (fun p => decide (p.getD 0 0 ≤ bits l 9 0))
  let (s, bk, br) := s.detect n o.blackDet black o.blackRun (bits c 15 8) 0x4041 (R.outBlackCnt n)
  let flat := [0, 1, 2].all (fun i => decide (spreadOf xs i ≤ bits l 25 16))
  let (s, ct, cr) := s.detect n o.constDet (flat && !black) o.constRun (bits c 7 0) 0x4042 (R.outConstCnt n)
  s.modOut n (fun o => { o with sigOut := sig, sigSrc := src, freeze := fz, freezeRun := fr, blackDet := bk, blackRun := br,
                                constDet := ct, constRun := cr, checkErr := false, sigRows := [], badReads := [] })

/-- One field examined by the cadence detector: it locks after 10 fields of one 3:2 phase or 8 of 2:2; the first field that breaks the lock is
counted, and relocking needs the full count again (R127). cadenceRun holds the fields consistent with 3:2 and, times 256, with 2:2. -/
def State.cadenceField (n : Nat) (s : State) (field : Nat) : State :=
  let o := s.out n
  if (o.cadence = 1 ∧ !field.testBit 0) ∨ (o.cadence = 2 ∧ !field.testBit 1) then
    ((s.setOut n { o with cadence := 0, cadenceRun := 0 }).bump (R.outCadenceBreakCnt n)).raiseOut n 0x4025 sevNotice
  else
    let a := if field.testBit 0 then min 10 (o.cadenceRun % 256 + 1) else 0
    let b := if field.testBit 1 then min 8 (o.cadenceRun / 256 + 1) else 0
    let k := if o.cadence ≠ 0 then o.cadence else if a = 10 then 1 else if b = 8 then 2 else 0
    let s := s.setOut n { o with cadence := k, cadenceRun := a + 256 * b }
    if k = o.cadence then s else s.raiseOut n 0x4024 sevInfo k

/-- The cadence detector over the fields examined since the last frame start (R127). -/
def State.cadenceStep (s : State) (n : Nat) (i : OutFrame) : State :=
  let o := s.out n
  let x := o.seen
  let f := s.flow (match s.storeOf x with | some f => f | none => x.idx)
  let on := bit o.conv.ctrl 18 && decide (x.kind = 1 ∨ x.kind = 2) && decide (f.scan = 1) && decide (f.num = 30000 ∨ f.num = 25025)
  if !on then s.setOut n { o with cadence := 0, cadenceRun := 0, film := 0 }
  else (i.cad.foldl (State.cadenceField n) s).modOut n (fun o => { o with film := if o.cadence = 0 then 0 else i.film })

/-! Timecode and ancillary data (R191 to R195). -/

def bcd (x : Nat) : Nat := x / 16 * 10 + x % 16
def toBcd (x : Nat) : Nat := x / 10 * 16 + x % 10

/-- Whether a timecode word holds valid BCD digits (TC_LOAD_NEXT). -/
def tcValid (w : Word) : Bool :=
  decide (bits w 31 30 = 0 ∧ bits w 23 23 = 0 ∧ bits w 15 15 = 0 ∧ bits w 7 6 = 0)
    && decide (bits w 27 24 ≤ 9 ∧ bits w 19 16 ≤ 9 ∧ bits w 11 8 ≤ 9 ∧ bits w 3 0 ≤ 9)
    && decide (bcd (bits w 29 24) < 24 ∧ bits w 22 20 ≤ 5 ∧ bits w 14 12 ≤ 5)

/-- The labels in a second and the output frames that share one label, at a group rate: pairs above 30 (R194). -/
def tcBase (num : Nat) : Nat × Nat :=
  let r := ceilDiv num 1001
  if r ≤ 30 then (r, 1) else if r ≤ 60 then (ceilDiv r 2, 2) else (ceilDiv r 4, 4)

/-- The next timecode label; with drop-frame, labels 0 and 1 are left out in minutes not divisible by ten (ST 12-1). -/
def tcNext (fps : Nat) (df : Bool) (w : Word) : Word :=
  let f := bcd (bits w 5 0) + 1
  let sec := bcd (bits w 14 8)
  let mn := bcd (bits w 22 16)
  let h := bcd (bits w 29 24)
  let (f, sec) := if fps ≤ f then (0, sec + 1) else (f, sec)
  let (sec, mn, wrap) := if 60 ≤ sec then (0, mn + 1, true) else (sec, mn, false)
  let (mn, h) := if 60 ≤ mn then (0, h + 1) else (mn, h)
  let h := if 24 ≤ h then 0 else h
  let f := if df && wrap && decide (mn % 10 ≠ 0) && decide (f = 0) then 2 else f
  word (toBcd h * 2 ^ 24 + toBcd mn * 2 ^ 16 + toBcd sec * 2 ^ 8 + toBcd f)

/-- The timecode that REGEN and OFF give the frame that starts (R194); PASS takes it from the picture. -/
def State.timecode (s : State) (n : Nat) (load : Bool) : State :=
  let o := s.out n
  let num := s.groupRate o.group
  match bits o.anc.ctrl 1 0 with
  | 0 => s
  | 1 =>
    if load then s.setOut n { o with tc := o.anc.tcLoad, tcOn := true, tcSub := 0 }
    else
      let (fps, per) := tcBase num
      let df := bit o.anc.ctrl 4 && decide (num = 30000 ∨ num = 60000)
      if o.tcSub + 1 < per then s.setOut n { o with tcOn := true, tcSub := o.tcSub + 1 }
      else s.setOut n { o with tc := tcNext fps df o.tc, tcOn := true, tcSub := 0 }
  | _ => s.setOut n { o with tc := 0, tcOn := false }

/-! The words of a packet (ST 291-1; PRESUMED, log entry 55): bit 8 even parity over bits 7 to 0, bit 9 its inverse; the checksum the sum of the
nine low bits of the words from DID on, bit 9 the inverse of bit 8. -/

def ancWord (v : Nat) : Nat := let p := popcount 8 (v % 256) % 2; v % 256 + p * 256 + (1 - p) * 512
def ancSum (ws : List Nat) : Nat := let c := (ws.map (fun w => w % 512)).sum % 512; c + (1 - c / 256) * 512

/-- A packet whose words carry their parity and whose checksum agrees. -/
def ancOk (ws : List Nat) : Bool :=
  let n := 3 + ws.getD 2 0 % 256
  decide (ws.length = n + 1) && (ws.take 3).all (fun w => decide (w = ancWord w)) && decide (ws.getD n 0 = ancSum (ws.take n))

/-- The packet of an insert slot, with parity and checksum computed (R193). -/
def InsSlot.packet (x : InsSlot) : List Nat :=
  let ws := [ancWord x.did, ancWord x.sdid, ancWord x.words.length] ++ x.words
  ws ++ [ancSum ws]

/-- Whether a packet passes the rules: the first that matches decides, else PASS_DEFAULT (R192). -/
def AncSet.passes (a : AncSet) (did sdid : Nat) : Bool :=
  match a.rules.find? (fun r => bit r 31 && decide (bits r 15 8 = did) && (bit r 16 || decide (bits r 7 0 = sdid))) with
  | some r => !bit r 24
  | none => bit a.ctrl 8

/-- The packets of the valid insert slots sent, before those that pass on their line; a slot without REPEAT is then invalid (R193). -/
def State.ancInsert (s : State) (n : Nat) : State :=
  let ins := (s.out n).anc.ins.filter (fun p => p.2.valid)
  let s := s.forEach ins (fun s p => if s.silent n then s else s.emit "ANC" n p.2.line p.2.packet)
  let s := if ins = [] then s else s.bumpBy (R.outAncInsertCnt n) ins.length
  s.modOut n (fun o => { o with anc := { o.anc with ins := o.anc.ins.map (fun p => if p.2.rep then p else (p.1, { p.2 with valid := false })) } })

/-- Packets of the source with their lines: those that the rules pass are sent, each on its own line where that lies in vertical blanking
after line SW + 1 or is a HANC line, else from line SW + 2 in arrival order; the last `noRoom` of them find no room. One with a
parity or checksum error is dropped and counted (R191, R192). -/
def State.ancPass (s : State) (n noRoom : Nat) (ps : List AncPkt) : State :=
  let o := s.out n
  let pass := ps.filter (fun p => o.anc.passes (p.words.getD 0 0 % 256) (p.words.getD 1 0 % 256))
  let good := pass.filter (fun p => ancOk p.words)
  let place (p : AncPkt) : Nat := if p.hanc ∨ (o.sw + 1 < p.line ∧ p.line < o.tim.vTotal ∧ o.tim.row p.line = none) then p.line else o.sw + 2
  let s := s.forEach (good.take (good.length - noRoom)) (fun s p => if s.silent n then s else s.emit "ANC" n (place p) p.words)
  let s := if good.length = pass.length then s else s.bumpBy (R.outAncBadCnt n) (pass.length - good.length)
  let lost := min noRoom good.length
  if lost = 0 then s else (s.bumpBy (R.outAncOverflowCnt n) lost).raiseLim n 0x4060 sevNotice kOut n lost

/-- A captured ancillary set takes effect: its slots replace those of the same numbers (R195). -/
def AncSet.join (old new : AncSet) : AncSet :=
  { new with ins := new.ins ++ old.ins.filter (fun p => !(new.ins.any (fun q => decide (q.1 = p.1)))) }

/-! Flips and timing sets at a frame start (R149, R150, R162). -/

/-- A flip takes effect on plane k at the frame start at t (R162). One that takes effect once the sequencer runs again is shown over the SAFE
policy's picture (R66). -/
def State.flipNow (s : State) (n k t : Nat) (f : PendFlip) : State :=
  let off := decide ((s.unit (64 + n)).run = .safe)
  let s := s.modOut n (fun o => { o.setPlane k { o.plane k with cur := f.set, hid := (o.plane k).hid && off } with flipTtime := t })
  let s := s.bump (R.outFlipCnt n)
  let s := if f.late then s.bump (R.outFlipLateCnt n) else s
  s.setEvents (64 + n) evFlipDone

/-- The captured flip of plane k takes effect; on an output that was not scanning the pending one too (Table 6.9). -/
def State.applyFlip (s : State) (n k t : Nat) (starting : Bool) : State :=
  let p := (s.out n).plane k
  let s := s.modOut n (fun o => o.setPlane k { p with cap := none, pend := if starting then none else p.pend })
  let s := match p.cap with | some f => s.flipNow n k t f | none => s
  match (if starting then p.pend else none) with | some f => s.flipNow n k t f | none => s

/-- The captured ancillary set takes effect, on an output that was not scanning the pending one too; and whether REGEN loads its timecode
now (R195). -/
def State.applyAnc (s : State) (n : Nat) (starting : Bool) : State × Bool :=
  let o := s.out n
  let sets := (match o.ancCap with | some x => [x.set] | none => [])
    ++ (match (if starting then o.ancPend else none) with | some x => [x.set] | none => [])
  (s.setOut n { o with anc := sets.foldl AncSet.join o.anc, ancCap := none, ancPend := if starting then none else o.ancPend },
    match sets.getLast? with | some x => decide (bits x.ctrl 1 0 = 1) | none => false)

/-- A timing set applies (R149): current registers, event, synthesiser, the pool request where size or rate changed (R137). -/
def State.applyTim (s : State) (n : Nat) (p : PendTim) (scan : Bool) : State :=
  let o := s.out n
  let before := (o.tim.hActive, o.tim.vActive, s.groupRate o.group, o.scanning)
  let s1 := s.setOut n { o with tim := p.set, hasTim := true, timCap := none, group := p.set.group, scanning := scan }
  let s1 := (s1.settleSyn n).raiseOut n 0x4033 sevInfo
  let s1 := s1.setEvents (64 + n) evFmtChg
  let x := s1.reg (R.outXptCtrl n)
  let s1 := if bit x 31 && !decide (bits x 12 0 < p.set.firstActive) then s1.setReg (R.outXptCtrl n) (setBits x 31 31 0) else s1
  let after := (p.set.hActive, p.set.vActive, s1.groupRate p.set.group, scan)
  if after ≠ before ∧ o.latestConv.frcMode = 2 ∧ scan then
    s1.poolRequest n (s1.poolAsk n) (bits o.latestConv.ctrl 29 28)
  else s1

/-- The planes are off: in a transition frame, while the output waits for its new group (R150, R151). -/
def Out.planesOff (o : Out) : Bool := o.transition || o.cutWait

/-- A frame of output n starts at t: the counts, the SAFE policy, the flips, the ancillary set, the inserted packets and the timecode (R63,
R150, R162, R167, R193 to R195). -/
def State.frameBegins (s : State) (n t : Nat) (transition starting : Bool) : State :=
  let black := bit (s.reg (R.seqCtrl (64 + n))) 4
  let s := s.modOut n (fun o => { o with
    frameT := t, frame := (o.frame + 1) % 2 ^ 48, line := 0, swSeen := false, latchSeen := false, transition := transition,
    safe := if o.safeDue then some (if black then .black else .hold) else o.safe, safeDue := false,
    p0 := { o.p0 with hid := o.p0.hid || (o.safeDue && black) }, p1 := { o.p1 with hid := o.p1.hid || (o.safeDue && black) },
    pend := o.pend.map (fun p => if starting then p
      else { p with frames := p.frames + 1, late := decide (p.frames + 1 = 2) && p.salvo.isNone }) })
  let s := if transition then s.bump (R.outTransitionCnt n) else s
  let s := (s.applyFlip n 0 t starting).applyFlip n 1 t starting
  let (s, load) := s.applyAnc n starting
  let s := if ((s.out n).shown = .black) ↔ ((s.out n).showsNow = .black) then s else s.followFrom n t
  let s := s.modOut n (fun o => { o with sw := s.swLine n, shown := o.showsNow })
  ((s.ancInsert n).timecode n load).frameSeen (64 + n) t

/-- The changes of tile groups take effect that output n is a member of (R164). -/
def State.settleTiles (s : State) (n : Nat) : State :=
  s.forEach (List.range 16) (fun s k => match (s.tile k).change with
    | some b => if (s.tileMembers k).contains n then s.setTile k { s.tile k with on := b, change := none } else s
    | none => s)

/-- Whether a group has a frame start at t: its latest one, or the next that it reaches (R113). -/
def State.startsAt (s : State) (g t : Nat) : Bool :=
  (s.group g).running && (decide ((s.group g).lastStart = t) || decide ((s.nextStart g).2 = t))

/-- The frame starts at t of an output that scans, with a captured timing set applying there (Table 6.5, R150, R151). Where the set names
another group, the old timing goes on with black until the first frame start of that group at or after t. -/
def State.nextFrame (s : State) (n t : Nat) : State :=
  let o := s.out n
  match o.timCap with
  | none => (s.modOut n (fun o => { o with resume := false })).frameBegins n t o.resume false
  | some p =>
    if p.set.group = o.group ∧ !o.cutWait then
      (s.applyTim n p true).frameBegins n t (decide (p.set.vTotal ≠ o.tim.vTotal)) false
    else if p.set.group = 0xFF then
      let s := s.applyTim n p false
      let s := s.modOut n (fun o => { o with frameT := t, transition := false, cutWait := false, line := 0 })
      let s := ((s.applyFlip n 0 t false).applyFlip n 1 t false).applyAnc n false
      s.1.modOut n (fun o => match o.timPend with | some q => o.captureTim q | none => o)
    else if s.startsAt p.set.group t then
      ((s.modOut n (fun o => { o with cutWait := false })).applyTim n p true).frameBegins n t true false
    else (s.modOut n (fun o => { o with cutWait := true })).frameBegins n t false false

/-- The output at the latest frame start of its group, or the first of the group of its captured set where it does not scan (R145, Table 6.5). -/
def State.outputFrame (s : State) (n : Nat) (i : OutFrame) : State :=
  let o := s.out n
  if o.scanning then
    let g := s.group o.group
    if g.lastStart ≤ o.frameT then s
    else if s.pwr.stopOuts.contains n then
      let s := s.modOut n (fun o => { o with scanning := false, frameT := g.lastStart })
      { s with pwr := { s.pwr with stopOuts := s.pwr.stopOuts.filter (fun k => decide (k ≠ n)) } }
    else (((s.detectors n).cadenceStep n i).settleTiles n).nextFrame n g.lastStart
  else match o.timCap with
    | none => s
    | some p =>
      let g := s.group p.set.group
      if p.set.group < 16 ∧ g.running ∧ p.commitT ≤ g.lastStart then
        ((s.applyTim n p true).settleTiles n).frameBegins n g.lastStart true true
      else s

/-- The lines of an output's group, where this frame start is the group's latest (R41). -/
def State.lineOutput (s : State) (n : Nat) : State :=
  let o := s.out n
  if o.scanning ∧ o.group < 16 ∧ (s.group o.group).lastStart = s.ttime then s.settleLiner o.group else s

/-- OUTPUT_FRAME_START: output n reaches the latest frame start of its group, with what the cadence detector found. -/
def execOutputFrameStart (n : Nat) (i : OutFrame) (s : State) : Host.Outcome State Fault Refusal :=
  .next (
    let s := if (s.port n).txOff ∧ !(s.port n).shedHold then s.modPort n (fun p => { p with txOff := false }) else s
    if s.outPresent n then (s.outputFrame n i).lineOutput n else s)

/-- GROUP_CHANGE_CUT: the first frame start of the new group cuts the old timing; the new timing begins with a transition frame (R151). -/
def execGroupChangeCut (n : Nat) (i : OutFrame) (s : State) : Host.Outcome State Fault Refusal :=
  .next (let o := s.out n
    match o.timCap with
    | some p =>
      let g := s.group p.set.group
      if o.cutWait ∧ g.running ∧ o.frameT ≤ g.lastStart then
        let s := ((s.detectors n).cadenceStep n i).modOut n (fun o => { o with cutWait := false })
        ((s.applyTim n p true).frameBegins n g.lastStart true false).lineOutput n
      else s
    | none => s)

/-! The switching line (R101 to R105, R120, R131, R139). -/

/-- A take becomes visible on output n at the switching line at t (R101, R103); one that lands at N+2 counts as late. One that the program
committed ends the SAFE policy's picture (R66). TAKE_STATUS is written here and where a take fails later: a TAKE refused in its issue cycle leaves
it (DESIGN CHOICE, log entry 53). -/
def State.takeVisible (s : State) (n t : Nat) (p : PendTake) : State :=
  let o := s.out n
  let free (x : Plane) : Plane := if p.own then { x with hid := false } else x
  let s1 := s.setOut n { o with cur := p.src, taken := true, pend := none, takeStatus := stOk, takeTtime := t,
                                takeRoute := if p.src.kind = 2 then 1 + (match s.landingOf p.src.dev p.src.idx with | some f => (s.flow f).route | none => 0) else 0,
                                fallback := false, safe := if p.own then none else o.safe, p0 := free o.p0, p1 := free o.p1 }
  let s1 := (s1.bump (R.outTakeCnt n)).setEvents (64 + n) evTakeDone
  let s1 := if p.late then s1.bump (R.outTakeLateCnt n) else s1
  (s1.followFrom n t).gcLandings

/-- The pending take of output n meets a switching line of the output that judges it. -/
def State.takeLine (s : State) (n t : Nat) : State :=
  match (s.out n).pend with
  | none => s
  | some p =>
    let hold := p.remote || (decide (p.src.kind = 5) && decide (p.frames < 2))
    if 1 < p.swLeft then s.modOut n (fun o => { o with pend := some { p with swLeft := p.swLeft - 1 } })
    else if hold then s
    else s.takeVisible n t p

/-- The pending conversion set meets a switching line (R120); a direct source whose new set is not direct-compatible moves to
its store (Table 5.2). -/
def State.convLine (s : State) (n : Nat) : State :=
  let o := s.out n
  match o.convPend with
  | none => s
  | some p =>
    if 1 < p.swLeft then s.setOut n { o with convPend := some { p with swLeft := p.swLeft - 1 } }
    else
      let s := match p.geom with
        | some (k, co, cs, dO, ds) => s.setTile k { s.tile k with cropOrg := co, cropSize := cs, destOrg := dO, destSize := ds }
        | none => s
      let s := (s.setOut n { o with conv := p.set, convPend := none }).raiseOut n 0x4027 sevInfo
      let x := s.srcUnder n o.cur
      if x = o.cur then s else (s.modOut n (fun o => { o with cur := x })).raiseOut n 0x4008 sevNotice o.cur.idx

/-- A loaded LUT bank becomes active (R131). -/
def State.lutLine (s : State) (n : Nat) : State :=
  s.modOut n (fun o => match o.lut.swapLeft with
    | some k => if 1 < k then { o with lut := { o.lut with swapLeft := some (k - 1) } }
        else { o with lut := { o.lut with swapLeft := none, active := 1 - o.lut.active } }
    | none => o)

/-- An output on a path that its flow's alignment no longer holds up (R90, R93). From the direct path it moves to the store where there is one, at
the first switching line at which the charge fits, and stays there; without a store it sends black until the flow is aligned again. A store
of depth 1 serves aligned readers only. -/
def State.alignLine (s : State) (n : Nat) : State :=
  let o := s.out n
  let f := s.flow o.cur.idx
  let short (x : Source) : Bool := decide (x.path = 1 ∧ f.depth = 1) && !s.lineAligned f n
  if o.cur.kind ≠ 1 then s
  else if o.cur.path = 2 then
    if s.alignedTo f n && !(o.fallback && f.storeEn) then s.setOut n { o with fallback := false }
    else if f.storeEn then
      let moved : Source := { o.cur with path := 1 }
      let t := s.setOut n { o with cur := moved, fallback := short moved }
      if fits s.vidRd t.vidRd s.vidTotal then t.raiseOut n 0x4008 sevNotice o.cur.idx
      else s.setOut n { o with fallback := true, takeStatus := stNoBandwidth }
    else s.setOut n { o with fallback := true }
  else s.setOut n { o with fallback := short o.cur }

/-- The channel maps whose reference is output n meet its switching line at t (Table 7.3). -/
def State.amapLine (s : State) (n t : Nat) : State :=
  { s with audio := { s.audio with ocs := s.audio.ocs.map (fun (q : Nat × Oc) => (q.1, match q.2.pend with
    | some p => if p.ref = n ∧ p.fromT = none ∧ 0 < p.swLeft then
        { q.2 with pend := some { p with swLeft := p.swLeft - 1, fromT := if p.swLeft = 1 then some t else none } } else q.2
    | none => q.2)) } }

/-! The selection line (R86, R87, R89). -/

/-- Whether a store presents black (R86, R87): before the first commit; under BLACK from UNSTABLE or NO_SIGNAL until LOCKED, but while a
partial picture stands; a landing store whose source is lost follows its policy (R110). -/
def Flow.presentsBlack (f : Flow) : Bool :=
  decide (newestSeq f.slots = 0) || (f.lossBlack && !f.partialLinks && (if f.landing.isSome then f.lost else f.dark))

/-- The newest k commit numbers present in a store, newest first (R89). -/
def newestSeqs (xs : List Slot) : Nat → Nat → List Nat
  | 0, _ => []
  | k + 1, below =>
    let m := xs.foldl (fun m x => if x.seq < below then max m x.seq else m) 0
    if m = 0 then [] else m :: newestSeqs xs k m

/-- Whether an output frame rate is twice that of an interlaced flow (R126). -/
def State.twiceRate (s : State) (n : Nat) (x : Flow) : Bool :=
  decide (x.scan = 1) && decide (s.groupRate (s.out n).group = 2 * x.num)

/-- Whether output n repeats the last frame shown before a fault: it selects no other one (R63). -/
def State.repeats (s : State) (n : Nat) : Bool :=
  let o := s.out n
  decide (o.safe = some .hold) || (o.safeDue && !bit (s.reg (R.seqCtrl (64 + n))) 4)

/-- The reader of output n selects for a source (R89): repeats and skips counted; the second selection of an interlaced frame at twice its
rate is built on its second field and is no repeat (R126). -/
def State.selectFor (s : State) (n : Nat) (src : Source) : State :=
  let o := s.out n
  match s.storeOf src with
  | none => s.setOut n { o with sel := none, held := [], selBlack := true, selDup := 0 }
  | some f =>
    let x := s.flow f
    if x.presentsBlack then s.setOut n { o with sel := some (f, 0), held := [], selBlack := true, selDup := 0 }
    else
      let q := newestSeq x.slots
      let eff := s.frcEffective o o.nextConv.frcMode src
      let held := newestSeqs x.slots (if eff = 2 then 3 else if eff = 1 then 2 else 1) (q + 1)
      let fresh := s.setOut n { o with sel := some (f, q), held := held, selBlack := false, selDup := 0 }
      match o.sel with
      | some (g, p) =>
        let same := decide (g = f) && !o.selBlack
        if same ∧ p = q then
          let s1 := s.setOut n { o with held := held, selDup := o.selDup + 1 }
          if s.twiceRate n x && decide (o.selDup % 2 = 0) then s1 else s1.bump (R.outRepeatCnt n)
        else if same ∧ p + 1 < q then fresh.bumpBy (R.outSkipCnt n) (q - p - 1)
        else fresh
      | none => fresh

/-- The selection line of output n starts: the reader selects the newest eligible frame and the fetch begins. -/
def execSelectionLine (n : Nat) (s : State) : Host.Outcome State Fault Refusal :=
  .next (if !(s.out n).scanning then s
    else
      let s := s.advance (s.lineStart n (s.out n).tim.selLineNo)
      if s.repeats n then s else s.selectFor n (s.out n).nextSrc)

/-! The picture of a frame (R119). -/

/-- The frames of the source that output n shows, newest first: as they stand in memory, with the older frames that substitute for failed
pairs, and a name that no other frame has. -/
def State.frames (s : State) (n : Nat) : List (Coded × List Coded × List Nat) :=
  let o := s.out n
  if o.seen.kind = 5 ∧ o.seen.gone then []
  else if o.seen.kind = 5 then [(s.codedAt (s.freezeBase n) 0 0 0 0 true, [], [o.takeTtime])]
  else match o.sel with
    | none => []
    | some (f, q) =>
      if o.selBlack ∨ q = 0 then []
      else
        let x := s.flow f
        (o.held.take (if o.frcEff = 2 then 3 else if o.frcEff = 1 then 2 else 1)).filterMap (fun q =>
          (x.slots.findIdx? (fun (y : Slot) => decide (y.seq = q))).map (fun i => (s.slotCoded x i, s.olderFrames x q, [f, q, (x.slots.getD i {}).commitT])))

/-- A coded frame as the pipeline reads it. -/
def State.picOf (s : State) (full : Bool) (bad : List Nat) (p : Coded × List Coded × List Nat) : Pic :=
  { h := p.1.h, v := p.1.v, scan := p.1.scan, sampling := bits p.1.fmt1 21 20, depth := depthOf (bits p.1.fmt1 19 18),
    colour := bits p.1.fmt1 11 8, full := full, key := p.2.2, row := s.fetchRow p.1 p.2.1 bad }

/-- The picture that the direct path brings, or that HOLD repeats of it. -/
def State.directPic (s : State) (n : Nat) (full : Bool) : Pic :=
  let o := s.out n
  let x := s.flow o.seen.idx
  { h := x.hActive, v := x.vActive, scan := x.scan, sampling := x.sampling, depth := depthOf x.depthBits, colour := bits x.fmt1 11 8,
    full := full, key := [o.seen.idx, o.frameT], row := fun y => Tbl.get [] (if o.safe = some .hold then o.kept else x.live) y }

/-- Whether output n shows the direct path. -/
def Out.isDirect (o : Out) : Bool := decide (o.seen.kind = 1 ∧ o.seen.path = 2)

/-- The frames that stages 1 to 5 of output n work on, and how. -/
def State.feed (s : State) (n : Nat) : Feed :=
  let o := s.out n
  let full := bit o.conv.colour 18
  let fs := s.frames n
  let pics := if o.isDirect then [s.directPic n full] else fs.map (fun p => s.picOf full o.badReads p)
  let x := s.flow (match o.sel with | some (f, _) => f | none => 0)
  let p := pics.headD (s.directPic n full)
  let old := match fs with | (_, c :: _, k) :: _ => s.picOf full [] (c, [], k) | _ => p
  let second := s.twiceRate n x && decide (o.selDup % 2 = 1)
  let deint : Deint :=
    if !needsDeint p.scan p.v o.tim then .plain
    else if o.cadence ≠ 0 ∧ o.film = 1 then .plain
    else if o.cadence ≠ 0 ∧ o.film = 2 then .film
    else match bits o.conv.ctrl 21 20 with
      | 1 => .plain
      | 2 => .intra (flag second 0)
      | _ => .adaptive (decide (o.frcEff = 2))
  let period := framePeriod x.num
  let since := o.frameT - ((fs.headD (s.codedAt 0 0 0 0 0 false, [], [])).2.2.getD 2 0)
  { pics := pics.map (fun q => { q with key := q.key ++ [flag second 0] }), old := old, deint := deint, eff := o.frcEff,
    weight := if period = 0 then 32 else min 32 (32 * since / period), time := [o.frameT, s.groupRate o.group] }

/-- Line y of the video of output n, as its three component lists at the output's encoding (R119). -/
def State.videoLine (s : State) (n y : Nat) : List (List Nat) :=
  let o := s.out n
  let e := o.conv.enc
  let w := o.tim.hActive
  let place := [n, o.frame, y]
  if o.shown = .black then e.blackLine w
  else match o.seen.kind with
    | 3 => e.line place ((List.range w).map (fun x => e.ofRgb (patternPx e o.seen.idx w o.tim.vActive x y)))
    | 4 => e.blackLine w
    | _ =>
      let b := if o.lut.active = 0 then o.lut.data0 else o.lut.data1
      pictureLine (s.feed n) o.conv o.tim (if o.conv.lutEn then some b else none) (s.geo n o.conv o.tim none) place y

/-! What the frame carries with its picture (R134, R168, R191, R194). -/

/-- The ancillary packets that the frame shown carries, with their lines (R191, R237). -/
def State.slotPackets (s : State) (n : Nat) : List AncPkt :=
  let o := s.out n
  match s.frames n with
  | (c, _, _) :: _ =>
    if !s.headOk c.base then []
    else
      let len := s.headWord c.base 9
      let ws := match losslessRead (Memory.readBytes s.mem.cxl c.ancAddr len) with | some bs => (chunks 2 (bs.length / 2) bs).map ofLeBytes | none => []
      let lines := match o.sel with
        | some (f, q) => (match (s.flow f).slots.find? (fun (y : Slot) => decide (y.seq = q)) with | some y => y.lines | none => [])
        | none => []
      (cutPackets ws.length ws).zipIdx.map (fun p => let l := lines.getD p.2 (0, false); { line := l.1, hanc := l.2, words := p.1 })
  | [] => []

/-- The packets that an ancillary stream which fails its checks loses: as many as the store's record of the frame has, else one (R237). -/
def State.tornPackets (s : State) (n : Nat) : Nat :=
  match (s.out n).sel with
  | some (f, q) => (match (s.flow f).slots.find? (fun (y : Slot) => decide (y.seq = q)) with | some y => max 1 y.lines.length | none => 1)
  | none => 1

/-- The timecode of the frame shown; none where it has none or a digit is invalid (R194). -/
def State.sourceTc (s : State) (n : Nat) : Option Word :=
  let o := s.out n
  let w := if o.isDirect then ancTimecode ((s.flow o.seen.idx).anc.map AncPkt.words)
    else match s.frames n with
      | (c, _, _) :: _ => if s.headOk c.base ∧ (s.headWord c.base 10).testBit 31 then some (word (s.headWord c.base 10 % 2 ^ 31)) else none
      | [] => none
  w.filter tcValid

/-- The conversion mode of the frame that starts: FRC_EFF, its fall-backs, and FRC_DEGRADED at the first frame of each shortage of the source
(R134). Black, patterns and frozen frames count as such where a conversion is configured. -/
def State.frcStep (s : State) (n : Nat) : State :=
  let o := s.out n
  let m := o.conv.frcMode
  let sup := s.frcSupply m o.seen
  let eff := s.frcEffective o m o.seen
  let short := decide (m ≠ 0) && decide (sup = 3 ∨ sup < m)
  let rank := if sup = 3 then 0 else sup + 1
  let s := if short && decide (rank < o.supply) then s.raiseOut n 0x4026 sevNotice eff else s
  let s := if decide (m ≠ 0) && decide (eff = 3 ∨ eff < m) then s.bump (R.outFrcFallbackFrames n) else s
  s.modOut n (fun o => { o with frcEff := eff, supply := if short then rank else 4 })

/-- What the frame shows is settled at its switching line: the source, its frame, its geometry, its packets and its timecode. -/
def State.frameShows (s : State) (n noRoom : Nat) : State :=
  let o := s.out n
  let hold := decide (o.safe = some .hold)
  let s := if (o.shown = .black) ↔ (o.showsNow = .black) then s else s.followFrom n s.ttime
  let s := s.modOut n (fun o => { o with shown := o.showsNow, seen := if hold then o.seen else o.cur })
  let late := match s.storeOf o.cur, o.sel with | some f, some (g, _) => decide (f ≠ g) | some _, none => true | none, _ => false
  let s := if late && !hold then s.selectFor n o.cur else s
  let s := s.frcStep n
  let fs := s.frames n
  let bad := match fs with | (c, _, _) :: _ => !s.headOk c.base | [] => false
  let torn := match fs with
    | (c, _, _) :: _ => !bad && decide (s.headWord c.base 9 ≠ 0) && (losslessRead (Memory.readBytes s.mem.cxl c.ancAddr (s.headWord c.base 9))).isNone
    | [] => false
  let s := if bad then s.bump (R.ochreOdHdrErrCnt n) else s
  let o := s.out n
  let p := (s.feed n).pics.head?
  let (clip, deci) := match p with
    | some p => if o.seen.kind = 3 ∨ o.seen.kind = 4 then (false, false) else s.geometry n p.h p.v
    | none => (false, false)
  let new := o.isDirect || decide (o.selDup = 0)
  let sig := match fs with
    | (c, _, _) :: _ => if bad then 0 else word (s.headWord c.base 2)
    | [] => 0
  let s := s.modOut n (fun o => { o with clipped := clip, decimate := deci, srcNew := new, srcSig := sig })
  let pass := decide (o.shown = .picture) && new && !o.transition
  let s := if pass && !o.isDirect && decide (o.seen.kind = 1 ∨ o.seen.kind = 2) then
      (if torn then s.bumpBy (R.outAncBadCnt n) (s.tornPackets n) else s).ancPass n noRoom (s.slotPackets n)
    else s
  if bits o.anc.ctrl 1 0 = 0 then
    let w := if o.shown = .picture then s.sourceTc n else none
    s.modOut n (fun o => { o with tc := w.getD 0, tcOn := w.isSome })
  else s

/-- Outputs whose pending changes are judged at the lines of output n: itself where its change names no master, and the tile members
that name it (R166). -/
def State.judgedAt (s : State) (n : Nat) (lines : Out → Option (Option Nat)) : List Nat :=
  (Tbl.keys s.outs).eraseDups.filter (fun m => match lines (s.out m) with
    | some l => decide (l.getD m = n)
    | none => false)

/-- The start of line SW of output n: pending takes and conversion sets become visible, the pool and the paths follow; what the frame shows is
then settled, and its timecode goes out. `noRoom` passed ancillary packets find no room in the frame (R192). -/
def State.switchingLine (s : State) (n noRoom : Nat) : State :=
  let s := s.advance (s.lineStart n (s.out n).sw)
  let t := s.lineStart n (s.out n).sw
  let us := (Tbl.keys s.outs).map (fun m => 64 + m)
  let s1 := (s.modOut n (fun o => { o with swSeen := true })).setEvents (64 + n) evSwitch
  let s1 := s1.forEach (s1.judgedAt n (fun o => o.pend.map (fun q => q.lines))) (fun s m => s.takeLine m t)
  let s1 := s1.forEach (s1.judgedAt n (fun o => o.convPend.map (fun q => q.lines))) (fun s m => s.convLine m)
  let s1 := ((s1.lutLine n).alignLine n).poolLine n
  let s1 := (s1.amapLine n t).frameShows n noRoom
  let s1 := if (s1.out n).tcOn && !s1.silent n then s1.emit "TC" n 0 [(s1.out n).tc.toNat] else s1
  s.noteSrc s1 us

/-! The latch line (R147, R149, R162, R195). -/

/-- A pending flip of output m captured, but where the twin guard leaves it for the next latch line (R299). -/
def State.latchFlip (s : State) (m k : Nat) : State :=
  let p := (s.out m).plane k
  match p.pend with
  | none => s
  | some f =>
    if s.waitsLatch m f.commitT f.due then s.modOut m (fun o => o.setPlane k { p with pend := some { f with late := true } })
    else s.modOut m (fun o => o.setPlane k { p with pend := none, cap := some f })

/-- A pending timing set of output m captured; while one still waits for its new group, the next one waits (R151). -/
def State.latchTim (s : State) (m : Nat) : State :=
  let o := s.out m
  match o.timPend with
  | some p => if s.waitsLatch m p.commitT p.due || o.cutWait then s else s.setOut m { o with timPend := none, timCap := some p }
  | none => s

/-- The latch line of output n starts: pending flips, a timing set and an ancillary set are captured, on the members of a tile group those
that its tile forms made (R166). -/
def State.latchLine (s : State) (n : Nat) : State :=
  let s := s.advance (s.lineStart n (s.out n).tim.latchLineNo)
  let s := (s.modOut n (fun o => { o with latchSeen := true })).setEvents (64 + n) evLatch
  let s := s.forEach (s.judgedAt n (fun o => o.p0.pend.map (fun q => q.lines))) (fun s m => s.latchFlip m 0)
  let s := s.forEach (s.judgedAt n (fun o => o.p1.pend.map (fun q => q.lines))) (fun s m => s.latchFlip m 1)
  let s := s.forEach (s.judgedAt n (fun o => o.timPend.map (fun q => q.lines))) (fun s m => s.latchTim m)
  let o := s.out n
  match o.ancPend with
    | some p => if s.waitsLatch n p.commitT p.due then s else s.modOut n (fun o => { o with ancPend := none, ancCap := some p })
    | none => s

/-! Tile groups (R164). -/

/-- The conditions of R164 on a group to be enabled. -/
def State.tileOk (s : State) (k : Nat) : Bool :=
  let ms := s.tileMembers k
  match ms with
  | [] => false
  | m :: _ =>
    decide (2 ≤ ms.length ∧ ms.length ≤ 16)
      && ms.all (fun n => decide ((s.out n).group = (s.out m).group) && decide ((s.out n).group < 16)
          && decide ((s.out n).tim = (s.out m).tim)
          && (s.out n).timPend.isNone && (s.out n).timCap.isNone
          && (s.tileOf n).isNone)

/-- A write of TILE[k].CTRL: enabling needs R164; disabling is rejected while a member has a set pending (R152). -/
def State.tileCtrlWrite (s : State) (k : Nat) (v : Word) : State × Bool :=
  let on := s.tileEnabled k
  let new := bit v 31
  if new = on then (s, true)
  else if new && !s.tileOk k then (s, false)
  else if !new && (s.tileMembers k).any (fun n => (s.out n).timPend.isSome || (s.out n).timCap.isSome) then (s, false)
  else
    let waits := (s.tileMembers k).any (fun n => (s.out n).scanning)
    ((s.setReg (R.tileCtrl k) (maskWrite 0 v 0x80000000)).setTile k
      (if waits then { s.tile k with change := some new } else { s.tile k with on := new, change := none }), true)

def execTileCtrlEnable (m k : Nat) (v : Word) (s : State) : Host.Outcome State Fault Refusal :=
  .next (if k < 16 then s.regWriteBy m (R.tileCtrl k) (s.tileCtrlWrite k v) else s)

/-! LUT loads (R131, Table 5.7). -/

/-- n little-endian bytes of CXL memory. -/
def State.cxlLe (s : State) (a n : Nat) : Nat := Memory.readLe s.mem.cxl a n

/-- The entries of the image that a load has read (Table 5.7). -/
def State.lutData (s : State) (n : Nat) : List Byte := Memory.readBytes s.mem.cxl ((s.out n).lut.src + 64) (lutBytes - 64)

/-- The result of the image a load has read (Tables 5.7 and 5.8). -/
def State.lutImage (s : State) (n : Nat) : Nat :=
  let a := (s.out n).lut.src
  if s.cxlLe a 4 ≠ 0x3354554C ∨ s.cxlLe (a + 4) 4 ≠ 0x0121 ∨ s.cxlLe (a + 12) 52 ≠ 0
      ∨ (List.range 35937).any (fun e => decide (s.cxlLe (a + 64 + 8 * e + 6) 2 ≠ 0)) then stRange
  else if word (crc32c (s.lutData n)) ≠ word (s.cxlLe (a + 8) 4) then stCheckFail
  else stOk

/-- A load ends without a valid bank (Table 5.8). -/
def State.lutFails (s : State) (n result : Nat) : State :=
  ((s.modOut n (fun o => { o with lut := { o.lut with loading := none, result := result } })).bump (R.outLutFailCnt n)).raiseOut n 0x4023 sevWarn result

/-- The load of output n is complete and its image verifies: the bank is valid and a swap is pending. -/
def execLutLoaded (n : Nat) (s : State) : Host.Outcome State Fault Refusal :=
  .next (if (s.out n).lut.loading.isNone || decide (s.lutImage n ≠ stOk) then s
    else ((s.modOut n (fun o =>
      let l := { o.lut with loading := none, result := stOk, swapLeft := some 2 }
      { o with lut := if l.active = 0 then { l with valid1 := true, data1 := s.lutData n } else { l with valid0 := true, data0 := s.lutData n } })).raiseOut n 0x4022 sevInfo).mirror "LUT"
        (n :: (s.lutData n).map BitVec.toNat))

/-- The load of output n fails: its tag, shape, reserved bits or check value (Table 5.8). -/
def execLutFail (n : Nat) (s : State) : Host.Outcome State Fault Refusal :=
  .next (if (s.out n).lut.loading.isNone || decide (s.lutImage n = stOk) then s else s.lutFails n (s.lutImage n))

/-- The load of output n is not complete within 8 ticks. -/
def execLutTimeout (n : Nat) (s : State) : Host.Outcome State Fault Refusal :=
  .next (match (s.out n).lut.loading with
    | some t => (s.advance t).lutFails n stTimeout
    | none => s)

/-- A failed pool is back, its PD_FAULT bit cleared and its domain on: its outputs ask again (R140). -/
def execFrcPoolReturn (k : Nat) (s : State) : Host.Outcome State Fault Refusal :=
  .next (if k < 8 ∧ s.poolLost.testBit k ∧ s.poolPresent k ∧ s.pwr.domOn.testBit (80 + k) then s.poolReturn k else s)

end Sys2Proof.Machine
end

