-- ==== Sys2Proof/Machine/Audio.lean ====
section
/-! DEFINITION. The audio matrix (R174 to R190, R196): its sample grid, switch points and crossfades, delays, destinations, losses. -/

namespace Sys2Proof.Machine

/-- The instant from which the switch point of a pending map of a reference falls. -/
def Oc.dueFrom (x : Oc) (ref : Nat) : Option Nat := match x.pend with | some p => if p.ref = ref then p.fromT else none | none => none

/-- Output channels with a map of a reference whose switch point is set, with the instants. -/
def State.dueMaps (s : State) (ref : Nat) : List (Nat × Nat) :=
  s.audio.ocs.filterMap (fun (p : Nat × Oc) => (p.2.dueFrom ref).map (fun t => (p.1, t)))

/-- The channels mapped with reference ref (0xFE for none) reach the earliest switch point set (R185, Table 7.3). -/
def execAmapSwitchPoint (ref : Nat) (s : State) : Host.Outcome State Fault Refusal :=
  .next (match s.dueMaps ref with
    | [] => s
    | d :: ds =>
      let t := ds.foldl (fun m x => min m x.2) d.2
      let i := s.sampleAt t
      let s := s.advance (s.sampleTime i)
      s.forEach ((d :: ds).filter (fun x => decide (s.sampleAt x.2 ≤ i))) (fun s x =>
        match (s.oc x.1).pend with
        | some p => (s.modOc x.1 (fun o => { o with pend := none })).changeSource x.1 p.src i
        | none => s))

/-- The follow channels of output n that are due a change, with the instants from which. -/
def State.dueFollows (s : State) (n : Nat) : List (Nat × Nat) :=
  s.audio.ocs.filterMap (fun (p : Nat × Oc) =>
    if 0x4000 ≤ p.2.src ∧ fieldOf p.2.src 13 8 = n then p.2.followDue.map (fun t => (p.1, t)) else none)

/-- The follow channels of output n change source at the first sample at or after the TAKE_TTIME of its take, or the instant from which it shows
black or no longer; a map due at that sample wins (R186, R190). -/
def execFollowSwitch (n : Nat) (s : State) : Host.Outcome State Fault Refusal :=
  .next (match s.dueFollows n with
    | [] => s
    | d :: ds =>
      let i := s.sampleAt (ds.foldl (fun m x => min m x.2) d.2)
      let s := s.advance (s.sampleTime i)
      s.forEach (((d :: ds).filter (fun x => decide (s.sampleAt x.2 ≤ i))).map Prod.fst) (fun s c =>
        let x := s.oc c
        let wins := match x.pend with | some p => (match p.fromT with | some t => decide (s.sampleAt t ≤ i) | none => false) | none => false
        if wins then s.setOc c { x with followDue := none } else s.changeSource c x.src i))

/-! Gain, INVERT and MUTE (R184). -/

/-- The factor of half a decibel and of its inverse, in 1/2^48. -/
def halfDb : Nat := 298153417624953
def halfDbDown : Nat := 265729513166022

/-- A factor multiplied n times, in 1/2^48. -/
def powerOf (factor : Nat) : Nat → Nat
  | 0 => 2 ^ 48
  | n + 1 => powerOf factor n * factor / 2 ^ 48

/-- The factor of a gain code, in 1/2^24: (code - 192) half decibels (Table 7.10). -/
def gainOf (code : Nat) : Nat := (if 192 ≤ code then powerOf halfDb (code - 192) else powerOf halfDbDown (192 - code)) / 2 ^ 24

/-- Whether an output channel holds a non-PCM source at sample i (R180). -/
def State.ocNonPcm (s : State) (c i : Nat) : Bool := ((s.oc c).mixAt i).any (fun f => s.icNonPcm f.src)

/-- The gain of an output channel at a sample, in 1/2^24: a change ramps linearly over 5 ms; on non-PCM data it is 0 dB (R180, R184). -/
def State.gainAt (s : State) (c i : Nat) : Nat :=
  let x := s.oc c
  if s.ocNonPcm c i then 2 ^ 24
  else rampAt x.gainFrom (gainOf (bits (s.reg (R.audioOcCtrl c)) 23 16)) (5 * s.samplesMs) (i - x.gainStart)

/-- The factor of MUTE at a sample, in 1/65,536: a change ramps over 1 ms, on non-PCM data it is a cut (R180, R184). -/
def State.muteAt (s : State) (c i : Nat) : Nat :=
  let x := s.oc c
  let goal := if bit (s.reg (R.audioOcCtrl c)) 31 then 0 else 65536
  if s.ocNonPcm c i then goal else rampAt x.muteFrom goal s.samplesMs (i - x.muteStart)

/-- OC[c].CTRL written, `old` the state before: the ramps of what changes start at the first sample after it, from the values that they have
there (R184). -/
def State.ocRamps (s old : State) (c : Nat) : State :=
  let v := s.reg (R.audioOcCtrl c)
  let was := old.reg (R.audioOcCtrl c)
  let i := s.sampleAfter s.ttime
  let x := s.oc c
  let x := if bits v 23 16 = bits was 23 16 then x else { x with gainFrom := old.gainAt c i, gainStart := i }
  s.setOc c (if bits v 31 31 = bits was 31 31 then x else { x with muteFrom := old.muteAt c i, muteStart := i })

/-! The sample of an output channel (R184, R187 to R190). -/

/-- 24-bit saturation. -/
def saturate (v : Int) : Int := max (-8388608) (min 8388607 v)

/-- A product or a mean taken to a whole number: exact where it is one, else one of the two beside it (log entry 56). -/
def nearInt (v : Int) (den : Nat) : Int := if v < 0 then -((near v.natAbs den : Nat) : Int) else (near v.natAbs den : Nat)

/-- Sample i of the tone: a 1 kHz sine whose peak is 18 dB below full scale, from 0 at sample 0 on (R184; DESIGN CHOICE, log entry 56). -/
def State.toneAt (s : State) (i : Nat) : Int :=
  let n := s.samplesMs
  let k := i % n
  let q := n / 4
  let y (j : Nat) : Int := sin48 (halfPi48 * j / q) * 1056063
  let v := if k ≤ q then y k else if k ≤ 2 * q then y (2 * q - k) else if k ≤ 3 * q then -(y (k - 2 * q)) else -(y (n - k))
  (v + 2 ^ 47) / 2 ^ 48

/-- What a held source brings at sample i, times 2^16 and its weight. `brought` is what an input channel brings: the previous sample for a missing
one, the last good one for a lost or freed channel (R176, R181). -/
def State.sourceAt (s : State) (i : Nat) (brought : Nat → Int) (f : Fading) : Int :=
  let level : Nat := match f.freed with
    | some k => rampAt 65536 0 s.samplesMs (i - k)
    | none => s.icLevel f.src (s.sampleTime i)
  f.weight * (if f.src < 0x2000 then level * brought f.src else if f.src = 0x2001 then 65536 * s.toneAt i else 0)

/-- Sample i of output channel c before its delay: source selection and crossfade, gain, INVERT, MUTE (R184). -/
def State.mixSample (s : State) (c i : Nat) (brought : Nat → Int) : Int :=
  let mix := (((s.oc c).mixAt i).map (s.sourceAt i brought)).foldl (· + ·) (0 : Int)
  let v := mix * s.gainAt c i * s.muteAt c i
  saturate (nearInt (if bit (s.reg (R.audioOcCtrl c)) 30 && !s.ocNonPcm c i then -v else v) (2 ^ 72))

/-- Sample i that output channel c gives its destination: from the delay tap, with the crossfade from the old tap to the new one, and the loss ramp
where delay reads fail (R189). `line k` is sample k of the channel before its delay, as the delay line holds it. -/
def State.ocSample (s : State) (c i : Nat) (line : Nat → Int) : Int :=
  let x := s.oc c
  let d := bits (s.reg (R.audioOcDelay c)) 17 0
  let tap (d : Nat) : Int := if i < d then 0 else line (i - d)
  let v := if x.tapLen = 0 ∨ i < x.tapStart then tap (if i < x.tapStart then x.tapOld else d)
    else
      let w := fadeWeights x.tapShape x.tapLen (i - x.tapStart)
      saturate (nearInt ((w.1 : Int) * tap x.tapOld + (w.2 : Int) * tap d) 65536)
  match x.tapFail with
  | some k =>
    let down := if s.ocNonPcm c i then 0 else rampAt 65536 0 s.samplesMs (i - k)
    let level := match x.tapBack with
      | some b => if i < b then down else if s.ocNonPcm c i then 65536 else rampAt 0 65536 s.samplesMs (i - b)
      | none => down
    nearInt (level * v) 65536
  | none => v

/-! Delay (R189). -/

/-- The greatest delay in samples: 2 s. -/
def State.delayMax (s : State) : Nat := if s.audioFast then 192000 else 96000

/-- A write of OC[c].DELAY (R189). -/
def State.delayWrite (s : State) (c : Nat) (v : Word) : State × Bool :=
  let x := s.oc c
  let d := bits v 17 0
  let old := bits (s.reg (R.audioOcDelay c)) 17 0
  let i := s.sampleAfter s.ttime
  if s.delayMax < d ∨ (x.tapLen ≠ 0 ∧ s.sampleAt s.ttime < x.tapStart + x.tapLen) then (s, false)
  else
    let xf := s.reg (R.audioOcXf c)
    let cut := decide (bits xf 18 16 = 0) || s.icNonPcm x.heard || decide (d = old)
    ((s.setRegN (R.audioOcDelay c) d).setOc c { x with
      tapOld := old, tapStart := i, tapShape := bits xf 18 16, tapLen := if cut then 0 else bits xf 15 0, tapFail := none, tapBack := none }, true)

/-- OC_DELAY_WRITE: master m writes OC[c].DELAY. -/
def execOcDelayWrite (m c : Nat) (v : Word) (s : State) : Host.Outcome State Fault Refusal :=
  .next (if c < 8192 then s.regWriteBy m (R.audioOcDelay c) (s.delayWrite c v) else s)

/-! Destinations (R182, Tables 7.2 and 7.9). -/

def State.dest (s : State) (d : Nat) : Word := s.reg (R.audioDest0 d)
def State.destCount (s : State) (d : Nat) : Nat := bits (s.reg (R.audioDest1 d)) 7 0
def State.destLevel (s : State) (d : Nat) : Nat := bits (s.reg (R.audioDest1 d)) 9 8

/-- Entries other than d that are valid. -/
def State.otherDests (s : State) (d : Nat) : List Nat := (List.range 512).filter (fun e => decide (e ≠ d) && bit (s.dest e) 31)

/-- Whether a count is allowed for a kind on a port at a level (Table 7.2). -/
def State.destCountOk (s : State) (kind port level c : Nat) : Bool :=
  match kind with
  | 0 => decide (1 ≤ c ∧ c ≤ (if s.sdiClass port = 2 then 16 else if s.sdiClass port = 1 then 0 else 32))
  | 1 => decide (1 ≤ c ∧ c ≤ (if level = 2 then 64 else 8)) && decide (level ≠ 3)
  | 2 => decide (2 ≤ c ∧ c ≤ 16 ∧ c % 2 = 0)
  | _ => false

/-- The conditions of R182 on making entry d valid with word 0 w. -/
def State.destOk (s : State) (d : Nat) (w : Word) : Bool :=
  let kind := bits w 30 28
  let port := bits w 21 16
  let base := bits w 13 0
  let c := s.destCount d
  let others := s.otherDests d
  let same := others.filter (fun e => decide (bits (s.dest e) 21 16 = port))
  decide (base + c ≤ 8160)
    && others.all (fun e => decide (base + c ≤ bits (s.dest e) 13 0) || decide (bits (s.dest e) 13 0 + s.destCount e ≤ base))
    && s.destCountOk kind port (s.destLevel d) c
    && s.portPresent port && (if kind = 0 then s.portIsSdi port else s.portIsEth port)
    && same.all (fun e => decide (bits (s.dest e) 30 28 ≠ 0))
    && decide ((same.filter (fun e => decide (bits (s.dest e) 30 28 ≠ 0))).length ≤ 7)

/-- A write of word 0 of DEST[d]. -/
def State.destWrite (s : State) (d : Nat) (v : Word) : State × Bool :=
  if bit (s.dest d) 31 && bit v 31 then (s, false)
  else if bit v 31 && !s.destOk d v then (s, false)
  else (s.setReg (R.audioDest0 d) (maskWrite 0 v 0xF03F3FFF), true)

/-- DEST_WRITE: master m writes word 0 of DEST[d]. -/
def execDestWrite (m d : Nat) (v : Word) (s : State) : Host.Outcome State Fault Refusal :=
  .next (if d < 512 then s.regWriteBy m (R.audioDest0 d) (s.destWrite d v) else s)

/-! Losses (R179, R181, R196). -/

/-- The channels of a flow or a pair are lost (R181): those of a flow received here once its audio has been missing for 2 ms, on IP for 10 ms. -/
def execAudioSrcLost (pair : Bool) (x : Nat) (s : State) : Host.Outcome State Fault Refusal :=
  .next (
    let cs := s.audioIcs pair x
    if cs = [] ∨ (s.ic (cs.headD 0)).state = 1 ∨ (pair ∧ !(s.aes x).lock) then s
    else (if pair ∨ (s.flow x).landing.isSome then s else s.advance ((s.flow x).audioT + (s.flow x).refLimit)).audioLose pair x)

/-- Whether a measured rate suits a mode: 30 to 100 kHz with the ASRC; in SYNC within 0.1 % of 48 or 96 kHz, the rate that is not the matrix's
through the fixed 2:1 converter (R175, R179, Table 7.7). -/
def State.audioRateOk (asrc : Bool) (hz : Nat) : Bool :=
  if asrc then decide (30000 ≤ hz ∧ hz ≤ 100000)
  else [48000, 96000].any (fun r => decide (r * 999 ≤ hz * 1000 ∧ hz * 1000 ≤ r * 1001))

/-- The ASRC setting of a channel: that of its flow, or of its pair. -/
def State.audioAsrc (s : State) (pair : Bool) (x : Nat) : Bool := if pair then bit (s.reg (R.audioAesInCtrl x)) 1 else (s.flow x).asrc

/-- The channels become good: they ramp in over 1 ms. A pair locks with the rate and the channel status measured, and its channels
with the ASRC and non-PCM data are muted (R180, R181, R196). -/
def execAudioSrcBack (pair : Bool) (x hz : Nat) (nonPcm : Bool) (s : State) : Host.Outcome State Fault Refusal :=
  .next (
    let cs := s.audioIcs pair x
    let asrc := s.audioAsrc pair x
    let c0 := s.ic (cs.headD 0)
    let fresh := pair && !(s.aes x).lock
    if cs = [] ∨ !(fresh || c0.state = 1 || c0.muted) ∨ (pair ∧ !bit (s.reg (R.audioAesInCtrl x)) 0)
        ∨ !State.audioRateOk asrc hz then s
    else
      let np := if pair then nonPcm else c0.nonPcm
      let t := if pair then s.setAes x { lock := true, nonPcm := nonPcm, rate := hz } else s
      let t := (t.forEach cs (fun s c => s.setIc c { s.ic c with state := 0, muted := asrc && np })).icSettle s cs
      let s := t.raise 0x4051 sevInfo (audioKind pair) x
      if pair ∧ asrc ∧ np then s.raise 0x4057 sevWarn kOther x else s)

/-- A SYNC channel repeats or drops a sample (R179). -/
def execAudioSlip (c : Nat) (s : State) : Host.Outcome State Fault Refusal :=
  .next (
    let pair := decide (8160 ≤ c)
    let x := if pair then (c - 8160) / 2 else (s.ic c).flow
    if 8192 ≤ c ∨ (!pair ∧ !(s.ic c).valid) ∨ s.audioAsrc pair x then s
    else (s.bump R.audioSlipCnt).raiseLim 0 0x4054 sevNotice (audioKind pair) x)

/-- An AES_IN pair has no valid frames for 2 ms: it unlocks, and its channels are lost (R181, R196). -/
def execAesUnlock (i : Nat) (s : State) : Host.Outcome State Fault Refusal :=
  .next (if i < 16 ∧ (s.aes i).lock then
      (let t := (s.audioLose true i).raise 0x4056 sevWarn kOther i
       t.setAes i { t.aes i with lock := false, rate := 0 })
    else s)

/-- The source of channels with the ASRC leaves 30 to 100 kHz: they are muted with the loss ramp (R179). -/
def execAsrcRange (pair : Bool) (x : Nat) (s : State) : Host.Outcome State Fault Refusal :=
  .next (
    let cs := s.audioIcs pair x
    if cs = [] ∨ !s.audioAsrc pair x ∨ (s.ic (cs.headD 0)).muted then s
    else (s.audioMute cs true).raise 0x4057 sevWarn (audioKind pair) x)

/-- AUDIO_DELAY_FAIL: a delay read of output channel c fails; it outputs silence with the loss ramp, until its delay is written again (R189; log
entry 56). -/
def State.delayFail (s : State) (c : Nat) : State :=
  (s.modOc c (fun x => { x with tapFail := some (if x.tapBack.isSome then s.sampleAfter s.ttime else x.tapFail.getD (s.sampleAfter s.ttime)), tapBack := none })).raise 0x4058 sevError kOther c

/-! What destinations send (R182, R183). -/

/-- The flow and the first channel in it of the source that an output channel stands at, where that is an input channel of non-PCM data. -/
def State.statusOf (s : State) (c : Nat) : Option (Nat × Nat) :=
  let x := s.oc c
  if x.outgoing = [] ∧ x.gone = none ∧ x.heard < 0x2000 ∧ s.icNonPcm x.heard then
    some (if 8160 ≤ x.heard then (0x4000 + (x.heard - 8160) / 2, x.heard % 2) else ((s.ic x.heard).flow, (s.ic x.heard).chan))
  else none

/-- The source pair whose channel status a pair of output channels passes: both channels come from the two subframes of one non-PCM pair (R183). -/
def State.passedStatus (s : State) (c : Nat) : Option (Nat × Nat) :=
  match s.statusOf c, s.statusOf (c + 1) with
  | some a, some b => if a.1 = b.1 ∧ a.2 % 2 = 0 ∧ b.2 = a.2 + 1 then some a else none
  | _, _ => none

/-- The first bytes of professional channel status generated for a pair at a sample rate: byte 0 says professional use, linear PCM and the rate,
byte 2 a word of 24 bits (R183; the codes are AES3's, PRESUMED, log entry 56). -/
def statusBytes (fast : Bool) : List Nat := if fast then [0x01, 0, 0x2C, 0, 0x10] else [0x81, 0, 0x2C]

/-- The channel status of the pair of output channels c, c + 1 of a sender or an AES_OUT pair that runs fast or not: what it passes, or the generated bytes. -/
def State.pairStatus (s : State) (c : Nat) (fast : Bool) : (Nat × Nat) ⊕ List Nat :=
  match s.passedStatus c with
  | some a => .inl a
  | none => .inr (statusBytes fast)

/-- What a channel status stream carries: 0 with the pair whose status it passes, 1 with the generated bytes. -/
def State.statusArgs (s : State) (c : Nat) (fast : Bool) : List Nat :=
  match s.pairStatus c fast with
  | .inl a => [c, 0, a.1, a.2]
  | .inr bs => [c, 1] ++ bs

/-- The enabled AES_OUT pairs and the pairs of the valid ST 2110-31 senders send their channel status (R183): a block of it has gone by the time a
tick boundary shows it. -/
def State.statusTick (s : State) : State :=
  let s := s.forEach ((List.range 16).filter (fun i => bit (s.reg (R.audioAesOutCtrl i)) 0)) (fun s i =>
    s.emit "AES_STATUS" 0 i (s.statusArgs (8160 + 2 * i) s.audioFast))
  s.forEach ((List.range 512).filter (fun d => bit (s.dest d) 31 && decide (bits (s.dest d) 30 28 = 2))) (fun s d =>
    s.forEach (List.range (s.destCount d / 2)) (fun s k =>
      s.emit "AES_STATUS" (bits (s.dest d) 21 16) (16 + d) (s.statusArgs (bits (s.dest d) 13 0 + 2 * k) s.audioFast)))

end Sys2Proof.Machine
end

