-- ==== Sys2Proof/Machine/Madder.lean ====
section
/-! DEFINITION. Madder (chapter 13): qualification and selection of references, the loop with its states, slopes and holdover, SOFTLOOP, frame pulses, PTP offset. -/

namespace Sys2Proof.Machine

/-! States of Table 13.5. -/

def mFreerun : Nat := 0
def mAcquire : Nat := 1
def mLocked : Nat := 2
def mHoldover : Nat := 3
def mSlew : Nat := 4
def mSoftloop : Nat := 5
def mFault : Nat := 6
def mStopped : Nat := 7

/-- Candidate status codes (Table 13.11). -/
def cdDisabled : Nat := 0
def cdFailed : Nat := 1
def cdUnqualified : Nat := 2
def cdQualifying : Nat := 3
def cdQualified : Nat := 4
def cdDemoted : Nat := 5

/-- No candidate, in SEL, PEND and PD_CAND. -/
def noCand : Nat := 15

/-- LOCAL's index (Table 13.1). -/
def candLocal : Nat := 9

/-- 0.001 ppm in units of 10^-14, and the pull range of 10 ppm (R314, R323). -/
def ppbUnits : Int := 100000
def pullRange : Int := 1000000000

def State.raiseRef (s : State) (code sev c : Nat) : State := s.raise code sev kOther c

/-! Selection (R311, R312). -/

def State.qualified (s : State) (c : Nat) : Bool := decide ((s.cand c).st = cdQualified)

/-- The candidate that MANUAL mode forces while it is QUALIFIED (R311); on a twin standby the one that the ACTIVE has selected (R299, R326). -/
def State.forced (s : State) : Option Nat :=
  let w := s.reg R.madderCtrl
  if s.isStandby ∧ s.twin.refSel.isSome then s.twin.refSel.filter s.qualified
  else if bit w 23 ∧ s.qualified (bits w 27 24) then some (bits w 27 24) else none

/-- The QUALIFIED candidate with the best rank; among equal ranks the selected one, then the lower index (R311). -/
def State.bestRank (s : State) : Nat :=
  (List.range 10).foldl (fun b c =>
    if !s.qualified c then b
    else if b = noCand ∨ s.candRank c < s.candRank b ∨ (s.candRank c = s.candRank b ∧ c = s.madder.sel) then c
    else b) noCand

/-- What R311 selects: none is 15. -/
def State.bestCand (s : State) : Nat := s.forced.getD s.bestRank

/-- The average frequency word of the history (R316). -/
def meanWord (xs : List Int) : Int := if xs = [] then 0 else xs.sum / xs.length

/-- LOCKED is left: the last 16 ticks leave the history (R316). -/
def State.leaveLocked (s : State) : State :=
  if s.madder.st = mLocked then s.modMadder (fun M => { M with hist := M.hist.drop 16 }) else s

/-- HOLDOVER with a valid history, else FREERUN (R311, R313, R316). -/
def State.enterHold (s : State) : State :=
  let s := s.leaveLocked
  if s.madder.histValid then
    let h := meanWord s.madder.hist
    let s := s.modMadder (fun M => { M with st := mHoldover, hold := h, fcw := h, afterSoft := false })
    (s.bump R.madderHoldoverCnt).raiseRef 0x2005 sevWarn noCand
  else (s.modMadder (fun M => { M with st := mFreerun, fcw := 0, afterSoft := false })).raiseRef 0x2006 sevWarn noCand

/-! Slopes (R315). -/

/-- The integer square root, found bit by bit from bit n down. -/
def isqrt (x : Nat) : Nat → Nat → Nat
  | 0, r => if (r + 1) * (r + 1) ≤ x then r + 1 else r
  | n + 1, r => isqrt x n (if (r + 2 ^ (n + 1)) * (r + 2 ^ (n + 1)) ≤ x then r + 2 ^ (n + 1) else r)

/-- Whether |E| is at least S × 1 s; S ns/s is 409.6 S of 1/256 CLK_D cycle in a second. -/
def slopeLong (e rate : Nat) : Bool := decide (4096 * rate ≤ 10 * e)

/-- How long a move lasts in CLK_D cycles: |E| / S + 1 s, or 2 √(|E| / S) s (R315). -/
def slopeTime (e rate : Nat) : Nat :=
  if rate = 0 then 0
  else if slopeLong e rate then e * 3906250 / rate + clkHz
  else isqrt (e * (25 * 10 ^ 15) / rate) 63 0

/-- The phase that a ramp has moved after t cycles, in 1/256 cycle. -/
def rampPhase (rate t : Nat) : Nat := 4096 * rate * t * t / (20 * clkHz * clkHz)

/-- The phase still to move, with the sign of E (SLEW_REMAIN). -/
def Slope.remain (x : Slope) (now : Nat) : Int :=
  let e := absI x.e
  let total := x.stop - x.start
  let t := min (now - x.start) total
  let left : Nat :=
    if slopeLong e x.rate then
      if t ≤ clkHz then e - rampPhase x.rate t
      else if total ≤ t + clkHz then rampPhase x.rate (total - t)
      else e - 4096 * x.rate * (2 * t - clkHz) / (20 * clkHz)
    else if 2 * t ≤ total then e - rampPhase x.rate t
    else rampPhase x.rate (total - t)
  if x.e < 0 then -(left : Int) else (left : Int)

/-- The frequency offset against the target at an instant, in 10^-14: it ramps to S over 1 s, holds and ramps back (R315). -/
def Slope.offset (x : Slope) (now : Nat) : Int :=
  let total := x.stop - x.start
  let t := min (now - x.start) total
  let u : Int := ((x.rate * 100000 * min clkHz (min t (total - t)) / clkHz : Nat) : Int)
  if x.e < 0 then -u else u

/-- The phase error of a candidate against the lock offset (R314, R322). -/
def State.refError (s : State) (c : Nat) : Int := s.phaseFrom c s.madder.lockOfs

/-- An offset of seconds, nanoseconds and 2^-16 ns moved by a phase in 1/256 cycle, 160 times 2^-16 ns. -/
def moveOffset (d : Int) (o : Int × Nat × Nat) : Int × Nat × Nat :=
  let t := (o.1 * 1000000000 + (o.2.1 : Int)) * 65536 + (o.2.2 : Int) + 160 * d
  (t / 65536000000000, (t / 65536 % 1000000000).toNat, (t % 65536).toNat)

/-- The phase that the slope in progress has moved TTIME since an instant changes the PTP offset by as much, TTIME itself never (R23, R321). -/
def State.slewOffsets (s : State) (now : Nat) : State :=
  match s.madder.slope with
  | some x =>
    s.modMadder (fun M => { M with cands := M.cands.map (fun (q : Nat × Cand) =>
      (q.1, { q.2 with ofs := q.2.ofs.map (moveOffset (x.remain now - x.remain (max x.start q.2.ofsT))), ofsT := now })) })
  | none => s

/-- A slope to the selected candidate begins; with no phase to move SLEW ends at once (R313). -/
def State.beginSlope (s : State) (c : Nat) : State :=
  let e := s.refError c
  let rate := s.regBits R.madderSlope 13 0
  if e = 0 then (s.modMadder (fun M => { M with st := mLocked, slope := none, okTicks := 0 })).raiseRef 0x200A sevInfo c
  else
    let x : Slope := { e := e, start := s.ttime, stop := s.ttime + slopeTime (absI e) rate, rate := rate }
    s.modMadder (fun M => { M with st := mSlew, okTicks := 0, slope := some x })

/-- Candidate c, or none, becomes the selected one, and the loop moves as Table 13.2 says. -/
def State.applySel (s : State) (c : Nat) : State :=
  let old := s.madder.sel
  let st := s.madder.st
  let s := s.modMadder (fun M => { M with sel := c, pend := if M.pend = c then noCand else M.pend, wtrAt := if M.pend = c then none else M.wtrAt })
  let s := if c ≠ noCand ∧ c ≠ old then (s.bump R.madderSwitchCnt).mirror "REF" [c] else s
  if st = mSoftloop ∨ st = mFault ∨ st = mStopped then s
  else if c = noCand then (if st = mAcquire ∨ st = mLocked ∨ st = mSlew then s.enterHold else s)
  else
    let s := if st = mLocked then s.leaveLocked.raiseRef 0x2001 sevNotice c else s
    if c = candLocal then s.modMadder (fun M => { M with st := mFreerun, fcw := 0, slope := none, afterSoft := false })
    else if st = mLocked ∨ st = mSlew then s.beginSlope c
    else s.modMadder (fun M => { M with st := mAcquire, acqT := s.ttime, afterSoft := false })

/-- A change of selection falls due: at once, or when the slope in progress completes (R315, R326). -/
def State.chooseCand (s : State) (c : Nat) : State :=
  if s.madder.st = mFault ∨ s.madder.st = mStopped then s
  else match s.madder.slope with
    | some x => s.modMadder (fun M => { M with slope := some { x with due := some c } })
    | none => s.applySel c

/-- Candidate c is no longer QUALIFIED: it does not stay pending, and if it is the selected one Madder selects again (R311, R312, R315, R326). -/
def State.loseCand (s : State) (c : Nat) : State :=
  let s := if s.madder.pend = c then s.modMadder (fun M => { M with pend := noCand, wtrAt := none }) else s
  if s.madder.sel ≠ c ∨ s.madder.st = mFault ∨ s.madder.st = mStopped then s
  else
    let s := s.modMadder (fun M => { M with pend := noCand, wtrAt := none })
    match s.madder.slope with
    | some x => s.modMadder (fun M => { M with slope := some { x with lost := true, due := some noCand } })
    | none => s.applySel s.bestCand

/-- Candidate c becomes QUALIFIED: selected where none is, or pending where Madder reverts to a better rank (R311, R312, R329). -/
def State.qualify (s : State) (c : Nat) : State :=
  let s := (s.modCand c (fun x => { x with st := cdQualified, qtime := 0, rejRun := 0, apartRun := 0 })).raiseRef 0x2003 sevInfo c
  let M := s.madder
  if M.st = mFault ∨ M.st = mStopped then s
  else if M.sel = noCand then s.applySel s.bestCand
  else if s.forced = some c then (if M.sel = c then s else s.chooseCand c)
  else if s.forced = some M.sel then s
  else if bit (s.reg R.madderCtrl) 30 ∧ c ≠ M.sel ∧ s.candRank c < s.candRank M.sel ∧ (M.pend = noCand ∨ s.candRank c < s.candRank M.pend) then
    s.modMadder (fun M => { M with pend := c, wtrAt := some (s.ticksOn (s.regBits R.madderWtr 19 0)) })
  else s

/-- A candidate as it starts to qualify: UNQUALIFIED while it is active, else FAILED; LOCAL is QUALIFIED while it is active (R309, R326). -/
def State.restartCand (s : State) (c : Nat) : State :=
  let s := s.modCand c (fun x => { x with rejRun := 0, apartRun := 0, qtime := s.acceptT c })
  if !s.candOn c then s.modCand c (fun x => { x with st := cdDisabled, qtime := 0 })
  else if !(s.cand c).active then
    let was := (s.cand c).st
    let s := s.modCand c (fun x => { x with st := cdFailed })
    if was = cdFailed then s else s.raiseRef 0x2002 sevWarn c
  else if c = candLocal then s.qualify c
  else s.modCand c (fun x => { x with st := cdUnqualified })

/-- Madder starts in FREERUN, and its candidates begin to qualify (step 9 of Table 16.5). -/
def State.madderStart (s : State) : State :=
  if s.madder.st ≠ mStopped then s
  else
    let s := s.modMadder (fun M => { M with st := mFreerun, fcw := 0 })
    s.forEach ((List.range 10).filter (fun c => s.candOn c)) State.restartCand

/-! Activity (R305). -/

/-- A disagreement of which a candidate is part has nothing left to compare. -/
def State.endDisagree (s : State) (c : Nat) : State :=
  match s.madder.disagree with
  | some (a, b, _) => if c = a ∨ c = b then s.modMadder (fun M => { M with disagree := none, backRun := 0 }) else s
  | none => s

/-- LOCAL's activity is lost: FAULT (R313, R317). -/
def State.localLost (s : State) : State :=
  let s := s.modMadder (fun M => { M with localOk := false })
  if s.madder.st = mFault ∨ s.madder.st = mStopped then s
  else (s.leaveLocked.modMadder (fun M => { M with st := mFault })).raiseRef 0x2007 sevError candLocal

/-- A candidate's activity is lost: FAILED at once (R305). -/
def State.activityLost (s : State) (c : Nat) : State :=
  if !(s.cand c).active then s
  else
    let s := s.modCand c (fun x => { x with active := false, good := none, announce := none, pulse := none })
    let s := s.bump (R.madderCandActLossCnt c)
    let s := if s.candOn c then
        (((s.modCand c (fun x => { x with st := cdFailed, qtime := 0, rejRun := 0, apartRun := 0 })).raiseRef 0x2002 sevWarn c).endDisagree c).loseCand c
      else s
    if c = candLocal then s.localLost else s

/-- A good sample of a candidate: a FAILED one becomes UNQUALIFIED (R305); LOCAL is QUALIFIED while it is active (R309). -/
def State.goodSample (s : State) (c : Nat) : State :=
  let was := (s.cand c).active
  let s := s.modCand c (fun x => { x with active := true })
  let s := if c = candLocal ∧ !was then s.modMadder (fun M => { M with localOk := true, localT := s.ttime }) else s
  if (s.cand c).st = cdFailed then s.restartCand c else s

/-- The port of a PTP candidate is in an Ethernet mode (R307). -/
def State.ptpPortOk (s : State) (c : Nat) : Bool :=
  let m := s.portMode (s.regBits (R.madderCandCfg c) 21 16)
  decide (4 ≤ m ∧ m ≤ 9)

/-- What is measured of a candidate; a format other than the one forced counts as missing sync (R306, R318). -/
def State.takeSample (s : State) (r : RefSample) : State :=
  let f := s.regBits (R.madderCandCfg r.cand) 17 16
  if 9 < r.cand ∨ (r.cand < 2 ∧ f ≠ 0 ∧ f ≠ r.fmt) then s
  else s.modCand r.cand (fun x => { x with freq := if r.cand = candLocal then 0 else r.freq,
                                           phase := if r.cand = 8 ∧ s.stkSrc = 0 then s.stk.timeOfs * 256 else r.phase,
                                           fmt := r.fmt, pulseRate := r.rate, pulse := r.pulse })

/-- When the activity of a PTP or STK candidate runs out (Table 13.1). -/
def Cand.runsOut (x : Cand) : Option Nat :=
  match x.good, x.announce with
  | some (t, n), some (u, k) => some (min (t + n) (u + k))
  | some (t, n), none => some (t + n)
  | none, some (u, k) => some (u + k)
  | none, none => none

def execCandActivityLost (c : Nat) (s : State) : Host.Outcome State Fault Refusal :=
  .next (if c < 10 ∧ (s.cand c).active then
      let s := if 4 ≤ c ∧ c < 8 ∧ !s.ptpPortOk c then s
        else match (s.cand c).runsOut with
          | some t => s.advance t
          | none => s
      s.activityLost c
    else s)

def execCandGoodSample (r : RefSample) (s : State) : Host.Outcome State Fault Refusal :=
  .next (let f := s.regBits (R.madderCandCfg r.cand) 17 16
    if 9 < r.cand ∨ (r.cand < 2 ∧ f ≠ 0 ∧ f ≠ r.fmt) ∨ (4 ≤ r.cand ∧ r.cand < 8 ∧ !s.ptpPortOk r.cand) then s
    else (s.takeSample r).goodSample r.cand)

/-! Qualification (R309, R310). -/

/-- ACCEPT_T has passed within the limits. -/
def execRefQualified (c : Nat) (s : State) : Host.Outcome State Fault Refusal :=
  .next (if c < 9 ∧ (s.cand c).st = cdQualifying ∧ (s.cand c).qtime = 0 ∧ s.madder.st ≠ mFault then s.qualify c else s)

/-- REJECT_T has passed outside the limits. -/
def execRefLost (c : Nat) (s : State) : Host.Outcome State Fault Refusal :=
  .next (if c < 9 ∧ s.qualified c ∧ s.rejectT c ≤ (s.cand c).rejRun ∧ s.madder.st ≠ mFault then
      let s := s.modCand c (fun x => { x with st := cdUnqualified, qtime := s.acceptT c, rejRun := 0, apartRun := 0 })
      ((s.bump (R.madderCandRejectCnt c)).raiseRef 0x2002 sevWarn c).loseCand c
    else s)

/-- Candidate c of the selected one's rank has differed from it by more than PEER for REJECT_T; the one farther from LOCAL is demoted. -/
def execRefDisagree (c : Nat) (s : State) : Host.Outcome State Fault Refusal :=
  .next (let sel := s.madder.sel
    if c < 9 ∧ sel < 9 ∧ c ≠ sel ∧ s.qualified c ∧ s.qualified sel ∧ s.candRank c = s.candRank sel ∧ s.rejectT c ≤ (s.cand c).apartRun ∧ s.madder.disagree = none then
      let s := (s.bump R.madderDisagreeCnt).raiseRef 0x2004 sevWarn c
      if s.madder.st = mFault ∨ !s.madder.localOk then s.modMadder (fun M => { M with disagree := some (sel, c, noCand), backRun := 0 })
      else
        let d := if absI (s.cand c).freq < absI (s.cand sel).freq then sel else c
        let s := s.modMadder (fun M => { M with disagree := some (sel, c, d), backRun := 0 })
        let s := s.modCand d (fun x => { x with st := cdDemoted, rejRun := 0, apartRun := 0 })
        ((s.bump (R.madderCandDemoteCnt d)).raiseRef 0x200E sevNotice d).loseCand d
    else s)

/-- The difference has stayed within PEER for ACCEPT_T: the demoted candidate qualifies again under R309. -/
def execDisagreeClear (s : State) : Host.Outcome State Fault Refusal :=
  .next (match s.madder.disagree with
    | some (_, c, d) =>
      if s.acceptT (if d = noCand then c else d) ≤ s.madder.backRun then
        let s := s.modMadder (fun M => { M with disagree := none, backRun := 0 })
        if (s.cand d).st = cdDemoted then s.modCand d (fun x => { x with st := cdUnqualified, qtime := s.acceptT d }) else s
      else s
    | none => s)

/-! The loop (R312 to R317). -/

/-- WTR expires with the pending candidate still QUALIFIED. -/
def execWtrExpiry (s : State) : Host.Outcome State Fault Refusal :=
  .next (match s.madder.wtrAt with
    | some t =>
      let s := (s.advance t).modMadder (fun M => { M with wtrAt := none })
      if s.qualified s.madder.pend then s.chooseCand s.madder.pend else s.modMadder (fun M => { M with pend := noCand })
    | none => s)

/-- The candidate that R311 has Madder switch to now: the one MANUAL forces, or the best one where the selected one is not QUALIFIED. -/
def State.switchDue (s : State) : Option Nat :=
  match s.forced with
  | some c => if c = s.madder.sel then none else some c
  | none => if s.qualified s.madder.sel ∨ s.bestRank = noCand then none else some s.bestRank

/-- A switch that is due is made. -/
def execRefSwitch (s : State) : Host.Outcome State Fault Refusal :=
  .next (match s.switchDue with
    | some c => s.chooseCand c
    | none => s)

/-- ACQUIRE ends: the frequency is within 0.01 ppm of the candidate's; its phase is captured on the first lock, else moved (R314). -/
def execAcquireLock (s : State) : Host.Outcome State Fault Refusal :=
  .next (let c := s.madder.sel
    if s.madder.st = mAcquire ∧ absI (s.madder.fcw - (s.cand c).freq * ppbUnits) ≤ 1000000 then
      if s.madder.captured then s.beginSlope c
      else s.modMadder (fun M => { M with st := mLocked, captured := true, lockOfs := s.phaseFrom c 0, okTicks := 0 })
    else s)

/-- ACQUIRE times out after 96,000 ticks. -/
def execAcqFail (s : State) : Host.Outcome State Fault Refusal :=
  .next (if s.madder.st = mAcquire then
      let c := s.madder.sel
      let s := s.advance (ticksAfter s.madder.acqT 96000)
      let s := s.modCand c (fun x => { x with st := cdUnqualified, qtime := s.acceptT c, rejRun := 0, apartRun := 0 })
      (s.raiseRef 0x200B sevWarn c).loseCand c
    else s)

/-- A slope completes, and the selection that fell due during it applies (R315). -/
def execSlopeComplete (s : State) : Host.Outcome State Fault Refusal :=
  .next (match s.madder.slope with
    | some x =>
      let s := ((s.advance x.stop).slewOffsets x.stop).modMadder (fun M => { M with slope := none, okTicks := 0 })
      match x.due with
      | some d =>
        let c := if s.qualified d then d else s.bestCand
        if s.madder.st ≠ mSlew ∨ (c = s.madder.sel ∧ !x.lost) then s else s.applySel c
      | none => s
    | none => s)

/-- The phase has been within 50 ns for 16 ticks after the slope: LOCKED. -/
def execSlewDone (s : State) : Host.Outcome State Fault Refusal :=
  .next (if s.madder.st = mSlew ∧ s.madder.slope = none ∧ 16 ≤ s.madder.okTicks then
      (s.modMadder (fun M => { M with st := mLocked, okTicks := 0 })).raiseRef 0x200A sevInfo s.madder.sel
    else s)

/-- The selected candidate is lost and none is QUALIFIED: HOLDOVER, or FREERUN without a valid history. -/
def execHoldover (s : State) : Host.Outcome State Fault Refusal :=
  .next (if !s.qualified s.madder.sel ∧ s.bestCand = noCand ∧ s.madder.slope = none ∧ (s.madder.st = mAcquire ∨ s.madder.st = mLocked ∨ s.madder.st = mSlew) then
      s.applySel noCand
    else s)

/-! CTRL, FCW and SOFTLOOP (R311, R314, R322, R323). -/

/-- A timing group is enabled, or a flow bound. -/
def State.timeInUse (s : State) : Bool := (List.range 16).any s.groupEnabled || s.flows.any (fun (p : Nat × Flow) => p.2.valid)

/-- SOFTLOOP is entered (R313). -/
def State.enterSoft (s : State) : State :=
  (s.slewOffsets s.ttime).leaveLocked.modMadder (fun M => { M with st := mSoftloop, fcwT := s.ttime, fcwNext := none, slope := none, afterSoft := false })

/-- A write of MADDER.CTRL (Table 13.9). -/
def State.madderCtrlWrite (s : State) (v : Word) : State × Bool :=
  let old := s.reg R.madderCtrl
  let st := s.madder.st
  let bad := decide (9 < bits v 27 24) || decide (12 < bits v 19 16) || (bit v 23 && !s.candOn (bits v 27 24))
    || (bit v 31 && (decide (st = mSlew) || decide (st = mAcquire))) || (bit v 29 && s.timeInUse)
  if bad then (s, false)
  else
    let s := s.setReg R.madderCtrl (maskWrite old v 0xCF8F0000)
    let s := if bit v 29 then s.modMadder (fun M => { M with captured := false }) else s
    let s := if bit v 31 ∧ (st = mFreerun ∨ st = mLocked ∨ st = mHoldover) then s.enterSoft
      else if !bit v 31 ∧ st = mSoftloop then
        let c := s.bestCand
        if c = noCand then (s.modMadder (fun M => { M with sel := noCand })).enterHold
        else (s.modMadder (fun M => { M with st := mFreerun, fcw := 0 })).applySel c
      else s
    match s.forced with
    | some c => (if c = s.madder.sel then s else s.chooseCand c, true)
    | none => (s, true)

/-- A write of CTRL.SOFT. -/
def execSoft (m : Nat) (v : Word) (s : State) : Host.Outcome State Fault Refusal := .next (s.regWriteBy m R.madderCtrl (s.madderCtrlWrite v))

/-- A write of CTRL.RECAPTURE. -/
def execRecapture (m : Nat) (v : Word) (s : State) : Host.Outcome State Fault Refusal :=
  .next (s.regWriteBy m R.madderCtrl (s.madderCtrlWrite (v ||| 0x20000000)))

/-- The clamp of FCW: ±10 ppm, and within S of a QUALIFIED selected candidate's frequency (R323). -/
def State.clampFcw (s : State) (x : Int) : Int :=
  let y := clampI (-pullRange) pullRange x
  if s.madder.sel < 10 ∧ s.qualified s.madder.sel then
    let f := (s.cand s.madder.sel).freq * ppbUnits
    let w := (s.regBits R.madderSlope 13 0 : Int) * ppbUnits
    clampI (-pullRange) pullRange (clampI (f - w) (f + w) y)
  else y

/-- A write of FCW takes effect at the next tick boundary; HOLDOVER after SOFTLOOP goes back to it (R313, R322). -/
def State.fcwWrite (s : State) (v : Word) : State × Bool :=
  let y := s.clampFcw (sInt v)
  let s := if y = sInt v then s else (s.bump R.madderSoftClampCnt).raiseLim 0 0x2009 sevNotice kOther s.madder.sel
  let s := s.setReg R.madderFcw (wordI y)
  let s := if s.madder.st = mHoldover ∧ s.madder.afterSoft ∧ bit (s.reg R.madderCtrl) 31 then s.enterSoft else s
  (if s.madder.st = mSoftloop then s.modMadder (fun M => { M with fcwNext := some y, fcwT := s.ttime }) else s, true)

def execFcwWrite (m : Nat) (v : Word) (s : State) : Host.Outcome State Fault Refusal := .next (s.regWriteBy m R.madderFcw (s.fcwWrite v))

/-- No FCW write for 8 ticks: the last word is held (R313, R323). -/
def execSoftTimeout (s : State) : Host.Outcome State Fault Refusal :=
  .next (if s.madder.st = mSoftloop then
      let s := s.advance (ticksAfter s.madder.fcwT 8)
      let w := s.madder.fcwNext.getD s.madder.fcw
      let s := s.modMadder (fun M => { M with st := mHoldover, fcw := w, hold := w, fcwNext := none, afterSoft := true })
      ((s.bump R.madderHoldoverCnt).bump R.madderSoftTimeoutCnt).raiseRef 0x2008 sevWarn s.madder.sel
    else s)

/-- LOCAL's activity is lost. -/
def execMadderFault (s : State) : Host.Outcome State Fault Refusal :=
  .next (if (s.cand candLocal).active then s.activityLost candLocal else s.localLost)

/-- LOCAL has been active for 16,000 ticks: the state that the selection rules give (R313). -/
def execFaultRecover (s : State) : Host.Outcome State Fault Refusal :=
  .next (if s.madder.st = mFault ∧ s.madder.localOk then
      let s := s.advance (ticksAfter s.madder.localT 16000)
      match s.madder.slope with
      | some x => s.modMadder (fun M => { M with st := mSlew, slope := some { x with due := if s.qualified M.sel then x.due else some noCand } })
      | none =>
        let c := s.bestCand
        if c = noCand then (s.modMadder (fun M => { M with sel := noCand })).enterHold
        else (s.modMadder (fun M => { M with st := mFreerun, fcw := 0 })).applySel c
    else s)

/-- Holdover history is valid after 960,000 ticks (R316). -/
def execHistValid (s : State) : Host.Outcome State Fault Refusal :=
  .next (if 960000 ≤ s.madder.hist.length then s.modMadder (fun M => { M with histValid := true }) else s)

/-! Candidate settings (Tables 13.11, 13.12; R326). -/

/-- Whether a candidate register may hold a value: 0 CFG, 1 LIMITS, 2 TIMES. -/
def candRegOk (c reg : Nat) (v : Word) : Bool :=
  match reg with
  | 0 =>
    let typeOk := if c < 2 ∨ c = 8 then decide (bits v 21 18 = 0) && !(decide (c = 8) && decide (bits v 17 16 = 3))
      else if 4 ≤ c ∧ c < 8 then true else decide (bits v 21 16 = 0)
    (!bit v 31 || decide (1 ≤ bits v 27 24 ∧ bits v 27 24 ≤ 8)) && typeOk
      && (if 4 ≤ c ∧ c < 8 then !bit v 15 else decide (bits v 15 8 = 0))
  | 1 => decide (1 ≤ bits v 9 0 ∧ bits v 9 0 ≤ 900 ∧ 2 ≤ bits v 25 16 ∧ bits v 25 16 ≤ 1000 ∧ bits v 9 0 < bits v 25 16)
  | _ => decide (bits v 31 12 ≠ 0 ∧ bits v 11 0 ≠ 0)

/-- A write of CFG, LIMITS or TIMES: an enabled candidate's qualification restarts, and a selected one falls back (R326). -/
def State.candCfgWrite (s : State) (c reg : Nat) (v : Word) : State × Bool :=
  if !candRegOk c reg v then (s, false)
  else
    let a := if reg = 0 then R.madderCandCfg c else if reg = 1 then R.madderCandLimits c else R.madderCandTimes c
    let mask := if reg = 0 then 0x8F3FFF00 else if reg = 1 then 0x03FF03FF else 0xFFFFFFFF
    let was := s.candOn c
    let s := s.setReg a (maskWrite (s.reg a) v mask)
    if s.madder.st = mStopped ∨ (!was ∧ !s.candOn c) then (s, true)
    else
      let s := s.endDisagree c
      let s := if s.candOn c then s else s.restartCand c
      let s := if was ∧ s.candOn c then s.modCand c (fun x => { x with st := cdUnqualified }) else s
      let s := if was then s.loseCand c else s
      (if s.candOn c then s.restartCand c else s, true)

def execCandCfgWrite (m c reg : Nat) (v : Word) (s : State) : Host.Outcome State Fault Refusal :=
  .next (if c < 10 ∧ reg < 3 then
      s.regWriteBy m (if reg = 0 then R.madderCandCfg c else if reg = 1 then R.madderCandLimits c else R.madderCandTimes c) (s.candCfgWrite c reg v)
    else s)

/-! Frame pulses (R319, R320). -/

/-- ALIGN, RATE and OFFSET of a frame-pulse output. -/
def State.fpAlign (s : State) (i : Nat) : Nat := s.regBits (R.madderFpCtrl i) 25 24
def State.fpRate (s : State) (i : Nat) : Nat := s.regBits (R.madderFpCtrl i) 23 16
def State.fpOn (s : State) (i : Nat) : Bool := bit (s.reg (R.madderFpCtrl i)) 31

/-- The next pulse of a frame-pulse output, once its epoch is known. -/
def State.fpNext (s : State) (i : Nat) : Option Nat :=
  let x := s.fpOut i
  let num := rateNum (s.fpRate i)
  match x.epoch with
  | some e =>
    let base : Int := (e : Int) + x.ofs
    let from' := match x.last with
      | some l => max x.fixT (l + framePeriod num / 2)
      | none => x.fixT
    if num = 0 then none else some (base + (frameOfs num (firstK base num from') : Nat)).toNat
  | none => none

/-- The pulse of an aligned source fixes the epoch of an output that waits for it, and is the epoch of one on FP_IN (R320). -/
def State.fpSource (s : State) (i t : Nat) : State :=
  let x := s.fpOut i
  if x.since = none ∨ x.free then s
  else match x.epoch with
    | none => s.setFpOut i { x with epoch := some t, fixT := s.ttime }
    | some _ => s.setFpOut i (if s.fpAlign i = 0 then { x with flywheel := false } else { x with epoch := some t, flywheel := false })

/-- The pulse of the selected candidate, to the outputs that it aligns. -/
def State.fpSelected (s : State) : State :=
  let c := s.madder.sel
  match (s.cand c).pulse with
  | some t => s.forEach ((List.range 4).filter (fun i => s.fpOn i && decide (s.fpAlign i = 0) && s.pulseCompat c (s.fpRate i))) (fun s i => s.fpSource i t)
  | none => s

/-- A write of FP_CTRL (Table 13.13). -/
def State.fpCtrlWrite (s : State) (i : Nat) (v : Word) : State × Bool :=
  let old := s.reg (R.madderFpCtrl i)
  let num := rateNum (bits v 23 16)
  let bad := decide (bits v 25 24 = 3) || decide (bits v 15 0 = 0) || (bit v 31 && decide (num = 0))
    || (bit old 31 && decide (bits v 25 16 ≠ bits old 25 16))
    || (decide (num ≠ 0) && !phaseOk (sInt (s.reg (R.madderFpOffset i))) num)
  if bad then (s, false)
  else
    let s := s.setReg (R.madderFpCtrl i) (maskWrite old v 0xC3FFFFFF)
    if bit v 31 ∧ !bit old 31 then
      let s := s.setFpOut i { FpOut.reset with since := some s.ttime, ofs := sInt (s.reg (R.madderFpOffset i)) }
      (if bits v 25 24 = 0 then s.fpSelected else s, true)
    else if !bit v 31 then (s.setFpOut i FpOut.reset, true)
    else (s, true)

/-- A write of FP_OFFSET; it takes effect at the next pulse (R320). -/
def State.fpOffsetWrite (s : State) (i : Nat) (v : Word) : State × Bool :=
  let num := rateNum (s.fpRate i)
  if !phaseOk (sInt v) (if num = 0 then 24000 else num) then (s, false) else (s.setReg (R.madderFpOffset i) v, true)

/-- A pulse seen on FP_IN after its filter, referred to the contact and accepted within 1 µs of the prediction (R319); what its groups,
outputs and the STK candidate take from it (R114, R308, R320). -/
def State.fpPulse (s : State) (i seen : Nat) : State :=
  let t := seen - 80 * s.regBits (R.globalFilt 1) 6 0
  let x := s.fpIn i
  let ok := match x.last, x.prev with
    | some a, some b => decide (absI ((t : Int) - (2 * (a : Int) - (b : Int))) ≤ 1600)
    | _, _ => false
  let known := x.last.isSome && x.prev.isSome
  let s := s.modMadder (fun M => { M with fpIn := Tbl.set FpIn.reset M.fpIn i { last := some t, prev := x.last, accepted := ok } })
  let outs := (List.range 4).filter (fun j => s.fpOn j && decide (s.fpAlign j = i + 1))
  if ok then
    let s := s.forEach (outs.filter (fun j => chainOk (rateNum (s.fpRate j)) (s.fpPeriod i))) (fun s j => s.fpSource j t)
    let s := s.forEach ((List.range 16).filter (fun g => (s.group g).waiting.isSome && decide (s.groupSource g = i + 2) && s.sourceCompat g))
      (fun s g => s.fixEpoch g ((t : Int) + s.phaseOfs g) s.ttime false)
    if s.stkSrc = i + 1 then
      (s.modCand 8 (fun c => { c with phase := (t : Int) * 256, pulse := some t, good := some (t, 2 * s.fpPeriod i) })).goodSample 8
    else s
  else if known then
    s.forEach (outs.filter (fun j => (s.fpOut j).epoch.isSome && !(s.fpOut j).free)) (fun s j =>
      let y := s.fpOut j
      ((s.setFpOut j { y with epoch := some t, fixT := s.ttime, last := none, flywheel := false }).bump (R.madderFpRephaseCnt j)).raise 0x200C sevNotice kOther j)
  else s

/-- A pulse at FP_IN[i], seen after its filter at an instant. -/
def execFpInPulse (i seen held : Nat) (s : State) : Host.Outcome State Fault Refusal :=
  .next (if i < 2 ∧ s.filtered 1 held then (s.advance seen).fpPulse i seen else s)

/-- FP_OUT[i] emits its next pulse: instant, width, polarity. -/
def execFpOutPulse (i : Nat) (s : State) : Host.Outcome State Fault Refusal :=
  .next (match (if i < 4 then s.fpNext i else none) with
    | some t =>
      let s := s.advance t
      let w := s.reg (R.madderFpCtrl i)
      let s := s.emit "FP_OUT" i 0 [t, bits w 15 0, bits w 30 30]
      s.setFpOut i { s.fpOut i with last := some t, ofs := sInt (s.reg (R.madderFpOffset i)) }
    | none => s)

/-- No compatible pulse within 8 ticks of enable: free running from the next tick boundary (R320). -/
def execFpOutFree (i : Nat) (s : State) : Host.Outcome State Fault Refusal :=
  .next (let x := s.fpOut i
    match x.since, x.epoch with
    | some t, none =>
      let s := s.advance (ticksAfter t 8)
      let b := tickAfter s.ttime
      s.setFpOut i { x with epoch := some b, fixT := b, free := true }
    | _, _ => s)

/-- The source pulses of FP_OUT[i] are lost: it runs on TTIME (R320). -/
def execFlywheel (i : Nat) (s : State) : Host.Outcome State Fault Refusal :=
  .next (let x := s.fpOut i
    if x.epoch.isSome ∧ !x.free then
      let s := s.setFpOut i { x with flywheel := true }
      let a := s.fpAlign i
      if a = 0 then s else s.modMadder (fun M => { M with fpIn := Tbl.mod FpIn.reset M.fpIn (a - 1) (fun y => { y with accepted := false }) })
    else s)

/-! PTP (R307, R321). -/

/-- Three intervals of 2^i s in CLK_D cycles. -/
def threeIntervals (i : Int) : Nat := if 0 ≤ i then 3 * clkHz * 2 ^ i.toNat else 3 * clkHz / 2 ^ (-i).toNat

/-- The offset that a message of candidate c carries holds from now. -/
def State.takeOffset (s : State) (c : Nat) (o : Option (Int × Nat × Nat)) : State :=
  if o.isSome then s.modCand c (fun x => { x with ofs := o, ofsT := s.ttime }) else s

/-- A PTP message on the port and domain of candidate c. -/
def State.ptpMessage (s : State) (c : Nat) (p : PtpMsg) : State :=
  if !s.candOn c ∨ !s.ptpPortOk c ∨ p.domain ≠ s.regBits (R.madderCandCfg c) 14 8 ∨ !p.best then s
  else match p.kind with
    | 0 => s.modCand c (fun x => { x with announce := some (s.ttime, threeIntervals p.interval) })
    | 1 | 2 =>
      if p.interval < -7 ∨ 0 < p.interval then s
      else ((s.takeOffset c p.ofs).modCand c (fun x => { x with good := some (s.ttime, threeIntervals p.interval) })).goodSample c
    | 3 | 4 => s.takeOffset c p.ofs
    | _ => s

def execPtpMessage (c : Nat) (p : PtpMsg) (s : State) : Host.Outcome State Fault Refusal :=
  .next (if 4 ≤ c ∧ c < 8 then s.ptpMessage c p else s)

/-- The offset that PTP_OFS publishes (R321): no message carries one from the system master (log entry 31). -/
def State.ptpOffset (s : State) : Option (Int × Nat × Nat) :=
  let sel := s.madder.sel
  if 4 ≤ sel ∧ sel < 8 ∧ s.qualified sel then (s.cand sel).ofs
  else
    let b := [4, 5, 6, 7].foldl (fun b c => if s.qualified c && (decide (b = noCand) || decide (s.candRank c < s.candRank b)) then c else b) noCand
    if b ≠ noCand then (s.cand b).ofs else none

/-! Synthesisers (R324). -/

/-- A port whose lanes no synthesiser serves, or that tries again. -/
def execSynthShort (n : Nat) (s : State) : Host.Outcome State Fault Refusal :=
  .next (if n < 64 ∧ s.portPresent n then (if (s.port n).synWait then s.retryPort n else s.servePort n) else s)

/-! A tick boundary (R309, R310, R313, R316, R321, R322). -/

/-- The counts of one candidate's qualification. -/
def State.tickCand (s : State) (c : Nat) : State :=
  let x := s.cand c
  if !s.candOn c ∨ !x.active ∨ s.madder.st = mFault then s
  else
    let f := absI x.freq
    let sel := s.madder.sel
    let apart := sel < 9 ∧ c ≠ sel ∧ x.st = cdQualified ∧ s.qualified sel ∧ s.candRank c = s.candRank sel ∧ 10 * s.regBits R.madderPeer 9 0 < absI (x.freq - (s.cand sel).freq)
    let a := if apart then x.apartRun + 1 else 0
    if x.st = cdUnqualified ∨ x.st = cdQualifying then
      if f ≤ s.acceptLim c then s.setCand c { x with st := cdQualifying, qtime := x.qtime - 1 }
      else s.setCand c { x with st := cdUnqualified, qtime := s.acceptT c }
    else if x.st = cdQualified then s.setCand c { x with rejRun := if s.rejectLim c < f then x.rejRun + 1 else 0, apartRun := a }
    else s

/-- The ticks for which a disagreeing pair has been back within PEER. -/
def State.tickBack (s : State) : State :=
  match s.madder.disagree with
  | some (a, b, _) =>
    if absI ((s.cand a).freq - (s.cand b).freq) ≤ 10 * s.regBits R.madderPeer 9 0 then s.modMadder (fun M => { M with backRun := M.backRun + 1 })
    else s.modMadder (fun M => { M with backRun := 0 })
  | none => s

/-- The frequency word of CLK_D from this boundary. -/
def State.nextFcw (s : State) (loop : Option Int) : Int :=
  let M := s.madder
  let closed := match loop with
    | some x => clampI (-pullRange) pullRange x
    | none => M.fcw
  if M.st = mFreerun then 0
  else if M.st = mHoldover then M.hold
  else if M.st = mSoftloop then M.fcwNext.getD M.fcw
  else if M.st = mFault then (if (s.cand M.sel).active then closed else M.fcw)
  else match M.slope with
    | some x =>
      let base := if x.lost then (if M.histValid then meanWord M.hist else 0) else (s.cand M.sel).freq * ppbUnits
      clampI (-pullRange) pullRange (base + x.offset s.ttime)
    | none => closed

/-- Madder at a tick boundary. -/
def State.madderTick (s : State) (i : TickInfo) : State :=
  if s.madder.st = mStopped then s
  else
    let s := s.forEach i.cands State.takeSample
    let s := s.forEach (List.range 9) State.tickCand
    let s := s.tickBack
    let w := s.nextFcw i.loop
    let s := s.modMadder (fun M => { M with fcw := w, fcwNext := none, hist := if M.st = mLocked then (w :: M.hist).take 5760000 else M.hist })
    let sel := s.madder.sel
    let s := if s.madder.st = mSlew ∧ s.madder.slope = none then
        s.modMadder (fun M => { M with okTicks := if absI (s.refError sel) ≤ 20480 then M.okTicks + 1 else 0 })
      else s
    let s := if s.madder.st = mSoftloop then
        s.modMadder (fun M => { M with pdSeq := (M.pdSeq + 1) % 65536, pdCand := sel, pdValid := s.qualified sel,
                                       pdSample := if s.qualified sel then s.refError sel else M.pdSample })
      else s
    let s := s.slewOffsets s.ttime
    let s := s.modMadder (fun M => { M with ptpOfs := s.ptpOffset })
    s.fpSelected

end Sys2Proof.Machine
end

