-- ==== Sys2Proof/Machine/Bulk.lean ====
section
/-! DEFINITION. The bulk engines (R238 to R243): the ring and its doorbell, the checks of Table 9.9, the units of Table 9.8 and their placement, and how a job ends. -/

namespace Sys2Proof.Machine

/-! Memory as a bulk engine addresses it. -/

/-- Whether an address lies in the SRAM window of the control space (Table 23.1). -/
def inSramWindow (a : Nat) : Bool := decide (0x08000000 ≤ a ∧ a < 0x14000000)

/-- Bytes read at an address of CXL memory or of the SRAM window (R239). -/
def State.bulkRead (s : State) (a n : Nat) : List Byte :=
  if inSramWindow a then Memory.readBytes s.mem.sram (a - 0x08000000) n else Memory.readBytes s.mem.cxl a n

def State.bulkWrite (s : State) (a : Nat) (bs : List Byte) : State :=
  if inSramWindow a then s.sramPut (a - 0x08000000) bs else s.cxlPut a bs

def State.bulkWord (s : State) (a : Nat) : Nat := ofLeBytes (s.bulkRead a 4)

/-- Whether n bytes at an address lie in the memory population, or in the SRAM window. -/
def State.bulkIn (s : State) (a n : Nat) : Bool :=
  if inSramWindow a then decide (a + n ≤ 0x14000000) else decide (a + n ≤ popBytes s)

/-! Rings. -/

def State.ob (s : State) (j : Nat) : Ob := Tbl.get Ob.reset s.obs j
def State.setOb (s : State) (j : Nat) (x : Ob) : State := { s with obs := Tbl.set Ob.reset s.obs j x }
def State.obSize (s : State) (j : Nat) : Nat := (s.reg (R.ochreObRingSize j)).toNat
def State.obHead (s : State) (j : Nat) : Nat := (s.reg (R.ochreObHead j)).toNat
def State.obTail (s : State) (j : Nat) : Nat := (s.reg (R.ochreObTail j)).toNat
def State.obEnabled (s : State) (j : Nat) : Bool := bit (s.reg (R.ochreObCtrl j)) 31

/-- The entries counted from a head to a tail of a ring of N entries, bit 12 the wrap bit. -/
def ringCount (N h t : Nat) : Nat :=
  let h' := h % 4096 + (h / 4096 % 2) * N
  let t' := t % 4096 + (t / 4096 % 2) * N
  (t' + 2 * N - h') % (2 * N)

/-- The next index of a ring of N entries. -/
def ringNext (N h : Nat) : Nat := if h % 4096 + 1 < N then h + 1 else (1 - h / 4096 % 2) * 4096

/-- The address of the descriptor at HEAD, and its eight words. -/
def State.obDescAt (s : State) (j : Nat) : Nat := s.reg64 (R.ochreObRingBaseLo j) + 32 * (s.obHead j % 4096)
def State.obDesc (s : State) (j : Nat) : List Word := (List.range 8).map (fun i => word (s.bulkWord (s.obDescAt j + 4 * i)))

/-! Descriptors and chains (Tables 9.6 and 9.7). -/

/-- A buffer of a chain: its entry's address, its own address, its size. -/
structure ChainBuf where
  entry : Nat
  addr : Nat
  size : Nat
  deriving DecidableEq, Repr

/-- The chain at an address: its buffers up to LAST; none where LAST is not within the entries left or an entry lies outside. -/
def State.chain (s : State) : Nat → Nat → Option (List ChainBuf)
  | 0, _ => none
  | n + 1, a =>
    let w2 := s.bulkWord (a + 8)
    let w3 := s.bulkWord (a + 12)
    let b : ChainBuf := { entry := a, addr := s.bulkWord a + 2 ^ 32 * s.bulkWord (a + 4), size := w2 % 2 ^ 24 }
    if !s.bulkIn a 16 || !s.bulkIn b.addr b.size then none
    else if w3.testBit 31 then some [b]
    else (s.chain n (a + 16)).map (fun r => b :: r)

/-- The parts of a descriptor. -/
structure ObJob where
  irq : Bool
  flush : Bool
  start : Bool
  op : Nat
  fmt : FixFmt
  length : Nat
  srcAt : Nat
  dstAt : Nat
  reservedOk : Bool
  deriving DecidableEq, Repr

def obJob (ws : List Word) : ObJob :=
  let w (i : Nat) : Word := ws.getD i 0
  { irq := bit (w 0) 30, flush := bit (w 0) 29, start := bit (w 0) 28, op := bits (w 0) 27 24,
    fmt := { ratio := bits (w 0) 23 20, sampling := bits (w 0) 19 18, depth := bits (w 0) 17 16, width := bits (w 0) 13 0 },
    length := bits (w 1) 23 0, srcAt := join32 (w 2) (w 3), dstAt := join32 (w 4) (w 5),
    reservedOk := decide (bits (w 0) 31 31 = 0 ∧ bits (w 0) 15 14 = 0 ∧ bits (w 1) 31 24 = 0) }

/-- The fields of a descriptor are listed values in range (Table 9.6). -/
def ObJob.fieldsOk (d : ObJob) : Bool :=
  let f := d.fmt
  d.reservedOk && decide (1 ≤ d.op ∧ d.op ≤ 4)
    && (if d.op ≤ 2 then
          decide ((f.ratio = 2 ∨ f.ratio = 3 ∨ f.ratio = 4 ∨ f.ratio = 6 ∨ f.ratio = 8) ∧ f.sampling ≤ 2 ∧ f.depth ≤ 2
            ∧ 64 ≤ f.width ∧ f.width ≤ 16376 ∧ (f.sampling = 0 → f.width % 2 = 0))
        else decide (f.ratio = 0 ∧ f.sampling = 0 ∧ f.depth = 0 ∧ f.width = 0))

/-- The bytes that a chain's buffers hold together. -/
def chainSize (c : List ChainBuf) : Nat := (c.map ChainBuf.size).sum

/-- The first n bytes of a source chain. -/
def State.chainBytes (s : State) : List ChainBuf → Nat → List Byte
  | [], _ => []
  | b :: bs, n => s.bulkRead b.addr (min b.size n) ++ s.chainBytes bs (n - min b.size n)

/-- Rows 3 and 4 of Table 9.9: the status of a job refused, else its chains. -/
def State.obCheck (s : State) (j : Nat) (d : ObJob) : Except Nat (List ChainBuf × List ChainBuf) :=
  if !d.fieldsOk || decide (d.srcAt % 16 ≠ 0 ∨ d.dstAt % 16 ≠ 0) then .error stRange
  else match s.chain 4096 d.srcAt, s.chain 4096 d.dstAt with
    | some src, some dst =>
      if chainSize src < d.length then .error stRange
      else match (s.ob j).stream with
        | none => if d.start then .ok (src, dst) else .error stRange
        | some x => if d.start then .error stBusy else if x.op = d.op ∧ x.fmt = d.fmt then .ok (src, dst) else .error stRange
    | _, _ => .error stRange

/-! The next unit of a stream (Table 9.8). -/

/-- A part of the raw bytes of a line as groups, a last part of a pixel padded with zeros. -/
def FixFmt.groups (f : FixFmt) (bs : List Byte) : List (List Byte) :=
  (chunks f.groupBytes (ceilDiv bs.length f.groupBytes) bs).map (fun g => g ++ List.replicate (f.groupBytes - g.length) 0)

def FixFmt.lineBytes (f : FixFmt) : Nat := f.lineGroups * f.groupBytes

/-- Block k of a pair from the raw bytes of its two lines; a line that gives it no pixel repeats the pixel given as the last. -/
def FixFmt.blockOf (f : FixFmt) (k : Nat) (l0 l1 : List Byte) : List Byte :=
  let n := f.blockGroups * f.groupBytes
  let g0 := f.groups ((l0.drop (k * n)).take n)
  let own := f.groups ((l1.drop (k * n)).take n)
  let g1 := if own = [] then (f.groups l1).getLast?.toList else own
  f.encodeBlock (f.blockComps (f.fillLine f.blockGroups g0) (f.fillLine f.blockGroups g1))

/-- A block of the current pair placed. -/
def ObStream.putBlock (x : ObStream) (l0 l1 : List Byte) : List Byte × ObStream :=
  let n := x.fmt.blockGroups * x.fmt.groupBytes
  let b := x.fmt.blockOf x.placed l0 l1
  let used (l : List Byte) : Nat := ((l.drop (x.placed * n)).take n).length
  (b, { x with placed := x.placed + 1, body := x.body ++ b, coded := x.coded + used l0 + used l1 })

/-- The trailer of the current pair placed. -/
def ObStream.putTrailer (x : ObStream) (odd short : Bool) : List Byte × ObStream :=
  (trailer x.body x.pair odd short 0,
    { x with buf := x.buf.drop (2 * x.fmt.lineBytes), pair := x.pair + 1, placed := 0, body := [] })

/-- The next unit of a fixed encode: a block whose pixels are all there, the trailer of a whole pair; at FLUSH also the unfinished
blocks filled, and the trailer of a short pair. -/
def ObStream.fixedEncode (x : ObStream) (flush : Bool) : Option (List Byte × ObStream) :=
  let L := x.fmt.lineBytes
  let K := x.fmt.pairBlocks
  let n := x.fmt.blockGroups * x.fmt.groupBytes
  let have_ := x.buf.length
  let l0 := x.buf.take L
  let l1 := (x.buf.drop L).take L
  if 2 * L ≤ have_ ∧ x.placed = K then some (x.putTrailer false false)
  else if L + min ((x.placed + 1) * n) L ≤ have_ ∧ x.placed < K then some (x.putBlock l0 l1)
  else if !flush || x.buf.isEmpty then none
  else
    let odd := decide (have_ ≤ L)
    let nb := if odd then ceilDiv have_ n else K
    if x.placed < nb then
      let (b, y) := x.putBlock l0 (if odd then l0 else l1)
      some (b, if odd then { y with coded := x.coded + (y.coded - x.coded) / 2 } else y)
    else some (x.putTrailer odd (decide (nb < K)))

/-- The next unit of a fixed decode: a pair, at FLUSH also a short one (R232, R241). An error is CHECK_FAIL. -/
def ObStream.fixedDecode (x : ObStream) (flush : Bool) : Except Unit (Option (List Byte × ObStream)) :=
  let P := x.fmt.pairLen
  let take_ (n : Nat) : Except Unit (Option (List Byte × ObStream)) :=
    let p := x.buf.take n
    if x.fmt.pairCause p (x.pair % 4096) none ≠ 0 then .error ()
    else .ok (some (x.fmt.decodePair p, { x with buf := x.buf.drop n, pair := x.pair + 1, coded := x.coded + n }))
  let n := x.buf.length
  if P ≤ n then take_ P
  else if !flush || decide (n = 0) then .ok none
  else
    let t := ofLeBytes ((x.buf.drop (n - 8)).take 4)
    if n < 8 + x.fmt.budget * 8 ∨ n % (x.fmt.budget * 8) ≠ 8 % (x.fmt.budget * 8) ∨ !(t.testBit 14 || t.testBit 13) then .error ()
    else take_ n

/-- The next unit of a lossless encode: the header at START, then blocks of 128 input bytes, at FLUSH a short one. -/
def ObStream.losslessEncode (x : ObStream) (flush : Bool) : Option (List Byte × ObStream) :=
  if x.hdr.isNone then some (leBytes 4 0x314C434F ++ List.replicate 12 0, { x with hdr := some (0, 0) })
  else
    let n := min 128 x.buf.length
    if n = 0 ∨ (n < 128 ∧ !flush) then none
    else
      let p := x.buf.take n
      some (codeLossless p, { x with buf := x.buf.drop n, coded := x.coded + n, crc := crcBytes x.crc p, outLen := x.outLen + n })

/-- The next unit of a lossless decode: the header is read and gives no output; then the expansion of each block. -/
def ObStream.losslessDecode (x : ObStream) (flush : Bool) : Except Unit (Option (List Byte × ObStream)) :=
  match x.hdr with
  | none =>
    if x.buf.length < 16 then (if flush then .error () else .ok none)
    else
      let w (i : Nat) : Nat := ofLeBytes ((x.buf.drop (4 * i)).take 4)
      if w 0 ≠ 0x314C434F ∨ w 3 ≠ 0 then .error ()
      else .ok (some ([], { x with buf := x.buf.drop 16, coded := x.coded + 16, hdr := some (w 1, w 2) }))
  | some (len, chk) =>
    match readLossless x.buf with
    | .error _ => .error ()
    | .ok none =>
      if !flush then .ok none
      else if x.buf ≠ [] ∨ x.outLen ≠ len ∨ x.crc ^^^ 0xFFFFFFFF ≠ chk then .error ()
      else .ok none
    | .ok (some (e, n)) =>
      if len < x.outLen + e.length then .error ()
      else .ok (some (e, { x with buf := x.buf.drop n, coded := x.coded + n, crc := crcBytes x.crc e, outLen := x.outLen + e.length }))

def ObStream.nextUnit (x : ObStream) (flush : Bool) : Except Unit (Option (List Byte × ObStream)) :=
  match x.op with
  | 1 => .ok (x.fixedEncode flush)
  | 2 => x.fixedDecode flush
  | 3 => .ok (x.losslessEncode flush)
  | _ => x.losslessDecode flush

/-! Placement (R242). -/

/-- A destination being filled: the buffers closed with what each holds, the one being filled with what it holds, those to come. -/
structure Dest where
  closed : List (ChainBuf × Nat) := []
  used : Nat := 0
  rest : List ChainBuf
  produced : Nat := 0
  deriving DecidableEq, Repr

/-- The place for a unit of n bytes: in the first buffer from here on that holds it whole. -/
def Dest.room (n : Nat) : List ChainBuf → List (ChainBuf × Nat) → Nat → Nat → Option (Nat × Dest)
  | [], _, _, _ => none
  | b :: bs, closed, used, produced =>
    if used + n ≤ b.size then some (b.addr + used, { closed := closed, used := used + n, rest := b :: bs, produced := produced + n })
    else Dest.room n bs (closed ++ [(b, used)]) 0 produced

/-- What USED holds at the end for each buffer: 0 for buffers not reached (Table 9.7). -/
def Dest.usedOf (d : Dest) : List (ChainBuf × Nat) :=
  d.closed ++ (match d.rest with | [] => [] | b :: bs => (b, d.used) :: bs.map (fun b => (b, 0)))

/-! Running a job. -/

/-- How a run stops: all coded, the next unit fits no buffer, a failed check, the limit of units reached. -/
inductive ObStop where
  | all | overrun | checkFail | limit
  deriving DecidableEq, Repr

/-- Units made and placed one after another, at most as many as given. -/
def State.obUnits : Nat → Bool → State → ObStream → Dest → State × ObStream × Dest × ObStop
  | 0, _, s, x, d => (s, x, d, .limit)
  | n + 1, flush, s, x, d =>
    match x.nextUnit flush with
    | .error _ => (s, x, d, .checkFail)
    | .ok none => (s, x, d, .all)
    | .ok (some (u, y)) =>
      if u = [] then State.obUnits n flush s y d
      else match Dest.room u.length d.rest d.closed d.used d.produced with
        | none => (s, x, d, .overrun)
        | some (a, d') =>
          let y := if x.op = 3 ∧ x.hdr.isNone then { y with hdrAt := some a } else y
          State.obUnits n flush (s.bulkWrite a u) y d'

/-- A job ends (R239, R243): result words, USED, HEAD, counters, event and signal; the stream it leaves. -/
def State.obEnd (s : State) (j status consumed produced : Nat) (used : List (ChainBuf × Nat)) (stream : Option ObStream) : State :=
  let ring := s.obHead j
  let ws := s.obDesc j
  let at_ := s.obDescAt j
  let ctrl := s.reg (R.ochreObCtrl j)
  let s := used.foldl (fun (s : State) (p : ChainBuf × Nat) =>
    let w := s.bulkWord (p.1.entry + 12)
    s.bulkWrite (p.1.entry + 12) (leBytes 4 (w - w % 2 ^ 24 + p.2 % 2 ^ 24))) s
  let s := s.bulkWrite (at_ + 24) (leBytes 4 (status * 2 ^ 24 + consumed % 2 ^ 24) ++ leBytes 4 produced)
  let s := s.setOb j { started := none, stream := stream, last := status }
  let s := (s.setRegN (R.ochreObHead j) (ringNext (s.obSize j) ring)).bump (R.ochreObJobCnt j)
  let s := if status = stOk then s
    else (s.bump (R.ochreObJobErrCnt j)).raise 0x4078 sevWarn kOther j j (ring % 4096)
  if (obJob ws).irq || bit ctrl 8 then s.msix (bits ctrl 21 16) else s

/-- The next posted jobs are taken up: those that a row of Table 9.9 ends at once, then one that runs. -/
def State.obNext (j : Nat) : Nat → State → State
  | 0, s => s
  | n + 1, s =>
    if !s.obEnabled j || (s.ob j).started.isSome || decide (ringCount (s.obSize j) (s.obHead j) (s.obTail j) = 0) then s
    else
      let d := obJob (s.obDesc j)
      let keep := (s.ob j).stream
      if !s.obPresent j then State.obNext j n (s.obEnd j stAbsent 0 0 [] keep)
      else if d.length = 0 then State.obNext j n (s.obEnd j stOk 0 0 [] keep)
      else match s.obCheck j d with
        | .error e => State.obNext j n (s.obEnd j e 0 0 [] keep)
        | .ok _ => s.setOb j { s.ob j with started := some s.ttime }

def State.obServe (s : State) (j : Nat) : State := State.obNext j 4097 s

/-- The running job of engine j worked for at most `limit` units, ending with `late` where the limit stops it (R243). -/
def State.obRun (s : State) (j limit late : Nat) : State :=
  let d := obJob (s.obDesc j)
  match s.obCheck j d with
  | .error e => (s.obEnd j e 0 0 [] (s.ob j).stream).obServe j
  | .ok (src, dst) =>
    let fresh : ObStream := { op := d.op, fmt := d.fmt }
    let x := if d.start then fresh else (s.ob j).stream.getD fresh
    let before := x.total
    let x := { x with buf := x.buf ++ s.chainBytes src d.length, total := x.total + d.length }
    let (s, y, dest, stop) := State.obUnits limit d.flush s x { rest := dst }
    let consumed := y.coded - before
    let r := match stop with
      | .all =>
        let s := if d.flush ∧ y.op = 3 then
            (match y.hdrAt with
             | some a => s.bulkWrite (a + 4) (leBytes 4 y.outLen ++ leBytes 4 (y.crc ^^^ 0xFFFFFFFF))
             | none => s)
          else s
        s.obEnd j stOk consumed dest.produced dest.usedOf (if d.flush then none else some y)
      | .overrun =>
        let keepTo := max y.coded before
        let y := { y with buf := y.buf.take (y.buf.length - (y.total - keepTo)), total := keepTo }
        s.obEnd j stOverrun consumed dest.produced dest.usedOf (some y)
      | .checkFail => s.obEnd j stCheckFail consumed dest.produced dest.usedOf none
      | .limit => s.obEnd j late consumed dest.produced dest.usedOf none
    r.obServe j

/-- More units than any job makes: each takes at least one byte of input, or is a trailer or a header. -/
def obAllUnits : Nat := 2 ^ 25

/-- A job of the given OP finishes. -/
def State.obFinish (s : State) (j op : Nat) : State :=
  if (s.ob j).started.isSome ∧ (obJob (s.obDesc j)).op = op then s.obRun j obAllUnits stTimeout else s

/-- A bulk job codes raw pictures at a fixed ratio. -/
def execObFixedEncode (j : Nat) (s : State) : Host.Outcome State Fault Refusal := .next (s.obFinish j 1)
def execObFixedDecode (j : Nat) (s : State) : Host.Outcome State Fault Refusal := .next (s.obFinish j 2)
def execObLosslessEncode (j : Nat) (s : State) : Host.Outcome State Fault Refusal := .next (s.obFinish j 3)
def execObLosslessDecode (j : Nat) (s : State) : Host.Outcome State Fault Refusal := .next (s.obFinish j 4)

/-- JOB_TIMEOUT ticks after its start the job of engine j ends with the units placed until then. -/
def execObJobTimeout (j units : Nat) (s : State) : Host.Outcome State Fault Refusal :=
  .next (match (s.ob j).started with
    | some t => (s.advance (ticksAfter t (s.reg (R.ochreObJobTimeout j)).toNat)).obRun j units stTimeout
    | none => s)

/-- A CXL error ends the running job of engine j with the units placed until then (Table 9.9). -/
def State.obAbort (s : State) (j units : Nat) : State :=
  if (s.ob j).started.isSome then s.obRun j units stAborted else s

/-! Register writes (R238, R239). -/

/-- The masters that are the management firmware (Table 19.1). -/
def isFirmware (m : Nat) : Bool := decide (m < 4)

/-- Whether a master may write the registers of an engine: OB6 and OB7 are the firmware's. -/
def obMayWrite (m j : Nat) : Bool := decide (j < 6) || isFirmware m

/-- A write of OB[j].TAIL. -/
def State.obTailWrite (s : State) (m j : Nat) (v : Word) : State × Bool :=
  let N := s.obSize j
  let t := v.toNat % 8192
  if !obMayWrite m j || decide (N ≤ t % 4096) || decide (N < ringCount N (s.obHead j) t) then (s, false)
  else ((s.setRegN (R.ochreObTail j) t).obServe j, true)

/-- A write of OB[j].TAIL posts jobs. -/
def execObTailDoorbell (m j : Nat) (v : Word) (s : State) : Host.Outcome State Fault Refusal :=
  .next (if s.obPresent j then s.regWriteBy m (R.ochreObTail j) (s.obTailWrite m j v) else s)

/-- A write of OB[j].CTRL: ENABLE cleared only while no job runs; set, the posted jobs are taken up. -/
def State.obCtrlWrite (s : State) (m j : Nat) (v : Word) : State × Bool :=
  let on := s.obEnabled j
  if !obMayWrite m j || (on && !bit v 31 && (s.ob j).started.isSome) then (s, false)
  else ((s.setReg (R.ochreObCtrl j) (maskWrite 0 v 0x803F0100)).obServe j, true)

end Sys2Proof.Machine
end

