-- ==== Sys2Proof/Machine/Nv.lean ====
section
/-! DEFINITION. Saffron (chapter 18): pages and pieces, the gather buffer, records, block protection, the fault log, replay. -/

namespace Sys2Proof.Machine

/-! Shared: bytes in registers, random bytes, signed owner messages. -/

/-- n bytes of the on-die random source: free values (log entry 3). -/
def State.randomBytes (s : State) (place : Nat) : Nat → List Byte × State
  | 0 => ([], s)
  | n + 1 =>
    let (v, s) := s.freeNat place
    let (bs, s) := State.randomBytes s place n
    (BitVec.ofNat 8 v :: bs, s)

def leOf (bs : List Byte) (a n : Nat) : Nat := ofLeBytes ((bs.drop a).take n)

/-- The masters that may write WOAD and SAFFRON: the management firmware and the PCIe host (R384, R424). -/
def vaultMaster (m : Nat) : Bool := decide (m < 4 ∨ m = 8)

def State.slot (s : State) (i : Nat) : Slot17 := Tbl.get Slot17.reset s.woad.slots i
def Slot17.type (x : Slot17) : Nat := bits x.attr 31 29

/-- The checks of an owner-signed message of 160 bytes in the layout of Table 17.9: its tag, serial, challenge, the word at 0x30, reserved
fields, and its signature under UNLOCK_SLOT, or under PUBKEY by a fuse root key (R398 step 3). -/
def State.ownerMessageOk (s : State) (msg : List Byte) (tag : Nat) (chal : List Byte) (w30 : Nat) : Bool :=
  let flags := leOf msg 0x34 4
  let pub := (msg.drop 0x40).take 32
  let sig := (msg.drop 0x60).take 64
  let digest := Config.sha512 (msg.take 0x60)
  let x := s.slot (s.regBits R.tamperUnlockSlot 7 0)
  let fuse := flags.testBit 0 || decide (x.attr = 0)
  let key := fieldOf flags 3 2
  decide (leOf msg 0 4 = tag ∧ leOf msg 4 4 = 1 ∧ leOf msg 8 8 = Config.serial % 2 ^ 64 ∧ (msg.drop 0x10).take 32 = chal
      ∧ leOf msg 0x30 4 = w30 ∧ leOf msg 0x38 8 = 0)
    && decide (flags &&& 0xFFFFFFF2 = 0)
    && (if fuse then
          decide (Config.sha512 pub = Config.rootKeyHash key) && !s.boot.revoked.testBit key && Config.ed25519Verify pub digest sig
        else
          decide (leOf msg 0x40 32 = 0) && decide (x.type = 3) && bit x.attr 20 && !bit x.attr 27 && Config.ed25519Verify x.pub digest sig)

/-! Pages (R404 to R409). -/

def State.setSaff (s : State) (x : Saffron) : State := { s with saff := x }
def State.modSaff (s : State) (f : Saffron → Saffron) : State := s.setSaff (f s.saff)

/-- The committed bytes of a logical page. -/
def State.nvPage (s : State) (p : Nat) : List Byte := Memory.readBytes s.mem.nv (256 * p) 256

/-- The physical page of a logical page. -/
def Saffron.phys (x : Saffron) (p : Nat) : Nat := let q := Tbl.get 0 x.map p; if q = 0 then p else q - 1
def Saffron.worn (x : Saffron) (q : Nat) : Nat := Tbl.get 0 x.wear q

/-- Writes a physical page endures (R406). -/
def nvEndurance : Nat := 1000000

/-- The least-worn page of a pool, or the most worn. -/
def Saffron.least (x : Saffron) : List Nat → Option Nat
  | [] => none
  | q :: qs => match x.least qs with | some r => some (if x.worn r < x.worn q then r else q) | none => some q
def Saffron.most (x : Saffron) : List Nat → Option Nat
  | [] => none
  | q :: qs => match x.most qs with | some r => some (if x.worn q < x.worn r then r else q) | none => some q

/-- The events of a shrinking spare pool (R406). -/
def State.nvSpareCheck (s : State) : State :=
  let n := s.saff.spares.length
  let s := if n < 32 ∧ !s.saff.wearNoted then (s.modSaff (fun x => { x with wearNoted := true })).raise 0x7007 sevWarn kOther 0 n else s
  if n < 24 ∧ !s.saff.spareNoted then (s.modSaff (fun x => { x with spareNoted := true })).raise 0x7008 sevError kOther 0 n else s

/-- A page image written to a spare page and mapped there; `bad` programs fail first, and their pages are retired (R406, R409). The page
it supersedes is given back, or retired at its endurance. -/
def State.nvWritePage (s : State) (worn : Bool) (p : Nat) (img : List Byte) (bad : Nat) : State :=
  let x := s.saff
  let fails := (List.range bad).foldl (fun (x : Saffron) _ =>
    match x.least x.spares with
    | some q => { x with spares := x.spares.filter (fun r => decide (r ≠ q)), retired := x.retired + 1 }
    | none => x) x
  match if worn then fails.most fails.spares else fails.least fails.spares with
  | none => s.setSaff fails
  | some q =>
    let old := fails.phys p
    let x := { fails with wear := Tbl.set 0 fails.wear q (fails.worn q + 1), map := Tbl.set 0 fails.map p (q + 1),
                          spares := fails.spares.filter (fun r => decide (r ≠ q)),
                          bad := fails.bad.filter (fun b => decide (b / 4 ≠ p)) }
    let x := if x.worn old < nvEndurance then { x with spares := x.spares ++ [old] } else { x with retired := x.retired + 1 }
    let s := ((s.setSaff x).nvPut (256 * p) (img.take 256)).bump R.saffronPageWriteCnt
    (s.setCtr R.saffronRetiredCnt x.retired).nvSpareCheck

/-- The piece limit: 16 page images, or fewer where spares are short (R406). -/
def State.pieceLimit (s : State) : Nat := let n := s.saff.spares.length; if n < 18 then min 16 (n - 2) else 16

/-- The gather buffer as a piece, emptied; none where nothing is gathered. -/
def State.gatherPiece (s : State) : Option Piece × State :=
  if s.saff.images = [] then (none, s) else (some { pages := s.saff.images }, s.modSaff (fun x => { x with images := [] }))

/-- A piece posted to be committed. -/
def State.postPiece (s : State) (p : Piece) : State := s.modSaff (fun x => { x with pieces := x.pieces ++ [p] })

/-- The gather buffer committed: its piece posted (R408). -/
def State.postGather (s : State) : State :=
  match s.gatherPiece with
  | (some p, s) => s.postPiece p
  | (none, s) => s

/-! Records (R413 to R416). -/

/-- The home of a record: the pages of copies A and B, how many, the most payload bytes, whether it is sealed, whether it commits DUAL,
whether it is mirrored (Table 18.4). -/
structure Home where
  a : Nat
  b : Nat
  n : Nat := 1
  max : Nat
  sealed : Bool := false
  dual : Bool := false
  mirrored : Bool := false
  deriving DecidableEq, Repr

def recordHome (t i : Nat) : Option Home :=
  if 0x20 ≠ t ∧ i ≠ 0 then none
  else if 1 ≤ t ∧ t ≤ 3 then some { a := 2 * (t - 1), b := 2 * (t - 1) + 1, max := 16 }
  else if t = 4 then some { a := 1000, b := 1012, n := 12, max := 3056 }
  else if t = 0x13 then some { a := 704, b := 712, n := 8, max := 2012, sealed := true, mirrored := true }
  else if 0x10 ≤ t ∧ t ≤ 0x16 then some { a := 8 + 8 * (t - 0x10), b := 12 + 8 * (t - 0x10), n := 4, max := 988, sealed := true, mirrored := true }
  else if t = 0x20 ∧ 1 ≤ i ∧ i ≤ 255 then some { a := 62 + 2 * i, b := 63 + 2 * i, max := 192, dual := true }
  else if 0x100 ≤ t ∧ t ≤ 0x13F then some { a := 576 + 2 * (t - 0x100), b := 577 + 2 * (t - 0x100), max := 240, mirrored := true }
  else none

/-- A copy as read: its sequence number and payload (decrypted). -/
structure RecCopy where
  seq : Nat
  payload : List Byte
  deriving DecidableEq, Repr

/-- The nonce of a sealed copy: TYPE, INDEX, SEQ and the copy bit (R414). -/
def sealNonce (t i seq : Nat) (b : Bool) : List Byte := leBytes 2 t ++ leBytes 2 i ++ leBytes 4 seq ++ [BitVec.ofNat 8 b.toNat]

/-- The sealing key in use: the key of BIND_SEAL, or the device KEK (R414). -/
def State.sealingKey (s : State) : List Byte := if s.saff.sealKey = [] then Config.deviceKek else s.saff.sealKey

/-- The check value of an AES-256 key: the first three bytes of the encryption of 16 zero bytes (R387). -/
def aesKcv (key : List Byte) : List Byte := (Config.aes256 key (List.replicate 16 0)).take 3

/-- A sealed payload opened under the current key or the previous one still kept (R414). -/
def State.unseal (s : State) (t i seq : Nat) (b : Bool) (cipher tag : List Byte) : Option (List Byte) :=
  let try_ (k : List Byte) := Config.gcmOpen k (sealNonce t i seq b) (cipher ++ tag)
  match try_ s.sealingKey with
  | some p => some p
  | none => s.saff.prevSeal.bind (fun k => try_ (if k = [] then Config.deviceKek else k))

/-- One copy of a record, none where it is invalid (R413). -/
def State.recCopy (s : State) (t i : Nat) (h : Home) (b : Bool) : Option RecCopy :=
  let page := if b then h.b else h.a
  let base := 256 * page
  let nv := s.mem.nv
  let len := Memory.readLe nv (base + 4) 2
  let seq := Memory.readLe nv (base + 8) 4
  let stored := Memory.readBytes nv (base + 16) len
  let trail := if h.sealed then Memory.readBytes nv (base + 16 + len) 20 else []
  let total := 16 + len + trail.length
  let ok := decide (Memory.readLe nv base 2 = t ∧ Memory.readLe nv (base + 2) 2 = i ∧ len ≤ h.max ∧ seq ≠ 0 ∧ seq ≠ 0xFFFFFFFF)
    && decide (word (crc32c (Memory.readBytes nv base 12 ++ stored ++ trail)) = word (Memory.readLe nv (base + 12) 4))
    && !s.saff.bad.any (fun k => decide (base ≤ 64 * k + 63 ∧ 64 * k < base + total))
  if !ok then none
  else if h.sealed then (s.unseal t i seq b stored (trail.drop 4)).map (fun p => { seq := seq, payload := p })
  else some { seq := seq, payload := stored }

/-- The copy a reader uses: 1 A, 2 B, 0 none (R415), with the events it raises. -/
def State.selectRecord (s : State) (t i : Nat) : Nat × List Byte × Nat × State :=
  match recordHome t i with
  | none => (0, [], 0, s)
  | some h =>
    let a := s.recCopy t i h false
    let b := s.recCopy t i h true
    let miss := (if a.isNone then 1 else 0) + (if b.isNone then 1 else 0)
    let blank (page : Nat) : Bool := (s.nvPage page).all (fun x => decide (x = 0))
    -- a home that was never written is absent, and no copy of it is invalid (DEDUCED, log entry 23)
    let fresh := blank h.a && blank h.b
    let s := if fresh ∨ miss = 0 then s else (s.bumpBy R.saffronCopyInvalidCnt miss).raise 0x7002 sevNotice kOther 0 t i miss
    match a, b with
    | some x, some y =>
      if y.seq < x.seq then (1, x.payload, x.seq, s)
      else if x.seq < y.seq then (2, y.payload, y.seq, s)
      else if x.payload = y.payload then (1, x.payload, x.seq, s)
      else (1, x.payload, x.seq,
        ((s.bump R.saffronTieCnt).modSaff (fun z => { z with ties := if z.ties.contains (t, i) then z.ties else (t, i) :: z.ties })).raise 0x7001 sevWarn kOther 0 t i)
    | some x, none => (1, x.payload, x.seq, s)
    | none, some y => (2, y.payload, y.seq, s)
    | none, none =>
      if fresh ∨ s.saff.lost.contains (t, i) then (0, [], 0, s)
      else (0, [], 0, (s.modSaff (fun z => { z with lost := (t, i) :: z.lost })).raise 0x7003 sevError kOther 0 t i)

/-- The pages of a copy of a record with its header, payload and trailer (Table 18.4a). -/
def State.copyPages (s : State) (t i : Nat) (h : Home) (b : Bool) (seq : Nat) (payload : List Byte) : List (Nat × List Byte) :=
  let k := s.sealingKey
  let box := Config.gcmSeal k (sealNonce t i seq b) payload
  let n := payload.length
  let stored := if h.sealed then (box.take n ++ List.replicate (n - box.length) 0) else payload
  let tag := ((box.drop n) ++ List.replicate 16 0).take 16
  let trail := if h.sealed then aesKcv k ++ List.replicate (4 - (aesKcv k).length) 0 ++ tag else []
  let head := leBytes 2 t ++ leBytes 2 i ++ leBytes 2 n ++ [BitVec.ofNat 8 (h.sealed.toNat + 2 * b.toNat), 0] ++ leBytes 4 seq
  let copy := head ++ leBytes 4 (crc32c (head ++ stored ++ trail)) ++ stored ++ trail
  let page := if b then h.b else h.a
  (List.range (ceilDiv copy.length 256)).map (fun j =>
    let part := (copy.drop (256 * j)).take 256
    (page + j, part ++ (s.nvPage (page + j)).drop part.length))

/-- The highest valid sequence number of a record, and the copy in use (R416). -/
def State.recordSeq (s : State) (t i : Nat) (h : Home) : Nat × Nat :=
  let a := s.recCopy t i h false
  let b := s.recCopy t i h true
  let top := max ((a.map RecCopy.seq).getD 0) ((b.map RecCopy.seq).getD 0)
  (top, match a, b with
    | some x, some y => if x.seq < y.seq then 2 else 1
    | some _, none => 1
    | none, some _ => 2
    | none, none => 0)

/-- A record commit of one copy: the copy joins the gather buffer, and the piece is posted; where it would pass the piece limit the
gather buffer goes first in a piece of its own (R408, R416). -/
def State.postRecord (s : State) (pages : List (Nat × List Byte)) (fin : PieceEnd) : State :=
  if s.saff.images.length + pages.length ≤ s.pieceLimit then
    let g := s.saff.images
    (s.modSaff (fun x => { x with images := [] })).postPiece { pages := g ++ pages, fin := fin }
  else s.postGather.postPiece { pages := pages, fin := fin }

/-- An ALT record commit (R416). -/
def State.postAlt (s : State) (t i : Nat) (payload : List Byte) : State :=
  match recordHome t i with
  | none => s
  | some h =>
    let (top, used) := s.recordSeq t i h
    let toB := s.saff.ties.contains (t, i) || decide (used = 1)
    s.postRecord (s.copyPages t i h toB (top + 1) payload) (.record t i toB)

/-! The gather buffer (R407, R408). -/

/-- The pages BP protects (Table 18.3). -/
def bpProtects (bp p : Nat) : Bool := match bp with | 0 => false | 1 => decide (1536 ≤ p) | 2 => decide (1024 ≤ p) | _ => true

/-- STATUS.STATE (Table 18.7). -/
def State.nvState (s : State) : Nat :=
  if s.tamperLock then 5 else if s.saff.state = 1 ∧ s.saff.pieces ≠ [] then 2 else s.saff.state

/-- Whether the SAFFRON block accepts a master's write: firmware and host only, not in TAMPER_LOCK, not from the 2 ms mark (R420,
R421, R424), not before replay is done (R419). -/
def State.nvMayWrite (s : State) (m : Nat) : Bool := vaultMaster m && !s.tamperLock && decide (s.saff.state = 1)

end Sys2Proof.Machine
end

