-- ==== Sys2Proof/Machine/Saffron.lean ====
section
/-! DEFINITION. The commands of Saffron (chapter 18): pieces landing, raw writes and reads, host records, block protection, scrub, wear levelling, the fault log, replay, reseal. -/

namespace Sys2Proof.Machine

/-! A piece lands (R409). -/

/-- The key of an AES-256 slot for sealing: empty names the device KEK (R414). -/
def State.bindSealKey (s : State) : List Byte :=
  let n := s.regBits R.woadBindSeal 7 0
  let x := s.slot n
  if n ≠ 0 ∧ x.type = 1 ∧ bit x.attr 19 then x.key else []

/-- The sealing key changes: the previous one is kept until every sealed record is recommitted (R414). -/
def State.sealKeyChange (s : State) : State :=
  let k := s.bindSealKey
  if k = s.saff.sealKey then s else s.modSaff (fun x => { x with prevSeal := some x.sealKey, sealKey := k })

/-- The end of a Woad command (R384). -/
def State.woadDone (s : State) (status kcv : Nat) : State :=
  let s := (s.setRegN R.woadCmdResult (status * 2 ^ 24 + kcv)).bump R.woadCmdCnt
  let s := if status = stOk then s else s.bump R.woadCmdErrCnt
  s.setRegBytes (R.woadKeyIn 0) 18 []

/-- A committed key on its way to the engines that name its slot (R338, R390): the cipher links' key, the key exchange of a port. -/
def State.keyNext (s : State) (i : Nat) (key : List Byte) : State :=
  let s := if s.regBits R.woadBindRsl 7 0 = i then { s with woad := { s.woad with rslKey := key } } else s
  s.forEach (List.range 4) (fun s x =>
    if (Tbl.get CxPort.reset s.cx x).ide ∧ s.regBits (R.cxlPortCtrl x) 7 0 = i then
      { s with woad := { s.woad with ideNext := Tbl.set [] s.woad.ideNext x key } }
    else s)

/-- A twin-shareable slot as it leaves on the twin link: its attributes and check value, its key wrapped with the twin key, its public key
(Table 12.3). -/
def State.twinKeyArgs (s : State) (i : Nat) (y : Slot17) : List Nat :=
  [i, y.attr.toNat, y.kcv] ++ ((if y.key = [] then [] else Config.aesWrap (s.slot (s.regBits R.twinCtrl 15 8)).key y.key) ++ y.pub).map BitVec.toNat

/-- A new MACsec association in the next association number; receive accepts the one before too, until the first packet under the new one
(Table 17.5). -/
def State.macNext (s : State) (i : Nat) (attr : Word) : State :=
  if bit attr 16 then { s with woad := { s.woad with macAn := Tbl.set (0, false) s.woad.macAn i (((Tbl.get (0, false) s.woad.macAn i).1 + 1) % 4, true) } }
  else s

/-- The slot takes what its record commit holds, engines and the twin are told (R388, R390); an erased key of a twin-shareable slot is erased on the
twin too. -/
def State.woadInstall (s : State) (x : WoadOp) : State :=
  let old := s.slot x.slot
  let s := { s with woad := { s.woad with slots := Tbl.set Slot17.reset s.woad.slots x.slot x.new, op := none,
                                          shadow := if x.op = 3 then none else s.woad.shadow } }
  match x.op with
  | 3 =>
    let s := ((s.raise 0x6002 sevNotice kOther x.slot x.slot).sealKeyChange.keyNext x.slot x.new.key).macNext x.slot x.new.attr
    if bit x.new.attr 28 then s.mirror "WOAD" (s.twinKeyArgs x.slot x.new) else s
  | 5 =>
    let s := (s.raise 0x6004 sevNotice kOther x.slot x.slot).sealKeyChange
    if bit old.attr 28 then s.mirror "WOAD_ERASE" [x.slot] else s
  | 6 => if bit x.new.attr 28 then s.mirror "WOAD" (s.twinKeyArgs x.slot x.new) else s
  | _ => s

/-- A record commit of Woad ends with a status; that of a use count is no command. -/
def State.woadEnd (s : State) (x : WoadOp) (status : Nat) : State :=
  if x.op = 0 then s.woadInstall x else (s.woadInstall x).woadDone status (if x.op = 5 then 0 else x.new.kcv)

/-- What the commit point of a piece brings with it. -/
def State.pieceEnd (s : State) : PieceEnd → State
  | .plain => s
  | .record t i b =>
    (s.modSaff (fun x => { x with ties := x.ties.filter (fun q => decide (q ≠ (t, i))), lost := x.lost.filter (fun q => decide (q ≠ (t, i))) })).setRegN
      R.saffronRecResult (2 ^ 16 * (if b then 2 else 1) + (match recordHome t i with | some h => (((s.recCopy t i h b).map (fun c => c.payload.length)).getD 0) % 1024 | none => 0))
  | .woadA slot =>
    match s.woad.op with
    | some x => if x.slot = slot then { s with woad := { s.woad with op := some { x with copyA := true } } } else s
    | none => s
  | .woadB slot =>
    match s.woad.op with
    | some x => if x.slot = slot then s.woadEnd x stOk else s
    | none => s
  | .bp v => (s.modSaff (fun x => { x with bp := v })).raise 0x7009 sevNotice kOther 0 v
  | .reseal => s.modSaff (fun x => { x with prevSeal := none })

/-- The first posted piece commits; `bad` page programs fail on the way (R406, R409). -/
def State.landPiece (s : State) (bad : Nat) : State :=
  match s.saff.pieces with
  | [] => s
  | p :: ps =>
    let x := s.saff
    let s := (s.setSaff { x with pieces := ps, older := some { map := x.map, spares := x.spares, bp := x.bp } }).nvKeep
    let s := (p.pages.zipIdx).foldl (fun (s : State) (q : (Nat × List Byte) × Nat) =>
      s.nvWritePage p.worn q.1.1 q.1.2 (if q.2 = 0 then bad else 0)) s
    let s := (s.bump R.saffronCommitCnt).setRegN R.saffronCommitResult (stOk * 256 + p.pages.length % 32)
    s.pieceEnd p.fin

/-- Every posted piece commits, in order. -/
def State.landAll : Nat → State → State
  | 0, s => s
  | n + 1, s => if s.saff.pieces = [] then s else State.landAll n (s.landPiece 0)

def State.nvDrain (s : State) : State := State.landAll s.saff.pieces.length s

/-- The piece being committed reaches its commit point. -/
def execSaffronCommit (bad : Nat) (s : State) : Host.Outcome State Fault Refusal := .next (s.landPiece bad)

/-! Raw writes and reads (R407, R408, R410). -/

/-- A write of COMMIT: nothing gathered ends at once; else the gather buffer is posted (R408). -/
def State.nvCommitWrite (s : State) (m : Nat) (v : Word) : State × Bool :=
  if !s.nvMayWrite m then (s, false)
  else if !bit v 0 then (s, true)
  else
    let s := s.nvDrain
    if s.saff.images = [] then (s.setRegN R.saffronCommitResult (stOk * 256), true) else (s.postGather, true)

/-- A write of WR_DATA gathers four bytes (R407); it is held until a commit in progress ends (R408). -/
def State.wrData (s : State) (m : Nat) (v : Word) : State × Bool :=
  let a := (s.reg R.saffronWrAddr).toNat
  let p := a / 256
  if !s.nvMayWrite m || decide (p < 1024 ∨ 2048 ≤ p) || bpProtects s.saff.bp p then (s, false)
  else if s.saff.spares.length < 24 then (s.setRegN R.saffronCommitResult (stOverrun * 256), true)
  else
    let s := s.nvDrain
    let s := if (Tbl.find s.saff.images p).isNone ∧ s.pieceLimit ≤ s.saff.images.length then s.postGather.nvDrain else s
    let img := (Tbl.find s.saff.images p).getD (s.nvPage p)
    let o := a % 256
    let img := img.take o ++ leBytes 4 v.toNat ++ img.drop (o + 4)
    ((s.modSaff (fun x => { x with images := Tbl.set [] x.images p img })).setRegN R.saffronWrAddr (a + 4), true)

def execWrData (m : Nat) (v : Word) (s : State) : Host.Outcome State Fault Refusal :=
  .next (s.regWriteBy m R.saffronWrData (s.wrData m v))

/-- An uncorrectable sector read (R405). -/
def State.eccUncorr (s : State) (sector : Nat) : State :=
  (s.bump R.saffronEccUncorrCnt).raise 0x7006 sevError kOther 0 sector

/-- Corrected sectors found (R422). -/
def State.eccCorr (s : State) (n : Nat) : State :=
  if n = 0 then s else (s.bumpBy R.saffronEccCorrCnt n).raiseLim 0 0x7005 sevInfo kOther 0 n

/-! Host records (R417). -/

def recResult (status tie copy len : Nat) : Nat := status * 2 ^ 24 + tie * 2 ^ 18 + copy * 2 ^ 16 + len % 1024

/-- REC_CMD writes a host record. -/
def State.recWrite (s : State) (v : Word) : State :=
  let t := bits v 15 0
  let i := bits v 23 16
  let n := (s.reg R.saffronRecLen).toNat
  let refuse (e : Nat) : State := s.setRegN R.saffronRecResult (recResult e 0 0 0)
  if t < 0x100 ∨ 0x13F < t ∨ i ≠ 0 ∨ s.isStandby then refuse stDenied
  else if 240 < n then refuse stRange
  else if s.saff.spares.length < 24 then refuse stOverrun
  else if s.saff.bp = 3 then refuse stDenied
  else if s.saff.pieces ≠ [] then refuse stBusy
  else
    let pay := (s.regBytes (R.saffronRecBuf 0) 60).take n
    (s.postAlt t 0 pay).mirror "SAFFRON" (t :: pay.map BitVec.toNat)

/-- REC_CMD reads a record's payload into REC_BUF. -/
def State.recRead (s : State) (v : Word) : State :=
  let t := bits v 15 0
  let i := bits v 23 16
  if s.saff.pieces ≠ [] then s.setRegN R.saffronRecResult (recResult stBusy 0 0 0)
  else
    let (copy, pay, seq, s) := s.selectRecord t i
    if copy = 0 then s.setRegN R.saffronRecResult (recResult stCheckFail 0 0 0)
    else
      let s := s.setRegBytes (R.saffronRecBuf 0) 256 (pay.take 1024)
      (s.setRegN R.saffronRecSeq seq).setRegN R.saffronRecResult (recResult stOk (s.saff.ties.contains (t, i)).toNat copy pay.length)

/-- A write of REC_CMD with a given operation. -/
def State.recCmd (s : State) (m : Nat) (v : Word) (op : Nat) : State × Bool :=
  if !s.nvMayWrite m || decide (bits v 31 28 ≠ op) || decide (bits v 27 24 ≠ 0) then (s, false)
  else (if op = 1 then s.recWrite v else s.recRead v, true)

def execRecCmdWrite (m : Nat) (v : Word) (s : State) : Host.Outcome State Fault Refusal :=
  .next (s.regWriteBy m R.saffronRecCmd (s.recCmd m v 1))

def execRecCmdRead (m : Nat) (v : Word) (s : State) : Host.Outcome State Fault Refusal :=
  .next (s.regWriteBy m R.saffronRecCmd (s.recCmd m v 2))

/-! Block protection (R411, R412). -/

/-- Challenges are valid for 16,000 ticks, and none is issued for 1,600 ticks after a failure (R398). -/
def chalTicks : Nat := 16000
def chalHold : Nat := 1600

/-- A write of BP_CTRL.CHAL_REQ: a new challenge. -/
def State.bpChal (s : State) (m : Nat) : State × Bool :=
  if !s.nvMayWrite m then (s, false)
  else if s.ttime < s.saff.chalFrom then (s.setRegN R.saffronBpStatus (stBusy * 256), true)
  else
    let (c, s) := s.randomBytes 50 32
    ((s.modSaff (fun x => { x with chal := some (c, s.ticksOn chalTicks) })).setRegBytes (R.saffronBpChal 0) 8 c, true)

def execBpChalReq (m : Nat) (s : State) : Host.Outcome State Fault Refusal :=
  .next (s.regWriteBy m R.saffronBpCtrl (s.bpChal m))

/-- A write of BP_CTRL.SUBMIT: on success the gather buffer commits under the old BP, then the new BP. -/
def State.bpSubmit (s : State) (m : Nat) : State × Bool :=
  if !s.nvMayWrite m then (s, false)
  else
    let msg := s.regBytes (R.saffronBpMsg 0) 40
    let v := leOf msg 0x30 4
    let ok := match s.saff.chal with
      | some (c, t) => decide (s.ttime < t) && decide (v < 4) && s.ownerMessageOk msg 0x31425054 c v
      | none => false
    let s := s.modSaff (fun x => { x with chal := none })
    if ok then
      let s := s.nvDrain.postGather.postPiece { pages := [], fin := .bp v }
      (s.nvDrain.setRegN R.saffronBpStatus (stOk * 256), true)
    else
      let s := s.modSaff (fun x => { x with chalFrom := s.ticksOn chalHold })
      ((s.setRegN R.saffronBpStatus (stCheckFail * 256)).raise 0x700A sevWarn kOther 0, true)

def execBpSubmit (m : Nat) (s : State) : Host.Outcome State Fault Refusal :=
  .next (s.regWriteBy m R.saffronBpCtrl (s.bpSubmit m))

/-! Scrub and wear (R405, R406). -/

/-- A page rewritten with its own contents. -/
def State.rewritePage (s : State) (p : Nat) : State := s.postPiece { pages := [(p, s.nvPage p)] }

/-- The daily scrub: sectors with a corrected bit have their pages rewritten, sectors that do not correct are reported. -/
def execNvScrub (corrected bad : List Nat) (s : State) : Host.Outcome State Fault Refusal :=
  .next (if s.saff.state ≠ 1 then s
    else
      let s := s.nvDrain.eccCorr corrected.length
      let pages := (corrected.map (fun k => k / 4)).eraseDups
      let s := bad.foldl (fun (s : State) k => (s.modSaff (fun x => { x with bad := if x.bad.contains k then x.bad else k :: x.bad })).eccUncorr k) s
      pages.foldl (fun (s : State) p => (s.rewritePage p).nvDrain) s)

/-- The highest and the lowest write count of any physical page in use (R406). -/
def Saffron.wearMax (x : Saffron) : Nat := x.wear.foldl (fun m (p : Nat × Nat) => max m p.2) 0
def Saffron.wearMin (x : Saffron) : Nat :=
  if x.wear.length < 2096 then 0 else x.wear.foldl (fun m (p : Nat × Nat) => min m p.2) x.wearMax

/-- The record-area page on the least-worn physical page. -/
def Saffron.coldest (x : Saffron) : Nat :=
  (List.range 768).foldl (fun b p => if x.worn (x.phys p) < x.worn (x.phys b) then p else b) 0

/-- Each second a cold record page is moved onto the most-worn spare where write counts differ by more than 10,000. -/
def execNvWearLevel (s : State) : Host.Outcome State Fault Refusal :=
  .next (if s.saff.state ≠ 1 ∨ s.saff.wearMax ≤ s.saff.wearMin + 10000 then s
    else
      let s := s.nvDrain
      let p := s.saff.coldest
      (s.postPiece { pages := [(p, s.nvPage p)], worn := true }).nvDrain)

/-! The fault log (R418). -/

/-- A fault-log page: its sequence number and CRC-32C in a 32-byte header, then up to seven entries (the header's layout is a DESIGN CHOICE,
log entry 24). -/
def logPage (seq : Nat) (es : List (List Word)) : List Byte :=
  let body := es.flatMap wordsBytes
  let body := body ++ List.replicate (224 - body.length) 0
  leBytes 4 seq ++ leBytes 4 (crc32c (leBytes 4 seq ++ body)) ++ List.replicate 24 0 ++ body

/-- The queued entries, at most 112 in 16 pages, written at the head of the ring of 232 pages. -/
def State.logCommit (s : State) : State :=
  let es := s.faultQ.take 112
  if es = [] ∨ s.saff.state = 4 ∨ s.saff.state = 0 then s
  else
    let n := ceilDiv es.length 7
    let x := s.saff
    let pages := (List.range n).map (fun i => (768 + (x.logHead + i) % 232, logPage (x.logSeq + i + 1) ((es.drop (7 * i)).take 7)))
    ({ s with faultQ := s.faultQ.drop 112 }.modSaff (fun x => { x with logHead := (x.logHead + n) % 232, logSeq := x.logSeq + n })).postPiece { pages := pages }

/-- Each second the queued entries are committed. -/
def execFaultLogCommit (s : State) : Host.Outcome State Fault Refusal := .next (s.nvDrain.logCommit.nvDrain)

/-! Replay (R419, R421). -/

/-- The page sequence number of a fault-log page, 0 where it is not valid. -/
def State.logPageSeq (s : State) (p : Nat) : Nat :=
  let seq := Memory.readLe s.mem.nv (256 * p) 4
  if seq ≠ 0 ∧ crc32c (leBytes 4 seq ++ Memory.readBytes s.mem.nv (256 * p + 32) 224) = Memory.readLe s.mem.nv (256 * p + 4) 4 then seq else 0

/-- The fault log's page with the highest valid sequence number, by its place in the ring, and that number (R419). -/
def State.logFind (s : State) : Nat × Nat :=
  (List.range 232).foldl (fun (b : Nat × Nat) i => let q := s.logPageSeq (768 + i); if b.2 < q then (i, q) else b) (0, 0)

/-- The journal is replayed at step 3 of start-up: a piece whose entry is not valid is discarded; with an uncorrectable sector in the
journal page of the latest entry the other page's entry applies. -/
def execNvReplay (journalBad : Bool) (s : State) : Host.Outcome State Fault Refusal :=
  .next (if s.saff.state ≠ 0 then s
    else
      let x := s.saff
      let x := if journalBad then
          (match x.older with
           | some o => { x with map := o.map, spares := o.spares, bp := o.bp }
           | none => x)
        else x
      let s := if journalBad && s.saff.older.isSome then s.nvBack else s
      let (i, q) := s.logFind
      let s := s.setSaff { x with pieces := [], images := [], torn := false, state := 1, logHead := if q = 0 then 0 else (i + 1) % 232, logSeq := q }
      let s := if x.torn then s.raise 0x7004 sevNotice kOther 0 else s
      if s.boot.stage = 3 then ({ s with boot := { s.boot with stage := 4 } } : State).bootLine 4 0 else s)

/-! Reseal (R414). -/

def sealedTypes : List Nat := [0x10, 0x11, 0x12, 0x13, 0x14, 0x15, 0x16]

/-- Every sealed record is recommitted under the new key, and the previous key is then dropped. -/
def execSealingKeyReseal (s : State) : Host.Outcome State Fault Refusal :=
  .next (if s.saff.prevSeal.isNone ∨ s.saff.state ≠ 1 then s
    else
      let s := s.nvDrain
      let s := sealedTypes.foldl (fun (s : State) t =>
        let (copy, pay, _, s) := s.selectRecord t 0
        if copy = 0 then s else (s.postAlt t 0 pay).nvDrain) s
      (s.postPiece { pages := [], fin := .reseal }).nvDrain)

end Sys2Proof.Machine
end

