-- ==== Sys2Proof/Machine/Links.lean ====
section
/-! DEFINITION. Links and their reservations (R108, R256, R260, R262, R274, R275): capacity, load, the members of a hop, moving or dropping what no longer fits. -/

namespace Sys2Proof.Machine

/-- Admission capacity in Mb/s of a number of lanes at a rate code, rounded down (R108, R256). -/
def capacityOf (lanes rate : Nat) : Nat := lanes * 265625 * 2 ^ rate * (514 * 31) / (10 * 544 * 32)

/-- The capacity of a link: lanes that are unpowered in L2 carry nothing. -/
def State.linkCapacity (s : State) (l : Nat) : Nat := if (s.link l).power = 2 then 0 else capacityOf (s.link l).lanes.length (s.link l).rate

/-- The reservations on a link. -/
def State.resvsOn (s : State) (l : Nat) : List Resv := s.stk.resvs.filter (fun r => decide (r.link = l))

/-- Reserved Mb/s of a list of reservations: a flow counts once whatever the number of its takers (R98). -/
def resvSum : List Resv → Nat
  | [] => 0
  | r :: rs => resvSum rs + (if rs.any (fun q => decide (q.dev = r.dev ∧ q.flow = r.flow)) then 0 else r.mbps)

def State.linkLoad (s : State) (l : Nat) : Nat := resvSum (s.resvsOn l)

/-- Whether a link carries a flow already. -/
def State.carries (s : State) (l dev flow : Nat) : Bool := (s.resvsOn l).any (fun r => decide (r.dev = dev ∧ r.flow = flow))

/-- A link that carries traffic or can return to it. -/
def State.linkUp (s : State) (l : Nat) : Bool := decide ((s.link l).lanes ≠ [])

/-- The routing word for route r of a destination; where VALID2 is 0 the second route follows the first (R273, R275). -/
def State.hopWord (s : State) (d r : Nat) : Word := if r = 1 ∧ bit (s.route d 1) 31 then s.route d 1 else s.route d 0

/-- The links of a routing word (Table 11.4). -/
def hopLinks (w : Word) : List Nat := if bit w 31 then (List.range (bits w 27 22)).map (fun i => bits w 8 0 + i) else []

/-- A link put before the others it must precede: those with more reserved Mb/s, or as much and a higher ID (R275). -/
def State.insertLink (s : State) (l : Nat) : List Nat → List Nat
  | [] => [l]
  | x :: xs => if s.linkLoad l < s.linkLoad x ∨ (s.linkLoad l = s.linkLoad x ∧ l < x) then l :: x :: xs else x :: s.insertLink l xs

/-- The members of a hop in the order in which they are tried: those that carry the flow, then by load (R275); a reserved SG7 carries no routes
(R292). -/
def State.hopOrder (s : State) (ls : List Nat) (dev flow : Nat) : List Nat :=
  let up := ls.filter (fun l => s.linkUp l && !s.twinOwns l)
  let sorted := (up.filter (fun l => !s.carries l dev flow)).foldr (fun l acc => s.insertLink l acc) []
  up.filter (fun l => s.carries l dev flow) ++ sorted

/-- Whether a reservation fits a link (R108). -/
def State.resvFits (s : State) (l : Nat) (r : Resv) : Bool :=
  s.carries l r.dev r.flow || decide (s.linkLoad l + r.mbps ≤ s.linkCapacity l)

/-- A link in L1 returns to L0 (R262). -/
def State.leaveL1 (s : State) (l : Nat) : State :=
  if (s.link l).power = 1 then
    let s := s.modLink l (fun x => { x with power := 0, lastMedia := s.ttime })
    s.forEach (s.link l).lanes (fun s L => s.modLane L (fun x => if x.state = .l1 then { x with state := .active } else x))
  else s

/-- A reservation added: where the flow is carried already the oldest one counts for the load; a link in L1 first returns to L0 (R262). -/
def State.addResv (s : State) (r : Resv) : State :=
  let s := s.leaveL1 r.link
  { s with stk := { s.stk with resvs := r :: s.stk.resvs } }

/-- The next member of a hop that fits, among those not tried yet: the reservation made on it (R275). -/
def State.reserveHop (s : State) (r : Resv) : Option (Resv × State) :=
  let ls := (s.hopOrder (hopLinks (s.hopWord r.dst r.route)) r.dev r.flow).filter (fun l => !r.tried.contains l)
  match ls.find? (fun l => s.resvFits l r) with
  | some l =>
    let q := { r with link := l, tried := r.tried ++ [l] }
    some (q, s.addResv q)
  | none => none

/-- The same reservation: flow, source device, taker, requesting output. -/
def Resv.same (a b : Resv) : Bool := decide (a.dev = b.dev ∧ a.flow = b.flow ∧ a.dst = b.dst ∧ a.out = b.out)

def State.dropResv (s : State) (r : Resv) : State :=
  { s with stk := { s.stk with resvs := s.stk.resvs.filter (fun q => !q.same r) } }

/-- The last reservation of a list whose flow adds to the load, and with it all of that flow: the newest flow (R260). -/
def newestResv (rs : List Resv) : Option (Nat × Nat) := rs.getLast?.map (fun r => (r.dev, r.flow))

/-- A reservation asked for beyond this device's hop: the source sends RESV, a device on the way passes it on (R275). -/
def State.sendResv (s : State) (r : Resv) : State :=
  let pay := exchPay r.flow 0 r.route r.mbps r.out r.dst
  if r.dev = s.devId then s.stkSend r.dst 0x12 "RESV" pay else s.emit "FORWARD" r.link r.dst ([r.dev, 0x12, r.route, 0] ++ pay)

/-- A dropped flow of this device is no longer sent to its taker, which notices by R110. -/
def State.stopExport (s : State) (r : Resv) : State :=
  if r.dev = s.devId then
    { s with stk := { s.stk with exports := s.stk.exports.map (fun e => if e.flow = r.flow ∧ e.dev = r.dst then { e with running := false } else e) } }
  else s

/-- A flow is taken off a link: each of its reservations moves to its other route where that has room, or is dropped (R260). -/
def State.takeOff (s : State) (l dev flow : Nat) : State :=
  let mine := (s.resvsOn l).filter (fun r => decide (r.dev = dev ∧ r.flow = flow))
  let s := { s with stk := { s.stk with resvs := s.stk.resvs.filter (fun r => !decide (r.link = l ∧ r.dev = dev ∧ r.flow = flow)) } }
  let (s, moved) := mine.foldl (fun (a : State × Bool) r =>
    let other := 1 - r.route
    let has := decide (other = 0) || bit (a.1.route r.dst 1) 31
    match (if has then a.1.reserveHop { r with route := other, tried := [l] } else none) with
    | some (q, t) => (t.sendResv q, a.2)
    | none => (a.1.stopExport r, false)) (s, true)
  if moved then s.bump (lkRegs l + 0x14) else s.bump (lkRegs l + 0x18)

/-- Flows are taken off a link, the most recently reserved first, until the rest fit (R260). -/
def State.shedLink (s : State) (l : Nat) : Nat → State
  | 0 => s
  | fuel + 1 =>
    if s.linkUp l ∧ s.linkLoad l ≤ s.linkCapacity l then s
    else match newestResv (s.resvsOn l) with
      | some (dev, flow) => (s.takeOff l dev flow).shedLink l fuel
      | none => s

/-- A link that has lost a lane recomputes its capacity; with its last lane it goes DOWN and all lanes retrain (R260). -/
def State.degrade (s : State) (l : Nat) : State :=
  let n := (s.resvsOn l).length
  if s.linkUp l then
    ((s.bump (lkRegs l + 0x10)).raiseLink l 0x3011 sevWarn (s.linkCapacity l)).shedLink l n
  else
    let s := (s.modLink l (fun x => { x with down := true, power := 0, asked := none })).raiseLink l 0x3013 sevError
    let s := s.shedLink l n
    s.forEach (s.linkLanes l) (fun s L => if (s.lane L).state = .active then s.startLane L else s)

end Sys2Proof.Machine
end

