-- ==== Sys2Proof/Machine/Lanes.lean ====
section
/-! DEFINITION. Serial lanes (R246 to R267): reserved slots and link messages, bring-up, joining and loss, link power states, tests. -/

namespace Sys2Proof.Machine

/-! Link messages (Table 10.4), as their 20 bytes. -/

/-- Byte i of a message. -/
def byteAt (bs : List Nat) (i : Nat) : Nat := bs.getD i 0

/-- Two bytes from place i, little-endian. -/
def byte2 (bs : List Nat) (i : Nat) : Nat := byteAt bs i + 256 * byteAt bs (i + 1)

/-- Four bytes from place i, little-endian. -/
def byte4 (bs : List Nat) (i : Nat) : Nat := byte2 bs i + 65536 * byte2 bs (i + 2)

/-- A message filled up with zeros to 20 bytes. -/
def pad20 (bs : List Nat) : List Nat := bs ++ List.replicate (20 - bs.length) 0

/-- A link message sent on a lane in a CTRL slot. -/
def State.sendLink (s : State) (L : Nat) (bs : List Nat) : State := s.emit "CTRL" L 0 (pad20 bs)

/-- A link message sent that waits for an answer: it is sent again after 1 tick without one (R255). -/
def State.askLink (s : State) (L : Nat) (bs : List Nat) : State :=
  (s.sendLink L bs).modLane L (fun x => { x with unanswered := some (pad20 bs, s.ttime) })

def Lane.answered (x : Lane) : Lane := { x with unanswered := none }

/-- The CAP of a lane (Table 10.4). -/
def State.capOf (s : State) (L : Nat) : List Nat :=
  let w := s.lkCtrl (s.linkOf L)
  let k := L % 4
  let unit := if L < 32 then L / 4 else 64 + (L - 32) / 4
  [0x10, 1, 2 ^ (lkTarget w + 1) - 1, lkMask w, 1 + flag (bit w 29) 1, 1 + flag (bit w 30) 1 + flag (bit w 28) 2,
   s.devId % 256, s.devId / 256, unit % 128 + 128 * (k % 2), k, bits (s.reg (lnRegs L)) 1 0]

/-! Failures (R253). -/

/-- A failure of a lane in a phase (Table 10.12): FAILS counts it, and the loss from ACTIVE that went before it; then back-off, or
DOWN at 16. -/
def State.laneFails (s : State) (L phase : Nat) : State :=
  let x := s.lane L
  let more := if x.lossDue then 2 else 1
  let n := min 16 (x.fails + more)
  let s := s.bumpBy (lnRegs L + 0x50) more
  let y := { Lane.reset with fails := n, lastFail := phase, injPending := x.injPending, rate := x.rate }
  if n < 16 then
    (s.setLane L { y with state := .backoff, deadline := s.ticksOn (2 ^ min (n - 1) 8) }).raiseLane L 0x3002 sevNotice phase n
  else (s.setLane L { y with state := .down }).raiseLane L 0x3003 sevError phase n

/-- A lane ends NEGOTIATE in DOWN without back-off (R255). -/
def State.laneMismatch (s : State) (L code : Nat) : State :=
  let x := s.lane L
  (s.setLane L { Lane.reset with state := .down, fails := x.fails, lastFail := code, injPending := x.injPending }).raiseLane L
    (if code = 7 then 0x3009 else 0x3008) sevError code

/-! Joining and leaving a link (R256 to R259). -/

/-- A lane added to those that carry traffic, in ascending order. -/
def addLane (L : Nat) : List Nat → List Nat
  | [] => [L]
  | x :: xs => if L < x then L :: x :: xs else if L = x then x :: xs else x :: addLane L xs

/-- A lane has passed VERIFY: the first brings the link up; another waits for its JOIN, which the leader sends (R253, R257). -/
def State.laneActive (s : State) (L : Nat) : State :=
  let l := s.linkOf L
  let x := s.lane L
  let s := (s.setLane L { x with state := .active, fails := 0, lossDue := false, unanswered := none, joinAt := none }).raiseLane L 0x3001 sevInfo x.rate
  match (s.link l).lanes with
  | [] =>
    let c := x.cfg.getD ⟨x.rate, 0, false, false, false⟩
    (s.modLink l (fun y => { y with lanes := [L], rate := x.rate, precode := c.precode, cipher := c.cipher, detectOnly := c.detectOnly,
                                    partner := x.partner, down := false, power := 0, lastMedia := s.ttime })).raiseLink l 0x3010 sevInfo
  | a :: _ =>
    if s.leads l x.partner then
      let (f, s) := s.freeNat 40
      (s.sendLink a [0x16, L % 4, f % 1285 % 256, f % 1285 / 256]).modLane L (fun y => { y with joinAt := some (f % 1285) })
    else s

/-- Both test results are known: ACTIVE or BACKOFF (R254). -/
def State.verifyDone (s : State) (L : Nat) : State :=
  let x := s.lane L
  match x.vresOwn, x.vresPeer with
  | some a, some b => if a && b then s.laneActive L else s.laneFails L 5
  | _, _ => s

/-- A lane stops carrying traffic: both ends deal over the remaining lanes, the link degrades (R259, R260). -/
def State.leaveLink (s : State) (L : Nat) : State :=
  let l := s.linkOf L
  if (s.link l).lanes.contains L then
    (s.modLink l (fun y => { y with lanes := y.lanes.filter (fun k => decide (k ≠ L)) })).degrade l
  else s

/-- DROP sent on the lowest good lane of a link. -/
def State.sendDrop (s : State) (L cause : Nat) : State :=
  match (s.link (s.linkOf L)).lanes.find? (fun k => decide (k ≠ L)) with
  | some a => s.sendLink a [0x17, L % 4, cause]
  | none => s

/-! Stepping (R254). -/

/-- The leader names the frame of the next rate change. -/
def State.sendStep (s : State) (L rate : Nat) : State :=
  if s.leads (s.linkOf L) (s.lane L).partner then
    let (f, s) := s.freeNat 41
    (s.askLink L [0x13, rate, f % 1285 % 256, f % 1285 / 256]).modLane L (fun x => { x with stepTo := some rate })
  else s

/-- A lane enters STEP. -/
def State.enterStep (s : State) (L : Nat) : State :=
  (s.modLane L (fun x => { x with state := .step, deadline := s.ticksOn 80, doneTx := false, doneRx := false })).sendStep L 0

/-- STEP_DONE is exchanged: the next step, or VERIFY at the link rate (Table 10.3). -/
def State.stepsOn (s : State) (L : Nat) : State :=
  let x := s.lane L
  if !(x.doneTx && x.doneRx) then s
  else if x.rate = (x.cfg.map LinkCfg.rate).getD x.rate then
    s.setLane L { x with state := .verify, verifyT := s.ttime, deadline := s.ttime + 1600000 + tickLen, vresOwn := none, vresPeer := none }
  else (s.setLane L { x with deadline := s.ticksOn 80, doneTx := false, doneRx := false }).sendStep L (x.rate + 1)

/-! Negotiation (R255). -/

/-- The rate a lane may run at: the highest allowed by both ends; while a lane of the link is active, the running rate. -/
def State.chooseRate (s : State) (L : Nat) (cap : List Nat) : Option Nat :=
  let l := s.linkOf L
  let ok (r : Nat) : Bool := decide (r ≤ lkTarget (s.lkCtrl l)) && (byteAt cap 2).testBit r
    && decide (r ≤ bits (s.reg (lnRegs L)) 1 0) && decide (r ≤ byteAt cap 10)
  if s.linkUp l then (if ok (s.link l).rate then some (s.link l).rate else none)
  else [3, 2, 1, 0].find? ok

/-- The configuration that a CAP and this device's own settings give, or the code of its failure (R255, Table 10.12); a lane whose partner is not
that of the running link is a policy mismatch. On the twin link equal device IDs are expected (R292). -/
def State.negotiate (s : State) (L : Nat) (cap : List Nat) : Except Nat LinkCfg :=
  let w := s.lkCtrl (s.linkOf L)
  let id := byte2 cap 6
  let unit := if L < 32 then L / 4 else 64 + (L - 32) / 4
  let sup := (byteAt cap 5).testBit 0
  let req := (byteAt cap 5).testBit 1
  if id = s.devId ∧ !s.twinOwns (s.linkOf L) then .error (if byteAt cap 8 % 128 = unit ∧ byteAt cap 9 = L % 4 then 7 else 8)
  else if (bit w 30 && !sup) || (s.linkUp (s.linkOf L) && decide ((s.link (s.linkOf L)).partner ≠ id)) then .error 6
  else match s.chooseRate L cap with
    | none => .error 9
    | some r => .ok { rate := r, mask := lkMask w &&& byteAt cap 3,
                      precode := (bit w 29 || (byteAt cap 4).testBit 1) && (byteAt cap 4).testBit 0,
                      detectOnly := bit w 28 && (byteAt cap 5).testBit 2, cipher := (bit w 30 || req) && sup }

def LinkCfg.bytes (c : LinkCfg) : List Nat := [0x11, c.rate, c.mask, flag c.precode 0 + flag c.detectOnly 1 + flag c.cipher 2]

def cfgOf (bs : List Nat) : LinkCfg :=
  { rate := byteAt bs 1 % 4, mask := byteAt bs 2 % 16, precode := (byteAt bs 3).testBit 0, detectOnly := (byteAt bs 3).testBit 1,
    cipher := (byteAt bs 3).testBit 2 }

/-! Reserved slots (R249 to R251). -/

/-- CRC-8 of R249 over the 16 bits 23:8 of a comma word, the most significant bit first. -/
def crc8Bits (v : Nat) : Nat → Nat → Nat
  | 0, c => c
  | n + 1, c =>
    let b := (if v.testBit n then 1 else 0) + c / 128
    crc8Bits v n (if b % 2 = 1 then ((c * 2) % 256) ^^^ 0x07 else (c * 2) % 256)

/-- Whether a comma word is accepted (R250). -/
def commaOk (w : Nat) : Bool := decide (fieldOf w 63 24 = 0xA0F5A0F5A0) && decide (fieldOf w 7 0 = crc8Bits (fieldOf w 23 8) 16 0)

/-- Whether a message body of 24 bytes passes its CRC-32C. -/
def bodyOk (body : List Byte) : Bool :=
  decide (body.length = 24) && decide (word (crc32c (body.take 20)) = word (ofLeBytes (body.drop 20)))

/-- The elastic buffer of a lane deletes (1) or repeats (2) a FILL slot (R251, R252). -/
def State.rateMatch (s : State) (L rm : Nat) : State :=
  if rm = 0 ∨ 2 < rm then s
  else
    let s := s.bump (lnRegs L + (if rm = 1 then 0x58 else 0x54))
    if (s.lane L).state = .active then s.raiseLim (laneIndex L) 0x3006 sevNotice kLane (laneIndex L) rm else s

/-- RESERVED_SLOT_RX: a reserved slot arrives on a lane with comma lock: its comma word, its body, what the elastic buffer did to it. -/
def execReservedSlotRx (L : Nat) (comma : BitVec 64) (body : List Byte) (rm : Nat) (s : State) : Host.Outcome State Fault Refusal :=
  .next (
    let x := s.lane L
    if !s.lanePresent L || !s.laneRsl L || !x.comma then s
    else
      let bad := lkRegs (s.linkOf L) + 0x1C
      let ty := fieldOf comma.toNat 12 8
      let bytes := (body.take 20).map BitVec.toNat
      if !commaOk comma.toNat then s.bump bad
      else match ty with
        | 0 => s.rateMatch L rm
        | 1 =>
          if !bodyOk body || !decide (0x10 ≤ byteAt bytes 0 ∧ byteAt bytes 0 ≤ 0x1B) then s.bump bad
          else { s with ser := { s.ser with msgs := s.ser.msgs ++ [(L, bytes)] } }
        | 2 =>
          if !bodyOk body then s.bump bad
          else { s with stk := { s.stk with rx := s.stk.rx ++ [(s.linkOf L, s.ttime, bytes)] } }
        | _ => s.bump bad)

/-- The first link message of a type received on a lane, taken out and acted on. -/
def State.onLink (s : State) (L ty : Nat) (act : State → List Nat → State) : State :=
  match s.ser.msgs.find? (fun m => decide (m.1 = L ∧ byteAt m.2 0 = ty)) with
  | some m => act { s with ser := { s.ser with msgs := s.ser.msgs.erase m } } m.2
  | none => s

/-! Bring-up. -/

/-- The receiver of a DETECT lane leaves electrical idle (Table 10.3). -/
def execLaneSignalDetect (L : Nat) (s : State) : Host.Outcome State Fault Refusal :=
  .next (if (s.lane L).state = .detect then
      s.modLane L (fun x => { x with state := .train, sigDet := true, deadline := s.ticksOn 32 })
    else s)

/-- Four consecutive accepted commas (R250): TRAIN goes to NEGOTIATE and sends CAP; in STEP the lane has adapted at the new rate. -/
def execCommaLockGained (L : Nat) (s : State) : Host.Outcome State Fault Refusal :=
  .next (let x := s.lane L
    match x.state with
    | .train =>
      (s.setLane L { x with state := .negotiate, comma := true, cdr := true, deadline := s.ticksOn 16 }).askLink L (s.capOf L)
    | .step =>
      if x.comma ∨ x.rate = 7 then s
      else ((s.setLane L { x with comma := true, cdr := true, doneTx := true }).sendLink L [0x14, x.rate]).stepsOn L
    | _ => s)

/-- A CAP acted on (R255): a mismatch ends in DOWN; the leader chooses and sends CFG. -/
def execCap (L : Nat) (s : State) : Host.Outcome State Fault Refusal :=
  .next (s.onLink L 0x10 (fun s bs =>
    if (s.lane L).state ≠ .negotiate ∨ byteAt bs 1 ≠ 1 then s
    else match s.negotiate L bs with
      | .error c => s.laneMismatch L c
      | .ok c =>
        let s := s.modLane L (fun x => { x.answered with partner := byte2 bs 6 })
        if s.leads (s.linkOf L) (byte2 bs 6) then (s.modLane L (fun x => { x with cfg := some c })).askLink L c.bytes
        else s))

/-- A CFG acted on by the end that does not lead: it answers ACK and both step. A CFG that names another rate than the running link's
is a mismatch, and so are other options than the link's: every lane of a link agrees on one CFG (R255). -/
def execCfg (L : Nat) (s : State) : Host.Outcome State Fault Refusal :=
  .next (s.onLink L 0x11 (fun s bs =>
    let c := cfgOf bs
    let l := s.linkOf L
    if (s.lane L).state ≠ .negotiate ∨ s.leads l (s.lane L).partner then s
    else if s.linkUp l ∧ (s.link l).rate ≠ c.rate then s.laneMismatch L 9
    else if s.linkUp l ∧ ((s.link l).precode ≠ c.precode ∨ (s.link l).detectOnly ≠ c.detectOnly ∨ (s.link l).cipher ≠ c.cipher) then
      s.laneMismatch L 6
    else
      let s := s.modLane L (fun x => { x.answered with cfg := some c })
      (s.sendLink L ([0x12, 0x11] ++ (bs.drop 1).take 18)).enterStep L))

/-- An ACK acted on: the message it echoes is answered; that of CFG starts the steps (R255). -/
def execLinkAck (L : Nat) (s : State) : Host.Outcome State Fault Refusal :=
  .next (s.onLink L 0x12 (fun s bs =>
    let x := s.lane L
    match x.unanswered with
    | some (m, _) =>
      if byteAt m 0 ≠ byteAt bs 1 ∨ (bs.drop 2).take 18 ≠ (m.drop 1).take 18 then s
      else
        let s := s.setLane L x.answered
        if byteAt m 0 = 0x11 ∧ x.state = .negotiate then s.enterStep L else s
    | none => s))

/-- A STEP acted on: the rate change is scheduled and acknowledged (R254). -/
def execStep (L : Nat) (s : State) : Host.Outcome State Fault Refusal :=
  .next (s.onLink L 0x13 (fun s bs =>
    if (s.lane L).state ≠ .step ∨ 3 < byteAt bs 1 then s
    else (s.modLane L (fun x => { x with stepTo := some (byteAt bs 1) })).sendLink L ([0x12, 0x13] ++ (bs.drop 1).take 18)))

/-- Both ends change rate at the frame named (R254): comma lock has to be regained. -/
def execStepSwitch (L : Nat) (s : State) : Host.Outcome State Fault Refusal :=
  .next (let x := s.lane L
    match x.state, x.stepTo with
    | .step, some r => s.setLane L { x with rate := r, stepTo := none, comma := false, cdr := false, doneTx := false, doneRx := false }
    | _, _ => s)

/-- A STEP_DONE acted on (R254). -/
def execStepDone (L : Nat) (s : State) : Host.Outcome State Fault Refusal :=
  .next (s.onLink L 0x14 (fun s bs =>
    if (s.lane L).state ≠ .step ∨ byteAt bs 1 ≠ (s.lane L).rate then s
    else (s.modLane L (fun x => { x with doneRx := true })).stepsOn L))

/-- Line bits of the 1 ms test at a rate (Table 10.1), and the bits of its media blocks (R248). -/
def testBits (rate : Nat) : Nat := 26562500 * 2 ^ rate
def testMediaBits (rate : Nat) : Nat := testBits rate * (514 * 31) / (544 * 32)

/-- The VERIFY test ends with its counts: uncorrectable codewords, corrected bits, PRBS31 errors after FEC; VRES is sent (R254). -/
def execVerifyTestEnd (L unc corr prbs : Nat) (s : State) : Host.Outcome State Fault Refusal :=
  .next (let x := s.lane L
    if x.state ≠ .verify ∨ x.vresOwn.isSome then s
    else
      let s := s.advance (x.verifyT + 1600000)
      let only := (x.cfg.map LinkCfg.detectOnly).getD false
      let pass := decide (unc = 0 ∧ prbs = 0 ∧ corr * 10000 < testBits x.rate) && (!only || decide (corr = 0))
      let s := ((s.bumpBy (lnRegs L + 0x44) corr).bumpBy (lnRegs L + 0x48) unc)
      let s := (s.bump48 (lnRegs L + 0x34) prbs).bump48 (lnRegs L + 0x3C) (testMediaBits x.rate)
      let s := s.setLane L { x with vresOwn := some pass, deadline := s.ticksOn 1 }
      (s.sendLink L ([0x15, flag pass 0] ++ (leBytes 4 unc).map BitVec.toNat ++ (leBytes 8 corr).map BitVec.toNat)).verifyDone L)

/-- A VRES acted on (R254). -/
def execVres (L : Nat) (s : State) : Host.Outcome State Fault Refusal :=
  .next (s.onLink L 0x15 (fun s bs =>
    if (s.lane L).state ≠ .verify then s
    else (s.modLane L (fun x => { x with vresPeer := some ((byteAt bs 1).testBit 0) })).verifyDone L))

/-- A JOIN acted on: the lane it names joins at the frame it names (R257). -/
def execJoin (L : Nat) (s : State) : Host.Outcome State Fault Refusal :=
  .next (s.onLink L 0x16 (fun s bs =>
    let k := L / 4 * 4 + byteAt bs 1 % 4
    if (s.lane k).state = .active ∧ s.linkOf k = s.linkOf L then s.modLane k (fun x => { x with joinAt := some (byte2 bs 2) }) else s))

/-- A lane joins its link with its skew to the earliest lane in CLK_D cycles; beyond 80 ns it does not (R257, R258). -/
def execLaneJoin (L skew : Nat) (s : State) : Host.Outcome State Fault Refusal :=
  .next (let x := s.lane L
    let l := s.linkOf L
    if x.state ≠ .active ∨ x.joinAt = none ∨ (s.link l).lanes.contains L then s
    else if 128 < skew then (s.raiseLane L 0x3015 sevWarn skew).laneFails L 10
    else
      let s := s.setLane L { x with joinAt := none, skew := skew }
      let s := s.modLink l (fun y => { y with lanes := addLane L y.lanes })
      if (s.link l).lanes = s.linkLanes l then s.raiseLink l 0x3012 sevInfo else s)

/-- An ACTIVE lane that is lost: it leaves its link and retrains alone (R259). -/
def State.laneLost (s : State) (L cause : Nat) (tell : Bool) : State :=
  let x := s.lane L
  let s := (s.bump (lnRegs L + 0x4C)).raiseLane L 0x3004 sevWarn cause
  let s := if cause = 4 then s.raiseLane L 0x3007 sevWarn else s
  let s := if tell then s.sendDrop L cause else s
  let s := s.setLane L { Lane.reset with state := .detect, deadline := s.ticksOn 160, fails := x.fails, lastFail := x.lastFail, lossDue := true }
  s.leaveLink L

/-- A DROP acted on: the lane it names leaves the link at this end too (R259). -/
def execDrop (L : Nat) (s : State) : Host.Outcome State Fault Refusal :=
  .next (s.onLink L 0x17 (fun s bs =>
    let k := L / 4 * 4 + byteAt bs 1 % 4
    if (s.lane k).state = .active ∧ s.linkOf k = s.linkOf L then s.laneLost k (byteAt bs 2) false else s))

/-- An ACTIVE lane is lost, by its cause: 1 lock, 2 codewords, 3 comma, 4 rate matching (R259). -/
def execLaneLost (L cause : Nat) (s : State) : Host.Outcome State Fault Refusal :=
  .next (if (s.lane L).state = .active ∧ 1 ≤ cause ∧ cause ≤ 4 then s.laneLost L cause true
    else if cause = 4 ∧ ((s.lane L).state = .train ∨ (s.lane L).state = .negotiate ∨ (s.lane L).state = .step ∨ (s.lane L).state = .verify) then
      s.raiseLane L 0x3007 sevWarn
    else s)

/-- An unanswered link message is sent again after 1 tick (R255). -/
def execLinkMsgRetry (L : Nat) (s : State) : Host.Outcome State Fault Refusal :=
  .next (match (s.lane L).unanswered with
    | some (m, t) =>
      let s := s.advance (ticksAfter t 1)
      s.askLink L m
    | none => s)

/-- A bring-up phase times out (Table 10.3). -/
def execLanePhaseTimeout (L : Nat) (s : State) : Host.Outcome State Fault Refusal :=
  .next (let x := s.lane L
    let s1 := s.advance x.deadline
    match x.state with
    | .detect => s1.laneFails L 1
    | .train => s1.laneFails L 2
    | .negotiate => s1.laneFails L 3
    | .step =>
      let r := match x.stepTo with | some r => r | none => if x.rate = 7 then 0 else x.rate
      (s1.setReg (lnRegs L) (setBits (s1.reg (lnRegs L)) 1 0 (r - 1))).laneFails L 4
    | .verify => s1.laneFails L 5
    | _ => s)

/-- The back-off delay ends (Table 10.3). -/
def execBackoffExpiry (L : Nat) (s : State) : Host.Outcome State Fault Refusal :=
  .next (if (s.lane L).state = .backoff then (s.advance (s.lane L).deadline).startLane L else s)

/-! Register writes. -/

/-- A write of LN_REARM (Table 10.3): out of range unless the lane is DOWN. -/
def State.rearmWrite (s : State) (L : Nat) (v : Word) : State × Bool :=
  if !bit v 0 then (s, true)
  else if (s.lane L).state ≠ .down then (s, false)
  else
    let s := s.setReg (lnRegs L) (setBits (s.reg (lnRegs L)) 1 0 3)
    ((s.modLane L (fun x => { x with fails := 0, lossDue := false })).startLane L, true)

def execLnRearm (m L : Nat) (v : Word) (s : State) : Host.Outcome State Fault Refusal :=
  .next (if s.lanePresent L then s.regWriteBy m (lnRegs L + 8) (s.rearmWrite L v) else s)

/-- A write of LN_CTRL (R263): TEST is rejected while the lane is ACTIVE in a link with reservations; taken, the lane leaves its link. -/
def State.lnCtrlWrite (s : State) (L : Nat) (v : Word) : State × Bool :=
  let x := s.lane L
  let l := s.linkOf L
  let new := bit v 4
  let old := bit (s.reg (lnRegs L)) 4
  if new && !old && decide (x.state = .active ∧ s.resvsOn l ≠ []) then (s, false)
  else
    let s := s.setReg (lnRegs L) (maskWrite (s.reg (lnRegs L)) v 0x13)
    if new && !old then
      let s := if x.state = .active then s.sendDrop L 1 else s
      ((s.setLane L { Lane.reset with state := .test, rate := x.rate, fails := x.fails, lastFail := x.lastFail }).leaveLink L, true)
    else if !new && old then
      let s := s.setReg (lnRegs L + 0x20) (setBits (s.reg (lnRegs L + 0x20)) 15 14 0)
      (if s.lkEnabled l ∧ (s.linkLanes l).contains L then s.startLane L else s.stopLane L, true)
    else (s, true)

def execLnCtrlTest (m L : Nat) (v : Word) (s : State) : Host.Outcome State Fault Refusal :=
  .next (if s.lanePresent L then s.regWriteBy m (lnRegs L) (s.lnCtrlWrite L v) else s)

/-- A write of INJ_CTRL (R264): with INJ_TRIGGER set, one injection on a transmitting lane; on a silent one it stays pending, and a
further trigger is ignored. -/
def State.injWrite (s : State) (L : Nat) (v : Word) : State × Bool :=
  let mode := bits v 30 28
  let a := lnRegs L + 0x2C
  if 4 < mode ∨ (mode = 2 ∧ bits v 23 16 = 0) ∨ (mode = 4 ∧ (bits v 13 8 < 10 ∨ 40 < bits v 13 8)) then (s, false)
  else
    let s := s.setReg a (maskWrite 0 v 0x70FF3F00)
    let x := s.lane L
    if !bit v 0 || decide (mode = 0 ∨ mode = 4) || x.injPending then (s, true)
    else if x.state = .disabled ∨ x.state = .l2 ∨ x.state = .l1 ∨ x.state = .down then (s.setLane L { x with injPending := true }, true)
    else (s.emit "INJECT" L 0 [v.toNat], true)

def execInjTrigger (m L : Nat) (v : Word) (s : State) : Host.Outcome State Fault Refusal :=
  .next (if s.lanePresent L then s.regWriteBy m (lnRegs L + 0x2C) (s.injWrite L v) else s)

/-- L1 or L2 requested of the partner on the lowest lane of a link (R262). -/
def State.askPower (s : State) (l kind : Nat) : State :=
  match (s.link l).lanes with
  | a :: _ => (s.askLink a [if kind = 1 then 0x18 else 0x1A]).modLink l (fun y => { y with asked := some (kind, s.ticksOn 1) })
  | [] => s

/-- A link leaves L2: its lanes send training and enter TRAIN (R262). -/
def State.leaveL2 (s : State) (l : Nat) : State :=
  let ls := (s.link l).lanes
  let s := s.modLink l (fun y => { y with power := 0, lanes := [], asked := none })
  s.forEach ls (fun s L => s.setLane L { Lane.reset with state := .train, deadline := s.ticksOn 32 })

/-- Whether a value may stand in LK_CTRL of a link (Table 10.9, R270). -/
def State.lkCtrlOk (s : State) (l : Nat) (v : Word) : Bool :=
  let old := s.lkCtrl l
  let held := decide (s.resvsOn l ≠ [])
  !s.twinOwns l && s.linkExists l
    && !(decide (32 ≤ l) && decide (1 < lkTarget v))
    && !(bit v 31 && decide (lkMask v = 0))
    && !(bit v 31 && decide (l < 32) && !s.domAllowed (64 + l / 4))
    && !(s.lkSplit l && decide (lkMask v ≠ 0 ∧ lkMask v ≠ 2 ^ (l % 4)))
    && !(bit old 31 && decide (bits v 30 20 ≠ bits old 30 20))
    && !(bit old 31 && !bit v 31 && held)
    && !(held && ((bit v 19 && !bit old 19) || (bit v 18 && !bit old 18)))

/-- A write of LK_CTRL (R253, R262): ENABLE powers or unpowers the lanes, L1_REQ and L2_REQ ask for a power state or its exit. -/
def State.lkCtrlWrite (s : State) (l : Nat) (v : Word) : State × Bool :=
  let old := s.lkCtrl l
  if !s.lkCtrlOk l v then (s, false)
  else
    let s := s.setReg (lkRegs l) (maskWrite old v 0xF3FCFFFF)
    if bit v 31 && !bit old 31 then ((s.setLink l Link.reset).powerLink l, true)
    else if bit old 31 && !bit v 31 then
      ((s.forEach (s.linkLanes l) State.stopLane).setLink l Link.reset, true)
    else
      let s := if bit v 19 && !bit old 19 && decide ((s.link l).power = 0) then s.askPower l 1
        else if bit old 19 && !bit v 19 then s.leaveL1 l else s
      let s := if bit v 18 && !bit old 18 && decide ((s.link l).power = 0) then s.askPower l 2
        else if bit old 18 && !bit v 18 && decide ((s.link l).power = 2) then s.leaveL2 l else s
      (s, true)

/-- A write of LK_CTRL that enables or disables a link. -/
def execLkCtrlEnable (m l : Nat) (v : Word) (s : State) : Host.Outcome State Fault Refusal :=
  .next (if s.lanePresent l ∧ bit v 31 ≠ bit (s.lkCtrl l) 31 then s.regWriteBy m (lkRegs l) (s.lkCtrlWrite l v) else s)

/-- A write of LK_CTRL that changes L1_REQ. -/
def execL1Req (m l : Nat) (v : Word) (s : State) : Host.Outcome State Fault Refusal :=
  .next (if s.lanePresent l ∧ bit v 19 ≠ bit (s.lkCtrl l) 19 then s.regWriteBy m (lkRegs l) (s.lkCtrlWrite l v) else s)

/-- A write of LK_CTRL that changes L2_REQ. -/
def execL2Req (m l : Nat) (v : Word) (s : State) : Host.Outcome State Fault Refusal :=
  .next (if s.lanePresent l ∧ bit v 18 ≠ bit (s.lkCtrl l) 18 then s.regWriteBy m (lkRegs l) (s.lkCtrlWrite l v) else s)

/-! Link power states (R262). -/

/-- A link enters L1 or L2. -/
def State.enterPower (s : State) (l kind : Nat) : State :=
  let s := s.modLink l (fun y => { y with power := kind, asked := none })
  let s := s.forEach (s.link l).lanes (fun s L => s.modLane L (fun x => { x.answered with state := if kind = 1 then .l1 else .l2 }))
  if kind = 1 then s.bump (lkRegs l + 0x20) else s

/-- A request of the partner: answered and entered, but where the link holds reservations, or where this end leads and has the same
request standing. -/
def State.powerAsked (s : State) (L kind : Nat) : State :=
  let l := s.linkOf L
  let y := s.link l
  let mine := match y.asked with | some (k, _) => decide (k = kind) | none => false
  if decide (y.lanes = [] ∨ y.power ≠ 0 ∨ s.resvsOn l ≠ []) || (mine && s.leads l y.partner) then s
  else (s.sendLink L [if kind = 1 then 0x19 else 0x1B]).enterPower l kind

/-- The partner's answer to a request. -/
def State.powerAnswered (s : State) (L kind : Nat) : State :=
  let l := s.linkOf L
  match (s.link l).asked with
  | some (k, _) => if k = kind then s.enterPower l kind else s
  | none => s

def execL1reqMsg (L : Nat) (s : State) : Host.Outcome State Fault Refusal := .next (s.onLink L 0x18 (fun s _ => s.powerAsked L 1))
def execL1ackMsg (L : Nat) (s : State) : Host.Outcome State Fault Refusal := .next (s.onLink L 0x19 (fun s _ => s.powerAnswered L 1))
def execL2reqMsg (L : Nat) (s : State) : Host.Outcome State Fault Refusal := .next (s.onLink L 0x1A (fun s _ => s.powerAsked L 2))
def execL2ackMsg (L : Nat) (s : State) : Host.Outcome State Fault Refusal := .next (s.onLink L 0x1B (fun s _ => s.powerAnswered L 2))

/-- No L1ACK within 1 tick: the link stays in L0 (Table 10.6). -/
def execL1Refused (l : Nat) (s : State) : Host.Outcome State Fault Refusal :=
  .next (match (s.link l).asked with
    | some (1, t) =>
      let s := s.advance t
      let s := s.forEach (s.link l).lanes (fun s L => s.modLane L Lane.answered)
      (s.modLink l (fun y => { y with asked := none })).raiseLink l 0x3014 sevNotice
    | _ => s)

/-- IDLE_L1 µs without a media block: L1 is asked for (Table 10.6). -/
def execIdleL1Timeout (l : Nat) (s : State) : Host.Outcome State Fault Refusal :=
  .next (
    let us := bits (s.lkCtrl l) 15 0
    if us = 0 ∨ (s.link l).lanes = [] ∨ (s.link l).power ≠ 0 ∨ (s.link l).asked.isSome ∨ s.resvsOn l ≠ [] then s
    else (s.advance ((s.link l).lastMedia + us * 1600)).askPower l 1)

/-- The partner resumes transmitting on a link in L1 (R262). -/
def execL1Resume (l : Nat) (s : State) : Host.Outcome State Fault Refusal := .next (s.leaveL1 l)

/-- The detectors of a link in L2 see the partner's training (R262). -/
def execL2Wake (l : Nat) (s : State) : Host.Outcome State Fault Refusal := .next (if (s.link l).power = 2 then s.leaveL2 l else s)

/-! Media blocks (R248, R98, R234). -/

/-- Bytes of the stream of a landing store: written into the slot in progress, after those that came before them; those that were truncated
leave their place as it was (R118, R234). -/
def State.landBytes (s : State) (f : Nat) (bs : List Byte) (cut : Bool) : State :=
  let x := s.flow f
  match x.slots.findIdx? (fun (y : Slot) => y.writing) with
  | some i =>
    let put := bs.take (x.slotBytes - x.rxPos)
    let s := s.modFlow f (fun y => { y with rxPos := y.rxPos + bs.length })
    if cut ∨ x.base = 0 then s else s.cxlPut (x.base + i * x.slotBytes + x.rxPos) put
  | none => s

/-- MEDIA_BLOCK_RX: a media block of a remote flow arrives on a link with its bytes of the stream: replicated on every link that holds a
reservation of the flow, written into its landing store here; beyond the reservation (beyond) it is truncated. -/
def execMediaBlockRx (l dev flow : Nat) (beyond : Bool) (bs : List Byte) (s : State) : Host.Outcome State Fault Refusal :=
  .next (if !s.linkUp l ∨ 2 ≤ (s.link l).power then s
    else
      let s := (s.leaveL1 l).modLink l (fun y => { y with lastMedia := s.ttime })
      let outs := ((s.stk.resvs.filter (fun r => decide (r.dev = dev ∧ r.flow = flow ∧ r.link ≠ l))).map Resv.link).eraseDups
      let s := if beyond then s
        else s.forEach outs (fun s k => (s.emit "BLOCK" k dev (flow :: bs.map BitVec.toNat)).modLink k (fun y => { y with lastMedia := s.ttime }))
      match s.landingOf dev flow with
      | some f => s.landBytes f bs beyond
      | none => s)

/-! SDI and Ethernet lanes (R261), port modes (R69, R267). -/

/-- Lanes a port's mode uses. -/
def modeLanes (m : Nat) : List Nat :=
  match m with
  | 0 => [] | 1 => [0] | 2 => [0, 1] | 4 => [0] | 5 => [0] | 6 => [0]
  | _ => [0, 1, 2, 3]

/-- The lanes of a port in its mode; a 100GBASE-R port with LANE100 uses two (Table 10.1). -/
def State.portLanes (s : State) (n : Nat) : List Nat :=
  if s.portMode n = 7 ∧ bit (s.reg (R.portPhyCtrl n)) 4 then [0, 1] else modeLanes (s.portMode n)

/-- Whether every lane of an Ethernet port's interface is locked; both ports of a 400GBASE-R pair count (R261). -/
def State.ethUp (s : State) (n : Nat) : Bool :=
  let ns := if s.portMode n = 9 then [n / 2 * 2, n / 2 * 2 + 1] else [n]
  s.portIsEth n && ns.all (fun k => (s.portLanes k).all (fun i => (s.lane (32 + 4 * k + i)).cdr))

/-- An SDI or Ethernet lane gains or loses CDR lock (R261): an interface that goes down counts in LINK_FAULT_CNT. -/
def execSdiEthLockChange (L : Nat) (locked : Bool) (s : State) : Host.Outcome State Fault Refusal :=
  .next (
    let n := (L - 32) / 4
    if L < 32 ∨ !s.lanePresent L ∨ s.laneRsl L ∨ !(s.portLanes n).contains (L % 4) ∨ s.laneHeld L ∨ (s.lane L).cdr = locked then s
    else
      let was := s.ethUp n
      let s := s.modLane L (fun x => { x with cdr := locked, sigDet := locked })
      let s := if locked then s else s.bump (lnRegs L + 0x4C)
      if was && !s.ethUp n then s.bump (R.portLinkFaultCnt n) else s)

/-- The lanes of a port as after a change of mode: RSL lanes and links end, media lanes wait for lock. -/
def State.resetPortLanes (s : State) (n : Nat) : State :=
  s.forEach (List.range 4) (fun s k =>
    let L := 32 + 4 * n + k
    let s := if s.linkUp L then (s.modLink L (fun y => { y with lanes := [] })).degrade L else s
    (s.stopLane L).setLink L Link.reset)

/-- A port whose mode has changed: its receive state starts again, its synthesisers follow (R69, R324). -/
def State.portChanged (s : State) (n : Nat) : State :=
  let p := s.port n
  let s := (s.resetPortLanes n).setPort n { Port.reset with table := p.table, shedHold := p.shedHold, txOff := p.txOff }
  (((s.dropSyn (128 + n)).dropSyn (192 + n)).servePort n).forEach (List.range 4) (fun s k => s.powerLink (32 + 4 * n + k))

/-- A write of PORT[n].MODE (R69, R269, Table 3.9). -/
def State.portModeWrite (s : State) (n : Nat) (v : Word) : State × Bool :=
  let mode := bits v 3 0
  let cls := bits v 6 4
  let old := s.portMode n
  let sdi := decide (1 ≤ mode ∧ mode ≤ 3)
  let pair := n / 2 * 2 + 1
  let paired := decide (n % 2 = 1) && decide (s.regBits (R.portMode (n - 1)) 3 0 = 9)
  if 10 < mode ∨ 5 < cls ∨ (cls ≠ 0 ∧ !sdi) ∨ s.portFlows n ≠ 0 ∨ paired ∨ (s.isFabric ∧ mode ≠ 10)
      ∨ (mode ≠ 0 ∧ (!s.domAllowed n ∨ !s.domAllowed (72 + n / 8)))
      ∨ (mode = 9 ∧ (n % 2 = 1 ∨ s.portFlows pair ≠ 0)) then (s, false)
  else
    let s := s.setReg (R.portMode n) (maskWrite 0 v 0x7F)
    let s := if old = 9 ∧ mode ≠ 9 then s.setReg (R.portMode pair) 0 else s
    let s := s.portChanged n
    (if (old = 9) ≠ (mode = 9) then s.portChanged pair else s, true)

/-- PORT_MODE_WRITE: master m writes PORT[n].MODE. -/
def execPortModeWrite (m n : Nat) (v : Word) (s : State) : Host.Outcome State Fault Refusal :=
  .next (if s.portPresent n then s.regWriteBy m (R.portMode n) (s.portModeWrite n v) else s)

end Sys2Proof.Machine
end

