-- ==== Sys2Proof/Machine/Stack.lean ====
section
/-! DEFINITION. Stack control messages, masters, routing and the remote-take exchange (R109, R268 to R280). -/

namespace Sys2Proof.Machine

/-! Reception (R272, R273). -/

/-- A message read from its 20 bytes (Table 11.3). -/
def stkMsgOf (link t : Nat) (bs : List Nat) : StkMsg :=
  { link := link, t := t, dst := byte2 bs 0, src := byte2 bs 2, type := byteAt bs 4, rh := byteAt bs 5, seq := byte2 bs 6, pay := (bs.drop 8).take 12 }

def StkMsg.local (m : StkMsg) : Bool := m.dst.testBit 15
def StkMsg.route (m : StkMsg) : Nat := m.rh % 2
def StkMsg.hops (m : StkMsg) : Nat := m.rh / 2 % 8

/-- The types of Table 11.5. -/
def stkTypeOk (t : Nat) : Bool := decide (1 ≤ t ∧ t ≤ 7) || decide (0x10 ≤ t ∧ t ≤ 0x14) || decide (0x20 ≤ t ∧ t ≤ 0x28)

/-- Whether the fields of a message are such as Table 11.3 allows. -/
def StkMsg.ok (m : StkMsg) : Bool :=
  stkTypeOk m.type && decide (m.dst % 32768 < 2048 ∧ m.src < 2048 ∧ m.rh < 16 ∧ m.hops ≤ 5)

/-- Whether the receiver holds the SEQ of a source among its last 256. -/
def State.seenSeq (s : State) (src seq : Nat) : Bool :=
  s.stk.seen.any (fun (p : Nat × List Nat) => decide (p.1 = src) && p.2.contains seq)

/-- The last 256 SEQ values of a source with a new one. -/
def noteSeq (src seq : Nat) : List (Nat × List Nat) → List (Nat × List Nat)
  | [] => [(src, [seq])]
  | (k, qs) :: rest => if k = src then (k, (seq :: qs).take 256) :: rest else (k, qs) :: noteSeq src seq rest

/-- A message sent on towards its destination on a link, its HOPS incremented, its ROUTE bit unchanged (R273). -/
def State.passOn (s : State) (m : StkMsg) (l : Nat) : State :=
  s.emit "FORWARD" l (m.dst % 2048) ([m.src, m.type, m.route + 2 * (m.hops + 1), m.seq] ++ m.pay)

/-- The link a message leaves by: the lowest of its hop that carries traffic. -/
def State.hopOut (s : State) (d r : Nat) : Option Nat := (hopLinks (s.hopWord d r)).find? s.linkUp

/-- A message forwarded by this device's entry for its destination (R273). -/
def State.forward (s : State) (m : StkMsg) : State :=
  match s.hopOut (m.dst % 2048) m.route with
  | some l => s.passOn m l
  | none => s.bump R.stkMsgNorouteCnt

/-- STACK_MSG_RX: the first message received is judged: discarded and counted, forwarded, or accepted for its type's action. RESV and
RELEASE on their way to another device are acted on as they pass (R275). -/
def execStackMsgRx (s : State) : Host.Outcome State Fault Refusal :=
  .next (match s.stk.rx with
    | [] => s
    | (l, t, bs) :: rest =>
      let s := { s with stk := { s.stk with rx := rest } }
      let m := stkMsgOf l t bs
      if !m.ok then s.bump (lkRegs l + 0x1C)
      else if m.local ∨ m.dst = s.devId then
        if s.seenSeq m.src m.seq then s.bump R.stkMsgDupCnt
        else { s with stk := { s.stk with seen := noteSeq m.src m.seq s.stk.seen, inbox := s.stk.inbox ++ [m] } }.bump R.stkMsgRxCnt
      else if m.hops = 5 then s.bump R.stkMsgHopsCnt
      else if m.type = 0x12 ∨ m.type = 0x14 then { s with stk := { s.stk with inbox := s.stk.inbox ++ [m] } }
      else s.forward m)

/-- The first accepted message of a type, taken out and acted on. -/
def State.onStk (s : State) (ty : Nat) (act : State → StkMsg → State) : State :=
  match s.stk.inbox.find? (fun m => decide (m.type = ty)) with
  | some m => act { s with stk := { s.stk with inbox := s.stk.inbox.erase m } } m
  | none => s

/-! Masters (R268, R271, R277). -/

/-- Master-capable by its strap (Table 11.1), and not a STANDBY of a twin pair (R277). -/
def State.stands (s : State) : Bool := decide (s.stk.role % 2 = 1) && !s.isStandby

/-- What has been announced within the last 48 ticks. -/
def State.fresh (s : State) : List Heard := s.stk.heard.filter (fun h => decide (s.ttime ≤ h.t + 48 * tickLen))

/-- The master-capable IDs announced, by the devices themselves or as the master they know, and this device's own. -/
def State.candidates (s : State) : List Nat :=
  (if s.stands then [s.devId] else [])
    ++ (s.fresh.filter (fun h => h.capable && !h.standby && !s.stk.dupIds.contains h.id)).map Heard.id
    ++ (s.fresh.filter (fun h => decide (h.master < 2048) && decide (h.hops < 5))).map Heard.master

/-- The lowest of a list of numbers. -/
def lowest : List Nat → Option Nat
  | [] => none
  | x :: xs => some (xs.foldl min x)

/-- Hops from this device to its system master. -/
def State.masterHops (s : State) : Nat :=
  match s.stk.master with
  | none => 7
  | some m =>
    if m = s.devId then 0
    else ((s.fresh.filter (fun h => decide (h.id = m) || decide (h.master = m))).map (fun h => if h.id = m then 1 else h.hops + 1)).foldl min 7

def State.isMaster (s : State) : Bool := decide (s.stk.master = some s.devId) && !s.isStandby

/-- The links that carry traffic, by ID. -/
def State.upLinks (s : State) : List Nat := (s.ser.link.filter (fun (p : Nat × Link) => decide (p.2.lanes ≠ []))).map Prod.fst

/-- The routing word of a one-link first route with one hop (R277). -/
def oneHop (l : Nat) : Word := word (2 ^ 31 + 2 ^ 28 + 2 ^ 22 + l)

/-- The salvos held here, at a change of the system master: those whose frame T + 1 has not started depend on whether their master is the system
master at that start (R288). -/
def State.orphans (s : State) (m : Option Nat) : List Part :=
  s.stk.parts.map (fun p => if (s.group p.group).frame ≤ p.frame then { p with orphan := decide (m ≠ some p.master) } else p)

/-- The system master elected anew: a change is reported; with none left, routing covers the neighbours alone (R277). -/
def State.elect (s : State) : State :=
  let m := lowest s.candidates
  let s := if m = s.stk.master then s
    else { s with stk := { s.stk with master := m, parts := s.orphans m } }.raise 0x9010 sevNotice kOther 0 (m.getD 0xFFFF) ((s.stk.master).getD 0xFFFF)
  if m.isSome then s
  else s.forEach s.upLinks (fun s l =>
    let d := (s.link l).partner
    if d = s.devId then s else (s.setReg (R.stkRoute (2 * d)) (oneHop l)).setReg (R.stkRoute (2 * d + 1)) 0)

/-- Whether an announcement shows a second device with one ID: it arrives on a link of neither route to that ID, while another of the
same ID and twin flag is fresh on a link of a route (R271, R297). -/
def State.dupSeen (s : State) (h : Heard) : Bool :=
  let ls := hopLinks (s.route h.id 0) ++ hopLinks (s.route h.id 1)
  decide (h.id = s.devId ∧ h.standby = s.isStandby)
    || (!ls.contains h.link && s.fresh.any (fun g => decide (g.id = h.id ∧ g.standby = h.standby ∧ g.link ≠ h.link) && ls.contains g.link))

/-- ANNOUNCE acted on (R277): the candidate is noted, the election follows; a system master that finds two devices with one ID takes
their entry out of the table (R271). -/
def execAnnounce (s : State) : Host.Outcome State Fault Refusal :=
  .next (s.onStk 1 (fun s m =>
    let fl := byteAt m.pay 0
    let h : Heard := { id := m.src, fabric := fl.testBit 0, capable := fl.testBit 1, standby := fl.testBit 2, master := byte2 m.pay 1,
                       hops := byteAt m.pay 3, t := m.t, link := m.link }
    let dup := s.isMaster && s.dupSeen h && !s.stk.dupIds.contains h.id
    let s := { s with stk := { s.stk with heard := h :: s.stk.heard.filter (fun g => !decide (g.id = h.id ∧ g.link = h.link ∧ g.standby = h.standby)) } }
    let s := if dup then
        let s := { s with stk := { s.stk with dupIds := h.id :: s.stk.dupIds } }.raise 0x9013 sevError kOther 0 h.id
        (s.setReg (R.stkRoute (2 * h.id)) 0).setReg (R.stkRoute (2 * h.id + 1)) 0
      else s
    s.elect))

/-- The next multiple of 16 ticks after TTIME. -/
def next16 (t : Nat) : Nat := (t / (16 * tickLen) + 1) * (16 * tickLen)

/-- ANNOUNCE_TIMER: every 16 ticks ANNOUNCE leaves on each active link (R277). -/
def execAnnounceTimer (s : State) : Host.Outcome State Fault Refusal :=
  .next (
    let s := (s.advance (next16 s.ttime)).elect
    let fl := flag s.isFabric 0 + flag (decide (s.stk.role % 2 = 1)) 1 + flag s.isStandby 2
    let mh := match s.stk.master with | some m => leNats 2 m ++ [s.masterHops] | none => [0xFF, 0xFF, 0]
    s.forEach s.upLinks (fun s l => s.sendLocal l "ANNOUNCE" (fl :: mh)))

/-- MASTER_LOST: the system master has been unheard for 48 ticks (R277). -/
def execMasterLost (s : State) : Host.Outcome State Fault Refusal :=
  .next (match s.stk.master with
    | none => s
    | some m =>
      if m = s.devId then s
      else
        let last := ((s.stk.heard.filter (fun h => decide (h.id = m) || decide (h.master = m))).map Heard.t).foldl max 0
        let s := s.advance (last + 48 * tickLen + 1)
        { s with stk := { s.stk with heard := s.stk.heard.filter (fun h => !(decide (h.id = m) || decide (h.master = m))) } }.elect)

/-- The devices of the cluster of this device that are present: itself, those heard, those with a route (R271). -/
def State.clusterIds (s : State) (c : Nat) : List Nat :=
  (List.range 16).map (fun i => 16 * c + i) |>.filter (fun d => decide (d = s.devId) || s.hasRoute d || s.fresh.any (fun h => decide (h.id = d)))

def State.clusterMaster (s : State) (c : Nat) : Option Nat := lowest (s.clusterIds c)

def State.isClusterMaster (s : State) : Bool := decide (s.clusterMaster (s.devId / 16) = some s.devId)

/-! Time (R278). -/

/-- Whether the end of a link other than this device is nearer the master. -/
def State.nearer (s : State) (l : Nat) : Bool :=
  !s.isMaster && s.fresh.any (fun h => decide (h.link = l) && (decide (s.stk.master = some h.id) || (decide (s.stk.master = some h.master) && decide (h.hops < s.masterHops))))

/-- Whether the other end of a link is farther from the master. -/
def State.farther (s : State) (l : Nat) : Bool := s.stk.master.isSome && !s.nearer l

/-- DELAY_REQ acted on: answered with its arrival and the residence in CLK_D periods. -/
def execDelayReq (s : State) : Host.Outcome State Fault Refusal :=
  .next (s.onStk 3 (fun s m => s.sendLocal m.link "DELAY_RESP" (leNats 8 m.t ++ leNats 4 (s.ttime - m.t))))

/-- DELAY_REQ_TIMER: every 16 ticks the receiver of TIME asks on its links. -/
def execDelayReqTimer (s : State) : Host.Outcome State Fault Refusal :=
  .next (
    let s := s.advance (next16 s.ttime)
    s.forEach (s.upLinks.filter s.nearer) (fun s l =>
      let t := s.sendLocal l "DELAY_REQ" (leNats 8 s.ttime)
      { t with stk := { t.stk with reqSent := Tbl.set 0 t.stk.reqSent l t.ttime } }))

/-- DELAY_RESP acted on: the one-way delay is half of the round trip less the residence. -/
def execDelayResp (s : State) : Host.Outcome State Fault Refusal :=
  .next (s.onStk 4 (fun s m =>
    match Tbl.find s.stk.reqSent m.link with
    | none => s
    | some t0 =>
      let d := (m.t - t0 - byte4 m.pay 8) / 2
      { s with stk := { s.stk with delays := Tbl.set 0 s.stk.delays m.link d, reqSent := Tbl.set 0 s.stk.reqSent m.link 0 } }))

/-! Timing groups (R279). -/

/-- A number with given low 32 bits, the nearest to a reference. -/
def nearLow (ref low : Nat) : Nat :=
  let b := ref / 2 ^ 32 * 2 ^ 32 + low
  if ref + 2 ^ 31 < b ∧ 2 ^ 32 ≤ b then b - 2 ^ 32 else if b + 2 ^ 31 < ref then b + 2 ^ 32 else b

/-- GROUP acted on (R279): an STK group that waits adopts frame count and t_k from its cluster master, where the rate
agrees; PHASE_OFS is added to the epoch (Table 4.11). A group of a twin standby takes them from the ACTIVE's over SG7, whatever its source (R299). -/
def execGroup (s : State) : Host.Outcome State Fault Refusal :=
  .next (s.onStk 5 (fun s m =>
    let g := byteAt m.pay 0
    let k := byte2 m.pay 2 + 65536 * byte4 m.pay 4
    let t := nearLow s.ttime (byte4 m.pay 8)
    let num := s.groupRate g
    let twin := s.isStandby && decide (m.link = 28)
    if 16 ≤ g ∨ byteAt m.pay 1 ≠ s.regBits (R.tgrpCtrl g) 23 16 ∨ !s.groupEnabled g then s
    else if !twin && (decide (s.groupSource g ≠ 4 ∨ (s.group g).waiting = none)
        || decide (s.clusterMaster (s.devId / 16) ≠ some m.src ∧ s.stk.master ≠ some m.src)) then s
    else s.fixEpoch g ((t : Int) - (frameOfs num k : Nat) + s.phaseOfs g) s.ttime false))

/-- GROUP_TIMER: every 16 ticks a master sends GROUP for each enabled group that runs, the system master to the cluster masters, a
cluster master to its cluster, the ACTIVE of a twin pair to its standby on SG7 (R299). -/
def execGroupTimer (s : State) : Host.Outcome State Fault Refusal :=
  .next (
    let s := s.advance (next16 s.ttime)
    let dests := (if s.isMaster then (List.range 128).filterMap (fun c => if c = s.devId / 16 then none else s.clusterMaster c) else [])
      ++ (if s.isClusterMaster then s.clusterIds (s.devId / 16) else [])
    let gs := (List.range 16).filter (fun g => s.groupEnabled g && (s.group g).running)
    let pay (s : State) (g : Nat) : List Nat :=
      [g, s.regBits (R.tgrpCtrl g) 23 16] ++ leNats 6 (s.group g).frame ++ leNats 4 ((s.group g).lastStart % 2 ^ 32)
    let s := if s.mirrors then s.forEach gs (fun s g => s.sendLocal 28 "GROUP" (pay s g)) else s
    s.forEach (dests.filter (fun d => decide (d ≠ s.devId))) (fun s d => s.forEach gs (fun s g => s.stkSend d 5 "GROUP" (pay s g))))

/-! Routing tables (R274, R276, R280). -/

/-- Whether a routing word may be loaded: 1 to 5 hops, 1 to 32 links with IDs that exist. -/
def routeWordOk (w : Word) : Bool :=
  !bit w 31 || decide (1 ≤ bits w 30 28 ∧ bits w 30 28 ≤ 5 ∧ 1 ≤ bits w 27 22 ∧ bits w 27 22 ≤ 32 ∧ bits w 8 0 + bits w 27 22 ≤ 288)

/-- ROUTE acted on: an entry of the system master is staged. -/
def execRoute (s : State) : Host.Outcome State Fault Refusal :=
  .next (s.onStk 6 (fun s m =>
    let e : StagedRoute := { d := byte2 m.pay 0 % 2048, w0 := word (byte4 m.pay 2), w1 := word (byte4 m.pay 6), version := byte2 m.pay 10 }
    if s.stk.master = some m.src then
      { s with stk := { s.stk with staged := s.stk.staged.filter (fun x => !decide (x.d = e.d ∧ x.version = e.version)) ++ [e] } }
    else s))

/-- ROUTE_COMMIT acted on: the version and the tick at which it is installed. -/
def execRouteCommit (s : State) : Host.Outcome State Fault Refusal :=
  .next (s.onStk 7 (fun s m =>
    if s.stk.master = some m.src then { s with stk := { s.stk with commit := some (byte4 m.pay 0, byte4 m.pay 4) } } else s))

/-- A staged entry installed: words that may not be loaded leave their route absent; both routes never name one link set (R274). -/
def State.installRoute (s : State) (e : StagedRoute) : State :=
  let w0 := if routeWordOk e.w0 && bit e.w0 31 then e.w0 &&& word 0xFFC001FF else 0
  let w1 := if routeWordOk e.w1 && bit e.w1 31 && !decide (bits e.w1 27 22 = bits e.w0 27 22 ∧ bits e.w1 8 0 = bits e.w0 8 0)
    then e.w1 &&& word 0xFFC001FF else 0
  (s.setReg (R.stkRoute (2 * e.d)) w0).setReg (R.stkRoute (2 * e.d + 1)) w1

/-- ROUTE_INSTALL: the tick named has come: the staged entries of the version are installed, or the old table stays where some of them
have not been received (R276). -/
def execRouteInstall (missing : Nat) (s : State) : Host.Outcome State Fault Refusal :=
  .next (match s.stk.commit with
    | none => s
    | some (v, tick) =>
      let s := s.advance (nearLow s.tick tick * tickLen)
      let mine := s.stk.staged.filter (fun e => decide (e.version = v % 65536))
      let s := { s with stk := { s.stk with commit := none, staged := s.stk.staged.filter (fun e => !decide (e.version = v % 65536)) } }
      if missing ≠ 0 ∨ mine = [] then s.raise 0x9012 sevWarn kOther 0 v
      else
        let s := s.forEach mine State.installRoute
        { s with stk := { s.stk with version := v } }.raise 0x9011 sevInfo kOther 0 v)

/-! The remote-take exchange (R109, R275). Payload: flow, status, route, coded rate, requesting output and device. -/

def StkMsg.xFlow (m : StkMsg) : Nat := byte2 m.pay 0
def StkMsg.xStatus (m : StkMsg) : Nat := byteAt m.pay 2
def StkMsg.xRoute (m : StkMsg) : Nat := byteAt m.pay 3 % 2
def StkMsg.xRate (m : StkMsg) : Nat := byte4 m.pay 4
def StkMsg.xOut (m : StkMsg) : Nat := byte2 m.pay 8
def StkMsg.xDev (m : StkMsg) : Nat := byte2 m.pay 10

/-- The coded rate of a flow of this device with its associated audio. -/
def State.exportRate (s : State) (f : Nat) : Nat :=
  s.codedMbps (s.flow f) (match s.audioOf f with | some a => (s.flow a).audioCount | none => 0)

/-- EXPORT_REQ acted on at the source: the flow has to be a valid stored video flow (R109). -/
def execExportReq (s : State) : Host.Outcome State Fault Refusal :=
  .next (s.onStk 0x10 (fun s m =>
    let f := m.xFlow
    let x := s.flow f
    let ok := x.usable && x.isVideo && x.storeEn
    let mbps := s.exportRate f
    let xs := s.stk.exports.filter (fun e => !decide (e.flow = f ∧ e.dev = m.src)) ++ [{ flow := f, dev := m.src, out := m.xOut, mbps := mbps }]
    let s := if ok then { s with stk := { s.stk with exports := xs } } else s
    s.stkSend m.src 0x11 "EXPORT_ACK" (exchPay f (if ok then stOk else stDenied) 0 mbps m.xOut m.xDev)))

/-- EXPORT_ACK acted on at the taker: the route is asked for, or the take is to fail. -/
def execExportAck (s : State) : Host.Outcome State Fault Refusal :=
  .next (s.onStk 0x11 (fun s m =>
    match s.landingOf m.src m.xFlow with
    | none => s
    | some f =>
      if m.xStatus ≠ stOk then s.modFlow f (fun x => { x with failed := stDenied })
      else
        let s := s.modFlow f (fun x => { x with acked := true, resvRate := m.xRate })
        s.stkSend m.src 0x12 "RESV" (exchPay m.xFlow 0 0 m.xRate m.xOut m.xDev)))

/-- The source reserves its own hop of a route, the first and then the second, and sends RESV along it; without a route it answers
NO_BANDWIDTH (R108, R275). -/
def State.sourceReserve (s : State) (r : Resv) : State :=
  match s.reserveHop r with
  | some (q, t) => t.sendResv q
  | none =>
    match (if r.route = 0 ∧ bit (s.route r.dst 1) 31 then s.reserveHop { r with route := 1, tried := [] } else none) with
    | some (q, t) => t.sendResv q
    | none => s.stkSend r.dst 0x13 "RESV_ACK" (exchPay r.flow stNoBandwidth r.route r.mbps r.out r.dst)

/-- RESV acted on: at the source it starts the reservation; on its way the hop is reserved on the copy of its route, or the trial is
reported back; at the taker it is answered (R275). -/
def execResv (s : State) : Host.Outcome State Fault Refusal :=
  .next (s.onStk 0x12 (fun s m =>
    if m.dst ≠ s.devId then
      if m.route ≠ m.xRoute then s.forward m
      else match s.reserveHop { link := 0, dev := m.src, flow := m.xFlow, dst := m.dst, out := m.xOut, mbps := m.xRate, route := m.xRoute, up := some m.link } with
        | some (q, t) => t.passOn m q.link
        | none => s.stkSend (s.link m.link).partner 0x13 "RESV_ACK" (exchPay m.xFlow stNoBandwidth m.xRoute m.xRate m.xOut m.xDev)
    else if m.xDev = m.src then
      if s.stk.exports.any (fun e => decide (e.flow = m.xFlow ∧ e.dev = m.src)) then
        let r : Resv := { link := 0, dev := s.devId, flow := m.xFlow, dst := m.src, out := m.xOut, mbps := s.exportRate m.xFlow }
        (s.dropResv r).sourceReserve r
      else s.stkSend m.src 0x13 "RESV_ACK" (exchPay m.xFlow stDenied 0 m.xRate m.xOut m.xDev)
    else match s.landingOf m.src m.xFlow with
      | some f =>
        let s := s.modFlow f (fun x => { x with route := m.xRoute, resvRate := m.xRate })
        s.stkSend m.src 0x13 "RESV_ACK" (exchPay m.xFlow stOk m.xRoute m.xRate m.xOut m.xDev)
      | none => s))

/-- RESV_ACK acted on: the source starts the stream; a hop whose trial failed tries its next member, then reports back; the taker's
take is to fail (R109, R275). -/
def execResvAck (s : State) : Host.Outcome State Fault Refusal :=
  .next (s.onStk 0x13 (fun s m =>
    if m.xStatus = stOk then
      { s with stk := { s.stk with exports := s.stk.exports.map (fun e => if e.flow = m.xFlow ∧ e.dev = m.src then { e with running := true, route := m.xRoute } else e) } }
    else match s.stk.resvs.find? (fun r => decide (r.flow = m.xFlow ∧ r.dst = m.xDev ∧ r.out = m.xOut)) with
      | some r =>
        let s := s.dropResv r
        if r.dev = s.devId then s.sourceReserve r
        else match s.reserveHop r with
          | some (q, t) => t.sendResv q
          | none => (match r.up with
            | some l => s.stkSend (s.link l).partner 0x13 "RESV_ACK" (exchPay r.flow stNoBandwidth r.route r.mbps r.out r.dst)
            | none => s)
      | none => match s.landingOf m.src m.xFlow with
        | some f => s.modFlow f (fun x => { x with failed := if m.xStatus = stDenied then stDenied else stNoBandwidth })
        | none => s))

/-- RELEASE acted on: the source ends the export and releases the route; each hop frees its reservation as the message passes (R109). -/
def execRelease (s : State) : Host.Outcome State Fault Refusal :=
  .next (s.onStk 0x14 (fun s m =>
    let free (s : State) (dev dst : Nat) : State :=
      let rs := s.stk.resvs.filter (fun r => !decide (r.dev = dev ∧ r.flow = m.xFlow ∧ r.dst = dst))
      { s with stk := { s.stk with resvs := rs } }
    if m.dst ≠ s.devId then (free s m.src (m.dst % 2048)).forward m
    else if m.xDev = m.src then
      let s := { s with stk := { s.stk with exports := s.stk.exports.filter (fun e => !decide (e.flow = m.xFlow ∧ e.dev = m.src)) } }
      (free s s.devId m.src).stkSend m.src 0x14 "RELEASE" (exchPay m.xFlow 0 m.xRoute m.xRate m.xOut m.src)
    else s))

end Sys2Proof.Machine
end

