-- ==== Sys2Proof/Machine/Salvo.lean ====
section
/-! DEFINITION. Salvos (R216, R281 to R288): the issuing engine, the master, the participants; the latch line, the switching line and the outcome of a remote exchange with what they mean for a salvo. -/

namespace Sys2Proof.Machine

/-! The issuing engine. -/

/-- An engine's SALVO ends with a status and a value for its destination register. -/
def State.salvoEnds (s : State) (e st : Nat) (v : Word) : State :=
  match (s.ce e).salvo with
  | none => s
  | some w =>
    let s := s.modCe e (fun c => { c with salvo := none })
    let s := if st = stOk then s.modUnit (128 + e) (fun x => x.setV (BitVec.ofNat 4 w.vd) v) else s
    s.unstall e st

/-- The engines that wait for a salvo. -/
def State.salvoEngines (s : State) (id : Nat) : List Nat :=
  (List.range 4).filter (fun e => match (s.ce e).salvo with | some w => decide (w.id = id) | none => false)

/-! The master (R281 to R285). -/

def State.salvo (s : State) (id : Nat) : Option Salvo := s.stk.salvos.find? (fun v => decide (v.id = id))
def State.setSalvo (s : State) (v : Salvo) : State :=
  { s with stk := { s.stk with salvos := s.stk.salvos.map (fun w => if w.id = v.id then v else w) } }

/-- A salvo of the master as its standby holds it: its state and the acknowledgements (R288, R298). -/
def State.mirrorSalvo (s : State) (v : Salvo) (state : Nat) : State :=
  s.mirror "SALVO" ([v.id, v.issuer, v.frame, v.group, v.deadline, state] ++ v.answers.flatMap (fun a => [a.dev, a.ack]))

/-- A salvo of a participant as its standby holds it (R288, R301). -/
def State.mirrorPart (s : State) (p : Part) (state : Nat) : State :=
  s.mirror "PART" ([p.id, p.master, p.frame, p.group, state] ++ p.outs.flatMap (fun x => [x.out, x.word.toNat]))

/-- PREPARE and that device's ENTRY messages to each participating device (R282). -/
def State.prepareAll (s : State) (v : Salvo) : State :=
  let devs := (v.entries.map (fun e => e.1)).eraseDups
  let v := { v with whole := true, answers := devs.map (fun d => { dev := d }) }
  let s := (s.setSalvo v).mirrorSalvo v 1
  s.forEach devs (fun s d =>
    let mine := v.entries.filter (fun e => decide (e.1 = d))
    let s := s.stkSend d 0x21 "PREPARE" (leNats 4 v.id ++ leNats 6 v.frame ++ [v.group, mine.length])
    let last := mine.length - 1
    (mine.zipIdx).foldl (fun s e => s.stkSend d 0x22 "ENTRY"
      (leNats 4 v.id ++ leNats 2 d ++ [e.1.2.1] ++ leNats 4 e.1.2.2.toNat ++ [flag (decide (e.2 = last)) 0])) s)

/-- SUBMIT acted on by the system master (R281). -/
def execSubmit (s : State) : Host.Outcome State Fault Refusal :=
  .next (s.onStk 0x20 (fun s m =>
    let id := byte4 m.pay 0
    if !s.isMaster || (s.salvo id).isSome then s
    else
      let v : Salvo := { id := id, issuer := m.src, frame := byte4 m.pay 4 + 2 ^ 32 * byte2 m.pay 8, group := byteAt m.pay 10, deadline := byteAt m.pay 11 }
      { s with stk := { s.stk with salvos := s.stk.salvos ++ [v] } }))

/-- The frame in which the master decides (R216, R283). -/
def Salvo.decideAt (v : Salvo) : Nat := v.frame - (if v.deadline = 0 then 2 else v.deadline)

/-- The devices told of the decision: the participants and the issuing device. -/
def Salvo.told (v : Salvo) : List Nat := ((v.answers.map Answer.dev) ++ [v.issuer]).eraseDups

def Salvo.answer (v : Salvo) (d : Nat) (f : Answer → Answer) : Salvo :=
  { v with answers := v.answers.map (fun a => if a.dev = d then f a else a) }

/-- READY acted on by the master (R283). -/
def execReady (s : State) : Host.Outcome State Fault Refusal :=
  .next (s.onStk 0x23 (fun s m => match s.salvo (byte4 m.pay 0) with
    | some v => s.setSalvo (v.answer m.src (fun a => { a with answer := 1 }))
    | none => s))

/-- REFUSE acted on by the master (R283). -/
def execRefuse (s : State) : Host.Outcome State Fault Refusal :=
  .next (s.onStk 0x24 (fun s m => match s.salvo (byte4 m.pay 0) with
    | some v => s.setSalvo (v.answer m.src (fun a => { a with answer := 2 }))
    | none => s))

/-- SALVO_DECIDE: at the frame start of frame D the master sends COMMIT where every participant has answered READY, else ABORT (R283). -/
def execSalvoDecide (id : Nat) (s : State) : Host.Outcome State Fault Refusal :=
  .next (match s.salvo id with
    | none => s
    | some v =>
      let g := s.group v.group
      if v.decided.isSome || !s.isMaster || !g.running || decide (g.frame < v.decideAt) then s
      else if v.whole && v.answers.all (fun a => decide (a.answer = 1)) then
        ((s.setSalvo { v with decided := some true }).mirrorSalvo v 2).forEach v.told (fun s d => s.stkSend d 0x25 "COMMIT" (leNats 4 id ++ leNats 4 (v.frame % 2 ^ 32)))
      else
        let cause := if v.answers.any (fun a => decide (a.answer = 2)) then 0 else 1
        let s := { s with stk := { s.stk with salvos := s.stk.salvos.filter (fun w => decide (w.id ≠ id)) } }
        let s := (s.raise 0x9002 sevNotice kOther 0 id 0 cause).mirrorSalvo v 0
        s.forEach v.told (fun s d => s.stkSend d 0x26 "ABORT" (leNats 4 id ++ [cause])))

/-- ACK acted on by the master (R285): a FAULT after COMMITTED stands (R288). -/
def execSalvoAck (s : State) : Host.Outcome State Fault Refusal :=
  .next (s.onStk 0x27 (fun s m => match s.salvo (byte4 m.pay 0) with
    | some v =>
      let v := v.answer m.src (fun a => { a with ack := byteAt m.pay 4 + 1 })
      (s.setSalvo v).mirrorSalvo v (if v.decided = some true then 2 else 1)
    | none => s))

/-- SALVO_COLLECT: at the frame start of frame T + 1 the salvo is complete, or COMP goes to every participant that committed or did
not acknowledge (R285), where this device is the system master then (R288). -/
def execSalvoCollect (id : Nat) (s : State) : Host.Outcome State Fault Refusal :=
  .next (match s.salvo id with
    | none => s
    | some v =>
      let g := s.group v.group
      if v.decided ≠ some true ∨ !g.running ∨ g.frame < v.frame + 1 then s
      else
        let s := { s with stk := { s.stk with salvos := s.stk.salvos.filter (fun w => decide (w.id ≠ id)) } }
        let s := s.mirrorSalvo v 0
        if !s.isMaster then s
        else if v.answers.all (fun a => decide (a.ack = 1)) then s.raise 0x9001 sevInfo kOther 0 id
        else
          let dests := (v.answers.filter (fun a => decide (a.ack ≤ 1))).map Answer.dev
          (s.raise 0x9004 sevWarn kOther 0 id).forEach dests (fun s d => s.stkSend d 0x28 "COMP" (leNats 4 id)))

/-! SALVO (R216, Table 8.10). -/

/-- The entries of a salvo descriptor: device, output, source word. -/
def salvoEntries (ws : List Word) (n : Nat) : List (Nat × Nat × Word) :=
  (List.range n).map (fun i => (bits (wordAt ws (4 + 4 * i)) 26 16, bits (wordAt ws (4 + 4 * i)) 7 0, wordAt ws (5 + 4 * i)))

/-- The operand checks of a salvo descriptor. -/
def salvoOk (ws : List Word) (n : Nat) : Bool :=
  (List.range n).all (fun i =>
    let w := wordAt ws (4 + 4 * i)
    decide (bits w 31 27 = 0 ∧ bits w 15 8 = 0 ∧ bits w 7 0 < 64 ∧ wordAt ws (6 + 4 * i) = 0 ∧ wordAt ws (7 + 4 * i) = 0)
      && srcWordOk (wordAt ws (5 + 4 * i)))

/-- Whether an output appears twice among the entries. -/
def twice : List (Nat × Nat × Word) → Bool
  | [] => false
  | e :: es => es.any (fun f => decide (f.1 = e.1 ∧ f.2.1 = e.2.1)) || twice es

/-- The salvo of engine e handed to the system master (R281): without a master that can be reached it ends ABORTED. -/
def State.submitSalvo (s : State) (e : Nat) (d : VReg) (w0 tag : Word) (es : List (Nat × Nat × Word)) : State :=
  let u := 128 + e
  let g := bits w0 7 0
  let T := (s.group g).frame + bits w0 15 8
  let q := (s.stk.salvoSeq + 1) % 2 ^ 21
  let id := s.devId * 2 ^ 21 + q
  let s := { s with stk := { s.stk with salvoSeq := q } }.setRegN R.stkSalvoLast id
  match s.stk.master with
  | none => (s.raise 0x9002 sevNotice kOther 0 id tag.toNat 2).mediaResult u stAborted
  | some m =>
    if m ≠ s.devId ∧ !s.hasRoute m then (s.raise 0x9002 sevNotice kOther 0 id tag.toNat 2).mediaResult u stAborted
    else
      let s := (s.modCe e (fun c => { c with salvo := some { vd := d.toNat, tag := tag, id := id, group := g, target := T } })).modUnit u
        (fun x => { x with stalled := true })
      if m = s.devId then
        let v : Salvo := { id := id, issuer := s.devId, frame := T, group := g, deadline := bits w0 23 16, tag := tag, entries := es }
        { s with stk := { s.stk with salvos := s.stk.salvos ++ [v] } }.prepareAll v
      else
        let s := s.stkSend m 0x20 "SUBMIT" (leNats 4 id ++ leNats 6 T ++ [g, bits w0 23 16])
        let last := es.length - 1
        (es.zipIdx).foldl (fun s x => s.stkSend m 0x22 "ENTRY"
          (leNats 4 id ++ leNats 2 x.1.1 ++ [x.1.2.1] ++ leNats 4 x.1.2.2.toNat ++ [flag (decide (x.2 = last)) 0])) s

/-- SALVO vd, va: the descriptor checked, the salvo submitted; the engine stalls until a decision reaches this device (R216). -/
def execSalvo (u : Nat) (d a : VReg) (s : State) : Host.Outcome State Fault Refusal :=
  .next (s.umber u (encM 0x3E 0 a d 0) true [a] (fun s _ =>
    let addr := (s.v u a).toNat
    match s.readRecord u addr 4 with
    | .error c => .error c
    | .ok hd =>
      let w0 := wordAt hd 0
      let n := bits (wordAt hd 1) 12 0
      let lead := bits w0 15 8
      if bits w0 31 24 ≠ 0 ∨ 16 ≤ bits w0 7 0 ∨ bits (wordAt hd 1) 31 13 ≠ 0 ∨ wordAt hd 3 ≠ 0 then .error fltOperand
      else if (s.openGroup u).isSome then .ok (s.mediaResult u stDenied)
      else if n = 0 ∨ 4096 < n ∨ lead < 3 ∨ lead ≤ bits w0 23 16 then .ok (s.mediaResult u stRange)
      else match s.readRecord u addr (4 + 4 * n) with
        | .error c => .error c
        | .ok ws =>
          if !salvoOk ws n then .error fltOperand
          else if !s.groupEnabled (bits w0 7 0) || twice (salvoEntries ws n) then .ok (s.mediaResult u stDenied)
          else .ok (s.submitSalvo (u - 128) d w0 (wordAt ws 2) (salvoEntries ws n))))

/-- SALVO_TIMEOUT: no decision has reached this device by the frame start of T − 1 (R216). -/
def execSalvoTimeout (e : Nat) (s : State) : Host.Outcome State Fault Refusal :=
  .next (match (s.ce e).salvo with
    | some w => if w.target ≤ (s.group w.group).frame + 1 ∧ (s.group w.group).running then s.salvoEnds e stTimeout 0 else s
    | none => s)

/-! The participants (R282 to R287). -/

def State.part (s : State) (id : Nat) : Option Part := s.stk.parts.find? (fun p => decide (p.id = id))
def State.setPart (s : State) (p : Part) : State := { s with stk := { s.stk with parts := s.stk.parts.map (fun q => if q.id = p.id then p else q) } }
def State.dropPart (s : State) (id : Nat) : State := { s with stk := { s.stk with parts := s.stk.parts.filter (fun q => decide (q.id ≠ id)) } }

/-- SALVO_LAST_RESULT: a status and an outcome (Table 11.14). -/
def State.salvoResult (s : State) (st res : Nat) : State := s.setRegN R.stkSalvoLastResult (st * 256 + res)

/-- Whether an output still shows the source its salvo gave it, with no other take committed since (R285). -/
def State.untouched (s : State) (x : SalvoOut) : Bool :=
  (s.out x.out).pend.isNone && (match x.take with | some p => decide ((s.out x.out).cur = p.src) | none => false)

/-- PREPARE acted on: the entries that follow are collected. Released salvos whose outputs have changed since are forgotten. -/
def execPrepare (s : State) : Host.Outcome State Fault Refusal :=
  .next (s.onStk 0x21 (fun s m =>
    let p : Part := { id := byte4 m.pay 0, master := m.src, frame := byte4 m.pay 4 + 2 ^ 32 * byte2 m.pay 8, group := byteAt m.pay 10, count := byteAt m.pay 11 }
    let keep (q : Part) : Bool := decide (q.id ≠ p.id) && (decide (q.phase ≠ .released) || q.outs.any (fun x => s.untouched x))
    { s with stk := { s.stk with parts := s.stk.parts.filter keep ++ [p] } }.setRegN R.stkSalvoLast p.id))

/-- Whether a salvo's group and target frame agree with this device's (R282). -/
def State.groupAgrees (s : State) (n : Nat) (p : Part) : Bool :=
  let g := s.group p.group
  decide ((s.out n).latestGroup = some p.group) && s.groupEnabled p.group && g.running && decide (g.frame < p.frame ∧ p.frame ≤ g.frame + 255)

/-- The checks of R282 on one entry: those of Table 4.7 but the second, then BUSY, then DENIED. -/
def State.entryCheck (s : State) (p : Part) (x : SalvoOut) : Except Nat (State × SalvoOut) :=
  match s.takeCheck 0x1000 none x.out x.out x.word true with
  | .error r => .error r
  | .ok (t, q) =>
    let o := s.out x.out
    if o.salvo.isSome || o.grpHold.isSome || o.pend.isSome then .error stBusy
    else if !s.groupAgrees x.out p then .error stDenied
    else .ok (t, { x with take := some { q with own := false }, pre := o.cur })

/-- The entries checked in order, each on the charges of those before it; the first refusal with its output ends it. -/
def State.entryChecks (p : Part) : List SalvoOut → List SalvoOut → State → Except (Nat × Nat) (State × List SalvoOut)
  | [], done, s => .ok (s, done)
  | x :: xs, done, s => match s.entryCheck p x with
    | .error r => .error (r, x.out)
    | .ok (t, y) => State.entryChecks p xs (done ++ [y]) (t.setPart { p with phase := .preparing, outs := done ++ [y] })

/-- A participant refuses: everything is released (R282). -/
def State.refuseSalvo (s : State) (p : Part) (st out : Nat) : State :=
  ((s.dropPart p.id).gcLandings.salvoResult st 0).stkSend p.master 0x24 "REFUSE" (leNats 4 p.id ++ [st, out])

/-- A participant whose landing stores hold frames answers READY and holds its outputs (R282, R286). -/
def State.settlePart (s : State) (p : Part) : State :=
  let ready (x : SalvoOut) : Bool := match x.take with | some q => !decide (q.src.kind = 2) || s.landingReady q.src.dev q.src.idx | none => false
  if p.phase ≠ .preparing ∨ !p.outs.all ready then s
  else
    let outs := p.outs.map (fun x => { x with take := x.take.map (fun q => { q with remote := false }), pre := (s.out x.out).cur })
    let s := s.setPart { p with phase := .ready, outs := outs }
    let s := s.forEach outs (fun s x => s.modOut x.out (fun o => { o with salvo := some p.id }))
    ((s.bump R.stkSalvoCnt).mirrorPart { p with outs := outs } 1).stkSend p.master 0x23 "READY" (leNats 4 p.id)

def State.settleParts (s : State) : State := s.stk.parts.foldl State.settlePart s

/-- An entry collected by a participant; after the last all are checked (R282). -/
def State.gather (s : State) (id src out : Nat) (w : Word) : State :=
  match s.part id with
  | none => s
  | some p =>
    if p.phase ≠ .gathering ∨ p.master ≠ src then s
    else
      let p := { p with outs := p.outs ++ [{ out := out, word := w }] }
      if p.outs.length < p.count then s.setPart p
      else match State.entryChecks p p.outs [] s with
        | .error (st, n) => s.refuseSalvo p st n
        | .ok (t, outs) =>
          let q := { p with phase := .preparing, outs := outs }
          (t.setPart q).settlePart q

/-- ENTRY acted on: the master collects a submission and sends PREPARE after the last; a participant collects its entries and checks
them after the last (R281, R282). -/
def execEntry (s : State) : Host.Outcome State Fault Refusal :=
  .next (s.onStk 0x22 (fun s m =>
    let id := byte4 m.pay 0
    let dev := byte2 m.pay 4
    let out := byteAt m.pay 6
    let w := word (byte4 m.pay 7)
    let last := (byteAt m.pay 11).testBit 0
    match s.salvo id with
    | some v =>
      if !v.whole ∧ m.src = v.issuer then
        let v := { v with entries := v.entries ++ [(dev, out, w)] }
        if last then s.prepareAll v else s.setSalvo v
      else s.gather id m.src out w
    | none => s.gather id m.src out w))

/-- Whether the first latch line of frame T − 1 among the held outputs has been seen (R284). -/
def State.latchPassed (s : State) (p : Part) : Bool :=
  decide (p.frame ≤ (s.group p.group).frame + 1) && p.outs.any (fun x => (s.out x.out).scanning && ((s.out x.out).latchSeen || decide (p.frame ≤ (s.group p.group).frame)))

/-- COMMIT acted on: the issuing engine goes on with T; a participant holds the decision, but one that aborted, or whose
latch line of frame T − 1 has passed without it, ignores it (R284). -/
def execSalvoCommitMsg (s : State) : Host.Outcome State Fault Refusal :=
  .next (s.onStk 0x25 (fun s m =>
    let id := byte4 m.pay 0
    let s := s.forEach (s.salvoEngines id) (fun s e => s.salvoEnds e stOk (word (byte4 m.pay 4)))
    match s.part id with
    | none => s
    | some p =>
      if p.split ∨ (p.phase = .ready ∧ s.latchPassed p) then s.bump R.stkSalvoSplitCnt
      else if p.phase = .ready then (s.setPart { p with phase := .committed }).mirrorPart p 2
      else s))

/-- Outputs of a salvo held no longer. -/
def State.unhold (s : State) (p : Part) : State :=
  s.forEach p.outs (fun s x => s.modOut x.out (fun o => if o.salvo = some p.id then { o with salvo := none } else o))

/-- ABORT acted on: the issuing engine ends ABORTED; a participant releases its reservations at once (R283). -/
def execSalvoAbortMsg (s : State) : Host.Outcome State Fault Refusal :=
  .next (s.onStk 0x26 (fun s m =>
    let id := byte4 m.pay 0
    let es := s.salvoEngines id
    let s := if es = [] ∨ m.src = s.devId then s else s.raise 0x9002 sevNotice kOther 0 id 0 (byteAt m.pay 4)
    let s := s.forEach es (fun s e => s.salvoEnds e stAborted 0)
    match s.part id with
    | none => s.bump R.stkSalvoAbortCnt
    | some p =>
      if p.split ∨ p.phase = .committed ∨ p.phase = .taken ∨ p.phase = .released then s
      else (((((s.unhold p).dropPart id).gcLandings).mirrorPart p 0).bump R.stkSalvoAbortCnt).salvoResult stAborted 2))

/-- SALVO_SPLIT: READY without a decision at that latch line: the participant aborts locally and releases nothing (R284). -/
def execSalvoSplit (id : Nat) (s : State) : Host.Outcome State Fault Refusal :=
  .next (match s.part id with
    | none => s
    | some p =>
      if p.phase ≠ .ready ∨ p.split ∨ !s.latchPassed p ∨ s.isStandby then s
      else
        let s := s.setPart { p with split := true, acked := true }
        let s := ((s.raise 0x9003 sevError kOther 0 id).bump R.stkSalvoSplitCnt).salvoResult stAborted 3
        s.ackSalvo p 1 p.outs.length)

/-- SALVO_TAKE_COMMIT: at t_T the participants commit their salvo takes (R284); a faulted output's take is discarded (R288). A standby has them from
the mirror. -/
def execSalvoTakeCommit (id : Nat) (s : State) : Host.Outcome State Fault Refusal :=
  .next (match s.part id with
    | none => s
    | some p =>
      let g := s.group p.group
      if p.phase ≠ .committed ∨ !g.running ∨ g.frame < p.frame then s
      else
        let s := s.setPart { p with phase := .taken }
        let s := s.forEach (if s.isStandby then [] else p.outs.filter (fun x => !x.faulted)) (fun s x => match x.take with
          | some q => (s.commitTake x.out { q with salvo := some id }).modOut x.out (fun o => { o with pend := o.pend.map (fun y => { y with late := false }) })
          | none => s)
        s.salvoResult stOk 1)

/-- COMP acted on: a participant that committed undoes its takes at the next switching line after they are visible; later than the
switching line of T + 1 it is late (R285). -/
def execComp (s : State) : Host.Outcome State Fault Refusal :=
  .next (s.onStk 0x28 (fun s m =>
    match s.part (byte4 m.pay 0) with
    | none => s
    | some p =>
      if p.split ∨ p.comp ∨ (p.phase ≠ .committed ∧ p.phase ≠ .taken ∧ p.phase ≠ .released) then s
      else
        let g := s.group p.group
        let late := decide (p.frame + 1 < g.frame) || (decide (g.frame = p.frame + 1) && p.outs.any (fun x => (s.out x.out).swSeen))
        let s := s.setPart { p with comp := true }
        if late then (s.raise 0x9005 sevError kOther 0 p.id).bump R.stkSalvoCompLateCnt else s))

/-! The lines of an output, with the salvos it takes part in. -/

/-- A COMMIT in hand at the latch line of frame T − 1 is acknowledged at once (R284). -/
def State.ackCommits (s : State) (n : Nat) : State :=
  s.stk.parts.foldl (fun s p =>
    if p.phase = .committed ∧ !p.acked ∧ !s.isStandby ∧ p.outs.any (fun x => decide (x.out = n)) ∧ p.frame ≤ (s.group p.group).frame + 1 then
      (s.setPart { p with acked := true }).ackSalvo p 0 p.outs.length
    else s) s

/-- LATCH_LINE: the latch line of output n starts. -/
def execLatchLine (n : Nat) (s : State) : Host.Outcome State Fault Refusal :=
  .next (if s.outPresent n && (s.out n).scanning then (s.latchLine n).ackCommits n else s)

/-- The compensating take of one output, committed after its salvo take has become visible (R285). -/
def State.compensate (s : State) (p : Part) (n : Nat) : State :=
  match p.outs.find? (fun x => decide (x.out = n)) with
  | none => s
  | some x =>
    let gone := decide (x.pre.kind = 2) && (s.landingOf x.pre.dev x.pre.idx).isNone
    if !p.comp || x.undone || x.faulted || !s.untouched x || gone || decide (p.phase ≠ .taken ∧ p.phase ≠ .released) then s
    else
      let s := s.commitTake n { src := x.pre, commitT := s.ttime, salvo := some p.id }
      let s := s.modOut n (fun o => { o with pend := o.pend.map (fun q => { q with swLeft := 1, late := false }) })
      let s := s.setPart { p with outs := p.outs.map (fun y => if y.out = n then { y with undone := true } else y) }
      (s.bump R.stkSalvoCompCnt).salvoResult stOk 4

/-- The hold of an output ends at the switching line of frame T + 2 (R286); a split that the master's loss left is reported (R288). -/
def State.endHold (s : State) (p : Part) (n : Nat) : State :=
  if (s.out n).salvo ≠ some p.id ∨ (s.group p.group).frame < p.frame + 2 then s
  else
    let s := s.modOut n (fun o => { o with salvo := none })
    if p.outs.any (fun x => decide ((s.out x.out).salvo = some p.id)) then s
    else
      let s := if p.orphan ∧ !s.isStandby then s.raise 0x9006 sevError kOther 0 p.id else s
      (((if p.split then s.dropPart p.id else s.setPart { p with phase := .released }).mirrorPart p 0)).gcLandings

/-- SWITCHING_LINE: the start of line SW of output n, with the passed ancillary packets that find no room in the frame. -/
def execSwitchingLine (n noRoom : Nat) (s : State) : Host.Outcome State Fault Refusal :=
  .next (if s.outPresent n && (s.out n).scanning then
      let s := s.switchingLine n noRoom
      let mine (p : Part) : Bool := p.outs.any (fun x => decide (x.out = n))
      let s := (s.stk.parts.filter mine).foldl (fun s p => s.compensate p n) s
      (s.stk.parts.filter mine).foldl (fun s p => s.endHold p n) s
    else s)

/-! The outcome of a remote exchange at the taker (R109, R204, R282). -/

/-- The exchange completes: the landing store has a frame. Pending takes may become visible, a prepared flow is reported, a salvo that
waited for it may be answered. -/
def execRemotePrepared (f : Nat) (s : State) : Host.Outcome State Fault Refusal :=
  .next (let x := s.flow f
    match x.landing, x.exchange with
    | some (dev, idx), some _ =>
      if !x.ready then s
      else
        let s := s.setFlow f { x with exchange := none, failed := 0 }
        let s := { s with outs := s.outs.map (fun (p : Nat × Out) => (p.1, match p.2.pend with
          | some q => if q.src.kind = 2 ∧ q.src.dev = dev ∧ q.src.idx = idx then { p.2 with pend := some { q with remote := false } } else p.2
          | none => p.2)) }
        let s := if x.prepared then s.raise 0x4012 sevInfo kFlow f dev idx else s
        s.settleParts
    | _, _ => s)

/-- The exchange fails: the source is no valid stored video flow (DENIED), no route fits (NO_BANDWIDTH), or its 32 ticks pass
(TIMEOUT). Pending takes of it are discarded with their status; a salvo that waited for it is refused. -/
def execRemoteTakeFail (f : Nat) (s : State) : Host.Outcome State Fault Refusal :=
  .next (let x := s.flow f
    match x.landing, x.exchange with
    | some (dev, idx), some lim =>
      let st := if x.failed = 0 then stTimeout else x.failed
      let s := if x.failed = 0 then s.advance lim else s
      let isIt (y : Source) : Bool := decide (y.kind = 2 ∧ y.dev = dev ∧ y.idx = idx)
      let hit := (Tbl.keys s.outs).eraseDups.filter (fun n => match (s.out n).pend with
        | some q => isIt q.src
        | none => false)
      let s := s.forEach hit (fun s n => (((s.modOut n (fun o => { o with pend := none, takeStatus := st })).bump (R.outRemoteFailCnt n)).raise
        0x4010 sevWarn kOut n dev idx st))
      let s := if hit = [] then s.raise 0x4010 sevWarn kFlow f dev idx st else s
      let s := s.stk.parts.foldl (fun s p =>
        match p.outs.find? (fun y => match y.take with | some q => isIt q.src | none => false) with
        | some y => if p.phase = .preparing then s.refuseSalvo p st y.out else s
        | none => s) s
      s.dropLanding f
    | _, _ => s)

end Sys2Proof.Machine
end

