-- ==== Sys2Proof/Machine/Scan.lean ====
section
/-! DEFINITION. Scanned lines (R153 to R158, R165, R232, R233): buffer occupancy and urgency, underflows, pairs that fail their check, the capture of a freeze (R105), the planes fetched and blended over the video, the sampled places (R168). -/

namespace Sys2Proof.Machine

/-- Fetch urgency of an occupancy, capped at 2 by URG_CAP (R153, R155). -/
def urgencyOf (level : Nat) (cap : Bool) : Nat := if level ≤ 2 then (if cap then 2 else 3) else if level ≤ 6 then 2 else 0

/-! Plane pixels (R157, R158). -/

/-- A plane pixel unpacked (Table 6.7): alpha and the number that stands for 1, then R, G, B. -/
def planePixelOf (fmt : Nat) (bs : List Byte) : Nat × Nat × List Nat :=
  let x := ofLeBytes bs
  match fmt with
  | 0 => (1, 1, [fieldOf x 15 11, fieldOf x 10 5, fieldOf x 4 0])
  | 1 => (1, 1, [fieldOf x 23 16, fieldOf x 15 8, fieldOf x 7 0])
  | 2 => (fieldOf x 31 24, 255, [fieldOf x 23 16, fieldOf x 15 8, fieldOf x 7 0])
  | _ => (fieldOf x 31 30, 3, [fieldOf x 29 20, fieldOf x 19 10, fieldOf x 9 0])

/-- One component P of a plane pixel with alpha a / d combined with the picture V beneath it, both codes of the output (Table of R158). -/
def blend (mode galpha dither depth : Nat) (place : List Nat) (a d P V : Nat) : Nat :=
  match mode with
  | 0 => P
  | 1 => reduceTo dither place (a * P + (d - a) * V) d
  | 2 => limited depth (reduceTo dither place (d * P + (d - a) * V) d)
  | _ => let a' := a * galpha; let d' := d * 255; reduceTo dither place (a' * P + (d' - a') * V) d'

/-- Where a plane's first column and row fall in the active picture of output n: in a tile group the plane is in canvas coordinates (R165). -/
def State.planeOrg (s : State) (n : Nat) (p : PlaneSet) : Int × Int :=
  match s.tileIn n with
  | some _ => let o := s.reg (R.outTileOrg n); ((p.x : Int) - bits o 29 16, (p.y : Int) - bits o 12 0)
  | none => (p.x, p.y)

/-- The pixels of a plane's line for row y of the active picture, as lists of column, alpha, its unit, R, G, B. -/
def State.planeLine (s : State) (n : Nat) (p : PlaneSet) (y : Nat) : List (List Nat) :=
  let (px, py) := s.planeOrg n p
  let k := (y : Int) - py
  if !p.enabled || decide (k < 0 ∨ (p.h : Int) ≤ k) then []
  else
    let base : Nat := p.base + k.toNat * p.strideB
    (List.range p.w).filterMap (fun (i : Nat) =>
      let col : Int := px + (i : Int)
      if col < 0 ∨ ((s.out n).tim.hActive : Int) ≤ col then none
      else
        let (a, d, rgb) := planePixelOf (bits p.ctrl 19 16) (Memory.readBytes s.mem.cxl (base + i * p.bpp) p.bpp)
        some (col.toNat :: a :: d :: rgb))

/-- Full scale of the components of a plane format (Table 6.7). -/
def planeScale (fmt i : Nat) : Nat := if fmt = 0 then (if i = 1 then 63 else 31) else if fmt = 3 then 1023 else 255

/-- Component i of the plane pixel in column x of a plane's line, at the output's encoding (R156): full-range RGB in the encoding of OUT_COLOUR,
taken to the output's quantisation and depth, by the stage-7 matrix and its chroma filter where the output is YCbCr. -/
def planeComp (e : Enc) (fmt : Nat) (place : List Nat) (line : List (List Nat)) (x i : Nat) : Nat :=
  let first := (line.headD []).headD 0
  let rgb (k : Int) : List Nat := (line.getD (edge line.length (k - first)) []).drop 3
  if e.rgb then
    let p := (rgb x).getD i 0
    let m := planeScale fmt i
    limited e.depth (if e.full then reduceTo e.dither (place ++ [x, i]) (p * (2 ^ e.depth - 1)) m
      else reduceTo e.dither (place ++ [x, i]) (black16 * m + span16 * p) (m * 2 ^ (16 - e.depth)))
  else
    let px (k : Int) : Px := fromRgb e.colour ((List.range 3).map (fun j => black16 + near (span16 * (rgb k).getD j 0) (planeScale fmt j)))
    e.narrow (place ++ [x, i])
      (if e.sampling = 0 ∧ i ≠ 0 then filt [8] ((List.range 11).map (fun (t : Nat) => (px ((x : Int) + (t : Int) - 5)).c i)) else (px x).c i)

/-- A plane's line blended over the component lists of a line: the chroma of 4:2:2 at the even columns (R156, R158). -/
def composite (c : ConvSet) (p : PlaneSet) (place : List Nat) (line : List (List Nat)) (v : List (List Nat)) : List (List Nat) :=
  let e := c.enc
  if line = [] then v
  else (List.range 3).map (fun i => (v.getD i []).zipIdx.map (fun (q : Nat × Nat) =>
    let x := if e.sampling = 0 ∧ i ≠ 0 then 2 * q.2 else q.2
    match line.find? (fun z => decide (z.headD 0 = x)) with
    | some (_ :: a :: d :: _) =>
      blend (bits p.ctrl 13 12) (bits p.ctrl 11 4) e.dither e.depth (place ++ [x, i]) a d (planeComp e (bits p.ctrl 19 16) place line x i) q.1
    | _ => q.1))

/-! The line. -/

/-- A pair that failed R232 as its line starts: its number, the cause in LAST_ERR's codes, whether the co-located pair of an older frame
replaces it (R233). -/
def State.pairFails (s : State) (n : Nat) (fails : List (Nat × Nat × Bool)) : State :=
  fails.foldl (fun (s : State) (f : Nat × Nat × Bool) =>
    let s := (s.bump (R.ochreOdCheckErrCnt n)).setRegN (R.ochreOdLastErr n) (f.1 % 4096 * 2 ^ 16 + f.2.1 % 8)
    let s := (s.modOut n (fun o => { o with checkErr := true })).raiseLim n 0x4070 sevNotice kOut n f.1 f.2.1
    if f.2.2 then s else (s.bump (R.ochreOdUnrepairedCnt n)).raiseLim n 0x4071 sevWarn kOut n f.1 f.2.1) s

/-- The line pairs of a frame that row y of the active picture is the first to need, in the geometry of output n. -/
def State.pairsFor (s : State) (n : Nat) (c : Coded) (y : Nat) : List Nat :=
  let o := s.out n
  let g := s.geo n o.conv o.tim none
  let (cr, de, _) := g.rects c.h c.v
  let pair (y : Nat) : Option Nat :=
    let Y := y + g.oy
    if Y < de.y ∨ de.y + de.h ≤ Y ∨ cr.h = 0 then none else some (pairAt c.scan c.v (cr.y + (Y - de.y) * cr.h / de.h)).1
  let step := if o.tim.scan = 1 then 2 else 1
  match pair y, (if step ≤ y then pair (y - step) else none) with
  | some j, some k => if j < k then [j] else (List.range (j - k)).map (fun i => k + 1 + i)
  | some j, none => [j]
  | none, _ => []

/-- Those of them that fail, with their causes and whether an older frame repairs them (R232, R233). A failed read counts as a failed check (R337). -/
def State.failsFor (s : State) (n : Nat) (c : Coded) (older : List Coded) (y : Nat) : List (Nat × Nat × Bool) :=
  (s.pairsFor n c y).filterMap (fun j =>
    let cause := if (s.out n).badReads.contains j then 1 else s.pairCauseOf c j
    if cause = 0 then none else some (j, cause, older.any (fun d => s.headOk d.base && decide (s.pairCauseOf d j = 0))))

/-- The pairs that the line reads are copied, as they are coded, to the freeze slot, the header with the first line, while a freeze is being
captured: in frame N+1 of its commit (R105). -/
def State.capture (s : State) (n y : Nat) : State :=
  match (s.out n).pend, s.frames n with
  | some p, (c, _, _) :: _ =>
    if p.src.kind = 5 ∧ p.frames = 1 then
      let slot := { c with base := s.freezeBase n }
      let s := if y = 0 then s.cxlPut slot.base (Memory.readBytes s.mem.cxl c.base 64) else s
      s.forEach (s.pairsFor n c y) (fun s j => s.cxlPut (slot.pairAddr j) (s.pairBytesOf c j))
    else s
  | _, _ => s

/-- The sampled places of a line of the picture: luma first, in 10-bit narrow-range codes (R168). -/
def sigRow (e : Enc) (w : Nat) (v : List (List Nat)) : List (List Nat) :=
  (sigGrid w).map (fun x => (if e.rgb then [1, 0, 2] else [0, 1, 2]).map (fun i =>
    narrow10 e.depth e.full ((v.getD i []).getD (if e.sampling = 0 ∧ i ≠ 0 then x / 2 else x) 0)))

/-- On the direct path the ancillary packets that came with the line before are passed on (R191, R192). -/
def State.directAnc (s : State) (n l : Nat) : State :=
  let o := s.out n
  if o.isDirect ∧ o.shown = .picture then s.ancPass n 0 ((s.flow o.seen.idx).anc.filter (fun p => decide (p.line + 1 = l))) else s

/-- A line of a buffer: complete, or late and the previous active line from the same buffer in its place (R154). -/
def lineOr (late : Bool) (new old : List (List Nat)) : List (List Nat) := if late then old else new

/-- Row y of the active picture of output n sent on line l: the video, whatever the buffers lack taken from the line before, and the planes
over it. -/
def State.activeLine (s : State) (n l y : Nat) (late late0 late1 : Bool) : State :=
  let o := s.out n
  let s := s.forEach (s.frames n) (fun s p => s.pairFails n (s.failsFor n p.1 p.2.1 y))
  let s := s.capture n y
  let v := lineOr late (s.videoLine n y) o.sent
  let plane (p : Plane) (late : Bool) : List (List Nat) := lineOr late (s.planeLine n p.cur y) p.sent
  let q0 := plane o.p0 late0
  let q1 := plane o.p1 late1
  let place := [n, o.frame, y]
  let lay (p : Plane) (k : Nat) (q v : List (List Nat)) : List (List Nat) :=
    if o.planesOff || p.hid then v else composite o.conv p.cur (place ++ [k]) q v
  let line := lay o.p1 1 q1 (lay o.p0 0 q0 v)
  let row := if (sigGrid o.tim.vActive).contains y then sigRow o.conv.enc o.tim.hActive v else []
  let live := if o.isDirect then Tbl.get [] (s.flow o.seen.idx).live y else []
  let s := s.modOut n (fun o => { o with
    sent := v, p0 := { o.p0 with sent := q0 }, p1 := { o.p1 with sent := q1 },
    sigRows := if row = [] then o.sigRows else Tbl.set [] o.sigRows y row,
    kept := if o.isDirect ∧ o.safe ≠ some .hold then Tbl.set [] o.kept y live else o.kept })
  if s.silent n then s else s.emit "LINE" n l line.flatten

/-- The lowest occupancy of the buffers that a fetch fills: the video's but on the direct path, and those of the enabled planes (R153, R154). -/
def Out.levels (o : Out) (direct : Bool) (lv l0 l1 : Nat) : List Nat :=
  (if direct then [] else [lv]) ++ (if o.p0.cur.enabled then [l0] else []) ++ (if o.p1.cur.enabled then [l1] else [])

/-- Line l of output n starts: the occupancy of the video buffer and of each plane's, and whether the video line and each plane's line were not
complete. -/
def State.scanLine (s : State) (n l lv l0 l1 : Nat) (late late0 late1 : Bool) : State :=
  let o := s.out n
  if !o.scanning || decide (o.tim.vTotal ≤ l) then s
  else
    let s := s.advance (s.lineStart n l)
    let cap := bit (s.reg (R.outScanCtrl n)) 0
    let fetch := o.levels o.isDirect lv l0 l1
    let s := s.modOut n (fun o => { o with line := l, bufLevel := (o.levels false lv l0 l1).foldl min 24,
                                           urgency := match fetch with | [] => 0 | x :: xs => urgencyOf (xs.foldl min x) cap })
    let s := if late then s.bump (R.outUnderflowCnt n) else s
    let s := s.bumpBy (R.outPlaneUnderflowCnt n) (late0.toNat + late1.toNat)
    let s := if late ∨ late0 ∨ late1 then s.raiseLim n 0x4030 sevNotice kOut n l else s
    let s := s.directAnc n l
    let s := match o.tim.row l with
      | some y => s.activeLine n l y late late0 late1
      | none => s
    let s := s.lineSeen (64 + n) l
    s.forEach ([128, 129, 130, 131].filter (fun u => decide (s.ctxOut u = some n))) (fun s u => s.lineSeen u l)

def execScanLineStart (n l lv l0 l1 : Nat) (late late0 late1 : Bool) (s : State) : Host.Outcome State Fault Refusal :=
  .next (s.scanLine n l lv l0 l1 late late0 late1)

end Sys2Proof.Machine
end

