-- ==== Sys2Proof/Machine/TwinBase.lean ====
section
/-! DEFINITION. The twin function's state, and the end of a pair or of an attach (Table 12.2, R293, R302): what the rebuild of a CXL population and the twin function share. -/

namespace Sys2Proof.Machine

def State.setTwin (s : State) (x : Twin) : State := { s with twin := x }
def State.modTwin (s : State) (f : Twin → Twin) : State := s.setTwin (f s.twin)

def State.twinResult (s : State) (status cause : Nat) : State := s.setRegN R.twinCmdResult (cause * 256 + status)

/-! Mirrored state discarded. -/

/-- What stays of an output whose mirrored state is discarded while it scans: its raster (R302). -/
def Out.raster (o : Out) : Out :=
  { tim := o.tim, hasTim := o.hasTim, scanning := o.scanning, group := o.group, frameT := o.frameT, frame := o.frame, sw := o.sw, swSeen := o.swSeen,
    latchSeen := o.latchSeen, line := o.line, muted := o.muted }

/-- The mirrored state of a module that is to take a full copy, or that discards one (Table 12.2, R302): flows, outputs, groups, audio, program
memories, their registers. With live its outputs go on scanning in their groups. -/
def State.discardMirror (s : State) (live : Bool) : State :=
  let gone (a : Nat) : Bool := decide (0xC00000 ≤ a ∧ a < 0x1000000) || decide (0x600000 ≤ a ∧ a < 0x800000) || decide (0x80000 ≤ a ∧ a < 0x88000)
    || decide (0x38000 ≤ a ∧ a < 0x3A000) || decide (0x900000 ≤ a ∧ a < 0xA00000)
  { s with flows := [], outs := if live then s.outs.map (fun (q : Nat × Out) => (q.1, q.2.raster)) else [],
           groups := if live then s.groups else [], tiles := [], audio := {}, mem := { s.mem with prog := [] }, heap := s.heap.filter (fun x => x.2.2),
           ports := s.ports.map (fun (p : Nat × Port) => (p.1, { p.2 with table := [] })), regs := s.regs.filter (fun p => !gone p.1) }

/-! The ends of a pair and of an attach. -/

/-- Back to SOLO. -/
def State.toSolo (s : State) : State :=
  s.modTwin (fun x => { x with phase := .solo, source := false, planned := none, switchAt := none, lastHb := none, lossNoted := false, downSince := none,
                               mirrorQ := 0, recopy := false, copied := [] })

/-- A pair ends (Table 12.2): outputs stay as they were. -/
def State.twinDetach (s : State) : State := s.toSolo.raise 0xA004 sevNotice kOther 0

/-- An attach fails in AUTH, COPY or SYNC: the peer discards what it copied. A cause of R293 ends DENIED, a timeout TIMEOUT, the others
CHECK_FAIL (log entry 27). -/
def State.attachFails (s : State) (cause : Nat) : State :=
  let s := if s.twin.standby then s.discardMirror false else s
  let s := (s.toSolo.modTwin (fun x => { x with standby := false, cause := cause })).raise 0xA002 sevWarn kOther 0 cause
  s.twinResult (if cause = 3 ∨ cause = 6 then stDenied else if cause = 7 then stTimeout else stCheckFail) cause

def State.attaching (s : State) : Bool := decide (s.twin.phase = .auth ∨ s.twin.phase = .copy ∨ s.twin.phase = .sync)

end Sys2Proof.Machine
end

