-- ==== Sys2Proof/Machine/Cxl.lean ====
section
/-! DEFINITION. CXL frame memory (chapter 14): training and layout of the ports, faults and their consequences, the rebuild, the heap commands, link encryption. -/

namespace Sys2Proof.Machine

def State.cxPort (s : State) (x : Nat) : CxPort := Tbl.get CxPort.reset s.cx x
def State.setCx (s : State) (x : Nat) (p : CxPort) : State := { s with cx := Tbl.set CxPort.reset s.cx x p }
def State.inSet (s : State) (x : Nat) : Bool := s.cxlSet.testBit x

/-- LINK's encoding (Table 14.9). -/
def cxDown : Nat := 0
def cxUp : Nat := 2
def cxRecovery : Nat := 3
def cxLost : Nat := 4
def cxExcluded : Nat := 5

/-- The key that the CXL_IDE engine gets for a port (R338, Table 17.2); none where Woad refuses it (R381). -/
def State.slotUsable (s : State) (i bit_ : Nat) (types : List Nat) : Bool :=
  let x := s.slot i
  decide (i ≠ 0) && types.contains x.type && bit x.attr bit_ && decide (x.key ≠ [] ∨ x.type = 3)
    && (decide (bits x.attr 15 0 = 0) || decide (x.uses < 4096 * bits x.attr 15 0))

/-- Capacity used of a device: at most 512 GiB (R331). -/
def capUsed (cap : Nat) : Nat := min cap 512

/-! Training (R331 to R333). -/

/-- The first failing check of R331; 0 where all pass. -/
def trainCause (up : Bool) (width : Nat) (rate64 type3 : Bool) (cap : Nat) (ideReq ideOk : Bool) : Nat :=
  if !up then 1
  else if width ≠ 16 ∨ !rate64 then 2
  else if !type3 ∨ cap < 1 then 3
  else if ideReq ∧ !ideOk then 4
  else 0

/-- Port x trains at start-up and is checked: its link, width, rate, device and capacity, and whether the key exchange completed. -/
def execCxlPortTrain (x : Nat) (up : Bool) (width : Nat) (rate64 type3 : Bool) (cap : Nat) (ideOk : Bool) (s : State) :
    Host.Outcome State Fault Refusal :=
  .next (if s.boot.stage ≠ 10 ∨ !s.cxlPresent x ∨ (s.cxPort x).checked then s
    else
      let c := s.reg (R.cxlPortCtrl x)
      let req := bit c 31
      let i := bits c 7 0
      let keyOk := s.slotUsable i 18 [1]
      let s := if req ∧ !keyOk then (s.bump R.woadRefuseCnt).raise 0x6007 sevWarn kOther i 18 i else s
      let cause := trainCause up width rate64 type3 cap req (ideOk && keyOk)
      let p : CxPort := { link := if !up then cxDown else if cause = 0 then cxUp else cxExcluded, cause := cause, ide := req && decide (cause = 0),
                          width := width % 64, cap := cap, checked := true }
      let s := s.setCx x p
      if cause = 0 then
        let s := { s with cxlSet := setBit s.cxlSet x }
        let s := if req then { s with woad := { s.woad with ideKeys := Tbl.set [] s.woad.ideKeys x (s.slot i).key } } else s
        if 512 < cap then s.raise 0x5004 sevNotice kOther x x cap else s
      else s.raise 0x5003 sevWarn kOther x x cause)

/-- The ports of the interleave set, ascending. -/
def State.setPorts (s : State) : List Nat := (List.range 4).filter s.inSet

/-- The smallest usable capacity of the set in GiB, and the population (R332). -/
def State.usableCap (s : State) : Nat :=
  match s.setPorts.map (fun x => capUsed (s.cxPort x).cap) with
  | [] => 0
  | c :: cs => cs.foldl min c
def State.population (s : State) : Nat := s.setPorts.length * s.usableCap

/-- The regions are laid out over the set at start-up step 10 (R332, R333). -/
def State.cxlLayout (s : State) : State :=
  let u := s.usableCap
  let s := { s with popGib := s.population, heap := [] }
  let s := if s.setPorts.any (fun x => decide (u < capUsed (s.cxPort x).cap)) then s.raise 0x5005 sevNotice kOther 0 u else s
  if s.popGib < 32 then s.raise 0x5002 sevError kOther 0 s.popGib else s

/-! Heap commands (R334). -/

/-- A write of HALLOC_SIZE. -/
def State.halloc (s : State) (v : Word) : State × Bool :=
  let n := v.toNat
  if n < 1 ∨ 0x01FFFFFF < n then (s, false)
  else match (if s.popGib = 0 then none else s.alloc (n * 65536) true) with
    | some (b, s) => ((s.setRegN R.cxlHallocResultLo (b % 2 ^ 32 / 65536 * 65536 + stOk)).setReg R.cxlHallocResultHi (hi32 b), true)
    | none => ((s.setRegN R.cxlHallocResultLo stOverrun).setRegN R.cxlHallocResultHi 0, true)

def execHallocSize (m : Nat) (v : Word) (s : State) : Host.Outcome State Fault Refusal :=
  .next (s.regWriteBy m R.cxlHallocSize (s.halloc v))

/-- A write of HFREE: the base of a host allocation. -/
def State.hfree (s : State) (v : Word) : State × Bool :=
  let b := v.toNat * 65536
  if s.heap.any (fun x => decide (x.1 = b) && x.2.2) then (s.freeAt b, true) else (s, false)

def execHfree (m : Nat) (v : Word) (s : State) : Host.Outcome State Fault Refusal :=
  .next (s.regWriteBy m R.cxlHfree (s.hfree v))

/-! Faults (R337, R339). -/

/-- A LUT load in progress fails (Table 14.5). -/
def State.lutReadFail (s : State) (n : Nat) : State := if (s.out n).lut.loading.isSome then s.lutFails n stCheckFail else s

/-- A poisoned or failed read, or a completion timeout, on port x. -/
def execCxlReadErr (x : Nat) (cto : Bool) (use : MemRead) (s : State) : Host.Outcome State Fault Refusal :=
  .next (if !s.cxlPresent x then s
    else
      let s := (s.bump (if cto then R.cxlCtoCnt x else R.cxlReadErrCnt x)).raiseLim x 0x5006 sevNotice kOther x x
      match use with
      | .pair n p => s.modOut n (fun o => { o with badReads := p :: o.badReads })
      | .plane n => (s.bump (R.outPlaneUnderflowCnt n)).raiseLim n 0x4030 sevNotice kOut n
      | .delay c => s.delayFail c
      | .lut n => s.lutReadFail n
      | .bulk j units => s.obAbort j units
      | .aperture m => s.emit "READ" m 0 [0xFFFFFFFF])

/-- A failed write on port x. Bytes of another writer become undefined: free values (log entry 3). -/
def execCxlWriteErr (x : Nat) (cto : Bool) (use : MemWrite) (s : State) : Host.Outcome State Fault Refusal :=
  .next (if !s.cxlPresent x then s
    else
      let s := s.bump (if cto then R.cxlCtoCnt x else R.cxlWriteErrCnt x)
      match use with
      | .encoder f => if (s.flow f).usable then s.modFlow f (fun y => { y with overflowed := true }) else s
      | .bulk j units => (s.raise 0x5007 sevWarn kOther x x).obAbort j units
      | .bytes a n =>
        let (bs, s) := s.randomBytes 51 n
        (s.cxlPut a bs).raise 0x5007 sevWarn kOther x x a)

/-- A link CRC error is replayed. -/
def execCxlCrcRetry (x : Nat) (s : State) : Host.Outcome State Fault Refusal :=
  .next (if s.cxlPresent x then s.bump (R.cxlCrcRetryCnt x) else s)

/-- A link goes down, or fails its IDE integrity check. -/
def execCxlLinkDown (x : Nat) (s : State) : Host.Outcome State Fault Refusal :=
  .next (let p := s.cxPort x
    if p.link ≠ cxUp then s
    else (s.setCx x { p with link := cxRecovery, downT := some s.ttime }).bump (R.cxlLinkDownCnt x))

/-- A link recovers within 32 ticks with its memory retained. -/
def execCxlRecovered (x : Nat) (s : State) : Host.Outcome State Fault Refusal :=
  .next (let p := s.cxPort x
    match p.downT with
    | some t =>
      if p.link = cxRecovery ∧ s.ttime ≤ ticksAfter t 32 then
        (s.setCx x { p with link := cxUp, downT := none }).raise 0x500A sevNotice kOther x x
      else s
    | none => s)

/-- An encoder finds its 8 line-pair buffers full: the frame is bad. -/
def execMemWrOverflow (f : Nat) (s : State) : Host.Outcome State Fault Refusal :=
  .next (if (s.flow f).usable ∧ (s.flow f).storeEn then
      ((s.modFlow f (fun x => { x with overflowed := true })).bump R.cxlWrOverflowCnt).raiseLim 0 0x500B sevWarn kFlow f
    else s)

/-! A port leaves the set (R340). -/

/-- The output channels that have a delay (R189). -/
def State.delayed (s : State) : List Nat :=
  (s.regs.filter (fun (q : Nat × Word) => decide (0x910000 ≤ q.1 ∧ q.1 < 0x930000 ∧ q.1 % 16 = 12) && decide (bits q.2 17 0 ≠ 0))).map
    (fun q => (q.1 - 0x910000) / 16)

/-- Step 1: stores, landing stores, merge buffers and freeze slots are empty; what the population held is lost, and reads as memory that nothing has
written (DESIGN CHOICE, log entry 59); the delay lines fail (R189). -/
def State.emptyStores (s : State) : State :=
  let s := s.forEach s.delayed State.delayFail
  let s := { s with mem := { s.mem with cxl := [] } }
  let s := { s with flows := s.flows.map (fun (p : Nat × Flow) => (p.1, { p.2 with slots := p.2.slots.map (fun _ => {}), mrg := {}, ready := false })) }
  { s with outs := s.outs.map (fun (p : Nat × Out) => (p.1, { p.2 with
      cur := p.2.cur.emptied, pend := p.2.pend.map (fun (q : PendTake) => { q with src := q.src.emptied }) })) }

/-- Port x leaves the interleave set at this instant, and a rebuild begins; a twin attach that runs fails (Table 14.6). -/
def State.portExit (s : State) (x link : Nat) : State :=
  let s := s.setCx x { s.cxPort x with link := link, downT := none }
  if !s.inSet x then s
  else
    let s := { s with cxlSet := clearBit s.cxlSet x, cxlRebuild := true }.emptyStores
    if s.attaching then s.attachFails 6 else s

/-- A port is lost. -/
def State.portLost (s : State) (x : Nat) : State := (s.raise 0x5008 sevFatal kOther x x).portExit x cxLost

def execCxlPortLost (x : Nat) (s : State) : Host.Outcome State Fault Refusal :=
  .next (if (s.cxPort x).link = cxUp ∨ (s.cxPort x).link = cxRecovery then s.portLost x else s)

/-- Step 2: planes are disabled at each output's next frame start, their bases stale. -/
def State.planeOff (s : State) (n k : Nat) : State :=
  let p := (s.out n).plane k
  if !p.cur.enabled ∧ p.pend.isNone ∧ p.cap.isNone then s
  else
    let s := s.dropFlip n k
    let s := if p.cur.enabled then s.staleFlip n k p.cur.base else s
    let off : PlaneSet := { p.cur with ctrl := setBits p.cur.ctrl 31 31 0 }
    if (s.out n).scanning then s.modOut n (fun o => o.setPlane k { o.plane k with cap := some { set := off } })
    else s.modOut n (fun o => o.setPlane k { o.plane k with cur := off })

/-- The takes that open groups and salvos hold, with their outputs (Table 14.6). -/
def State.heldTakes (s : State) : List (Nat × PendTake) :=
  s.groupMembers.filterMap (fun m => match m with | .take n p => some (n, p) | _ => none)
    ++ (s.stk.parts.filter (fun p => decide (p.phase = .preparing ∨ p.phase = .ready ∨ p.phase = .committed))).flatMap
        (fun p => (p.outs.filter (fun x => !x.faulted)).filterMap (fun x => x.take.map (fun q => (x.out, q))))

/-- A held take of output n is released: its group has failed; a salvo not yet READY is refused, one that is leaves the output out and
acknowledges FAULT (Table 14.6, R212, R288; DEDUCED, log entry 59). -/
def State.dropHeld (s : State) (n status : Nat) : State :=
  let isIt (m : Member) : Bool := match m with | .take k _ => decide (k = n) | _ => false
  let s := s.forEach (Tbl.keys s.ces) (fun s e => s.modCe e (fun c => match c.grp with
    | some g => if g.members.any isIt then
        { c with grp := some { g with members := g.members.filter (fun m => !isIt m), failed := true },
                 groupFail := if g.failed then c.groupFail else word (2 ^ 31 + status * 256 + g.count % 128) } else c
    | none => c))
  let waiting := s.stk.parts.filter (fun p => decide (p.phase = .preparing) && p.outs.any (fun x => decide (x.out = n)))
  (s.forEach waiting (fun s p => s.refuseSalvo p status n)).salvoFault n

/-- An output left on black with a status (steps 4 and 5): its pending take is dropped. -/
def State.blackOut (s : State) (n status : Nat) : State :=
  (s.dropTake n).modOut n (fun o => { o with cur := Source.black, takeStatus := status, fallback := false })

/-- Whether a source is a flow or a landing store, by its index. -/
def State.takesFlow (s : State) (f : Nat) (x : Source) : Bool :=
  decide (x.kind = 1 ∧ x.idx = f) || (match (s.flow f).landing with | some (d, i) => decide (x.kind = 2 ∧ x.dev = d ∧ x.idx = i) | none => false)

/-- The outputs that take a flow or have a take of it pending. -/
def State.takersOf (s : State) (f : Nat) : List Nat :=
  (s.outs.filter (fun (p : Nat × Out) => s.takesFlow f p.2.cur || (match p.2.pend with | some q => s.takesFlow f q.src | none => false))).map Prod.fst

/-- A flow or landing store released at once with the outputs that take it left on black. -/
def State.forceRelease (s : State) (f status : Nat) : State :=
  let s := s.forEach ((s.heldTakes.filter (fun q => s.takesFlow f q.2.src)).map Prod.fst) (fun s n => s.dropHeld n status)
  let s := s.forEach (s.takersOf f) (fun s n => s.blackOut n status)
  let x := s.flow f
  if x.landing.isSome then s.dropLanding f
  else
    let us := s.flowUnits f
    let s1 := (s.dropMatches f).freeChannels x.audioBase x.audioCount
    let s1 := (if x.slots = [] then s1 else s1.freeAt x.base)
    let s1 := (match x.mergeBase with | some b => s1.freeAt b | none => s1)
    let s1 := { s1 with flows := s1.flows.filter (fun (p : Nat × Flow) => decide (p.1 ≠ f)) }
    s.noteSrc s1 us

/-- The outputs whose takes hold a read charge, each with its commit instant: the takes committed, then those that are held. -/
def State.chargedTakes (s : State) : List (Nat × Nat × Bool) :=
  (s.outs.filter (fun (p : Nat × Out) => decide (s.readHeldOf p.1 p.2 ≠ 0))).map
      (fun p => (match p.2.pend with | some q => q.commitT | none => p.2.takeTtime, p.1, false))
    ++ (s.heldTakes.filter (fun q => decide (s.chargeOf q.1 q.2.src (s.out q.1).latestConv ≠ 0))).map (fun q => (q.2.commitT, q.1, true))

/-- The newest of them. -/
def State.newestTake (s : State) : Option (Nat × Nat × Bool) :=
  s.chargedTakes.foldl (fun (b : Option (Nat × Nat × Bool)) x => match b with
    | some y => if y.1 < x.1 then some x else b
    | none => some x) none

/-- The flow bound last, among those that hold a write charge. -/
def State.newestFlow (s : State) : Option Nat :=
  (s.flows.foldl (fun (b : Option (Nat × Nat)) (p : Nat × Flow) =>
    if p.2.wr = 0 then b
    else match b with
      | some (_, u) => if u < p.2.bindT then some (p.1, p.2.bindT) else b
      | none => some (p.1, p.2.bindT)) none).map Prod.fst

/-- Step 4: takes newest first while the read charges pass the total, then flows newest first while the write charges do. -/
def State.shedTakes : Nat → State → State
  | 0, s => s
  | n + 1, s =>
    if s.vidRd ≤ s.vidTotal then s
    else match s.newestTake with
      | some (_, k, held) => State.shedTakes n (if held then s.dropHeld k stNoBandwidth else s.blackOut k stNoBandwidth)
      | none => s
def State.shedFlows : Nat → State → State
  | 0, s => s
  | n + 1, s =>
    if s.vidWr ≤ s.vidTotal then s
    else match s.newestFlow with
      | some f => State.shedFlows n (s.forceRelease f stNoBandwidth)
      | none => s

/-- Flows and landing stores, oldest first. -/
def State.flowsByAge (s : State) : List Nat :=
  (s.flows.mergeSort (fun (a b : Nat × Flow) => decide (a.2.bindT ≤ b.2.bindT))).map Prod.fst

/-- Step 5: the store and the merge buffer of a flow allocated again; a flow that no longer fits is released. -/
def State.reallocate (s : State) (f : Nat) : State :=
  let x := s.flow f
  let bytes := x.depth * x.slotBytes
  let mb := mergeBytes x.rateQ x.window
  let needStore := decide (x.slots ≠ []) || x.landing.isSome && decide (x.base ≠ 0)
  let t := if needStore then (s.alloc bytes false).map (fun (r : Nat × State) => r.2.modFlow f (fun y => { y with base := r.1 })) else some s
  let t := match t with
    | some t => if x.mergeBase.isSome then (t.alloc mb false).map (fun (r : Nat × State) => r.2.modFlow f (fun y => { y with mergeBase := some r.1 })) else some t
    | none => none
  match t with
  | some t => t
  | none => (s.modFlow f (fun y => { y with slots := [], mergeBase := none })).forceRelease f stOverrun

/-- Delayed channels ramp in again once their delay has refilled (R340). -/
def State.delaysBack (s : State) : State :=
  s.forEach s.delayed (fun s c => s.modOc c (fun x =>
    { x with tapBack := if x.tapFail.isSome then some (s.sampleAfter s.ttime + bits (s.reg (R.audioOcDelay c)) 17 0) else none }))

/-- A port left the set: steps 2 to 6 of R340. -/
def State.relayout (s : State) : State :=
  let s := s.forEach (Tbl.keys s.outs) (fun s n => (s.planeOff n 0).planeOff n 1)
  let s := { s with heap := [] }
  let s := s.forEach (Tbl.keys s.outs) (fun s n => s.lutReadFail n)
  let s := s.forEach (List.range 8) (fun s j => s.obAbort j 0)
  let s := { s with popGib := s.population }
  let s := State.shedTakes s.chargedTakes.length s
  let s := State.shedFlows s.flows.length s
  let s :=
    if s.popGib < 32 then
      let s := (s.raise 0x5002 sevError kOther 0 s.popGib)
      let s := s.forEach (s.heldTakes.map Prod.fst) (fun s n => s.dropHeld n stDenied)
      let s := s.forEach (Tbl.keys s.flows) (fun s f => s.forceRelease f stDenied)
      let s := s.forEach (Tbl.keys s.outs) (fun s n => s.blackOut n stDenied)
      { s with memDead := true }
    else s.delaysBack.forEach s.flowsByAge (fun s f => s.reallocate f)
  ({ s with cxlRebuild := false }.bump R.cxlRelayoutCnt).raise 0x500C sevWarn kOther 0 s.popGib

def execMemRelayout (s : State) : Host.Outcome State Fault Refusal := .next (if s.cxlRebuild then s.relayout else s)

/-! Link encryption (R338). -/

/-- The exchange of a committed key on port x completes, or fails and leaves the old key in use. -/
def execIdeKeyExchange (x : Nat) (ok : Bool) (s : State) : Host.Outcome State Fault Refusal :=
  .next (match Tbl.find s.woad.ideNext x with
    | some k =>
      let s := { s with woad := { s.woad with ideNext := Tbl.set [] s.woad.ideNext x [] } }
      if ok then { s with woad := { s.woad with ideKeys := Tbl.set [] s.woad.ideKeys x k } } else s.raise 0x5009 sevError kOther x x
    | none => s)

end Sys2Proof.Machine
end

