-- ==== Sys2Proof/Machine/Woad.lean ====
section
/-! DEFINITION. The key vault (R379 to R391): slots, the commands and their checks, use counts, the key bus, key-commit records. -/

namespace Sys2Proof.Machine

def State.setSlot (s : State) (i : Nat) (x : Slot17) : State := { s with woad := { s.woad with slots := Tbl.set Slot17.reset s.woad.slots i x } }

/-! Types, engines and check values (Table 17.2, R387). -/

/-- Bytes of a key of a type; for a public key those of the key itself. -/
def keyLen (t : Nat) : Nat := if t = 4 then 64 else 32

/-- The engine mask bits that a type may carry, as bits 22:16. -/
def engineMask (t : Nat) : Nat :=
  match t with
  | 1 => 0x4F
  | 2 => 0x20
  | 3 => 0x50
  | 4 => 0x20
  | _ => 0

/-- The types that an engine accepts, by its bit (Table 17.2). -/
def engineTypes (e : Nat) : List Nat :=
  match e with
  | 20 => [3]
  | 21 => [2, 4]
  | 22 => [1, 3]
  | _ => [1]

/-- The 24-bit check value from the first three bytes. -/
def kcvOf (bs : List Byte) : Nat := (bs.getD 0 0).toNat * 65536 + (bs.getD 1 0).toNat * 256 + (bs.getD 2 0).toNat

/-- The check value of a key (R387). -/
def keyCheck (t : Nat) (key pub : List Byte) : Nat :=
  match t with
  | 1 => kcvOf (aesKcv key)
  | 4 => kcvOf (Config.hmacSha512 key [])
  | _ => kcvOf (Config.sha512 pub)

/-- The self-test of VERIFY: a private key signs and verifies 64 zero bytes, a public key is a good point (R387). -/
def selfTest (t : Nat) (key pub : List Byte) : Bool :=
  match t with
  | 2 => Config.ed25519Verify pub (List.replicate 64 0) (Config.ed25519Sign key (List.replicate 64 0))
  | 3 => Config.ed25519PointOk pub
  | _ => true

/-! Key-commit records (Table 17.3). -/

/-- The key-encryption key of a slot (R383). -/
def State.kekFor (s : State) (attr : Word) : List Byte := if bit attr 27 then s.woad.tamperKek else Config.deviceKek

/-- The payload of a slot's record. -/
def State.keyRecord (s : State) (i : Nat) (x : Slot17) : List Byte :=
  let w := if x.type = 0 ∨ x.type = 3 then [] else Config.aesWrap (s.kekFor x.attr) x.key
  let wl := if x.type = 0 ∨ x.type = 3 then 0 else keyLen x.type + 8
  let pad (n : Nat) (bs : List Byte) : List Byte := (bs ++ List.replicate n 0).take n
  leBytes 4 0x314B5954 ++ leBytes 4 (i + flag (bit x.attr 27) 8) ++ leBytes 4 x.attr.toNat ++ leBytes 4 x.kcv ++ leBytes 4 x.uses
    ++ leBytes 4 wl ++ pad 72 (w.take wl) ++ pad 32 x.pub ++ List.replicate 64 0

/-- The slot that a record payload holds; none where it is not valid (R383). -/
def State.slotOf (s : State) (i : Nat) (p : List Byte) : Option Slot17 :=
  let attr := word (leOf p 8 4)
  let t := bits attr 31 29
  let wl := leOf p 20 4
  let pub := (p.drop 96).take 32
  if leOf p 0 4 ≠ 0x314B5954 ∨ leOf p 4 4 % 256 ≠ i ∨ (bit attr 27 ∧ s.woad.tamperKek = []) then none
  else if t = 0 then some {}
  else
    let key := if t = 3 then some [] else Config.aesUnwrap (s.kekFor attr) ((p.drop 24).take wl)
    match key with
    | none => none
    | some k =>
      let x : Slot17 := { attr := attr, kcv := leOf p 12 4 % 2 ^ 24, key := k, pub := pub, uses := leOf p 16 4 }
      if keyCheck t k pub = x.kcv then some x else none

/-- A slot's record is committed DUAL: two pieces with one new sequence number (R388, R416). -/
def State.postKey (s : State) (i : Nat) (x : Slot17) : State :=
  match recordHome 0x20 i with
  | none => s
  | some h =>
    let (top, _) := s.recordSeq 0x20 i h
    let pay := s.keyRecord i x
    let s := s.postRecord (s.copyPages 0x20 i h false (top + 1) pay) (.woadA i)
    s.postRecord (s.copyPages 0x20 i h true (top + 1) pay) (.woadB i)

/-! Uses (R382). -/

/-- The use limit of a slot, none where it has none. -/
def Slot17.limit (x : Slot17) : Option Nat := let u := bits x.attr 15 0; if u = 0 then none else some (4096 * u)

/-- A slot at its limit is refused; the event is raised once. -/
def State.limitNote (s : State) (i : Nat) : State :=
  let x := s.slot i
  match x.limit with
  | some n => if n ≤ x.uses ∧ !x.noted then (s.setSlot i { x with noted := true }).raise 0x6006 sevWarn kOther i i else s
  | none => s

/-- One use of a slot; every 4,096 its record is committed. -/
def State.useSlot (s : State) (i : Nat) : State :=
  let x := { s.slot i with uses := (s.slot i).uses + 1 }
  let s := (s.setSlot i x).limitNote i
  if x.uses % 4096 = 0 ∧ s.woad.op.isNone then
    let s := { s with woad := { s.woad with op := some { op := 0, slot := i, new := s.slot i } } }
    s.postKey i (s.slot i)
  else s

/-- An engine asks for the key of a slot (R381, Table 17.2). -/
def State.keyBus (s : State) (e i : Nat) : State :=
  if s.slotUsable i e (engineTypes e) then s.useSlot i
  else (s.limitNote i).bump R.woadRefuseCnt |>.raise 0x6007 sevWarn kOther i e i

def execKeyBusRequest (e i : Nat) (s : State) : Host.Outcome State Fault Refusal :=
  .next (if 16 ≤ e ∧ e ≤ 22 ∧ i < 256 then s.keyBus e i else s)

/-! Engines that lose a key (R388, R394, R399). -/

/-- A link loses every lane at once and goes DOWN (R260). -/
def State.linkGone (s : State) (l : Nat) : State := s.forEach (s.link l).lanes (fun s L => s.laneLost L 1 false)

/-- The engine copies of the keys of some slots are gone: cipher links go DOWN, IDE ports are lost; MACsec flows drop their packets from
here on, since their slot has no key (R73). -/
def State.keysGone (s : State) (gone : Nat → Bool) : State :=
  let rsl := s.regBits R.woadBindRsl 7 0
  let s := if rsl ≠ 0 ∧ gone rsl then
      s.forEach (Tbl.keys s.ser.link) (fun s l => if (s.link l).cipher then s.linkGone l else s)
    else s
  s.forEach (List.range 4) (fun s x =>
    let i := s.regBits (R.cxlPortCtrl x) 7 0
    if (s.cxPort x).ide ∧ gone i then
      ({ s with woad := { s.woad with ideKeys := Tbl.set [] s.woad.ideKeys x [] } }).portLost x
    else s)

/-- The slots named by an engine binding or a valid flow (Table 17.4). -/
def State.slotBound (s : State) (i : Nat) : Bool :=
  decide (s.regBits R.woadBindRsl 7 0 = i ∨ s.regBits R.woadBindSeal 7 0 = i ∨ s.regBits R.twinCtrl 23 16 = i ∨ s.regBits R.twinCtrl 15 8 = i)
    || (List.range 4).any (fun x => decide (s.regBits (R.cxlPortCtrl x) 7 0 = i))
    || s.flows.any (fun (p : Nat × Flow) => p.2.usable && decide (p.2.sa = i))

/-! Commands (R384, R385). -/

def State.woadOpOk (s : State) (m : Nat) (v : Word) (op : Nat) : Bool :=
  vaultMaster m && decide (bits v 31 28 = op ∧ bits v 27 8 = 0 ∧ bits v 7 0 ≠ 0) && decide (s.regBits R.woadArg0 30 28 < 4 ∨ op ≠ 1)

/-- Rows 1 to 3 of Table 17.4; from the 2 ms mark of the power-fail sequence no command is accepted (R391). -/
def State.woadBlocked (s : State) (stage : Bool) : Option Nat :=
  if s.tamperLock then some stTamper
  else if s.woad.vaultShut || s.pwr.shut.isSome then some stAborted
  else if s.woad.op.isSome || (stage && s.woad.shadow.isSome) then some stBusy
  else none

/-- A command of a slot that is twin-shareable is refused on a standby (R385). -/
def State.shareRefused (s : State) (i : Nat) : Bool := s.isStandby && bit (s.slot i).attr 28

/-- A command run after rows 1 to 3: its meaning gives the state at its end. -/
def State.woadCmd (s : State) (m : Nat) (v : Word) (op : Nat) (run : State → Nat → State) : State × Bool :=
  if !s.woadOpOk m v op then (s, false)
  else match s.woadBlocked (decide (op = 1)) with
    | some e => (s.woadDone e 0, true)
    | none => if s.shareRefused (bits v 7 0) then (s.woadDone stDenied 0, true) else (run s (bits v 7 0), true)

def State.execWoad (s : State) (m : Nat) (v : Word) (op : Nat) (run : State → Nat → State) : State :=
  s.regWriteBy m R.woadCmd (s.woadCmd m v op run)

/-- Attributes that STAGE may not give (R385). -/
def State.stageDenied (s : State) (attr : Word) (src wrap : Nat) : Bool :=
  let t := bits attr 31 29
  let e := bits attr 22 16
  (decide (src = 1 ∧ t ≠ 3) && s.woad.prov) || decide (e &&& (0x7F - engineMask t) ≠ 0) || (bit attr 28 && bit attr 22)
    || (s.isStandby && bit attr 28) || (decide (src = 2) && !s.slotUsable wrap 22 [1])

/-- The key material of STAGE (R386): none where it fails its integrity, its type or its length. -/
def State.stageKey (s : State) (t src wrap : Nat) : Option (List Byte × List Byte × State) :=
  let input := s.regBytes (R.woadKeyIn 0) 18
  let made (k : List Byte) : List Byte × List Byte := if t = 3 then ([], k) else (k, if t = 2 then Config.ed25519Pub k else [])
  match src with
  | 0 =>
    if t = 3 then none
    else
      let (k, s) := s.randomBytes 52 (keyLen t)
      let (key, pub) := made k
      some (key, pub, s)
  | 1 => let (key, pub) := made (input.take (keyLen t)); some (key, pub, s)
  | 2 =>
    match Config.aesUnwrap (s.slot wrap).key (input.take (keyLen t + 8)) with
    | some k => if k.length = keyLen t ∧ t ≠ 3 then (let (key, pub) := made k; some (key, pub, s.useSlot wrap)) else none
    | none => none
  | _ => if t = 3 then some ([], input.take 32, s) else none

/-- STAGE places a key in the shadow of a slot. -/
def State.stage (s : State) (i : Nat) : State :=
  let attr := s.reg R.woadArg1
  let t := bits attr 31 29
  let src := s.regBits R.woadArg0 30 28
  let wrap := s.regBits R.woadArg0 15 8
  if s.stageDenied attr src wrap then s.woadDone stDenied 0
  else match s.stageKey t src wrap with
    | none => s.woadDone stCheckFail 0
    | some (key, pub, s) =>
      let expect := if src = 0 then keyCheck t key pub else s.regBits R.woadArg2 23 0
      let x : Shadow := { slot := i, attr := attr, key := key, pub := pub, expect := expect, expires := s.ticksOn 16000 }
      ({ s with woad := { s.woad with shadow := some x } }.raise 0x6001 sevInfo kOther i i).woadDone stOk 0

/-- A write of CMD with STAGE; an unlisted TYPE or SRC rejects it. -/
def execStage (m : Nat) (v : Word) (s : State) : Host.Outcome State Fault Refusal :=
  .next (let t := s.regBits R.woadArg1 31 29
    if t = 0 ∨ 4 < t then s.regWriteBy m R.woadCmd (s, false) else s.execWoad m v 1 State.stage)

/-- VERIFY checks the staged key. -/
def State.woadVerify (s : State) (i : Nat) : State :=
  match s.woad.shadow with
  | none => s.woadDone stDenied 0
  | some x =>
    if x.slot ≠ i then s.woadDone stDenied 0
    else
      let t := bits x.attr 31 29
      let k := keyCheck t x.key x.pub
      if k = x.expect ∧ selfTest t x.key x.pub then
        { s with woad := { s.woad with shadow := some { x with verified := true } } }.woadDone stOk k
      else { s with woad := { s.woad with shadow := none } }.woadDone stCheckFail k

def execWoadVerify (m : Nat) (v : Word) (s : State) : Host.Outcome State Fault Refusal := .next (s.execWoad m v 2 State.woadVerify)

/-- A command that rewrites a slot's record is on its way. -/
def State.woadStart (s : State) (op i : Nat) (x : Slot17) : State :=
  { s with woad := { s.woad with op := some { op := op, slot := i, new := x, limit := s.ticksOn 16 } } }.postKey i x

/-- COMMIT writes both copies of the new record and swaps the key. -/
def State.woadCommit (s : State) (i : Nat) : State :=
  match s.woad.shadow with
  | none => s.woadDone stDenied 0
  | some x =>
    if x.slot ≠ i ∨ !x.verified then s.woadDone stDenied 0
    else
      let t := bits x.attr 31 29
      let y : Slot17 := { attr := x.attr, kcv := keyCheck t x.key x.pub, key := x.key, pub := x.pub }
      s.woadStart 3 i y

def execKeyCommitted (m : Nat) (v : Word) (s : State) : Host.Outcome State Fault Refusal := .next (s.execWoad m v 3 State.woadCommit)

/-- ABORT discards the staged key. -/
def State.woadAbort (s : State) (i : Nat) : State :=
  match s.woad.shadow with
  | some x => if x.slot = i then ({ s with woad := { s.woad with shadow := none } }.raise 0x6003 sevNotice kOther i i).woadDone stOk 0 else s.woadDone stOk 0
  | none => s.woadDone stOk 0

def execKeyAborted (m : Nat) (v : Word) (s : State) : Host.Outcome State Fault Refusal := .next (s.execWoad m v 4 State.woadAbort)

/-- ERASE empties a slot; with FORCE the engines that use it lose their key at once. -/
def State.woadErase (s : State) (i : Nat) : State :=
  let force := bit (s.reg R.woadArg0) 31
  if s.slotBound i && !force then s.woadDone stBusy 0
  else
    let s := if force then (s.keysGone (fun k => decide (k = i))).setSlot i { s.slot i with key := [] } else s
    s.woadStart 5 i {}

def execKeyErased (m : Nat) (v : Word) (s : State) : Host.Outcome State Fault Refusal := .next (s.execWoad m v 5 State.woadErase)

/-- Whether new attributes only narrow old ones (R385). -/
def narrows (old new : Word) : Bool :=
  let a := bits old 15 0
  let b := bits new 15 0
  decide (bits new 31 29 = bits old 31 29 ∧ bits old 31 29 ≠ 0) && decide (bits new 22 16 &&& (0x7F - bits old 22 16) = 0)
    && !(bit old 27 && !bit new 27) && !(!bit old 28 && bit new 28) && (decide (a = 0) || decide (b ≠ 0 ∧ b ≤ a))

/-- ATTR narrows a slot's attributes. -/
def State.woadAttr (s : State) (i : Nat) : State :=
  let x := s.slot i
  let a := s.reg R.woadArg1
  if !narrows x.attr a then s.woadDone stDenied 0 else s.woadStart 6 i { x with attr := a }

def execAttr (m : Nat) (v : Word) (s : State) : Host.Outcome State Fault Refusal := .next (s.execWoad m v 6 State.woadAttr)

/-- SIGN and MAC over DIGEST_IN (R389). -/
def State.woadMake (s : State) (i t : Nat) : State :=
  if !s.slotUsable i 21 [t] then (s.limitNote i).woadDone stDenied 0
  else
    let d := s.regBytes (R.woadDigestIn 0) 16
    let k := (s.slot i).key
    let out := if t = 2 then Config.ed25519Sign k d else Config.hmacSha512 k d
    ((s.setRegBytes (R.woadSigOut 0) 16 out).useSlot i).woadDone stOk 0

def execSign (m : Nat) (v : Word) (s : State) : Host.Outcome State Fault Refusal := .next (s.execWoad m v 7 (fun s i => s.woadMake i 2))
def execMac (m : Nat) (v : Word) (s : State) : Host.Outcome State Fault Refusal := .next (s.execWoad m v 8 (fun s i => s.woadMake i 4))

/-- A write of PROV_CLOSE burns the provisioning fuse. -/
def State.provClose (s : State) (m : Nat) (v : Word) : State × Bool :=
  if !vaultMaster m || decide (v.toNat / 2 ≠ 0) || s.tamperLock then (s, false)
  else (if bit v 0 then { s with woad := { s.woad with prov := true } } else s, true)

def execProvClose (m : Nat) (v : Word) (s : State) : Host.Outcome State Fault Refusal :=
  .next (s.regWriteBy m R.woadProvClose (s.provClose m v))

/-- A staged key not committed in 10 s is discarded. -/
def execStageExpired (s : State) : Host.Outcome State Fault Refusal :=
  .next (match s.woad.shadow with
    | some x =>
      if s.woad.op.isSome then s
      else ({ (s.advance x.expires) with woad := { s.woad with shadow := none } }).raise 0x6005 sevWarn kOther x.slot x.slot
    | none => s)

/-- A record commit of Woad past its limit ends with TIMEOUT: before its first copy has landed nothing changes, after it the new key
stands and is swapped in (R388, Table 17.4). -/
def State.woadTick (s : State) : State :=
  match s.woad.op with
  | some x =>
    if x.op = 0 ∨ s.ttime ≤ x.limit then s
    else if x.copyA then s.woadEnd x stTimeout
    else
      let mine (p : Piece) : Bool := decide (p.fin = .woadA x.slot ∨ p.fin = .woadB x.slot)
      ({ s with woad := { s.woad with op := none } }.modSaff (fun y => { y with pieces := y.pieces.filter (fun p => !mine p) })).woadDone stTimeout 0
  | none => s

/-! Restoring the slots (R383, R395, R396). -/

/-- A slot restored from its valid record. -/
def State.restoreSlot (s : State) (i : Nat) : State :=
  let had := s.slot i
  let (copy, pay, _, s) := s.selectRecord 0x20 i
  let h := recordHome 0x20 i
  let fresh := match h with | some h => decide (copy = 0) && !s.saff.lost.contains (0x20, i) && decide (h.n = 1) | none => true
  if fresh then s.setSlot i {}
  else
    let tamperKey := bit (word (leOf pay 8 4)) 27
    match (if copy = 0 then none else s.slotOf i pay) with
    | some x =>
      let uses := if s.woad.live then max had.uses x.uses else if s.woad.saved then x.uses else x.uses + 4096
      s.setSlot i { x with uses := if x.type = 0 then 0 else uses }
    | none =>
      let s := s.setSlot i {}
      if tamperKey ∧ s.woad.kekLost then s else s.raise 0x6012 sevError kOther i i

/-- Every slot restored at start-up: a zeroised or lost tamper KEK leaves its slots EMPTY; then a fresh one is made, and one that was lost
is told once (R394, R395). -/
def State.restoreSlots (s : State) : State :=
  let lost := s.woad.kekLost
  let s := s.forEach (List.range' 1 255) (fun s i => s.restoreSlot i)
  let s := if s.woad.tamperKek = [] then
      let (k, s) := s.randomBytes 53 32
      { s with woad := { s.woad with tamperKek := k } }
    else s
  let s := if lost then s.raise 0x6011 sevWarn kOther 0 else s
  let s := { s with woad := { s.woad with live := true, saved := false, kekLost := false, vaultShut := false } }
  s.modSaff (fun x => { x with sealKey := s.bindSealKey })

end Sys2Proof.Machine
end

