-- ==== Sys2Proof/Machine/Reset.lean ====
section
/-! DEFINITION. Resets (R367), what each keeps; the always-on domain's events (R28); power domains: presence, use, needs (Table 15.6); losing volatile state (R362). -/

namespace Sys2Proof.Machine

/-! Registers that a reset keeps. -/

/-- Registers held in the always-on domain (Table 16.8, R403, R477). -/
def aonAddr (a : Nat) : Bool :=
  decide (0x70000 ≤ a ∧ a < 0x80000) || decide (a = R.globalResetCause ∨ a = R.globalBootFailCnt ∨ a = R.globalFilt3)

/-- RWS registers, and the Madder registers, which a warm reset keeps (R12, R367). -/
def warmAddr (a : Nat) : Bool :=
  decide (0x40 ≤ a ∧ a < 0x50) || decide (0x700 ≤ a ∧ a < 0x70C) || decide (0x30000 ≤ a ∧ a < 0x38000)

/-! Power domains (Table 15.6). -/

/-- Whether the ordering code has a domain. -/
def State.domPresent (s : State) (d : Nat) : Bool :=
  if d < 64 then decide (d / 8 < s.nSlices)
  else if d < 72 then decide (d - 64 < s.nSlices)
  else if d < 80 then decide (d - 72 < s.nSlices)
  else if d < 88 then decide (d - 80 < s.nSlices)
  else if d < 92 then decide (d - 88 < s.nCxl)
  else decide (d < 96)

/-- The domains a domain needs on, in the order in which they come up. -/
def domNeeds (d : Nat) : List Nat :=
  if d < 64 then [95, 92, 72 + d / 8]
  else if d < 72 then [95, 92]
  else if d < 80 then [95, 92]
  else if d < 88 then [95, 92, d - 8]
  else if d = 92 then [95]
  else if d = 93 then [95, 92]
  else if d = 95 then []
  else [95]

/-- PD_ON of a domain. -/
def State.domIsOn (s : State) (d : Nat) : Bool := s.pwr.domOn.testBit d

/-- A state in which every rail is up: ACTIVE, TRIM, STANDBY. -/
def State.powered (s : State) : Bool := decide (1 ≤ s.pwr.state ∧ s.pwr.state ≤ 3)

/-- The state that PWR.STATUS and SMBus STATE show: 8 while changing (Table 15.15). -/
def Pwr.shown (p : Pwr) : Nat := if p.target = 0 then p.state else 8

/-- Whether a domain is in use. -/
def State.domInUse (s : State) (d : Nat) : Bool :=
  if d < 64 then decide (s.portMode d ≠ 0)
  else if d < 72 then (List.range 4).any (fun i => s.lkEnabled (4 * (d - 64) + i))
  else if d < 80 then
    let k := d - 72
    (List.range 8).any (fun i => s.domIsOn (8 * k + i)) || s.flows.any (fun (p : Nat × Flow) => p.2.valid && decide (p.1 / 2048 = k))
      || s.units.any (fun (p : Nat × UnitState) => decide (p.1 < 128 ∧ p.1 % 64 / 8 = k ∧ p.2.run ≠ .idle))
      || s.outs.any (fun (p : Nat × Out) => decide (p.1 / 8 = k) && p.2.scanning)
  else if d < 88 then (sliceOuts (d - 80)).any (fun n => decide ((s.out n).pool = .granted ∨ (s.out n).pool = .queued))
  else if d < 92 then s.inSet (d - 88)
  else if d = 92 then s.powered
  else if d = 93 then (List.range 8).any s.obEnabled
  else decide (s.pwr.state ≠ 0 ∧ s.pwr.state ≠ 4)

/-- Whether a domain may be on: present, requested, neither shed nor failed (R355, R357, R450). -/
def State.domMay (s : State) (d : Nat) : Bool :=
  s.domPresent d && s.domAllowed d && !s.pwr.domShed.testBit d && !s.domFault d

/-- A set of domains as bits. -/
def domBits (ds : List Nat) : Nat := ds.foldl setBit 0

/-- Domains on in STANDBY (Table 15.4). -/
def State.standbyDoms (s : State) : Nat := domBits (([88, 89, 90, 91, 92, 94, 95]).filter s.domMay)

/-- Domains on in ACTIVE, and in TRIM (R356). -/
def State.activeDoms (s : State) : Nat := domBits ((List.range 96).filter s.domMay)
def State.trimDoms (s : State) : Nat :=
  let ds := (List.range 96).filter (fun d => s.domMay d && s.domInUse d)
  domBits (ds ++ (ds.flatMap domNeeds).filter s.domMay)

/-! The always-on domain's events (R28). -/

/-- An event raised by the always-on domain: while CLK_D is stopped it is held there, stamped with the always-on count, which runs on a
clock of its own: its advance since the last stamp is a free value (log entry 3). -/
def State.aonStamp (s : State) : State :=
  let (v, s) := s.freeNat 54
  { s with aonTime := (s.aonTime + v) % 2 ^ 48 }

def State.aonRaise (s : State) (code sev index : Nat) (a0 : Nat := 0) : State :=
  if s.pwr.state = 0 ∨ s.pwr.state = 4 then
    let s := s.aonStamp
    { s with aonEvents := s.aonEvents ++ [{ code := code, sev := sev, aon := true, kind := kOther, dev := s.devId, index := index,
                                            stamp := s.aonTime, a0 := word a0 }] }
  else s.raise code sev kOther index a0

/-- The events held are logged when the log opens. -/
def State.aonFlush (s : State) : State := { s with raised := s.aonEvents.foldl (fun l e => insertEvent e l) s.raised, aonEvents := [] }

/-! Resets (R367). -/

/-- What the blocks of the vault and the store keep of themselves: what is committed; a piece on its way is torn (R409). -/
def Saffron.kept (x : Saffron) (now : Nat) : Saffron :=
  { x with images := [], torn := x.torn || decide (x.pieces ≠ []), pieces := [], chal := none, chalFrom := x.chalFrom - now, state := 0 }
def Woad.kept (x : Woad) : Woad := { x with shadow := none, op := none, rslKey := [], ideKeys := [], ideNext := [] }

/-- Everything outside the always-on domain at its reset values; a warm reset keeps RWS fields, TTIME and Madder. Every flow, take, store
and host allocation is gone, the CXL population is lost, transmitters are idle. -/
def State.wipe (s : State) (warm : Bool) : State :=
  let stays (a : Nat) : Bool := aonAddr a || (warm && warmAddr a)
  let now := if warm then 0 else s.ttime
  let tmp : Tamper := { s.tamper with chal := none, chalFrom := s.tamper.chalFrom - now }
  let bt : Boot := { fuses := s.boot.fuses, revoked := s.boot.revoked }
  let pw : Pwr := { s.pwr with domOn := 0, domShed := 0, idleT := [], overT := none, ceil := false, avsCode := [], avsHigh := 0, avsLow := 0,
                               kept := [], keptScan := [], target := 0, stopOuts := [] }
  let xb : Xbar := { smbAddr := s.xbar.smbAddr, pcieUp := s.xbar.pcieUp, pcieWidth := s.xbar.pcieWidth, pcieRate := s.xbar.pcieRate }
  let tw : Twin := { peerPresent := s.twin.peerPresent, force := s.twin.force }
  { State.reset with
    pending := s.pending, ttime := if warm then s.ttime else 0, freeCtr := s.freeCtr, variant := s.variant, devId := s.devId,
    regs := s.regs.filter (fun p => stays p.1), ctr := s.ctr.filter (fun p => stays p.1), snap := s.snap.filter (fun p => stays p.1),
    stk := { loaded := warm && s.stk.loaded }, madder := if warm then s.madder else State.reset.madder, saff := s.saff.kept now, woad := s.woad.kept, mem := { nv := s.mem.nv, nvOld := s.mem.nvOld }, tamper := tmp, boot := bt, pwr := pw, xbar := xb,
    twin := tw, aonTime := s.aonTime, aonEvents := s.aonEvents, sent := s.sent, evlog := { pins := s.evlog.pins } }

/-- A reset: the cause is held, start-up begins at step 1 in STANDBY (Table 15.5). -/
def State.resetTo (s : State) (warm : Bool) (cause : Nat) : State :=
  let s := (s.wipe warm).setRegN R.globalResetCause cause
  let s := { s with boot := { s.boot with stage := 1, lastService := s.ttime }, pwr := { s.pwr with state := if s.pwr.state = 0 ∨ s.pwr.state = 4 then s.pwr.state else 3 } }
  ({ s with pwr := { s.pwr with domOn := if s.powered then s.standbyDoms else 0 } } : State).bootLine 1 0

/-- Cold reset: 1 PWR_GOOD rising, 2 RST_N, 3 RESET.COLD (Table 16.8). -/
def State.coldReset (s : State) (cause : Nat) : State := s.resetTo false cause

/-- Warm reset: 4 watchdog, 5 RESET.WARM. -/
def State.warmReset (s : State) (cause : Nat) : State := s.resetTo true cause

/-- Power goes: all that volatile memory held is lost (Table 15.9); with the always-on domain unpowered no level of PWR_EN is held (DESIGN CHOICE, log
entry 60). -/
def State.powerOff (s : State) (state : Nat) : State :=
  let s := s.wipe false
  { s with pwr := { s.pwr with state := state, rails := if state = 0 then 0 else 1, pwrEn := s.pwr.pwrEn && decide (state ≠ 0), upStep := none, shut := none, ride := false, ioGood := false, pwrGood := false },
           woad := { s.woad with live := false } }

end Sys2Proof.Machine
end

