-- ==== Sys2Proof/Machine/Power.lean ====
section
/-! DEFINITION. Power entry, rails and domains (chapter 15): the inputs, the power-up sequence, power states, domain requests, the power-fail sequence and the orderly shutdown. -/

namespace Sys2Proof.Machine

def State.setPwr (s : State) (x : Pwr) : State := { s with pwr := x }
def State.modPwr (s : State) (f : Pwr → Pwr) : State := s.setPwr (f s.pwr)

/-- 2 ms in CLK_D periods. -/
def twoMs : Nat := 3200000

/-! Inputs (R343, R344). -/

/-- A power input requalifies. With neither input OK before it, it feeds the 48 V bus; in OFF the always-on domain starts with the
straps and the VHOST level given (Table 15.3 step 1, R349, R439). -/
def State.inputOk (s : State) (dc : Bool) (strap : Nat) (vhost33 : Bool) : State :=
  let p := s.pwr
  let src := if p.source = 0 then (if dc then 2 else 1) else p.source
  let p := if dc then { p with dcOk := true, source := src } else { p with acOk := true, source := src }
  if p.state ≠ 0 then s.setPwr p
  else
    let s := s.setPwr { p with state := 4, vhost33 := vhost33, rails := 1 }
    let s := (s.setRegN R.globalResetCause 1).setCtr R.globalBootFailCnt 0
    { s with xbar := { s.xbar with smbAddr := 0x40 + strap % 16 } }

/-- Cycles of the always-on 32.768 kHz clock for which an input must hold: to be OK again and for the bus to return to DC (10 ms, R343, R344), and for
the power-up that follows a loss of input (100 ms, R361). -/
def inputCycles : Nat := 328
def restartCycles : Nat := 3277

/-- INPUT_OK: an input has been inside its operating range for some cycles of the always-on clock. -/
def execInputOk (dc : Bool) (cycles strap : Nat) (vhost33 : Bool) (s : State) : Host.Outcome State Fault Refusal :=
  .next (if (if dc then s.pwr.dcOk else s.pwr.acOk) ∨ cycles < inputCycles then s else s.inputOk dc strap vhost33)

/-- The 48 V bus changes its input. -/
def State.switchInput (s : State) (src : Nat) : State :=
  ((s.modPwr (fun p => { p with source := src })).bump R.pwrInputSwitchCnt).aonRaise 0x1004 sevNotice 0 src

/-- An input is lost: the other one takes over, or none is left, and SLEEP becomes OFF. -/
def State.inputLost (s : State) (dc : Bool) : State :=
  let p := if dc then { s.pwr with dcOk := false } else { s.pwr with acOk := false }
  let s := s.setPwr p
  if p.acOk ∨ p.dcOk then
    let s := s.aonRaise 0x1005 sevWarn 0 dc.toNat
    let lost := if dc then 2 else 1
    if p.source = lost then s.switchInput (3 - lost) else s
  else
    let s := s.modPwr (fun p => { p with source := 0 })
    if p.state = 4 then s.modPwr (fun p => { p with state := 0, rails := 0, pwrEn := false }) else s

def execInputLost (dc : Bool) (s : State) : Host.Outcome State Fault Refusal :=
  .next (if (if dc then s.pwr.dcOk else s.pwr.acOk) then s.inputLost dc else s)

/-- The bus returns to DC once that has stayed OK for some cycles more of the always-on clock. -/
def execInputSwitch (cycles : Nat) (s : State) : Host.Outcome State Fault Refusal :=
  .next (if s.pwr.dcOk ∧ s.pwr.source = 1 ∧ inputCycles ≤ cycles then s.switchInput 2 else s)

/-! The shutdown (R353, R360). -/

/-- From the 2 ms mark: PWR_GOOD falls and shutdown is committed; Saffron takes no more writes (R420). -/
def State.shutBegin (s : State) (cause : Nat) : State :=
  let s := s.modPwr (fun p => { p with ride := false, shut := some 1, shutT := s.ttime, state := 8, target := 0, stopOuts := [], pwrGood := false, cause := cause, upStep := none })
  let s := s.raise 0x1003 sevFatal kOther 0 cause
  s.modSaff (fun x => { x with state := if x.state = 1 then 3 else x.state })

/-- Rails already up fall in reverse order: back to SLEEP, or OFF with no input. -/
def State.railsFall (s : State) : State := s.powerOff (if s.pwr.acOk ∨ s.pwr.dcOk then 4 else 0)

/-- An orderly shutdown is asked for: it starts from a powered state, ends ride-through with the cause of that sequence, ends a power-up
sequence, and changes nothing in a sequence already committed (R353, R363). -/
def State.shutAsk (s : State) (cause : Nat) : State :=
  if s.pwr.shut.isSome then s
  else if s.pwr.ride then s.shutBegin s.pwr.cause
  else if s.pwr.upStep.isSome then s.railsFall
  else if s.powered then s.shutBegin cause
  else s

/-! PWR_EN and the power-up sequence (R347, R350). -/

/-- The power-up sequence begins at step 2. -/
def State.upBegin (s : State) : State :=
  if s.pwr.state = 4 ∧ !s.pwr.heldCold ∧ s.pwr.upStep.isNone ∧ (s.pwr.acOk ∨ s.pwr.dcOk) ∧ s.pwr.shut.isNone then
    s.modPwr (fun p => { p with upStep := some 2, state := 8, railFault := 0, needEdge := false, needCool := false })
  else s

/-- PWR_EN rises; `cool` tells whether every temperature monitor reads below CRIT (R359). -/
def execPwrEnRise (cool : Bool) (held : Nat) (s : State) : Host.Outcome State Fault Refusal :=
  .next (if s.pwr.pwrEn ∨ !s.filtered 3 held then s
    else
      let s := s.modPwr (fun p => { p with pwrEn := true })
      if s.pwr.needCool ∧ !cool then s else s.upBegin)

/-- PWR_EN falls. -/
def execPwrEnFall (held : Nat) (s : State) : Host.Outcome State Fault Refusal :=
  .next (if !s.pwr.pwrEn ∨ !s.filtered 3 held then s
    else (s.modPwr (fun p => { p with pwrEn := false, needEdge := false })).shutAsk 2)

/-- The rails a step brings up (Table 15.2, Table 15.3), those of present tiles. -/
def State.stepRails (s : State) (k : Nat) : List Nat :=
  let ct := (List.range 4).filter (fun t => decide (2 * t < s.nSlices))
  match k with
  | 3 => [1, 2]
  | 4 => 3 :: ct.map (fun t => 4 + t)
  | 5 => [8, 9, 10]
  | _ => []

/-- The step in progress completes: at the end of step 3 IO_GOOD rises, at the end of step 5 PWR_GOOD, in STANDBY with PD95 up. -/
def State.upStepDone (s : State) (k : Nat) : State :=
  let rails := (s.stepRails k).foldl setBit s.pwr.rails
  let s := s.modPwr (fun p => { p with rails := rails, upStep := if k < 5 then some (k + 1) else none })
  if k = 3 then s.modPwr (fun p => { p with ioGood := true })
  else if k = 5 then
    let s := s.modPwr (fun p => { p with pwrGood := true, state := 3 })
    s.modPwr (fun p => { p with domOn := s.standbyDoms })
  else s

def execPowerUpStep (s : State) : Host.Outcome State Fault Refusal :=
  .next (match s.pwr.upStep with | some k => s.upStepDone k | none => s)

/-- A step overruns its limit on a rail: the rails fall, the fault is logged at the next start, SLEEP until PWR_EN rises again. -/
def execPowerUpOverrun (rail : Nat) (s : State) : Host.Outcome State Fault Refusal :=
  .next (match s.pwr.upStep with
    | some _ =>
      let s := (s.railsFall.aonRaise 0x1007 sevFatal rail rail)
      s.modPwr (fun p => { p with needEdge := true, railFault := if rail < 11 then setBit p.railFault rail else p.railFault })
    | none => s)

/-- A rail leaves regulation in service (R348); without a VIO rail IO_GOOD is low (R349). -/
def State.railFails (s : State) (r : Nat) : State :=
  if s.powered ∧ s.pwr.rails.testBit r ∧ r < 11 then
    let s := s.raise 0x1007 sevFatal kOther r r
    let s := s.modPwr (fun p => { p with rails := clearBit p.rails r, railFault := setBit p.railFault r, ioGood := p.ioGood && decide (r ≠ 1 ∧ r ≠ 2) })
    if s.pwr.shut.isSome then s else s.shutBegin (if s.pwr.ride then s.pwr.cause else 6)
  else s

def execRailFault (r : Nat) (s : State) : Host.Outcome State Fault Refusal := .next (s.railFails r)

/-! The power-fail sequence (R360, Table 15.8). -/

/-- The 380 V bus falls below 340 V with neither input OK. -/
def execPwrFailEarly (s : State) : Host.Outcome State Fault Refusal :=
  .next (if s.pwr.acOk ∨ s.pwr.dcOk ∨ s.pwr.ride ∨ s.pwr.shut.isSome then s
    else if s.pwr.upStep.isSome then s.railsFall.modPwr (fun p => { p with cause := 1 })
    else if s.powered then
      let s := (s.raise 0x1001 sevWarn kOther 0).bump R.pwrPfeCnt
      s.modPwr (fun p => { p with ride := true, failT := s.ttime, cause := 1 })
    else s)

/-- PWR_RIDE: in ride-through an input has been back for some CLK_D cycles (the AC input above 113 V for 1 ms, the DC input in its range for 100 µs,
R343) with the 380 V bus at a voltage in 0.1 V: the sequence ends. -/
def execPwrRide (dc : Bool) (held busV : Nat) (s : State) : Host.Outcome State Fault Refusal :=
  .next (if s.pwr.ride ∧ s.ttime < s.pwr.failT + twoMs ∧ (if dc then 160000 else 1600000) ≤ held ∧ 3600 < busV then
      ((s.modPwr (fun p => { p with ride := false, cause := 0 })).raise 0x1002 sevInfo kOther 0).bump R.pwrRideCnt
    else s)

/-- The 2 ms mark. -/
def execPwrShutdown (s : State) : Host.Outcome State Fault Refusal :=
  .next (if s.pwr.ride then (s.advance (s.pwr.failT + twoMs)).shutBegin s.pwr.cause else s)

/-- The data plane stops: outputs black with their timing kept, or idle (FAIL_OUT); no unit runs, nothing further is committed. -/
def State.dataStops (s : State) : State :=
  let mute := bit (s.reg R.pwrCtrl) 8
  let off (p : Plane) : Plane := { p with cur := { p.cur with ctrl := setBits p.cur.ctrl 31 31 0 }, pend := none, cap := none }
  { s with
    outs := s.outs.map (fun (q : Nat × Out) => (q.1, if mute then { q.2 with muted := true }
      else { q.2 with safe := some .black, shown := .black, p0 := off q.2.p0, p1 := off q.2.p1, pend := none, convPend := none, timPend := none }))
    units := s.units.map (fun (q : Nat × UnitState) => (q.1, { q.2 with run := .idle, wait := none, start := none, swapArmed := false, swapDue := false }))
    flows := s.flows.map (fun (q : Nat × Flow) => (q.1, { q.2 with slots := q.2.slots.map (fun y => { y with writing := false }) })) }

/-- The boot record: the preferred slot and the last shutdown cause (Table 18.4; its bytes are a DESIGN CHOICE, log entry 25). -/
def State.postBoot (s : State) (cause : Nat) : State :=
  s.postAlt 1 0 (leBytes 4 s.boot.pref ++ leBytes 4 cause ++ List.replicate 8 0)

/-- The counter record: the lifetime counters in the order of Table 20.8 (log entry 25). -/
def lifeCounters : List Nat := [R.hlthLifeCycles, R.hlthLifeT85, R.hlthLifeT105, R.hlthLifeTmax, R.hlthLifeTrips, R.hlthLifeFatal]
def State.postCounters (s : State) : State :=
  s.postAlt 4 0 (leBytes 8 (s.ctrOf R.hlthLifeTicksLo) ++ lifeCounters.flatMap (fun a => leBytes 4 (s.ctrOf a)))

/-- Saffron's window: the gather buffer, a Woad commit, which has begun its step 1 before the 2 ms mark and goes on (R391), use counts, a reseal, the counter and boot records, the fault
log; then it is sealed (R382, R420). -/
def State.saffronSaves (s : State) : State :=
  let s := s.modSaff (fun x => { x with state := 1 })
  let s := s.postGather.nvDrain
  let used := (s.woad.slots.filter (fun (p : Nat × Slot17) => decide (p.2.uses % 4096 ≠ 0))).map Prod.fst
  let s := used.foldl (fun (s : State) i => (s.postKey i (s.slot i)).nvDrain) s
  let s := if s.saff.prevSeal.isSome then
      (sealedTypes.foldl (fun (s : State) t =>
        let (copy, pay, _, s) := s.selectRecord t 0
        if copy = 0 then s else (s.postAlt t 0 pay).nvDrain) s).modSaff (fun x => { x with prevSeal := none })
    else s
  let s := s.postCounters.nvDrain
  let s := (s.postBoot s.pwr.cause).nvDrain
  let s := s.logCommit.nvDrain
  { s with woad := { s.woad with saved := true } }.modSaff (fun x => { x with state := 4 })

/-- The end: rails off, SLEEP, or OFF with no input; a shutdown by thermal trip or rail fault needs a new edge of PWR_EN. -/
def State.shutEnd (s : State) : State := s.railsFall

/-- When a stage begins, in CLK_D periods from the 2 ms mark (Table 15.8). -/
def stageAt (k : Nat) : Nat := [0, 0, 800000, 3200000, 4000000, 4800000].getD k 0

/-- The stage in progress runs, and the next one is due. -/
def State.shutStage (s : State) (k : Nat) : State :=
  let s := s.advance (s.pwr.shutT + stageAt k)
  let s := match k with
    | 1 => s.dataStops
    | 2 => if s.saff.state = 0 then s else s.saffronSaves
    | 3 => { s with woad := { s.woad with vaultShut := true, shadow := none, rslKey := [], ideKeys := [], ideNext := [] } }
    | 4 => s.modPwr (fun p => { p with domOn := 0 })
    | _ => s
  if k < 5 then s.modPwr (fun p => { p with shut := some (k + 1) }) else s.shutEnd

def execShutdownStage (s : State) : Host.Outcome State Fault Refusal :=
  .next (match s.pwr.shut with | some k => s.shutStage k | none => s)

/-- After a loss of input, power-up begins again once an input has been OK for 100 ms, in cycles of the always-on clock, with PWR_EN high (R361). -/
def execPowerRestart (cycles : Nat) (s : State) : Host.Outcome State Fault Refusal :=
  .next (if s.pwr.pwrEn ∧ s.pwr.cause = 1 ∧ !s.pwr.needEdge ∧ restartCycles ≤ cycles then s.upBegin else s)

/-! Domains (R355 to R357). -/

/-- What the loss of a domain does to its units (R3): lanes stop, a pool fails, a CXL port leaves the set. -/
def State.domGone (s : State) (d : Nat) : State :=
  if d < 64 then s.resetPortLanes d
  else if d < 72 then s.forEach (List.range 4) (fun s i =>
    let l := 4 * (d - 64) + i
    (if s.linkUp l then (s.modLink l (fun y => { y with lanes := [] })).degrade l else s).stopLane l)
  else if d < 80 then s
  else if d < 88 then s.poolFail (d - 80)
  else if d < 92 then (if s.inSet (d - 88) then s.portLost (d - 88) else s)
  else s

/-- How many domains the power manager may still switch in this tick: 8 in all (R357). -/
def State.switchRoom (s : State) : Nat := if s.pwr.switched.1 = s.tick then 8 - s.pwr.switched.2 else 8

/-- n domains switched in this tick. -/
def State.switchCount (s : State) (n : Nat) : State :=
  s.modPwr (fun p => { p with switched := (s.tick, n + if p.switched.1 = s.tick then p.switched.2 else 0) })

/-- A domain comes up with every domain it needs. -/
def State.domUp (s : State) (d : Nat) : State :=
  let ds := (domNeeds d ++ [d]).filter (fun d => s.domMay d && !s.domIsOn d)
  (s.switchCount ds.length).modPwr (fun p => { p with domOn := ds.foldl setBit p.domOn, idleT := Tbl.set 0 p.idleT d 0 })

/-- In TRIM a domain with PD_REQ set is switched on at its first use, where this tick still has room for it and what it needs. -/
def execDomainOnUse (d : Nat) (s : State) : Host.Outcome State Fault Refusal :=
  .next (if s.pwr.state = 2 ∧ d < 96 ∧ s.domMay d ∧ s.domInUse d ∧ !s.domIsOn d
      ∧ ((domNeeds d).filter (fun d => s.domMay d && !s.domIsOn d)).length < s.switchRoom then s.domUp d else s)

/-- A domain is switched off 16 ticks after the tick at which it was first seen not in use. -/
def execDomainIdleOff (d : Nat) (s : State) : Host.Outcome State Fault Refusal :=
  .next (match Tbl.find s.pwr.idleT d with
    | some t =>
      let u := s.advance (ticksAfter (t - 1) 16)
      if s.pwr.state = 2 ∧ !s.domInUse d ∧ s.domIsOn d ∧ 0 < u.switchRoom then
        (u.switchCount 1).modPwr (fun p => { p with domOn := clearBit p.domOn d, idleT := Tbl.set 0 p.idleT d 0 })
      else s
    | none => s)

/-- The domains in the order in which they are switched on, lane domains last, and off: lane domains first, every domain on VANA before any on
VCORE alone (R357). -/
def upOrder : List Nat := List.range' 72 24 ++ List.range 72
def downOrder : List Nat := (List.range 72).reverse ++ [94, 91, 90, 89, 88, 95, 93, 92] ++ (List.range' 72 16).reverse

/-! Power states (R351, R352, R356). -/

/-- What a return from STANDBY restores: sequencers that ran restart at word 0, outputs resume with a transition frame, flows start in ACQUIRE,
lanes in DETECT. -/
def State.standbyLeave (s : State) (target : Nat) : State :=
  let s := s.forEach s.pwr.kept (fun (s : State) (q : Nat × Bool) =>
    s.modUnit q.1 (fun x => { x with start := some { restart := true, limit := s.ticksOn 8 } }))
  let s := s.forEach s.pwr.keptScan (fun s n => s.modOut n (fun o => { o with scanning := true, resume := true, frameT := (s.group o.group).lastStart }))
  let s := s.forEach (Tbl.keys s.flows) (fun s f => if (s.flow f).usable then
      (s.modFlow f (fun x => { x with acquireT := s.ttime, lastRef := s.ttime, good := 0, refOk := false })).detTo f .acquire else s)
  let s := (s.forEach (List.range 288) (fun s l => s.powerLink l)).aonFlush
  s.modPwr (fun p => { p with state := target, kept := [], keptScan := [] })

/-- The domains that a state has on, reached from the current one: in TRIM those in use, with the uses that a return from STANDBY restores. -/
def State.domsFor (s : State) (state : Nat) : Nat :=
  if state = 1 then s.activeDoms
  else if state = 2 then (if s.pwr.state = 3 ∧ s.boot.ready then (s.standbyLeave 2).trimDoms else s.trimDoms)
  else s.standbyDoms

/-- The domains that the power manager is to have on: those of the state that a change goes to; in TRIM, where the uses switch them, those that
are on and may be. -/
def State.domGoal (s : State) : Nat :=
  if s.pwr.target = 3 ∧ s.pwr.stopOuts ≠ [] ∧ s.ttime < s.pwr.stopBy then s.pwr.domOn
  else if s.pwr.target ≠ 0 then s.domsFor s.pwr.target
  else if s.pwr.state = 2 then domBits ((List.range 96).filter (fun d => s.domIsOn d && s.domMay d))
  else s.domsFor s.pwr.state

/-- Entry to STANDBY begins: units stop, each output is to stop scanning at its next frame start; one that reaches none within 5 ticks stops then, so
that the domains are down within the 16 ticks of Table 15.5 (DESIGN CHOICE, log entry 26). -/
def State.standbyEnter (s : State) : State :=
  let runs := (s.units.filter (fun (q : Nat × UnitState) => decide (q.2.run = RunState.run ∨ q.2.run = RunState.wait))).map (fun q => (q.1, true))
  let scans := (s.outs.filter (fun (q : Nat × Out) => q.2.scanning)).map Prod.fst
  let s := s.forEach (List.range 4) (fun s e => if (s.ce e).exec.isSome then s.endCommand e stAborted else s)
  let s := { s with
    units := s.units.map (fun (q : Nat × UnitState) => (q.1, if q.2.run = RunState.run ∨ q.2.run = RunState.wait then { q.2 with run := .halted, wait := none } else q.2)) }
  s.modPwr (fun p => { p with kept := runs.filter (fun q => decide (q.1 < 128)), keptScan := scans, stopOuts := scans, stopBy := s.ticksOn 5 })

/-- A change of state is complete: every domain is as the new state has it. -/
def State.changeDone (s : State) : State :=
  let t := s.pwr.target
  let s := if t ≠ 3 ∧ s.pwr.state = 3 then s.standbyLeave t else s
  s.modPwr (fun p => { p with state := t, target := 0, idleT := [] })

/-- The power manager at a tick boundary (R357): at most 8 domains are switched towards the goal, off before on; a change whose goal is reached is
complete. -/
def State.switchTick (s : State) : State :=
  if !s.powered ∨ !s.boot.ready then s
  else
    let goal := s.domGoal
    let hold := decide (s.pwr.target = 3 ∧ s.pwr.stopOuts ≠ [] ∧ s.ttime < s.pwr.stopBy)
    let s := if s.pwr.target = 3 ∧ !hold then
        (s.forEach s.pwr.stopOuts (fun s n => s.modOut n (fun o => { o with scanning := false }))).modPwr (fun p => { p with stopOuts := [] })
      else s
    let room := s.switchRoom
    let off := (downOrder.filter (fun d => s.domIsOn d && !goal.testBit d)).take room
    let on := (upOrder.filter (fun d => goal.testBit d && !s.domIsOn d)).take (room - off.length)
    let s := s.forEach (off.filter (fun d => decide (d < 72))) State.domGone
    let s := (s.switchCount (off.length + on.length)).modPwr (fun p => { p with domOn := on.foldl setBit (off.foldl clearBit p.domOn) })
    if s.pwr.target ≠ 0 ∧ !hold ∧ s.pwr.domOn = goal then s.changeDone else s

/-- Whether Table 15.5 lets the current state reach a requested one; in a change only its own target and SLEEP (DEDUCED, log entry 60). -/
def State.stateReachable (s : State) (target : Nat) : Bool :=
  s.powered && decide (1 ≤ target ∧ target ≤ 4) && (decide (s.pwr.target = 0 ∨ target = 4) || decide (target = s.pwr.target))

/-- The transition to a requested state begins. -/
def State.stateChange (s : State) (target : Nat) : State :=
  if target = 4 then s.shutAsk 4
  else if target = s.pwr.state ∨ target = s.pwr.target ∨ !s.boot.ready then s
  else (if target = 3 then s.standbyEnter else s).modPwr (fun p => { p with target := target })

/-- A write of PWR.CTRL. -/
def State.pwrCtrlWrite (s : State) (v : Word) : State × Bool :=
  let target := bits v 3 0
  if !s.stateReachable target then (s, false)
  else ((s.setReg R.pwrCtrl (maskWrite (s.reg R.pwrCtrl) v 0x10F)).stateChange target, true)

def execStateReq (m : Nat) (v : Word) (s : State) : Host.Outcome State Fault Refusal :=
  .next (s.regWriteBy m R.pwrCtrl (s.pwrCtrlWrite v))

/-! Failed domains (R3, R357). -/

/-- A domain is not in regulation in time: it is left off, its units are excluded. -/
def execPdFault (d : Nat) (s : State) : Host.Outcome State Fault Refusal :=
  .next (if 96 ≤ d ∨ !s.domPresent d ∨ s.domFault d ∨ !(s.powered) then s
    else
      let s := s.domGone d
      let s := s.setReg (R.pwrPdFault (d / 32)) (word (setBit (s.reg (R.pwrPdFault (d / 32))).toNat (d % 32)))
      (s.modPwr (fun p => { p with domOn := clearBit p.domOn d })).raise 0x1008 sevError kOther d d)

/-- The present domains of word w whose bit a write of PD_REQ changes to a value. -/
def State.pdChanged (s : State) (w : Nat) (v : Word) (on : Bool) : List Nat :=
  ((List.range 32).map (fun i => 32 * w + i)).filter (fun d => s.domPresent d && decide (s.domAllowed d ≠ bit v (d % 32)) && decide (bit v (d % 32) = on))

/-- A write of PD_REQ: a bit of a domain in use cannot be cleared, but for a pool, which is shed; nor one of PD88 to PD95. The power manager switches
the domains at the next tick boundaries. -/
def State.pdReqWrite (s : State) (w : Nat) (v : Word) : State × Bool :=
  let off := s.pdChanged w v false
  let on := s.pdChanged w v true
  let isPool (d : Nat) : Bool := decide (80 ≤ d ∧ d < 88)
  if off.any (fun d => decide (88 ≤ d) || (s.domInUse d && !isPool d)) then (s, false)
  else
    let s := s.setReg (R.pwrPdReq w) v
    let s := s.forEach (off.filter isPool) (fun s d => s.poolShedNow (d - 80))
    (s.forEach (on.filter isPool) (fun s d => if s.pwr.domShed.testBit d then s else s.poolUnshed (d - 80)), true)

def execPdReqWrite (m w : Nat) (v : Word) (s : State) : Host.Outcome State Fault Refusal :=
  .next (if w < 3 then s.regWriteBy m (R.pwrPdReq w) (s.pdReqWrite w v) else s)

/-- Writing 1 to a PD_FAULT bit clears it; the domain is tried again at its next use. -/
def State.pdFaultWrite (s : State) (w : Nat) (v : Word) : State × Bool :=
  (s.setReg (R.pwrPdFault w) (s.reg (R.pwrPdFault w) &&& ~~~v), true)

def execPdFaultClear (m w : Nat) (v : Word) (s : State) : Host.Outcome State Fault Refusal :=
  .next (if w < 3 then s.regWriteBy m (R.pwrPdFault w) (s.pdFaultWrite w v) else s)

/-! Overload and thermal trip (R345, R359). -/

/-- 3,200 ticks of excess without a break. -/
def execOverloadTimeout (s : State) : Host.Outcome State Fault Refusal :=
  .next (match s.pwr.overT with
    | some t => if s.powered then (s.advance (ticksAfter t 3200)).shutAsk 7 else s
    | none => s)

/-- A temperature monitor reaches TRIP: whatever software has set, the sequence runs from its 2 ms mark; a sequence in progress goes on, and
another monitor that reaches TRIP in the sequence of a trip starts no second one. -/
def State.thermalTrip (s : State) (mon : Nat) : State :=
  let twice := s.pwr.needCool && s.pwr.shut.isSome
  let s := if twice then s else (s.aonRaise 0x1009 sevFatal mon mon).bump R.hlthLifeTrips
  let s := s.modPwr (fun p => { p with needEdge := true, needCool := true })
  if s.pwr.shut.isSome then s
  else if s.pwr.ride then s.shutBegin s.pwr.cause
  else if s.pwr.upStep.isSome then s.railsFall.modPwr (fun p => { p with cause := 5 })
  else s.shutBegin 5

def execThermalTrip (mon : Nat) (s : State) : Host.Outcome State Fault Refusal :=
  .next (if mon < 32 ∧ s.pwr.state ≠ 0 ∧ s.pwr.state ≠ 4 then s.thermalTrip mon else s)

end Sys2Proof.Machine
end

