-- ==== Sys2Proof/Machine/Twin.lean ====
section
/-! DEFINITION. Twin pairing (chapter 12): the twin link, attach and its checks, heartbeats, switchover and demotion, mirrored changes. -/

namespace Sys2Proof.Machine

def twinLink : Nat := 28
def State.twinLinkUp (s : State) : Bool := s.linkUp twinLink

/-- TWIN.STATUS.STATE (Table 12.8). -/
def State.twinCode (s : State) : Nat :=
  if !s.twinHere then 6
  else match s.twin.phase with
    | .disabled => 0 | .solo => 1 | .auth => 2 | .copy => 3 | .sync => 4 | .paired => 5

/-! The twin link (R292). -/

/-- SG7 reserved: its link runs on its four lanes with the cipher, at LINK_RATE. -/
def State.twinLinkOn (s : State) : State :=
  let s := if s.linkUp twinLink then s.linkGone twinLink else s
  let s := s.setReg (R.stackGroupSplit 7) 0
  let s := s.setRegN (lkRegs twinLink) (2 ^ 31 + 2 ^ 30 + s.regBits R.twinCtrl 25 24 * 2 ^ 24 + 15 * 2 ^ 20)
  (s.setLink twinLink Link.reset).powerLink twinLink

/-- SG7 released. -/
def State.twinLinkOff (s : State) : State :=
  let s := s.forEach (s.linkLanes twinLink) State.stopLane
  (s.setLink twinLink Link.reset).setReg (lkRegs twinLink) (setBits (s.reg (lkRegs twinLink)) 31 31 0)

/-! Roles and phases. -/

/-- The outputs of the ordering code. -/
def State.allOuts (s : State) : List Nat := List.range (8 * s.nSlices)
def State.allSeqs (s : State) : List Nat := (List.range 128).filter s.unitPresent

/-- Outputs of a standby are muted, or live where STBY_LIVE says so (R297). -/
def State.standbyMute (s : State) (n : Nat) : State := s.modOut n (fun o => { o with muted := !bit (s.reg R.twinCtrl) 29 })

/-- Every sequencer stops and enters IDLE, an armed swap disarmed; its registers stay. -/
def State.idleSeqs (s : State) : State :=
  { s with units := s.units.map (fun (q : Nat × UnitState) => (q.1, if q.1 < 128 then
      { q.2 with run := .idle, wait := none, start := none, startDue := false, swapArmed := false, swapDue := false } else q.2)) }

/-! Registers. -/

/-- A write of TWIN.CTRL. -/
def State.twinCtrlWrite (s : State) (v : Word) : State × Bool :=
  let old := s.reg R.twinCtrl
  if bit old 31 && decide (bits v 25 8 ≠ bits old 25 8) then (s, false)
  else
    let s := s.setReg R.twinCtrl (maskWrite old v 0xA3FFFF00)
    if bit v 31 && !bit old 31 then ((s.modTwin (fun x => { x with phase := .solo, standby := false })).twinLinkOn, true)
    else if bit old 31 && !bit v 31 then
      ((s.toSolo.modTwin (fun x => { x with phase := .disabled, standby := false })).twinLinkOff, true)
    else (s, true)

def execTwinEnable (m : Nat) (v : Word) (s : State) : Host.Outcome State Fault Refusal :=
  .next (if s.twinHere then s.regWriteBy m R.twinCtrl (s.twinCtrlWrite v) else s)

/-- CMD = ATTACH (Table 12.2). -/
def State.attach (s : State) : State :=
  if !s.twinHere then s.twinResult stAbsent 0
  else if s.twin.phase = .solo ∧ s.twin.peerPresent ∧ s.twinLinkUp ∧ s.twin.peerSolo ∧ s.twin.peerIdle then
    ((s.modTwin (fun x => { x with phase := .auth, source := true, standby := false, phaseT := s.ttime })).emit "TWIN_AUTH" twinLink 0 [])
  else s.twinResult stDenied 0

def execAttach (m : Nat) (s : State) : Host.Outcome State Fault Refusal := .next (s.regWriteBy m R.twinCmd (s.attach, true))

/-- CMD = DETACH; outside PAIRED it ends DENIED (log entry 27). -/
def State.detach (s : State) : State :=
  if !s.twinHere then s.twinResult stAbsent 0
  else if s.twin.phase = .paired then s.twinDetach.twinResult stOk 0
  else s.twinResult stDenied 0

def execDetach (m : Nat) (s : State) : Host.Outcome State Fault Refusal := .next (s.regWriteBy m R.twinCmd (s.detach, true))

/-- A planned switchover starts with a drain of the mirror queue (R300); triggers are numbered as Table 12.4 lists them (log entry 27). -/
def State.planSwitch (s : State) (trigger : Nat) : State :=
  s.modTwin (fun x => { x with planned := some (s.ticksOn 8), trigger := trigger })

/-- CMD = SWITCH. -/
def State.switchCmd (s : State) : State :=
  if !s.twinHere then s.twinResult stAbsent 0
  else if s.twin.phase = .paired ∧ s.twin.planned.isNone then s.planSwitch 3
  else s.twinResult stDenied 0

def execSwitch (m : Nat) (s : State) : Host.Outcome State Fault Refusal := .next (s.regWriteBy m R.twinCmd (s.switchCmd, true))

/-! Authentication (R293 to R295). -/

/-- The certificate in TWIN.CERT. -/
def State.certBytes (s : State) : List Byte := s.regBytes (R.twinCert 0) 48

/-- The owner key of OWNER_SLOT. -/
def State.certOk (s : State) (c : List Byte) : Bool :=
  let x := s.slot (s.regBits R.twinCtrl 23 16)
  decide (leOf c 0 4 = 0x31435754 ∧ leOf c 4 4 = 1 ∧ leOf c 80 2 = s.devId ∧ leOf c 82 46 = 0)
    && decide (x.type = 3) && (bit x.attr 20 || bit x.attr 22)
    && Config.ed25519Verify x.pub (Config.sha512 (c.take 128)) ((c.drop 128).take 64)

/-- The capacities of the ports of the interleave set. -/
def State.cxlCaps (s : State) : List Nat := (List.range 4).map (fun x => if s.inSet x then (s.cxPort x).cap else 0)

/-- The first check that fails; 0 where the peer passes. -/
def State.authCause (s : State) (p : AuthPeer) : Nat :=
  let c := s.certBytes
  let own := Config.ed25519Pub Config.identityKey
  let id0 := (c.drop 16).take 32
  let id1 := (c.drop 48).take 32
  let other := if own = id0 then id1 else id0
  let k := s.slot (s.regBits R.twinCtrl 15 8)
  if !s.certOk c ∨ wordsBytes p.cert ≠ c then 1
  else if (own ≠ id0 ∧ own ≠ id1)
      ∨ !Config.ed25519Verify other (Config.sha512 (p.ownNonce ++ p.peerNonce ++ Config.sha512 c)) p.sig then 2
  else if p.variant ≠ s.variant ∨ p.caps ≠ s.cxlCaps ∨ p.image ≠ Config.sha512 s.boot.image then 3
  else if leOf c 12 4 < s.twin.certSerial then 4
  else if !(decide (k.type = 1) && bit k.attr 22) ∨ k.kcv ≠ p.kcv then 5
  else 0

/-- What a module sends in AUTH (R295): its nonce, its signature over both nonces and the certificate with its identity key, the check value of the
twin key. -/
def State.sendAuth (s : State) (p : AuthPeer) : State :=
  let sig := Config.ed25519Sign Config.identityKey (Config.sha512 (p.peerNonce ++ p.ownNonce ++ Config.sha512 s.certBytes))
  s.emit "TWIN_AUTH" twinLink 0 ((p.ownNonce ++ sig).map BitVec.toNat ++ [(s.slot (s.regBits R.twinCtrl 15 8)).kcv])

/-! The full copy (R298). -/

/-- A source as a mirrored take names it. -/
def Source.args (x : Source) : List Nat := [x.kind, x.path, x.dev, x.idx]

/-- A flow context as the copy sends it: binding, declared format, store, POLICY and SKEW_MAX, match entries (Table 12.3). -/
def State.copyFlow (s : State) (f : Nat) : State :=
  let x := s.flow f
  let entry (p : Nat) (i : Option Nat) : List Nat :=
    match i with | some i => ((Tbl.get [] (s.port p).table i).map BitVec.toNat) | none => []
  s.emit "COPY_FLOW" 7 0 ([f, x.info.toNat, x.fmt0.toNat, x.fmt1.toNat, x.fmt2.toNat, x.storeW.toNat, x.base] ++ entry x.portA x.matchA ++ entry x.portB x.matchB)

/-- An emission over the twin link of what is there. -/
def State.emitSome {α : Type} (s : State) (kind : String) (x : Option α) (args : α → List Nat) : State :=
  match x with
  | some p => s.emit kind 7 0 (args p)
  | none => s

/-- The state of an output, current and pending, as the copy sends it, each change with its visible frame (Table 12.3). -/
def State.copyOut (s : State) (n : Nat) : State :=
  let o := s.out n
  let s := s.emit "TAKE" 7 0 (o.frame :: n :: o.cur.args)
  let s := s.emitSome "TAKE" o.pend (fun p => s.swFrame n p.swLeft :: n :: p.src.args)
  let conv (c : ConvSet) : List Nat := [c.ctrl, c.cropOrg, c.cropSize, c.destOrg, c.destSize, c.bg, c.colour].map BitVec.toNat
  let s := s.emit "FMT" 7 0 (o.frame :: n :: conv o.conv)
  let s := s.emitSome "FMT" o.convPend (fun p => s.swFrame n p.swLeft :: n :: conv p.set)
  let tim (t : TimSet) : List Nat := [t.h0, t.h1, t.v0, t.v1, t.ctrl].map BitVec.toNat
  let s := if o.hasTim then s.emit "TSET" 7 0 (o.frame :: n :: tim o.tim) else s
  let s := s.emitSome "TSET" o.timPend (fun p => s.latchFrame n :: n :: tim p.set)
  let s := s.emitSome "TSET" o.timCap (fun p => (o.frame + 1) :: n :: tim p.set)
  let plane (k : Nat) (x : PlaneSet) : List Nat := [n, k, x.ctrl.toNat, x.org.toNat, x.size.toNat, x.stride.toNat, x.base]
  let s := s.forEach [0, 1] (fun s k =>
    let p := o.plane k
    let s := s.emit "FLIP" 7 0 (o.frame :: plane k p.cur)
    let s := s.emitSome "FLIP" p.cap (fun f => (o.frame + 1) :: plane k f.set)
    s.emitSome "FLIP" p.pend (fun f => s.latchFrame n :: plane k f.set))
  let anc (a : AncSet) : List Nat := [a.ctrl.toNat, a.tcLoad.toNat] ++ a.rules.map BitVec.toNat
  let s := s.emit "ANC" 7 0 (o.frame :: n :: anc o.anc)
  let s := s.emitSome "ANC" o.ancCap (fun p => (o.frame + 1) :: n :: anc p.set)
  let s := s.emitSome "ANC" o.ancPend (fun p => s.latchFrame n :: n :: anc p.set)
  if o.lut.validBank o.lut.active then
    s.emit "LUT" 7 0 (n :: (if o.lut.active = 0 then o.lut.data0 else o.lut.data1).map BitVec.toNat)
  else s

/-- The full copy leaves on the twin link: the mirrored registers, the program memories, the flows, the outputs, the channel maps, the timing
groups, the salvos held, the reference selected, the Saffron records and the twin-shareable keys (Table 12.3). -/
def State.copyAll (s : State) : State :=
  let s := s.forEach (s.regs.filter (fun q => mirroredReg q.1)) (fun s q => s.emit "REG" 7 0 [q.1, q.2.toNat])
  let s := s.forEach s.mem.prog (fun s c => s.emit "PROG" 7 0 [c.1, c.2.toNat])
  let s := s.forEach ((s.flows.filter (fun (q : Nat × Flow) => q.2.usable && q.2.landing.isNone)).map Prod.fst) State.copyFlow
  let s := s.forEach (Tbl.keys s.outs) State.copyOut
  let s := s.forEach s.audio.ocs (fun s (q : Nat × Oc) =>
    let s := s.emit "AMAP" 7 0 [q.1, q.2.src]
    match q.2.pend with | some p => s.emit "AMAP" 7 0 [q.1, p.src, p.ref, s.swFrame p.ref p.swLeft] | none => s)
  let s := s.forEach ((List.range 16).filter s.groupEnabled) (fun s g => s.emit "TGRP" 7 0 [g, (s.group g).epoch.toNat, (s.group g).frame])
  let s := s.forEach s.stk.parts (fun s p => s.emit "PART" 7 0 ([p.id, p.master, p.frame, p.group] ++ p.outs.flatMap (fun x => [x.out, x.word.toNat])))
  let s := s.emit "REF" 7 0 [s.madder.sel]
  let s := s.forEach s.saff.images (fun s c => s.emit "SAFFRON" 7 0 (c.1 :: c.2.map BitVec.toNat))
  s.forEach ((List.range 256).filter (fun i => bit (s.slot i).attr 28)) (fun s i => s.emit "WOAD" 7 0 (s.twinKeyArgs i (s.slot i)))

/-- The exchange of AUTH ends: on the source in AUTH, or on a peer in SOLO that has been asked, with no flow bound and no output scanning. On
success the serial is stored and the copy begins; the peer is STANDBY from here. -/
def State.authEnds (s : State) (p : AuthPeer) : State :=
  let s := s.sendAuth p
  let cause := s.authCause p
  if cause ≠ 0 then s.attachFails cause
  else
    let c := s.certBytes
    let s := (s.modTwin (fun x => { x with phase := .copy, standby := !x.source, phaseT := s.ttime, certSerial := leOf c 12 4 })).postAlt 3 0
      (leBytes 4 (leOf c 12 4) ++ leBytes 4 (leOf c 8 4) ++ List.replicate 8 0)
    if s.twin.source then s.copyAll else s.idleSeqs.forEach s.allOuts State.standbyMute

def State.noWork (s : State) : Bool := s.flows.all (fun (p : Nat × Flow) => !p.2.usable) && s.outs.all (fun (p : Nat × Out) => !p.2.scanning)

def execTwinAuthPass (p : AuthPeer) (s : State) : Host.Outcome State Fault Refusal :=
  .next (if s.twin.phase = .auth ∨ (s.twin.phase = .solo ∧ s.twinLinkUp ∧ s.noWork) then s.authEnds p else s)

/-- The mirror queue is empty and every standby group is locked. -/
def execTwinPaired (s : State) : Host.Outcome State Fault Refusal :=
  .next (if s.twin.phase = .sync ∧ s.twin.mirrorQ = 0 then
      let s := (s.modTwin (fun x => { x with phase := .paired })).raise 0xA001 sevInfo kOther 0
      if s.twin.source then s.twinResult stOk 0 else s
    else s)

/-- A failure or a timeout in AUTH, COPY or SYNC, with its cause (R295). -/
def execTwinAttachFail (cause : Nat) (s : State) : Host.Outcome State Fault Refusal :=
  .next (if s.attaching ∧ 1 ≤ cause ∧ cause ≤ 7 then
      (if cause = 7 then s.advance (ticksAfter s.twin.phaseT (if s.twin.phase = .auth then 16 else 1600)) else s).attachFails cause
    else s)

/-! Switchover (R300 to R302). -/

/-- An output of a module that has become ACTIVE changes: its transmitter sends, its sequencer starts. One of a demoted module is muted or
live. -/
def State.roleChange (s : State) (n : Nat) : State :=
  let s := s.modTwin (fun x => { x with roleDue := x.roleDue.filter (fun k => decide (k ≠ n)) })
  if s.twin.standby then s.standbyMute n
  else
    let s := s.modOut n (fun o => { o with muted := false })
    if s.unitPresent (64 + n) then s.startUnit (64 + n) else s

/-- The change of role reaches the outputs that do not scan now, the others at the first frame start of their group. -/
def State.rolesFollow (s : State) : State :=
  let due := s.allOuts.filter (fun n => (s.out n).scanning)
  let s := s.modTwin (fun x => { x with roleDue := due })
  s.forEach (s.allOuts.filter (fun n => !(s.out n).scanning)) State.roleChange

/-- The instant of a switchover is kept, and it is counted. -/
def State.switchStamp (s : State) : State := (s.setReg64 R.twinSwitchTtimeLo s.ttime).bump R.twinSwitchCnt

/-- An ACTIVE becomes STANDBY (R302): sequencers idle, changes not yet visible discarded, engine commands ABORTED, the mirrored state is
copied anew. -/
def State.demote (s : State) (epoch : Nat) : State :=
  let s := s.idleSeqs
  let s := s.forEach (Tbl.keys s.outs) State.discardOut
  let s := s.forEach (List.range 4) (fun s e => (if (s.ce e).exec.isSome then s.endCommand e stAborted else s).endGroup e)
  let s := (s.modTwin (fun x => { x with standby := true, epoch := epoch, recopy := true, copied := [], mirrorQ := 0, planned := none, switchAt := none })).raise
    0xA008 sevNotice kOther 0 epoch
  s.switchStamp.rolesFollow

/-- A STANDBY becomes ACTIVE (R301); the demoted module gets a full copy from it (R302). -/
def State.promote (s : State) : State :=
  let s := s.modTwin (fun x => { x with standby := false, epoch := (x.epoch + 1) % 65536, planned := none, switchAt := none, recopy := false })
  let s := s.switchStamp.raise 0xA003 sevWarn kOther 0 s.twin.trigger
  let s := s.forEach s.allSeqs (fun s u => s.setEvents u evTwin)
  let s := s.forEach (s.allSeqs.filter (fun u => decide (u < 64))) (fun s u => (s.seqStart u false).getD s)
  (s.elect).rolesFollow.copyAll

/-- t_s of a switchover: roles exchange. -/
def State.switchover (s : State) : State := if s.twin.standby then s.promote else s.demote ((s.twin.epoch + 1) % 65536)

def execTwinSwitchover (s : State) : Host.Outcome State Fault Refusal :=
  .next (match s.twin.switchAt with
    | some t => if s.twin.phase = .paired then
        let planned := decide (s.twin.trigger = 3 ∨ s.twin.trigger = 4)
        let s := (s.advance t).switchover
        if planned then s.twinResult stOk 0 else s
      else s
    | none => s)

/-- The first frame start of an output's group after t_s. -/
def execTwinOutputRoleChange (n : Nat) (s : State) : Host.Outcome State Fault Refusal :=
  .next (if s.twin.roleDue.contains n then s.roleChange n else s)

/-! Heartbeats and presence. -/

/-- A heartbeat arrives; one that announces a planned switchover starts it here too (R300). -/
def State.heartbeat (s : State) (h : Heartbeat) : State :=
  let s := s.modTwin (fun x => { x with lastHb := some s.ttime, lossNoted := false, peerSolo := h.solo, peerIdle := h.idle, peerForce := h.force })
  if s.twin.phase ≠ .paired then s
  else
  let s := if h.plan ≠ 0 ∧ s.twin.planned.isNone ∧ s.twin.switchAt.isNone then s.planSwitch h.plan else s
  if !s.twin.standby then (if s.twin.epoch < h.epoch then s.demote h.epoch else s)
  else
    let s := s.modTwin (fun x => { x with epoch := max x.epoch h.epoch })
    if h.fatal ∧ s.twin.switchAt.isNone then s.modTwin (fun x => { x with switchAt := some s.ttime, trigger := 1 }) else s

def execHeartbeatRx (h : Heartbeat) (s : State) : Host.Outcome State Fault Refusal :=
  .next (if s.twin.phase = .disabled then s else s.heartbeat h)

/-- The third tick boundary after a heartbeat with none since (R300, Table 12.5). -/
def State.heartbeatLost (s : State) (t : Nat) : State :=
  let s := s.advance (ticksAfter t 3)
  let s := s.modTwin (fun x => { x with lossNoted := true })
  let s := (s.bump R.twinHbMissCnt).raise 0xA006 sevWarn kOther 0 (t % 2 ^ 32) (t / 2 ^ 32)
  if !s.twinLinkUp ∧ s.twin.peerPresent then s.raise 0xA005 sevWarn kOther 0
  else if s.twin.standby then s.modTwin (fun x => { x with switchAt := some s.ttime, trigger := 2 })
  else s

def execTwinHbLost (s : State) : Host.Outcome State Fault Refusal :=
  .next (match s.twin.lastHb with
    | some t => if s.twin.phase = .paired ∧ !s.twin.lossNoted then s.heartbeatLost t else s
    | none => s)

/-- SG7 has been down for 16 ticks: the pair detaches. -/
def execTwinLinkDownTimeout (s : State) : Host.Outcome State Fault Refusal :=
  .next (match s.twin.downSince with
    | some t => if s.twin.phase = .paired ∧ !s.twinLinkUp then (s.advance (ticksAfter t 16)).twinDetach else s
    | none => s)

/-- TWIN_PRESENT_N changes after its filter: a pair whose peer is gone detaches, a STANDBY after a switchover at once. -/
def execTwinPresentChange (present : Bool) (held : Nat) (s : State) : Host.Outcome State Fault Refusal :=
  .next (if !s.filtered 3 held then s else
    let s := s.modTwin (fun x => { x with peerPresent := present })
    if present ∨ s.twin.phase ≠ .paired then s
    else if s.twin.standby then ((s.modTwin (fun x => { x with trigger := 2 })).promote).twinDetach
    else s.twinDetach)

/-- TWIN_FORCE changes after its filter: its rising edge on a STANDBY asks for a planned switchover; high on both, the ACTIVE keeps its role. -/
def execTwinForce (level : Bool) (held : Nat) (s : State) : Host.Outcome State Fault Refusal :=
  .next (if !s.filtered 3 held then s else
    let rise := level && !s.twin.force
    let s := s.modTwin (fun x => { x with force := level })
    if !rise ∨ s.twin.phase ≠ .paired then s
    else if s.twin.peerForce then s.raise 0xA009 sevWarn kOther 0
    else if s.twin.standby ∧ s.twin.planned.isNone then s.planSwitch 4
    else s)

/-- Both modules have an empty mirror queue: t_s is the next tick boundary. -/
def execMirrorDrainDone (s : State) : Host.Outcome State Fault Refusal :=
  .next (if s.twin.planned.isSome ∧ s.twin.phase = .paired then
      s.modTwin (fun x => { x with planned := none, mirrorQ := 0, switchAt := some (alignUp tickLen (s.ttime + 1)) })
    else s)

/-- The queue does not drain in 8 ticks: nothing changes. -/
def execMirrorDrainTimeout (s : State) : Host.Outcome State Fault Refusal :=
  .next (match s.twin.planned with
    | some t => ((s.advance t).modTwin (fun x => { x with planned := none })).twinResult stTimeout 0
    | none => s)

/-! Mirrored changes (R298, R299). -/

/-- A change that became visible too late for its line. -/
def State.mirrorLate (s : State) (n : Nat) : State := (s.bump R.twinMirrorLateCnt).raise 0xA007 sevNotice kOut n

/-- The switching lines of output n still to come up to and with that of a frame: none where that line has passed. -/
def State.linesTo (s : State) (n frame : Nat) : Option Nat :=
  let o := s.out n
  let k := frame + (if o.swSeen then 0 else 1)
  if o.frame < k then some (k - o.frame) else none

/-- The switching lines after which a mirrored change is seen, and whether it comes late. What a full copy brings is not late; an output that does
not scan has no line to miss. -/
def State.mirrorLines (s : State) (n frame : Nat) : Nat × Bool :=
  let copy := decide (s.twin.phase = .copy) || s.twin.recopy
  if !(s.out n).scanning then (if copy then 1 else 2, false)
  else match s.linesTo n frame with
    | some k => (k, false)
    | none => (1, !copy)

def State.lateIf (s : State) (n : Nat) (late : Bool) : State := if late then s.mirrorLate n else s

/-- Whether the latch line before a frame of output n has passed, for a change that no full copy brings. -/
def State.latchGone (s : State) (n frame : Nat) : Bool :=
  let o := s.out n
  o.scanning && !(decide (s.twin.phase = .copy) || s.twin.recopy) && decide (frame + (if o.latchSeen then 0 else 1) ≤ o.frame + 1)

/-- A key that arrives wrapped under the twin key is committed and takes its slot. -/
def State.mirrorKey (s : State) (i : Nat) (attr : Word) (kcv : Nat) (wrapped pub : List Byte) : State :=
  let k := s.slot (s.regBits R.twinCtrl 15 8)
  match (if wrapped = [] then some [] else Config.aesUnwrap k.key wrapped) with
  | some key =>
    let x : Slot17 := { attr := attr, kcv := kcv, key := key, pub := pub }
    (((s.postKey i x).nvDrain.setSlot i x).sealKeyChange).keyNext i key
  | none => s

/-- A twin-shareable key erased on the ACTIVE (Table 12.3). -/
def State.mirrorErase (s : State) (i : Nat) : State :=
  ((s.keysGone (fun k => decide (k = i))).postKey i {}).nvDrain.setSlot i {}

/-- A flow bound at the index that it has on the ACTIVE. -/
def State.mirrorBind (s : State) (ws : List Word) : State := match s.bindRows ws with | .ok (_, t) => t | .error _ => s

/-- A salvo that this module would take part in as the ACTIVE (R288, R301): its checked takes, its outputs held; at its end they are held no
longer. -/
def State.mirrorSalvoPart (s : State) (id master frame group state : Nat) (outs : List (Nat × Word)) : State :=
  match s.part id, state with
  | some p, 0 => ((s.unhold p).dropPart id).gcLandings
  | some p, 2 => s.setPart { p with phase := .committed, acked := true }
  | none, 1 =>
    let p : Part := { id := id, master := master, frame := frame, group := group, count := outs.length, phase := .ready }
    let s := { s with stk := { s.stk with parts := s.stk.parts ++ [p] } }
    s.forEach outs (fun s x =>
      let y : SalvoOut := { out := x.1, word := x.2, pre := (s.out x.1).cur }
      let (s, y) := match s.takeCheck 0x1000 none x.1 x.1 x.2 true with
        | .ok (t, q) => (t, { y with take := some { q with own := false, remote := false } })
        | .error _ => (s, y)
      match s.part id with
      | some q => (s.setPart { q with outs := q.outs ++ [y] }).modOut x.1 (fun o => { o with salvo := some id })
      | none => s)
  | _, _ => s

/-- A salvo that this module would coordinate as the system master (R288). -/
def State.mirrorSalvoMaster (s : State) (id issuer frame group deadline state : Nat) (acks : List (Nat × Nat)) : State :=
  let rest := s.stk.salvos.filter (fun v => decide (v.id ≠ id))
  let v : Salvo := { id := id, issuer := issuer, frame := frame, group := group, deadline := deadline, whole := true,
                     answers := acks.map (fun a => { dev := a.1, answer := 1, ack := a.2 }),
                     decided := if state = 2 then some true else none }
  { s with stk := { s.stk with salvos := if state = 0 then rest else rest ++ [v] } }

/-- One mirrored change applied, for a frame where it has one. -/
def State.mirrorApply (s : State) (frame : Nat) : MirrorOp → State
  | .take n kind path dev idx w fin =>
    let s := s.commitTake n { src := { kind := kind, path := path, dev := dev, idx := idx, w := w, fin := fin }, commitT := s.ttime }
    let (k, late) := s.mirrorLines n frame
    (s.modOut n (fun o => { o with pend := o.pend.map (fun p => { p with swLeft := k }) })).lateIf n late
  | .fmt n =>
    let s := s.commitFmt n { set := s.stagedConv n }
    let (k, late) := s.mirrorLines n frame
    (s.modOut n (fun o => { o with convPend := o.convPend.map (fun p => { p with swLeft := k }) })).lateIf n late
  | .tset n =>
    let late := s.latchGone n frame
    (s.commitTset n { set := s.stagedTim n, due := some frame }).lateIf n late
  | .flip n p base =>
    let late := s.latchGone n frame
    (s.commitFlip n p { set := s.stagedPlane n p base, due := some frame }).lateIf n late
  | .anc n mask =>
    let late := s.latchGone n frame
    (s.commitAnc n { set := s.stagedAnc n mask, due := some frame }).lateIf n late
  | .amap oc count kind src ref =>
    let s := s.commitAmap { oc := oc, count := count, kind := kind, src := src, ref := ref }
    if ref = 0xFE ∨ !(s.out ref).scanning then s
    else
      let (k, late) := s.mirrorLines ref frame
      (s.forEach (List.range count) (fun s i => s.modOc (oc + i) (fun x => { x with pend := x.pend.map (fun q => { q with swLeft := k }) }))).lateIf ref late
  | .axf oc count xf => s.commitAxf oc count xf
  | .bind _ ws => s.mirrorBind ws
  | .release f => match s.release f with | .ok t => t | .error _ => s
  | .flowFmt f w0 w1 w2 => if (s.flow f).usable then s.modFlow f (fun x => { x with fmtPend := some (w0, w1, w2) }) else s
  | .lut n data => s.modOut n (fun o =>
      let l := { o.lut with result := stOk, swapLeft := some 2 }
      { o with lut := if l.active = 0 then { l with valid1 := true, data1 := data } else { l with valid0 := true, data0 := data } })
  | .reg a v => s.setReg a v
  | .prog a bs => s.progPut a bs
  | .record t pay => (s.postAlt t 0 pay).nvDrain
  | .key i attr kcv w pub => if 1 ≤ i ∧ i < 256 then s.mirrorKey i attr kcv w pub else s
  | .group g epoch frame =>
    s.setGroup g { s.group g with fixed := true, waiting := none, epoch := epoch, fixT := s.ttime, free := false, running := false, frame := frame }
  | .part id master fr g st outs => s.mirrorSalvoPart id master fr g st outs
  | .salvo id issuer fr g dl st acks => s.mirrorSalvoMaster id issuer fr g dl st acks
  | .refSelect c =>
    let s := s.modTwin (fun x => { x with refSel := some c })
    if s.forced = some c ∧ s.madder.sel ≠ c then s.chooseCand c else s
  | .keyErase i => if 1 ≤ i ∧ i < 256 then s.mirrorErase i else s

/-- A mirrored change arrives at the standby, with the count of the frame in which it becomes visible or takes effect; a demoted module gathers its full copy. -/
def execMirrorUpdate (frame : Nat) (op : MirrorOp) (s : State) : Host.Outcome State Fault Refusal :=
  .next (if s.twin.standby ∧ (s.twin.phase = .copy ∨ s.twin.phase = .sync ∨ s.twin.phase = .paired) then
      (if s.twin.recopy then s.modTwin (fun x => { x with copied := x.copied ++ [(frame, op)] }) else s.mirrorApply frame op)
    else s)

/-- The bulk copy is complete and verified: SYNC begins. A demoted module gives up its mirrored state for the copy (R302). -/
def execTwinCopyDone (s : State) : Host.Outcome State Fault Refusal :=
  .next (if s.twin.phase = .copy then s.modTwin (fun x => { x with phase := .sync, phaseT := s.ttime })
    else if s.twin.recopy then
      let ops := s.twin.copied
      let s := s.discardMirror true
      (s.forEach ops (fun s q => s.mirrorApply q.1 q.2)).modTwin (fun x => { x with recopy := false, copied := [] })
    else s)

/-- A booting peer asks for the loaded image (R369). -/
def execTwinBootImageRequest (s : State) : Host.Outcome State Fault Refusal :=
  .next (if bit (s.reg R.twinCtrl) 31 then s.emit "IMAGE" twinLink 0 (s.boot.image.map BitVec.toNat) else s)

end Sys2Proof.Machine
end

