-- ==== Sys2Proof/Machine/Boot.lean ====
section
/-! DEFINITION. Start-up, boot and attestation (chapter 16): resets, straps, boot sources and images, the steps to READY, rollback, the watchdog, the attestation report. -/

namespace Sys2Proof.Machine

def State.setBoot (s : State) (x : Boot) : State := { s with boot := x }
def State.modBoot (s : State) (f : Boot → Boot) : State := s.setBoot (f s.boot)

/-! Resets (R367). -/

/-- A cold reset: 1 PWR_GOOD rising, 2 RST_N, 3 RESET.COLD. -/
def execColdReset (cause held : Nat) (s : State) : Host.Outcome State Fault Refusal :=
  .next (if 1 ≤ cause ∧ cause ≤ 3 ∧ (cause = 2 → s.filtered 0 held) then s.coldReset cause else s)

/-- RESET.WARM. -/
def execWarmReset (s : State) : Host.Outcome State Fault Refusal := .next (s.warmReset 5)

/-- The firmware watchdog: 16 ticks with no service, once the firmware runs. -/
def execWatchdogExpiry (s : State) : Host.Outcome State Fault Refusal :=
  .next (if !s.powered ∨ s.boot.stage < 6 then s else (s.advance (ticksAfter s.boot.lastService 16)).warmReset 4)

/-- A write of GLOBAL.RESET. -/
def State.resetWrite (s : State) (v : Word) : State × Bool :=
  if bit v 0 && bit v 1 then (s, false)
  else if bit v 1 then (s.coldReset 3, true)
  else if bit v 0 then (s.warmReset 5, true)
  else (s, true)

/-! TAMPER_LOCK (R374). -/

/-- Boot stops in TAMPER_LOCK: the slot of UNLOCK_SLOT alone is restored (R396). -/
def State.lockAtBoot (s : State) : State :=
  let s := ({ s with tamperLock := true }.modBoot (fun b => { b with stage := 15, ready := false, pushT := none })).raise 0x6045 sevFatal kOther 0 s.tamper.current
  let s := s.aonFlush
  let i := s.regBits R.tamperUnlockSlot 7 0
  if i = 0 then s else s.restoreSlot i

/-! Straps (R368, R467). -/

/-- One sample of the straps: ROLE, DEVID, BOOT_SEL. -/
def strapOk (a : Nat × Nat × Nat) (b : Nat × Nat × Nat) : Bool := decide (a = b)

/-- Two samples of the straps, 64 µs apart, and whether any strap follows both pulls. -/
def State.strapSample (s : State) (a b : Nat × Nat × Nat) (floats : Bool) : State :=
  if floats then
    (s.modBoot (fun x => { x with strapBad := true, strapFloat := true })).raise 0x6047 sevError kOther 0 |>.setRegN R.globalFiltStatus (2 ^ 8)
  else if a ≠ b then s.modBoot (fun x => { x with strapBad := true, strapFloat := false })
  else
    let s := if s.boot.strapBad then s.raise 0x6041 sevWarn kOther 0 else s
    let (role, dev, sel) := a
    let s := { s with devId := dev % 2048, stk := { s.stk with role := role % 4 } }
    s.modBoot (fun x => { x with strapBad := false, strapFloat := false, bootSel := sel % 4, stage := 2 }) |>.bootLine 2 0

def execStrapSample (a b : Nat × Nat × Nat) (floats : Bool) (s : State) : Host.Outcome State Fault Refusal :=
  .next (if s.boot.stage = 1 ∧ !s.boot.strapBad then s.strapSample a b floats else s)

/-- The straps are sampled again every 10 ms while they disagree or float. -/
def execStrapRetry (a b : Nat × Nat × Nat) (floats : Bool) (s : State) : Host.Outcome State Fault Refusal :=
  .next (if s.boot.stage = 1 ∧ s.boot.strapBad then s.strapSample a b floats else s)

/-! Rollback (R372). -/

/-- Leading burned fuses. -/
def fuseCount (fuses : Nat) : Nat := ((List.range 128).takeWhile (fun i => fuses.testBit i)).length

/-- The least ROLLBACK an image may have. -/
def State.rollbackMin (s : State) : Nat := max (fuseCount s.boot.fuses) s.boot.rbRecord

/-- Bit 0 of RB_COMMIT raises the record to the running image's index. -/
def State.rbRaise (s : State) : State :=
  let r := s.boot.rollback
  if r ≤ s.boot.rbRecord then s
  else ((s.modBoot (fun b => { b with rbRecord := r })).postAlt 2 0 (leBytes 4 r ++ List.replicate 12 0)).nvDrain

/-- Bit 1 burns fuses up to the smaller of that index and 128. -/
def State.rbBurn (s : State) : State := s.modBoot (fun b => { b with fuses := b.fuses ||| (2 ^ min b.rollback 128 - 1) })

/-- A write of GLOBAL.RB_COMMIT. -/
def State.rbCommit (s : State) (v : Word) : State × Bool :=
  let s := if bit v 0 then s.rbRaise else s
  (if bit v 1 then s.rbBurn else s, true)

def execRbCommitSaffron (m : Nat) (v : Word) (s : State) : Host.Outcome State Fault Refusal :=
  .next (if bit v 0 then s.regWriteBy m R.globalRbCommit (s.rbCommit v) else s)

def execRbCommitFuses (m : Nat) (v : Word) (s : State) : Host.Outcome State Fault Refusal :=
  .next (if bit v 1 then s.regWriteBy m R.globalRbCommit (s.rbCommit v) else s)

/-! Boot sources and images (R369 to R371). -/

/-- The sources of a BOOT_SEL value in the order tried: (source, slot B). -/
def bootSources (sel pref : Nat) : List (Nat × Bool) :=
  let a := decide (pref = 1)
  match sel with
  | 0 => [(0, a), (0, !a)]
  | 1 => [(1, false)]
  | 2 => [(2, false)]
  | _ => [(0, a), (0, !a), (1, false)]

/-- Time limit of a source: a slot attempt 1 s, a push 10 s until the alarm, the twin 2 s. -/
def sourceLimit (src : Nat) : Nat := if src = 0 then clkHz else if src = 1 then 10 * clkHz else 2 * clkHz

/-- The next source is tried, or BOOT_WAIT is entered. -/
def State.nextSource (s : State) (fallback : Bool) : State :=
  match s.boot.rest with
  | (src, b) :: rest =>
    let s := if fallback then s.raise 0x6042 sevWarn kOther 0 src else s.bootLine 5 0
    s.modBoot (fun x => { x with stage := 5, src := src, slotB := b, rest := rest, pushT := some (s.ttime + sourceLimit src) })
  | [] => (s.raise 0x6043 sevFatal kOther 0).modBoot (fun x => { x with stage := 14, pushT := none })

/-- A source's image is rejected (Table 16.4): a failed push in BOOT_WAIT leaves that state. -/
def State.imageFails (s : State) (err : Nat) : State :=
  let wait := decide (s.boot.stage = 14)
  let s := (s.bump R.globalBootFailCnt).modBoot (fun b => { b with lastErr := err })
  let s := (s.raise 0x6040 sevError kOther 0 s.boot.src err).bootLine 0 err
  if wait then s else s.nextSource true

/-- The first failing check of an image, 0 where every check passes. -/
def State.imageErr (s : State) (img : List Byte) : Nat :=
  let len := leOf img 0x0C 4
  let entry := leOf img 0x10 4
  let flags := leOf img 0x14 4
  let pub := (img.drop 0x20).take 32
  let body := (img.drop 256).take len
  if leOf img 0 4 ≠ 0x31465954 ∨ leOf img 4 4 ≠ 1 then 1
  else if leOf img 0x0A 2 ≠ 0 ∨ 4 ≤ flags ∨ leOf img 0xC0 64 ≠ 0 ∨ len = 0 ∨ 0x01FFFF00 < len ∨ entry % 4 ≠ 0 ∨ len ≤ entry ∨ img.length < 256 + len then 2
  else if Config.sha512 pub ≠ Config.rootKeyHash flags ∨ s.boot.revoked.testBit flags then 3
  else if !Config.ed25519Verify pub (Config.sha512 (img.take 0x80)) ((img.drop 0x80).take 64) then 4
  else if leOf img 0x08 2 < s.rollbackMin then 6
  else if Config.sha512 body ≠ (img.drop 0x40).take 64 then 5
  else 0

/-- An image is checked: one that passes every check is started. -/
def State.imageCheck (s : State) (img : List Byte) : State :=
  let err := s.imageErr img
  if err ≠ 0 then s.imageFails err
  else s.modBoot (fun b => { b with stage := 6, image := img.take (256 + leOf img 0x0C 4), rollback := leOf img 0x08 2, keyIndex := leOf img 0x14 4,
                                    build := leOf img 0x18 8, pushT := none, pushAlarm := false }) |>.bootLine 6 0

/-- The image of a flash slot or of the twin is fetched and checked. -/
def execBootImageCheck (img : List Byte) (s : State) : Host.Outcome State Fault Refusal :=
  .next (if s.boot.stage = 5 ∧ s.boot.src ≠ 1 then s.imageCheck img else s)

/-- A flash slot or the twin exceeds its limit. -/
def execBootSourceTimeout (s : State) : Host.Outcome State Fault Refusal :=
  .next (if s.boot.stage = 5 ∧ s.boot.src ≠ 1 then (s.advance (s.boot.pushT.getD 0)).imageFails 7 else s)

/-- A write of GLOBAL.BOOT_PUSH: the image stands in the staging area. -/
def State.bootPush (s : State) (v : Word) : State × Bool :=
  let n := v.toNat
  if n < 257 ∨ 0x02000000 < n ∨ !((s.boot.stage = 5 ∧ s.boot.src = 1) ∨ s.boot.stage = 14) then (s, false)
  else
    let s := s.modBoot (fun b => { b with src := 1, slotB := false, pushAlarm := false })
    (s.imageCheck (Memory.readBytes s.mem.sram stageBase n), true)

def execBootPush (m : Nat) (v : Word) (s : State) : Host.Outcome State Fault Refusal :=
  .next (s.regWriteBy m R.globalBootPush (s.bootPush v))

/-- No push within 10 s: an alarm, and waiting goes on. -/
def execBootPushTimeout (s : State) : Host.Outcome State Fault Refusal :=
  .next (match s.boot.pushT with
    | some t =>
      if s.boot.stage = 5 ∧ s.boot.src = 1 then
        ((s.advance t).modBoot (fun b => { b with pushT := none, pushAlarm := true })).raise 0x6044 sevWarn kOther 0
      else s
    | none => s)

/-! The steps to READY (R373). -/

/-- Step 4: fuses, the boot record, the rollback record, the twin record and the lifetime counters are read; the sources are known. -/
def State.readRecords (s : State) : State :=
  let (_, boot, _, s) := s.selectRecord 1 0
  let (c2, rb, _, s) := s.selectRecord 2 0
  let (_, tw, _, s) := s.selectRecord 3 0
  let (c4, life, _, s) := s.selectRecord 4 0
  let s := if c2 = 0 ∧ s.saff.lost.contains (2, 0) then s.raise 0x6046 sevWarn kOther 0 else s
  let s := if c4 = 0 then s
    else
      let s := s.setCtr R.hlthLifeTicksLo (leOf life 0 8)
      (lifeCounters.zipIdx).foldl (fun (s : State) (q : Nat × Nat) => s.setCtr q.1 (leOf life (8 + 4 * q.2) 4)) s
  let s := if (s.reg R.globalResetCause).toNat = 1 then s.bump R.hlthLifeCycles else s
  let s := s.modTwin (fun x => { x with certSerial := leOf tw 0 4 })
  let s := s.modPwr (fun p => { p with lastCause := leOf boot 4 4 % 16 })
  let pref := leOf boot 0 4 % 2
  let s := s.setRegN R.globalBootPref pref
  s.modBoot (fun b => { b with pref := pref, rbRecord := leOf rb 0 4 % 65536, rest := bootSources b.bootSel pref })

/-- The RW registers of a block in ascending order of address: the words of its configuration record (R413). -/
def Blk.rwAddrs (b : Blk) : List Nat :=
  let (base, _, _) := b.place
  let as := (b.rows.filter (fun r => decide (r.acc = .rw))).flatMap (fun r => (List.range r.count).map (fun k => base + r.off + r.stride * k))
  as.mergeSort (fun a c => decide (a ≤ c))

/-- The registers that the record of a type restores (Table 16.5, Table 18.4): of PWR the ceiling and the AVS bounds, of the ports of CXL their
control, of the lanes the control of the stack links and then of the ports' links. -/
def configAddrs (t : Nat) : List Nat :=
  match t with
  | 0x10 => Blk.madder.rwAddrs
  | 0x11 => (List.range 4).map R.cxlPortCtrl
  | 0x12 => R.pwrCeiling :: (List.range 5).map R.pwrAvsCtrl
  | 0x13 => Blk.hlth.rwAddrs
  | 0x14 => Blk.event.rwAddrs
  | 0x15 => (List.range 288).map lkRegs
  | 0x16 => Blk.twin.rwAddrs
  | _ => []

/-- Where the words of a record stand in it: each of the RW registers of its block, whether it is applied or not. -/
def recordAddrs (t : Nat) : List Nat := if t = 0x12 then Blk.pwr.rwAddrs else configAddrs t

/-- Step 8: a configuration record applied; an absent one leaves reset values. -/
def State.applyConfig (s : State) (t : Nat) : State :=
  let (copy, pay, _, s) := s.selectRecord t 0
  if copy = 0 then s
  else
    let use := configAddrs t
    (((recordAddrs t).zipIdx).filter (fun (q : Nat × Nat) => decide (4 * q.2 + 4 ≤ pay.length) && use.contains q.1)).foldl
      (fun (s : State) (q : Nat × Nat) => s.setRegN q.1 (leOf pay (4 * q.2) 4)) s

/-- The step in progress completes and the next begins. Steps 1, 3, 5 and 13 end with the straps, the replay, an image and READY. -/
def State.startupStep (s : State) : State :=
  let go (s : State) (k : Nat) : State := (s.modBoot (fun b => { b with stage := k })).bootLine k 0
  match s.boot.stage with
  | 2 => if s.tamper.latched then s.lockAtBoot else go s 3
  | 4 => s.readRecords.nextSource false
  | 6 => go s.aonFlush 7
  | 7 => go s.restoreSlots 8
  | 8 => go ((List.range' 0x10 7).foldl State.applyConfig s) 9
  | 9 => go s.madderStart 10
  | 10 => if (List.range 4).all (fun x => !s.cxlPresent x || (s.cxPort x).checked) then go s.cxlLayout 11 else s
  | 11 => go (s.forEach (List.range 288) (fun s l => s.powerLink l)) 12
  | 12 => go (if bit (s.reg R.twinCtrl) 31 ∧ s.twinHere then (s.modTwin (fun x => { x with phase := .solo })).twinLinkOn else s) 13
  | _ => s

def execStartupStep (s : State) : Host.Outcome State Fault Refusal := .next s.startupStep

/-- READY: the domains come up on use. -/
def execBootReady (s : State) : Host.Outcome State Fault Refusal :=
  .next (if s.boot.stage = 13 ∧ !s.boot.ready then
      let s := (s.modBoot (fun b => { b with ready := true, lastService := s.ttime })).raise 0x6048 sevInfo kOther 0
      if s.pwr.state = 3 then s.modPwr (fun p => { p with state := 2 }) else s
    else s)

/-! Attestation (R376). -/

/-- Bits of BOOT_STATUS.STAGE in which only the image and the configuration are attested. -/
def State.attestShort (s : State) : Bool := s.tamperLock || decide (s.boot.stage = 14)

/-- The active banks of the sequencers, absent ones as zeros. -/
def State.seqBytes (s : State) : List Byte :=
  (List.range 128).flatMap (fun u => if s.unitPresent u then Memory.readBytes s.mem.prog (unitMemBase u + (s.unit u).bank * 0x8000) 0x8000
    else List.replicate 0x8000 0)

def State.ceBytes (s : State) : List Byte := (List.range 4).flatMap (fun e => Memory.readBytes s.mem.prog (unitMemBase (128 + e)) 0x40000)

/-- The valid copy of every configuration record, as stored (R376): its header, payload and trailer. -/
def State.configBytes (s : State) : List Byte :=
  (List.range' 0x10 7).flatMap (fun t => match recordHome t 0 with
    | some h =>
      let (_, used) := s.recordSeq t 0 h
      if used = 0 then [] else
        let page := if used = 2 then h.b else h.a
        Memory.readBytes s.mem.nv (256 * page) (16 + Memory.readLe s.mem.nv (256 * page + 4) 2 + 20)
    | none => [])

/-- A digest as 64 bytes. -/
def digest (bs : List Byte) : List Byte := (Config.sha512 bs ++ List.replicate 64 0).take 64

/-- The report of Table 16.7 for digests begun at an instant. -/
def State.report (s : State) (t : Nat) : List Byte :=
  let b := s.boot
  let short := s.attestShort
  let place := s.devId % 2048 + s.stk.role % 4 * 2 ^ 16 + s.twinCode * 2 ^ 20 + s.twin.standby.toNat * 2 ^ 24 + s.tamperLock.toNat * 2 ^ 28
    + flag (decide (b.stage = 14)) 29
  let ident := 0x54590020 + s.variant
  let info := b.rollback % 65536 + fuseCount b.fuses * 2 ^ 16 + b.keyIndex % 4 * 2 ^ 24 + b.src % 4 * 2 ^ 28
  let opt (bs : List Byte) : List Byte := if short then List.replicate 64 0 else digest bs
  let head := leBytes 4 0x31415954 ++ leBytes 4 1 ++ leBytes 4 ident ++ leBytes 4 place ++ leBytes 8 Config.serial ++ leBytes 8 t ++ leBytes 4 info
    ++ leBytes 4 (b.rbRecord % 65536) ++ List.replicate 24 0 ++ s.regBytes (R.globalAttestNonce 0) 8 ++ digest b.image ++ digest s.configBytes
    ++ opt s.seqBytes ++ opt s.ceBytes ++ ((Config.ed25519Pub Config.identityKey) ++ List.replicate 32 0).take 32 ++ List.replicate 64 0
  head ++ ((Config.ed25519Sign Config.identityKey (Config.sha512 head)) ++ List.replicate 64 0).take 64

/-- The active banks of all units. -/
def State.banks (s : State) : List Nat := (List.range 128).map (fun u => (s.unit u).bank)

/-- The digests begin: what they cover is held to see a change during the build. -/
def State.attestBegin (s : State) (restarts : Nat) : State :=
  s.modBoot (fun b => { b with attest := some (s.ttime, restarts), attProg := s.mem.prog, attNv := s.mem.nv, attBanks := s.banks })

/-- The build ends. -/
def State.attestEnd (s : State) (status : Nat) (ok : Bool) : State :=
  s.modBoot (fun b => { b with attest := none, attProg := [], attNv := [], attBanks := [], attestStatus := status, reportOk := ok })

/-- A write of ATTEST_CTRL. -/
def State.attestReq (s : State) (v : Word) : State × Bool :=
  if !bit v 0 then (s, true)
  else if s.boot.attest.isSome then (s.modBoot (fun b => { b with attestStatus := stBusy }), true)
  else ((s.modBoot (fun b => { b with reportOk := false, attestStatus := stOk })).attestBegin 0, true)

def execAttestReq (m : Nat) (v : Word) (s : State) : Host.Outcome State Fault Refusal :=
  .next (s.regWriteBy m R.globalAttestCtrl (s.attestReq v))

/-- The report is complete, or a change since the digests began restarts them; a fourth change ends the request BUSY. -/
def execAttestDone (s : State) : Host.Outcome State Fault Refusal :=
  .next (match s.boot.attest with
    | some (t, r) =>
      if s.boot.attProg = s.mem.prog ∧ s.boot.attNv = s.mem.nv ∧ s.boot.attBanks = s.banks then
        ((s.setRegBytes (R.globalAttestReport 0) 128 (s.report t)).attestEnd stOk true).raise 0x6049 sevInfo kOther 0
      else if r < 3 then s.attestBegin (r + 1)
      else s.attestEnd stBusy false
    | none => s)

end Sys2Proof.Machine
end

