-- ==== Sys2Proof/Machine/Health.lean ====
section
/-! DEFINITION. Health (chapter 20): monitors and their thresholds, the thermal ceiling, AVS, the shed order, events and their log, the baseplate (R446 to R454, R358, R490). -/

namespace Sys2Proof.Machine

def State.modHealth (s : State) (f : Health → Health) : State := { s with health := f s.health }
def State.mon (s : State) (m : Nat) : Monitor := Tbl.get Monitor.reset s.health.mons m
def State.setMon (s : State) (m : Nat) (x : Monitor) : State := s.modHealth (fun h => { h with mons := Tbl.set Monitor.reset h.mons m x })

/-! Monitors (R445 to R447). -/

/-- The rail of a voltage monitor (Table 20.1, Table 15.2). -/
def monRail (m : Nat) : Nat := if m < 43 then m - 32 else if m < 75 then 4 + (m - 43) / 8 else 3

/-- Nominal voltage of a rail in mV (Table 15.2). -/
def railNominal (r : Nat) : Nat :=
  match r with
  | 0 => 3300 | 1 => 1800 | 2 => 1200 | 8 => 900 | 9 => 1200 | 10 => 1800
  | _ => 750

/-- The AVS index of a VCORE rail: CT0 to CT3, then HT (Table 15.16). -/
def avsOfRail (r : Nat) : Option Nat := if r = 3 then some 4 else if 4 ≤ r ∧ r < 8 then some (r - 4) else none

/-- The current AVS code of a tile; 0.75 V at reset. -/
def State.avsCode (s : State) (t : Nat) : Nat := Tbl.get 20 s.pwr.avsCode t

/-- The set point of a rail in mV (R447). -/
def State.setPoint (s : State) (r : Nat) : Nat :=
  match avsOfRail r with
  | some t => 650 + 5 * s.avsCode t
  | none => railNominal r

/-- Whether a sample is in the monitor's physical range (Table 20.1). -/
def sampleOk (m : Nat) (v : Int) : Bool :=
  if m < 32 then decide (-560 ≤ v ∧ v ≤ 1200)
  else if m < 80 then decide (0 ≤ v ∧ 2 * v ≤ 3 * (railNominal (monRail m) : Int))
  else decide (-128 ≤ v ∧ v ≤ 127)

/-- The filtered value: the average of the last 8 accepted samples (R446). -/
def Monitor.value (x : Monitor) : Int := if x.samples = [] then 0 else x.samples.sum / x.samples.length

/-- The value as it is compared, so that more is worse: temperatures as they are, deviations in 0.1 %, slack negated (Table 20.2). -/
def State.compared (s : State) (m : Nat) (v : Int) : Int :=
  if m < 32 then v
  else if m < 80 then
    let p := s.setPoint (monRail m)
    ((absI (v - p) * 1000 / p : Nat) : Int)
  else -v

/-- The level that a compared value reaches with the thresholds moved down by some amount: TRIP is reached at its value, WARN and CRIT are passed
(R447, R359). -/
def State.levelAt (s : State) (m : Nat) (x slack : Int) : Nat :=
  let th (a : Nat) : Int := if 80 ≤ m then -(sInt (s.reg a)) else sInt (s.reg a)
  if m < 43 ∧ th (R.hlthMonTrip m) - slack ≤ x then 3
  else if th (R.hlthMonCrit m) - slack < x then 2
  else if th (R.hlthMonWarn m) - slack < x then 1
  else 0

/-- Hysteresis of a monitor (Table 20.2). -/
def monHyst (m : Nat) : Int := if m < 32 then 16 else if m < 80 then 10 else 5

/-- What reaching TRIP starts: the thermal trip of a temperature monitor (R359), the rail fault of a rail's own monitor (R348). -/
def State.tripped (s : State) (m : Nat) : State :=
  if m < 32 then (if s.pwr.state ≠ 0 ∧ s.pwr.state ≠ 4 then s.thermalTrip m else s)
  else if m < 43 then s.railFails (m - 32)
  else s

/-- The level of a monitor by its filtered value, with the events of entering WARN and CRIT and of returning to normal (R447). -/
def State.compare (s : State) (m : Nat) : State :=
  let x := s.mon m
  let v := x.value
  let c := s.compared m v
  let new := max (s.levelAt m c 0) (min x.level (s.levelAt m c (monHyst m)))
  let s := s.setMon m { x with level := new }
  let ev (s : State) (code sev : Nat) : State := s.raise code sev kMon m m (wordI v).toNat
  let s := if x.level = 0 ∧ 1 ≤ new then ev s 0xB001 sevWarn else s
  let s := if x.level < 2 ∧ 2 ≤ new then ev s 0xB002 sevError else s
  let s := if x.level < 3 ∧ 3 ≤ new then s.tripped m else s
  if x.level ≠ 0 ∧ new = 0 then ev s 0xB003 sevInfo else s

/-- A sample of a monitor (R446). -/
def State.monSample (s : State) (m : Nat) (v : Int) : State :=
  if !s.monHere m then s
  else
    let x := s.mon m
    if sampleOk m v then
      let back := x.failed && decide (8 ≤ x.accepts + 1)
      let y : Monitor := { x with samples := (v :: x.samples).take 8, discards := 0, accepts := if x.failed ∧ !back then x.accepts + 1 else 0,
                                  failed := x.failed && !back, level := if x.failed then 0 else x.level }
      let s := (s.setMon m y).setReg (R.hlthMonValue m) (wordI y.value)
      if y.failed then s else s.compare m
    else
      let s := s.bump (R.hlthMonDiscardCnt m)
      if 8 ≤ x.discards + 1 ∧ !x.failed then
        (s.setMon m { x with discards := x.discards + 1, accepts := 0, failed := true, level := 0 }).raise 0xB005 sevError kMon m m
      else s.setMon m { x with discards := x.discards + 1, accepts := 0 }

/-- MON[m].STATUS. -/
def State.monStatus (s : State) (m : Nat) : Nat := if !s.monHere m then 5 else if (s.mon m).failed then 4 else (s.mon m).level

/-! Baseplate, thermal ceiling (R445, R448). -/

/-- The baseplate temperature: the higher of the two filtered values in service; none while there is none. -/
def State.baseplate (s : State) : Option Int :=
  let ok (m : Nat) : Bool := !(s.mon m).failed && decide ((s.mon m).samples ≠ [])
  match ok 30, ok 31 with
  | true, true => some (max (s.mon 30).value (s.mon 31).value)
  | true, false => some (s.mon 30).value
  | false, true => some (s.mon 31).value
  | false, false => none

/-- The thermal ceiling in W at a baseplate temperature in 1/8 °C. -/
def ceilingAt (t : Int) : Nat :=
  if t ≤ 680 then 600 else if 1000 < t then 200 else 600 - ceilDiv (10 * (t - 680).toNat) 8

/-- The effective ceiling in W (R345). -/
def State.effCeiling (s : State) : Nat := min (min (s.regBits R.pwrCeiling 9 0) 600) s.health.ceiling

/-- The thermal ceiling recomputed, with the first drop below 600 W after a period at 600 W (R446, R448). -/
def State.deratingTick (s : State) : State :=
  let c := if (s.mon 30).failed ∧ (s.mon 31).failed then 200
    else match s.baseplate with
      | some t => ceilingAt t
      | none => s.health.ceiling
  let drop := decide (c < 600)
  let s := if drop ∧ !s.health.derated then s.raise 0xB013 sevNotice kOther 0 c else s
  s.modHealth (fun h => { h with ceiling := c, derated := drop })

/-- A baseplate below −55 °C in service, noted once until it has been back above −53 °C for 1,600 ticks (R490). -/
def State.coldTick (s : State) (t : Int) : State :=
  let h := s.health
  if t < -440 then
    let s := if h.cold then s else s.raise 0xB016 sevWarn kOther 0 (wordI t).toNat
    s.modHealth (fun h => { h with cold := true, coldBack := none })
  else if h.cold ∧ -424 < t then
    match h.coldBack with
    | none => s.modHealth (fun h => { h with coldBack := some s.ttime })
    | some u => if u + 1600 * tickLen ≤ s.ttime then s.modHealth (fun h => { h with cold := false, coldBack := none }) else s
  else s.modHealth (fun h => { h with coldBack := none })

/-- Since when the mounting faces differ by more than 10 °C; below 8 °C the event may come again (chapter 21). -/
def State.mountTick (s : State) : State :=
  if (s.mon 30).failed ∨ (s.mon 31).failed ∨ (s.mon 30).samples = [] ∨ (s.mon 31).samples = [] then s.modHealth (fun h => { h with mountT := none })
  else
    let d := absI ((s.mon 30).value - (s.mon 31).value)
    let s := if d < 64 then s.modHealth (fun h => { h with mountNoted := false }) else s
    if 80 < d then s.modHealth (fun h => { h with mountT := if h.mountT.isSome then h.mountT else some s.ttime })
    else s.modHealth (fun h => { h with mountT := none })

/-- Lifetime counters at a tick boundary (Table 20.8). -/
def State.lifeTick (s : State) : State :=
  let s := if s.powered then s.setCtr R.hlthLifeTicksLo (satAdd 0xFFFFFFFFFFFFFFFF (s.ctrOf R.hlthLifeTicksLo) 1) else s
  match s.baseplate with
  | none => s
  | some t =>
    let s := s.setReg R.hlthBaseplate (word ((wordI t).toNat % 65536))
    let s := if t.toNat ≤ s.ctrOf R.hlthLifeTmax then s else s.setCtr R.hlthLifeTmax t.toNat
    let a := if 680 < t then s.health.t85 + 1 else s.health.t85
    let b := if 840 < t then s.health.t105 + 1 else s.health.t105
    let s := if 1600 ≤ a then s.bump R.hlthLifeT85 else s
    let s := if 1600 ≤ b then s.bump R.hlthLifeT105 else s
    s.modHealth (fun h => { h with t85 := a % 1600, t105 := b % 1600 })

/-! AVS (R358). -/

/-- The process monitors of a tile. -/
def tilePms (t : Nat) : List Nat := if t < 4 then [80 + 3 * t, 81 + 3 * t, 82 + 3 * t] else [92, 93, 94, 95]

/-- The smallest slack of a tile's process monitors in service. -/
def State.tileSlack (s : State) (t : Nat) : Option Int :=
  match ((tilePms t).filter (fun m => !(s.mon m).failed && decide ((s.mon m).samples ≠ []))).map (fun m => (s.mon m).value) with
  | [] => none
  | v :: vs => some (vs.foldl min v)

/-- A loop held at a bound: AT_HIGH or AT_LOW. -/
def State.avsHeld (s : State) (t : Nat) (high : Bool) : State :=
  let was := if high then s.pwr.avsHigh.testBit t else s.pwr.avsLow.testBit t
  let s := s.modPwr (fun p => if high then { p with avsHigh := setBit p.avsHigh t, avsLow := clearBit p.avsLow t }
    else { p with avsLow := setBit p.avsLow t, avsHigh := clearBit p.avsHigh t })
  let s := if was then s else s.bump (R.pwrAvsBoundCnt t)
  s.raiseLim t 0x1006 (if high then sevWarn else sevInfo) kOther t t (flag high 0)

/-- One step of the AVS loop of a tile. -/
def State.avsTick (s : State) (t : Nat) : State :=
  let w := s.reg (R.pwrAvsCtrl t)
  let vmax := bits w 29 24
  let vmin := bits w 21 16
  let margin : Int := (bits w 7 0 : Nat)
  let code := s.avsCode t
  let step (s : State) (c : Nat) : State :=
    s.modPwr (fun p => { p with avsCode := Tbl.set 20 p.avsCode t c, avsHigh := clearBit p.avsHigh t, avsLow := clearBit p.avsLow t })
  if !s.tileHere t then s
  else if vmax < code then step s (code - 1)
  else if code < vmin then step s (code + 1)
  else match s.tileSlack t with
    | none => s
    | some x =>
      if x < margin then (if code < vmax then step s (code + 1) else s.avsHeld t true)
      else if margin + 20 < x then (if vmin < code then step s (code - 1) else s.avsHeld t false)
      else step s code

/-! Load (R345) and the causes of shedding (R449). -/

/-- Input power and internal load of a tick: CEIL, and since when the excess lasts. -/
def State.loadTick (s : State) (i : TickInfo) : State :=
  let eff := 10 * s.effCeiling
  let past := decide (eff < i.inputW) || decide (5400 < i.loadW)
  let s := ((s.setRegN R.pwrInputW (i.inputW % 65536)).setRegN R.pwrLoadW (i.loadW % 65536))
  let s := (((s.setRegN R.pwrAcVrms (i.acV % 4096)).setRegN R.pwrDcV (i.dcV % 8192)).setRegN R.pwrBusV (i.busV % 4096)).setRegN R.pwrIbusV (i.ibusV % 8192)
  s.modPwr (fun p => { p with ceil := decide (eff ≤ i.inputW) || decide (5400 ≤ i.loadW),
                              overT := if past then (if p.overT.isSome then p.overT else some s.ttime) else none })

/-- A shed cause exists. -/
def State.shedCause (s : State) : Bool :=
  s.pwr.ceil || s.health.mons.any (fun (p : Nat × Monitor) => decide (2 ≤ p.2.level)) || decide (s.pwr.avsHigh ≠ 0)

/-- Since when restoration is allowed (R451). -/
def State.calmTick (s : State) (i : TickInfo) : State :=
  let calm := !s.shedCause && decide (i.inputW < 9 * s.effCeiling)
  let s := if s.shedCause then s else s.modHealth (fun h => { h with lastStep := none, exhausted := false })
  s.modHealth (fun h => { h with calmT := if calm then (if h.calmT.isSome then h.calmT else some s.ttime) else none })

/-! The shed order (R449 to R451). -/

/-- The unit of an entry: its domain. -/
def shedDomain (kind i : Nat) : Nat :=
  match kind with
  | 1 => 80 + i
  | 2 => 64 + i
  | 3 => i
  | _ => 88 + i

/-- RATE_CAP of a stack lane. -/
def State.rateCap (s : State) (L : Nat) : Nat := s.regBits (lnRegs L) 1 0
def State.setRateCap (s : State) (L r : Nat) : State := s.setReg (lnRegs L) (setBits (s.reg (lnRegs L)) 1 0 r)

/-- Whether a group has a link above 26.5625 Gb/s. -/
def State.groupCanDrop (s : State) (g : Nat) : Bool :=
  (List.range 4).any (fun k =>
    let L := 4 * g + k
    decide (0 < s.rateCap L) && (!s.linkUp (s.linkOf L) || decide (0 < (s.link (s.linkOf L)).rate)))

/-- Whether an entry can be applied now (R449). -/
def State.canShed (s : State) (w : Word) : Bool :=
  let kind := bits w 15 12
  let i := bits w 6 0
  let d := shedDomain kind i
  match kind with
  | 1 => decide (i < 8) && s.domPresent d && !s.domFault d && !s.pwr.domShed.testBit d && s.domInUse d
  | 2 => decide (i < 8) && s.stackPresent i && s.domInUse d && !s.twinOwns (4 * i) && s.groupCanDrop i
  | 3 => decide (i < 64) && s.portPresent i && !s.pwr.domShed.testBit d && s.domInUse d
  | 4 => decide (i < 4) && s.inSet i && !s.pwr.domShed.testBit d && decide (32 ≤ ({ s with cxlSet := clearBit s.cxlSet i } : State).population)
  | _ => false

/-- The first entry from index i that can be applied; none at END. -/
def State.nextShed (s : State) : Nat → Nat → Option Nat
  | 0, _ => none
  | fuel + 1, i =>
    let w := s.reg (R.hlthShed i)
    if bits w 15 12 = 0 then none
    else if s.canShed w then some i
    else s.nextShed fuel (i + 1)

/-- A domain off by the shed order. -/
def State.domShedOff (s : State) (d : Nat) : State :=
  (if s.domIsOn d then s.switchCount 1 else s).modPwr (fun p => { p with domShed := setBit p.domShed d, domOn := clearBit p.domOn d })

/-- PD_SHED: the domains that are shed, and the stack groups whose rate is lowered, whose domains stay on (R450). -/
def State.shedBits (s : State) : Nat :=
  s.health.applied.foldl (fun b i =>
    let w := s.reg (R.hlthShed i)
    if bits w 15 12 = 2 then setBit b (shedDomain 2 (bits w 6 0)) else b) s.pwr.domShed

/-- An entry applied (Table 20.3). -/
def State.shedApply (s : State) (w : Word) : State :=
  let kind := bits w 15 12
  let i := bits w 6 0
  match kind with
  | 1 => (s.domShedOff (80 + i)).poolShedNow i
  | 2 =>
    let s := s.forEach (List.range 4) (fun s k => s.setRateCap (4 * i + k) (s.rateCap (4 * i + k) - 1))
    s.forEach ((List.range 4).map (fun k => 4 * i + k)) (fun s l => if s.linkUp l then (s.modLink l (fun y => { y with lanes := [] })).degrade l else s)
  | 3 =>
    let s := s.modPort i (fun p => { p with shedHold := true, txOff := true, trsOk := 0 })
    let s := s.forEach (s.flowsOn i) (fun s f => s.modFlow f (fun x => { x with refOk := false }))
    (s.resetPortLanes i).domShedOff i
  | 4 => (s.portExit i cxDown).domShedOff (88 + i)
  | _ => s

/-- A shed domain comes back, where PD_REQ and the power state have it on. -/
def State.domShedOn (s : State) (d : Nat) : State :=
  let s := s.modPwr (fun p => { p with domShed := clearBit p.domShed d })
  if s.domMay d ∧ (s.pwr.state = 1 ∨ (s.pwr.state = 2 ∧ s.domInUse d)) then s.domUp d else s

/-- An entry undone (Table 20.3); a CXL port rejoins only at the next cold reset, until which it stays shed. -/
def State.shedUndo (s : State) (w : Word) : State :=
  let kind := bits w 15 12
  let i := bits w 6 0
  match kind with
  | 1 =>
    let s := s.domShedOn (80 + i)
    if s.domAllowed (80 + i) then s.poolUnshed i else s
  | 2 => s.forEach (List.range 4) (fun s k => s.setRateCap (4 * i + k) (min 3 (s.rateCap (4 * i + k) + 1)))
  | 3 =>
    let s := (s.modPort i (fun p => { p with shedHold := false })).domShedOn i
    s.forEach (List.range 4) (fun s k => s.powerLink (32 + 4 * i + k))
  | _ => s

/-- Whether the shed order runs: not in the power-fail sequence or a shutdown (Table 20.6). -/
def State.shedRuns (s : State) : Bool := s.powered && s.pwr.shut.isNone && !s.pwr.ride

/-- The index of the next entry to look at. -/
def State.shedFrom (s : State) : Nat :=
  match s.health.applied with
  | [] => 0
  | i :: _ => i + 1

/-- The domain of an entry is powering up: to be on, and not yet switched (R357). -/
def State.domRising (s : State) (w : Word) : Bool :=
  let d := shedDomain (bits w 15 12) (bits w 6 0)
  (bits w 15 12 = 1 || bits w 15 12 = 3) && s.domGoal.testBit d && !s.domIsOn d

/-- One step of the shed order, due at an instant: the next entry, or the end of the order, after which nothing more is shed (R449). An entry whose
domain is powering up waits for it, within the same step (Table 20.6). -/
def State.shedStep (s : State) (due : Nat) : State :=
  match s.nextShed (128 - s.shedFrom) s.shedFrom with
  | some i =>
    let w := s.reg (R.hlthShed i)
    if s.domRising w then s
    else
      let s := (s.shedApply w).modHealth (fun h => { h with applied := i :: h.applied, lastStep := some due, calmT := none })
      (s.bump R.hlthShedCnt).raise 0xB010 sevWarn kOther i i w.toNat
  | none => (s.modHealth (fun h => { h with exhausted := true })).raise 0xB012 sevError kOther 0

/-- The next entry of the shed order, at the first tick boundary after the cause arises and then every 16 ticks. -/
def execShed (s : State) : Host.Outcome State Fault Refusal :=
  .next (if s.shedCause ∧ s.shedRuns ∧ !s.health.exhausted then
      let due := match s.health.lastStep with
        | some t => ticksAfter t 16
        | none => tickAfter s.ttime
      (s.advance due).shedStep due
    else s)

/-- The most recently applied entry undone, after 1,600 calm ticks. -/
def execShedRestore (s : State) : Host.Outcome State Fault Refusal :=
  .next (match s.health.applied, s.health.calmT with
    | i :: rest, some t =>
      if s.shedRuns then
        let s := s.advance (ticksAfter t 1600)
        let s := (s.shedUndo (s.reg (R.hlthShed i))).modHealth (fun h => { h with applied := rest, calmT := some s.ttime, lastStep := none })
        s.raise 0xB011 sevNotice kOther i i
      else s
    | _, _ => s)

/-- The mounting faces have differed by more than 10 °C for 1,600 ticks. -/
def execMountGradient (s : State) : Host.Outcome State Fault Refusal :=
  .next (match s.health.mountT with
    | some t =>
      let s := s.advance (ticksAfter t 1600)
      if s.health.mountNoted then s
      else (s.modHealth (fun h => { h with mountNoted := true })).raise 0xB014 sevWarn kOther 0
    | none => s)

/-- The always-on domain reads the baseplate in step 1 of the power-up sequence, every 100 ms: TS30 and TS31 in 1/8 °C (R490). -/
def execBaseplateHold (t30 t31 : Int) (s : State) : Host.Outcome State Fault Refusal :=
  .next (if s.pwr.state ≠ 4 ∨ s.pwr.upStep.isSome then s
    else
      let t := max t30 t31
      if t < -440 ∨ 1000 < t then
        if s.pwr.heldCold then s
        else (s.modPwr (fun p => { p with heldCold := true })).aonRaise 0xB015 sevNotice 0 (wordI t).toNat
      else
        let s := s.modPwr (fun p => { p with heldCold := false })
        if s.pwr.pwrEn ∧ !s.pwr.needEdge then s.upBegin else s)

/-! Events and their log (R452 to R454). -/

/-- A raised event enters the log and is routed. -/
def execEventRaised (s : State) : Host.Outcome State Fault Refusal := .next s.takeEvent

/-- A write of LOG_READ captures an entry. -/
def State.logReadWrite (s : State) (v : Word) : State × Bool :=
  let s := s.logDue s.ttime
  let i := bits v 11 0
  let ws := Tbl.get [] s.evlog.ring i
  let s := s.setRegN R.eventLogRead i
  (s.forEach (List.range 8) (fun s k => s.setReg (R.eventEntry k) (ws.getD k 0)), true)

def execLogRead (m : Nat) (v : Word) (s : State) : Host.Outcome State Fault Refusal := .next (s.regWriteBy m R.eventLogRead (s.logReadWrite v))

/-- A write of LOG_HEAD: it may not pass LOG_TAIL. -/
def State.logHeadWrite (s : State) (v : Word) : State × Bool :=
  let s := s.logDue s.ttime
  let new := bits v 12 0
  let head := (s.reg R.eventLogHead).toNat
  let tail := (s.reg R.eventLogTail).toNat
  if (tail + 8192 - head) % 8192 < (new + 8192 - head) % 8192 then (s, false) else (s.setRegN R.eventLogHead new, true)

def execLogHeadWrite (m : Nat) (v : Word) (s : State) : Host.Outcome State Fault Refusal := .next (s.regWriteBy m R.eventLogHead (s.logHeadWrite v))

/-- MSIX_PEND and ALARM_PEND, cleared by writing 1; a bit that an event set in the cycle of the clear stays set (R454). -/
def State.clearPend (s : State) (a : Nat) (v : Word) : State × Bool :=
  let now := word (s.justSet (if a = R.eventMsixPend then EvLog.setMsix else EvLog.setAlarm))
  (s.setReg a (s.reg a &&& (~~~v ||| now)), true)

def execMsixPendClear (m : Nat) (v : Word) (s : State) : Host.Outcome State Fault Refusal := .next (s.regWriteBy m R.eventMsixPend (s.clearPend R.eventMsixPend v))

def execAlarmPendClear (m : Nat) (v : Word) (s : State) : Host.Outcome State Fault Refusal := .next (s.regWriteBy m R.eventAlarmPend (s.clearPend R.eventAlarmPend v))

/-- GPIO_CLR: writing 1 drives an event output low, but for one that an event drove high in that cycle (R454, Table 20.9). -/
def State.gpioClear (s : State) (v : Word) : State × Bool :=
  let low (p : Nat) : Bool := bit v p && bit (s.reg R.eventGpioCtrl) p && !(s.justSet EvLog.setGpio).testBit p
  ({ s with evlog := { s.evlog with held := (List.range 32).foldl (fun h p => if low p then clearBit h p else h) s.evlog.held } }, true)

def execGpioClr (m : Nat) (v : Word) (s : State) : Host.Outcome State Fault Refusal := .next (s.regWriteBy m R.eventGpioClr (s.gpioClear v))

/-! A tick boundary. -/

/-- Health and power at a tick boundary. -/
def State.healthTick (s : State) (i : TickInfo) : State :=
  let s := s.forEach i.mons (fun s p => s.monSample p.1 p.2)
  let s := s.deratingTick.mountTick.lifeTick
  let s := match s.baseplate with
    | some t => s.coldTick t
    | none => s
  let s := s.forEach (List.range 5) State.avsTick
  ((s.loadTick i).calmTick i)

/-- In TRIM, since when each domain that is on is not in use (R356). -/
def State.idleTick (s : State) : State :=
  if s.pwr.state ≠ 2 then s
  else s.modPwr (fun p => { p with idleT := ((List.range 96).filter (fun d => s.domIsOn d && !s.domInUse d)).map (fun d => (d, (Tbl.find s.pwr.idleT d).getD (s.ttime + 1))) })

end Sys2Proof.Machine
end

