-- ==== Sys2Proof/Machine/ReadMedia.lean ====
section
/-! DEFINITION. What the status registers of the media blocks read (Tables 3.8 to 3.16, 4.12 to 4.16, 5.13 to 5.17, 6.12 to 6.16, 7.8 to 7.11, 9.11): values that the block holds elsewhere than in a register. An answer of none is a stored register or a counter. -/

namespace Sys2Proof.Machine

/-- The half of a 64-bit value that one of its two registers reads. -/
def halfOf (hi : Bool) (n : Nat) : Nat := if hi then n / 2 ^ 32 % 2 ^ 32 else n % 2 ^ 32

/-- The word of a match-table entry of port n, or what its other status registers read (Tables 3.8, 3.10, 3.11, 10.13). -/
def State.readPort (s : State) (n off k : Nat) : Option Nat :=
  let p := s.port n
  let lock := ((List.range 4).filter (fun i => (s.lane (32 + 4 * n + i)).cdr)).map (fun i => 2 ^ i)
  if off = 0 ∧ n % 2 = 1 ∧ !s.isFabric ∧ s.portMode n = 9 then some 9
  else if off = 0x4 then some (s.portFlows n * 2 ^ 16 + p.cls * 2 ^ 12 + p.trsOk * 16 + lock.sum)
  else if off = 0x10 then some (ceilDiv (s.portRateQ n) (1001 * 1000000))
  else if off = 0x20 then some (p.payload.getD k 0).toNat
  else if off = 0x44 then some p.skew
  else if off = 0x2000 then some ((Tbl.get [] p.table (k / 4)).getD (k % 4) 0).toNat
  else if 0x600 ≤ off ∧ off ≤ 0x624 ∧ !s.portIsEth n then some 0
  else if off = 0x608 then
    let pcs := s.portIsEth n && (s.portLanes n).all (fun i => (s.lane (32 + 4 * n + i)).cdr)
    some (flag (s.ethUp n) 2 + flag (s.ethUp n) 1 + flag pcs 0)
  else none

/-- Read millicredits held by the takes of flow f (Table 3.12). -/
def State.flowRead (s : State) (f : Nat) : Nat :=
  (s.outs.map (fun (q : Nat × Out) =>
    let o := q.2
    let cur := if o.cur.kind = 1 ∧ o.cur.idx = f then s.curHeld q.1 o else 0
    let next := match o.pend with
      | some p => if p.src.kind = 1 ∧ p.src.idx = f then s.pendHeld q.1 o else 0
      | none => 0
    cur + next)).sum

def Det.code : Det → Nat
  | .idle => 0 | .acquire => 1 | .locked => 2 | .unstable => 3 | .noSignal => 4

/-- FLOW[f] (Tables 3.12, 3.13, 3.16). -/
def State.readFlow (s : State) (f off k : Nat) : Option Nat :=
  let x := s.flow f
  if off = 0x0 then some x.info.toNat
  else if off = 0x4 then some x.fmt0.toNat
  else if off = 0x8 then some x.fmt1.toNat
  else if off = 0xC then some x.fmt2.toNat
  else if off = 0x10 then some (if x.storeEn then x.storeW.toNat else 0)
  else if off = 0x14 ∨ off = 0x18 then some (halfOf (decide (off = 0x18)) x.base)
  else if off = 0x1C then some x.slotBytes
  else if off = 0x20 then some (x.wr + x.merge)
  else if off = 0x24 then some (s.flowRead f + x.merge)
  else if off = 0x28 then some x.sa
  else if off = 0x40 then
    some (flag x.legBUp 15 + flag x.legAUp 14 + flag x.badLast 12 + flag x.aligned 11 + flag x.partialLinks 10 + x.det.code * 16 + x.signal)
  else if off = 0x44 then some (if k = 0 then x.det0 else if k = 1 then x.det1 else x.det2).toNat
  else if off = 0x50 then some (wordI x.alignLead).toNat
  else if off = 0x80 ∨ off = 0x84 then some (halfOf (decide (off = 0x84)) x.lastCommit)
  else none

/-- A source as XPT_CUR and XPT_PEND show it (Table 4.15). A frozen frame shows PATH, DEVICE and INDEX 0 (DESIGN CHOICE, log entry 53). -/
def State.srcReg (s : State) (x : Source) : Nat :=
  let dev := if x.kind = 1 then s.devId else if x.kind = 2 then x.dev else 0
  let idx := if x.kind = 4 ∨ x.kind = 5 then 0 else x.idx
  x.kind * 2 ^ 28 + x.path * 2 ^ 26 + dev % 2048 * 2 ^ 13 + idx % 2 ^ 13

/-- Bit 13 of the flow index of a source (Table 4.16). -/
def Source.idx13 (x : Source) : Bool := (decide (x.kind = 1) || decide (x.kind = 2)) && x.idx.testBit 13

/-- Whether the current set is direct-compatible with the flow that the output shows (R136). -/
def State.directOk (s : State) (n : Nat) : Bool :=
  let o := s.out n
  decide (o.cur.kind = 1) && directCompat (s.flow o.cur.idx) o.tim o.conv (s.geo n o.conv o.tim none)

/-- Word i of a current conversion set. -/
def ConvSet.wordAt (c : ConvSet) (i : Nat) : Word :=
  [c.ctrl, c.cropOrg, c.cropSize, c.destOrg, c.destSize, c.bg, c.colour].getD i 0

/-- Word i of a current timing set. -/
def TimSet.wordAt (t : TimSet) (i : Nat) : Word := [t.h0, t.h1, t.v0, t.v1, t.ctrl].getD i 0

/-- POOL_QUEUED and POOL_GRANTED, the pool in use (Table 5.16). -/
def Out.poolBits (o : Out) : Nat := (if o.pool = .queued then 2 ^ 16 else 0) + flag o.inUse 15

/-- LUT_STATUS (Table 5.17). -/
def Lut.status (l : Lut) : Nat :=
  l.result % 256 * 256 + flag l.swapLeft.isSome 5 + flag l.loading.isSome 4 + flag l.valid1 3 + flag l.valid0 2 + l.active % 2

/-- Plane p of output n (Table 6.15). -/
def State.readPlane (s : State) (n p off : Nat) : Option Nat :=
  let o := s.out n
  let x := o.plane p
  let pend := match x.cap with | some c => some c.set.base | none => x.pend.map (fun (c : PendFlip) => c.set.base)
  if off = 0x10 ∨ off = 0x14 then some (halfOf (decide (off = 0x14)) x.cur.base)
  else if off = 0x18 ∨ off = 0x1C then some (halfOf (decide (off = 0x1C)) (pend.getD 0))
  else if off = 0x20 ∨ off = 0x24 then some (halfOf (decide (off = 0x24)) x.stale)
  else if off = 0x28 then some x.cur.ctrl.toNat
  else if off = 0x2C then some x.cur.org.toNat
  else if off = 0x30 then some x.cur.size.toNat
  else if off = 0x34 then some x.cur.stride.toNat
  else if off = 0x38 then
    some (x.result % 256 * 256 + flag pend.isSome 1 + flag (x.cur.enabled && o.scanning && !x.hid && !o.planesOff) 0)
  else if off = 0x3C then some (s.planeHeld n x)
  else none

/-- OUT[n] (Tables 4.14 to 4.16, 5.13, 5.16, 5.17, 6.12, 6.14, 7.11). -/
def State.readOut (s : State) (n off k : Nat) : Option Nat :=
  let o := s.out n
  if off = 0x0 then some (s.srcReg o.cur)
  else if off = 0x4 then some (match o.pend with | some p => s.srcReg p.src | none => 0)
  else if off = 0x8 then
    some ((s.reg (R.outXptCtrl n) &&& word 0x80001FFF).toNat + flag o.cur.idx13 30
      + flag (match o.pend with | some p => p.src.idx13 | none => false) 29)
  else if off = 0xC then some (o.takeRoute * 256 + o.takeStatus)
  else if off = 0x10 ∨ off = 0x14 then some (halfOf (decide (off = 0x14)) o.takeTtime)
  else if off = 0x18 then some (s.readHeldOf n o)
  else if 0x140 ≤ off ∧ off ≤ 0x158 then some (o.conv.wordAt ((off - 0x140) / 4)).toNat
  else if off = 0x180 then
    some (o.cadence * 2 ^ 22 + flag o.clipped 21 + flag o.decimate 20 + flag (s.directOk n) 19 + o.frcEff * 2 ^ 17
      + o.poolBits + flag o.convPend.isSome 14)
  else if off = 0x188 then some (if o.conv.frcMode = 2 then o.units else 0)
  else if off = 0x18C then some (s.poolUsed (n / 8))
  else if off = 0x198 then some o.lut.status
  else if 0x220 ≤ off ∧ off ≤ 0x230 then some (o.tim.wordAt ((off - 0x220) / 4)).toNat
  else if off = 0x240 then
    let tile := (s.tileIn n).isSome
    some (o.group * 2 ^ 16 + o.bufLevel * 2 ^ 11 + o.urgency * 2 ^ 9 + flag o.transition 4
      + flag (o.timPend.isSome || o.timCap.isSome) 3 + flag tile 2 + flag o.scanning 1)
  else if off = 0x250 ∨ off = 0x254 then some (halfOf (decide (off = 0x254)) o.frame)
  else if off = 0x258 ∨ off = 0x25C then some (halfOf (decide (off = 0x25C)) o.flipTtime)
  else if 0x310 ≤ off ∧ off ≤ 0x33C then s.readPlane n k (off - 0x300)
  else if off = 0x408 then some o.sigOut.toNat
  else if off = 0x40C then some o.sigSrc.toNat
  else if off = 0x410 then some (flag o.constDet 2 + flag o.blackDet 1 + flag o.freeze 0)
  else if off = 0x590 then some o.anc.ctrl.toNat
  else if off = 0x594 then some o.tc.toNat
  else if off = 0x5A0 then
    let valid := (o.anc.ins.filter (fun (q : Nat × InsSlot) => q.2.valid)).foldl (fun (m : Nat) (q : Nat × InsSlot) => setBit m (q.1 % 16)) 0
    some (valid * 2 ^ 16 + flag (o.ancPend.isSome || o.ancCap.isSome) 1)
  else none

/-- TGRP[g] (Table 4.12). -/
def State.readTgrp (s : State) (g off : Nat) : Option Nat :=
  let G := s.group g
  if off = 0x8 then some (s.groupFlows g * 2 ^ 16 + s.groupOutputs g)
  else if off = 0xC then some (flag G.free 1 + flag G.running 0)
  else if off = 0x10 ∨ off = 0x14 then some (halfOf (decide (off = 0x14)) G.frame)
  else if off = 0x18 ∨ off = 0x1C then some (halfOf (decide (off = 0x1C)) G.lastStart)
  else none

/-- TILE[t] (Table 6.16). -/
def State.readTile (s : State) (t off : Nat) : Option Nat :=
  let x := s.tile t
  let ms := s.tileMembers t
  if off = 0x4 then some (ms.length * 2 ^ 16 + ms.headD 0 * 256 + flag x.on 0)
  else if off = 0x34 then some x.cropOrg.toNat
  else if off = 0x38 then some x.cropSize.toNat
  else if off = 0x3C then some x.destOrg.toNat
  else if off = 0x40 then some x.destSize.toNat
  else none

/-- IC[c].STATUS (Table 7.8; log entry 19). -/
def State.icStatus (s : State) (c : Nat) : Nat :=
  let x := s.ic c
  let i := (c - 8160) / 2
  let aes := s.aes i
  if 8160 ≤ c ∧ !bit (s.reg (R.audioAesInCtrl i)) 0 then 0
  else if 8160 ≤ c then
    let lost := !aes.lock
    2 ^ 31 + 3 * 2 ^ 28 + flag (bit (s.reg (R.audioAesInCtrl i)) 1) 27 + flag aes.nonPcm 26
      + (if x.since ≠ 0 ∧ s.ttime < x.since + 1600000 then 2 else if lost then 1 else 0) * 2 ^ 24 + c % 2 * 2 ^ 18
  else if !x.valid then 0
  else
    2 ^ 31 + x.source * 2 ^ 28 + flag x.asrc 27 + flag x.nonPcm 26
      + (if x.since ≠ 0 ∧ s.ttime < x.since + 1600000 then 2 else x.state) * 2 ^ 24 + x.chan * 2 ^ 18 + x.flow

/-- AUDIO (Tables 7.8 and 7.10). -/
def State.readAudio (s : State) (off k : Nat) : Option Nat :=
  if off = 0x4 then
    let used := (s.audio.ics.filter (fun (q : Nat × Ic) => decide (q.1 < 8160))).length
    let pairs := ((List.range 16).filter (fun i => bit (s.reg (R.audioAesInCtrl i)) 1)).length
    some ((s.asrcUsed + 2 * pairs) * 2 ^ 16 + (8160 - used))
  else if off = 0x8 ∨ off = 0xC then some (if s.memOk then halfOf (decide (off = 0xC)) 0x10000000 else 0)
  else if off = 0x140 then
    let x := s.aes k
    some (flag x.lock 31 + flag x.nonPcm 30 + x.rate % 2 ^ 20)
  else if off = 0x10000 then
    let x := s.oc k
    some ((match x.pend with | some p => 2 ^ 31 + p.src * 2 ^ 16 | none => 0) + x.src)
  else if off = 0x40000 then some (s.icStatus k)
  else none

/-- OCHRE (Table 9.11). -/
def State.readOchre (s : State) (off k : Nat) : Option Nat :=
  if off = 0x0 then some (((List.range 8).filter s.obPresent).map (fun j => 2 ^ j)).sum
  else if off = 0x10000 then
    let mine := s.flows.filter (fun (q : Nat × Flow) => q.2.valid && q.2.isVideo && decide (q.2.portA = k))
    let exported (f : Nat) : Bool := s.stk.exports.any (fun e => decide (e.flow = f) && e.running)
    let coded := mine.filter (fun (q : Nat × Flow) => q.2.storeEn || exported q.1)
    some (coded.length * 2 ^ 16 + flag (mine.any (fun (q : Nat × Flow) => exported q.1)) 0)
  else if off = 0x3001C then
    let x := Tbl.get Ob.reset s.obs k
    some (x.last * 256 + (match x.stream with | some t => t.op * 16 + 2 | none => 0) + flag x.started.isSome 0)
  else none

end Sys2Proof.Machine
end

