-- ==== Sys2Proof/Machine/Tamper.lean ====
section
/-! DEFINITION. Tamper supervision and unlock (R392 to R399). -/

namespace Sys2Proof.Machine

def State.modTamper (s : State) (f : Tamper → Tamper) : State := { s with tamper := f s.tamper }

/-- Whether a source is armed (Table 17.7): the on-die ones always are. -/
def State.armed (s : State) (src : Nat) : Bool := decide (4 ≤ src ∧ src ≤ 6) || (decide (src < 4) && bit (s.reg R.tamperArm) src)

/-- Step 1 of R394: the tamper KEK, every engine copy and every key of a slot with TAMPER_ERASE are gone. -/
def State.zeroise (s : State) : State :=
  let erase (i : Nat) : Bool := bit (s.slot i).attr 27
  let t := s.keysGone erase
  { t with woad := { t.woad with tamperKek := [], slots := t.woad.slots.map (fun (p : Nat × Slot17) =>
      (p.1, if bit p.2.attr 27 then { p.2 with key := [] } else p.2)) } }

/-- A key operation in progress ends with TAMPER, the staged key is discarded; a commit past its step 1 has stood. -/
def State.tamperOp (s : State) : State :=
  let s := { s with woad := { s.woad with shadow := none } }
  match s.woad.op with
  | none => s
  | some x =>
    if x.copyA then s.woadEnd x stTamper
    else
      let mine (p : Piece) : Bool := decide (p.fin = .woadA x.slot ∨ p.fin = .woadB x.slot)
      let s := { s with woad := { s.woad with op := none } }.modSaff (fun y => { y with pieces := y.pieces.filter (fun p => !mine p) })
      if x.op = 0 then s else s.woadDone stTamper 0

/-- Steps 2 and 3: the cause is latched, the first alarm stamped; TAMPER_N is low while the latch holds. -/
def State.latchTamper (s : State) (src : Nat) : State :=
  let w := (s.reg R.tamperLatch).toNat
  let s := if s.tamper.latched then s
    else
      let s := s.aonStamp
      s.setReg64 R.tamperLatchAonLo s.aonTime
  let s := (s.setRegN R.tamperLatch (2 ^ 31 + (setBit (w % 128) src))).bump R.tamperAlarmCnt
  s.modTamper (fun x => { x with latched := true, current := setBit x.current src })

/-- The event of an alarm that the always-on domain holds until the log opens (Table 17.8, log entry 28). -/
def State.holdTamper (s : State) (src : Nat) : State :=
  { s with aonEvents := s.aonEvents ++ [{ code := 0x6020, sev := sevFatal, aon := true, kind := kOther, dev := s.devId, index := src, stamp := s.aonTime,
                                          a0 := word src }] }

/-- Whether start-up is under way. -/
def State.starting (s : State) : Bool := decide (s.boot.stage ≠ 0) && !s.boot.ready && !s.tamperLock

/-- The response to an alarm of an armed source, by the state (Table 17.8). -/
def State.alarm (s : State) (src : Nat) : State :=
  let s := (s.tamperOp.zeroise).latchTamper src
  if s.tamperLock then s
  else if s.starting then s.lockAtBoot
  else if s.boot.ready ∧ s.pwr.state ≠ 3 then
    if bit (s.reg R.tamperCtrl) 0 then s.raise 0x6020 sevFatal kOther src src
    else (s.holdTamper src).coldReset 3
  else s.holdTamper src

/-- The filter time of a source, in its own unit: cycles of 32.768 kHz for the lid, RC cycles of 25 MHz for the mesh, VBAT and the die temperature,
patterns for the loop; none for the glitches (Table 17.7). -/
def tamperFilter (src : Nat) : Nat := [33, 50, 2, 25000, 0, 0, 25000].getD src 0

/-- TAMPER: a source has met its condition for a time in the unit of its filter; VBAT counts while AON is unpowered (R392). A source that is not
armed is shown in CURRENT and raises no alarm (DEDUCED, log entry 28). -/
def execTamper (src held : Nat) (s : State) : Host.Outcome State Fault Refusal :=
  .next (if 6 < src ∨ held < tamperFilter src ∨ (src = 3 ∧ s.pwr.state ≠ 0) then s
    else if s.armed src then s.alarm src
    else s.modTamper (fun x => { x with current := setBit x.current src }))

/-- VBAT is removed while AON is unpowered: the tamper KEK, the arming and the always-on registers are lost (R395). -/
def State.vbatLoss (s : State) : State :=
  let s := { s with regs := s.regs.filter (fun p => !aonAddr p.1), ctr := s.ctr.filter (fun p => !aonAddr p.1), snap := s.snap.filter (fun p => !aonAddr p.1),
                    tamper := {}, aonTime := 0, aonEvents := [] }
  { s with woad := { s.woad with tamperKek := [], kekLost := true }, pwr := { s.pwr with vbatOk := false } }

def execVbatLoss (s : State) : Host.Outcome State Fault Refusal := .next (if s.pwr.state = 0 then s.vbatLoss else s)

/-! Unlock (R396 to R398). -/

/-- UNLOCK_CTRL.CHAL_REQ: a new challenge, none within 1,600 ticks of a failure. -/
def State.unlockChal (s : State) : State :=
  if s.ttime < s.tamper.chalFrom then s.modTamper (fun x => { x with status := stBusy })
  else
    let (c, s) := s.randomBytes 55 32
    (s.modTamper (fun x => { x with chal := some (c, s.ticksOn chalTicks), status := stOk })).setRegBytes (R.tamperUnlockChal 0) 8 c

/-- Whether the message in UNLOCK_MSG passes the checks of R398. -/
def State.unlockOk (s : State) : Bool :=
  match s.tamper.chal with
  | some (c, t) => decide (s.ttime < t) && s.ownerMessageOk (s.regBytes (R.tamperUnlockMsg 0) 40) 0x31555954 c ((s.reg R.tamperLatch).toNat % 256)
  | none => false

/-- UNLOCK_CTRL.SUBMIT, with the sources that alarm at that moment: success clears the latch and ARM_LOCK, and a cold reset follows. -/
def State.unlockSubmit (s : State) (still : Nat) : State :=
  let ok := s.unlockOk
  let s := s.modTamper (fun x => { x with chal := none, current := still % 128 })
  if !ok then
    let s := s.modTamper (fun x => { x with status := stCheckFail, chalFrom := s.ticksOn chalHold })
    (s.bump R.tamperUnlockFailCnt).raise 0x6023 sevWarn kOther 0
  else if still % 128 ≠ 0 then (s.modTamper (fun x => { x with status := stTamper })).bump R.tamperUnlockFailCnt
  else
    let s := s.modTamper (fun x => { x with latched := false, status := stOk })
    let s := (s.setReg R.tamperLatch 0).setReg R.tamperCtrl (setBits (s.reg R.tamperCtrl) 31 31 0)
    let s : State := { s with aonEvents := s.aonEvents ++ [{ code := 0x6022, sev := sevNotice, aon := true, kind := kOther, dev := s.devId, index := 0, stamp := s.aonTime }] }
    s.coldReset 3

/-- A write of UNLOCK_CTRL. -/
def State.unlockCtrl (s : State) (v : Word) (still : Nat) : State × Bool :=
  let s := if bit v 1 then s.unlockSubmit still else s
  (if bit v 0 then s.unlockChal else s, true)

def execChalReq (m : Nat) (s : State) : Host.Outcome State Fault Refusal := .next (s.regWriteBy m R.tamperUnlockCtrl (s.unlockCtrl 1 s.tamper.current))

def execUnlockSubmit (m still : Nat) (s : State) : Host.Outcome State Fault Refusal := .next (s.regWriteBy m R.tamperUnlockCtrl (s.unlockCtrl 2 still))

/-- A challenge not submitted within 16,000 ticks becomes invalid: that of the unlock registers, or of block protection (R398, R412). -/
def execChallengeExpired (bp : Bool) (s : State) : Host.Outcome State Fault Refusal :=
  .next (if bp then
      match s.saff.chal with
      | some (_, t) => (s.advance t).modSaff (fun x => { x with chal := none })
      | none => s
    else match s.tamper.chal with
      | some (_, t) => (s.advance t).modTamper (fun x => { x with chal := none })
      | none => s)

/-- A write of ARM, CTRL or UNLOCK_SLOT (R393): locked fields keep their value, the on-die sources stay armed; ARM_LOCK is only set. -/
def State.armWrite (s : State) (v : Word) : State × Bool :=
  let locked := bit (s.reg R.tamperCtrl) 31
  let new := word (bits v 6 0)
  if bits v 6 4 ≠ 7 ∨ (locked ∧ new ≠ s.reg R.tamperArm) then (s, false) else (s.setReg R.tamperArm new, true)
def State.tamperCtrlWrite (s : State) (v : Word) : State × Bool :=
  let old := s.reg R.tamperCtrl
  if bit old 31 ∧ bit v 0 ≠ bit old 0 then (s, false)
  else (s.setReg R.tamperCtrl (word ((bit v 0).toNat + flag (bit v 31 || bit old 31) 31)), true)
def State.unlockSlotWrite (s : State) (v : Word) : State × Bool :=
  let new := word (bits v 7 0)
  if bit (s.reg R.tamperCtrl) 31 ∧ new ≠ s.reg R.tamperUnlockSlot then (s, false) else (s.setReg R.tamperUnlockSlot new, true)

end Sys2Proof.Machine
end

