-- ==== Sys2Proof/Machine/ReadSys.lean ====
section
/-! DEFINITION. What the status registers of the system blocks read (Tables 1.9, 2.12 to 2.14, 8.16, 8.17, 10.8 to 10.12, 11.14, 12.6 to 12.8, 13.8 to 13.13, 14.8, 14.9, 15.13 to 15.16, 16.8, 17.13, 17.14, 18.7, 19.10, 20.8, 20.9): values that the block holds elsewhere than in a register. An answer of none is a stored register or a counter. -/

namespace Sys2Proof.Machine

/-- A signed value limited to 32 bits. -/
def sat32 (x : Int) : Nat := (wordI (clampI (-(2 ^ 31)) (2 ^ 31 - 1) x)).toNat

/-! Umber units and queues. -/

/-- SEQ[u] (Tables 2.12 to 2.14); CTRL reads its policy alone. -/
def State.readSeq (s : State) (u off : Nat) : Option Nat :=
  let x := s.unit u
  if off = 0x4 then some (s.seqState u)
  else if off = 0x8 then some x.faultReg.toNat
  else if off = 0xC then some x.faultWord.toNat
  else if off = 0x10 ∨ off = 0x14 then some (halfOf (decide (off = 0x14)) x.faultTtime)
  else none

/-- The queue registers of engine e (Tables 8.16 and 8.17). -/
def State.readCeq (s : State) (e off : Nat) : Option Nat :=
  let c := s.ce e
  if off = 0x84 then some c.sqHead
  else if off = 0x88 then some c.sqTail
  else if off = 0x8C then some c.cqTail
  else if off = 0x90 then some c.cqHead
  else if off = 0x94 then
    some ((match c.exec with | some x => x.idx % 2 ^ 16 * 2 ^ 16 | none => 0) + flag c.waitCq 5 + flag c.grp.isSome 4 + c.qstate)
  else if off = 0x9C then some c.groupFail.toNat
  else none

/-! Lanes and links. -/

/-- STATE of LK_STATUS (Table 10.10): DEGRADED is a link with fewer active lanes than its mask. -/
def State.linkCode (s : State) (l : Nat) : Nat :=
  let x := s.link l
  if !s.lkEnabled l then 0
  else if x.down then 6
  else if x.power = 1 then 4
  else if x.power = 2 then 5
  else if x.lanes = [] then 1
  else if x.lanes.length < (s.linkLanes l).length then 3
  else 2

/-- LK_STATUS, LK_CAPACITY and LK_RESERVED of link l (Table 10.8). -/
def State.readLink (s : State) (l off : Nat) : Option Nat :=
  let x := s.link l
  if off = 0x4 then
    let on := x.lanes ≠ []
    some (s.linkCode l * 2 ^ 29 + (if x.power = 2 then 0 else (x.lanes.map (fun L => 2 ^ (L % 4))).sum) * 2 ^ 24
      + (if on then x.rate * 2 ^ 20 + flag x.precode 19 + flag x.cipher 18 + flag x.detectOnly 17 + flag (s.leads l x.partner) 16 + x.partner % 2048 else 0))
  else if off = 0x8 then some (s.linkCapacity l)
  else if off = 0xC then some (s.linkLoad l)
  else none

def LaneState.code : LaneState → Nat
  | .disabled => 0 | .detect => 1 | .train => 2 | .negotiate => 3 | .step => 4 | .verify => 5 | .active => 6 | .backoff => 7
  | .down => 8 | .l1 => 9 | .l2 => 10 | .test => 11

/-- The settings that the equaliser of a lane stands at: free within LN_EQ_BOUNDS (R247, log entry 3). -/
def State.eqStatus (s : State) (L : Nat) : Nat :=
  let b := s.reg (lnRegs L + 0xC)
  let v := Config.free 61 s.freeCtr
  let lo := bits b 4 0
  (v / 64) % (bits b 21 16 + 1) * 2 ^ 16 + (lo + v % (bits b 12 8 + 1 - lo)) * 256

/-- Lane registers (Tables 10.11 and 10.12); SDI and Ethernet lanes read ACTIVE or DETECT. -/
def State.readLane (s : State) (L off : Nat) : Option Nat :=
  let x := s.lane L
  if off = 0x4 then
    let code := if s.laneRsl L ∨ x.state = .test then x.state.code else if x.cdr then 6 else 1
    some (code * 2 ^ 28 + (if s.laneRsl L then x.rate % 8 * 2 ^ 24 else 0) + min x.fails 16 * 2 ^ 16 + x.lastFail % 16 * 2 ^ 12
      + flag x.comma 3 + flag x.cdr 2 + flag x.sigDet 1 + flag x.eqBound 0)
  else if off = 0x14 then some (s.eqStatus L)
  else if off = 0x30 then some (flag x.chkLock 0)
  else if off = 0x5C then some x.skew
  else none

/-! Stack and twin. -/

def idOr (x : Option Nat) : Nat := match x with | some d => 2 ^ 31 + d % 2048 | none => 0

/-- The standby master: the twin of the system master, while it is heard (R277). -/
def State.standbyMaster (s : State) : Option Nat :=
  match s.stk.master with
  | some m => if (s.fresh.any (fun h => h.standby && decide (h.id = m))) || (s.isStandby && decide (s.devId = m)) then some m else none
  | none => none

/-- STK (Table 11.14). -/
def State.readStk (s : State) (off : Nat) : Option Nat :=
  let k := s.stk
  if off = 0x0 then some (flag s.isFabric 31 + flag (decide (k.role % 2 = 1)) 30 + s.devId * 2 ^ 16 + s.devId / 16)
  else if off = 0x4 then some (idOr k.master)
  else if off = 0x8 then
    let routes := (List.range 2048).any s.hasRoute
    let heard := match k.lastTime with | some t => decide (s.ttime ≤ t + 16 * tickLen) | none => false
    some (flag (s.isStandby && decide (s.standbyMaster = some s.devId)) 5 + flag s.isClusterMaster 4 + flag s.isMaster 3
      + flag routes 2 + flag k.loaded 1 + flag heard 0)
  else if off = 0xC then some k.version
  else if off = 0x10 ∨ off = 0x14 then some (halfOf (decide (off = 0x14)) (k.timeOfs % 2 ^ 64).toNat)
  else if off = 0x18 then some (idOr s.standbyMaster)
  else if off = 0x1C then some (idOr (s.clusterMaster (s.devId / 16)))
  else none

/-- TWIN.STATUS (Table 12.8). -/
def State.readTwin (s : State) (off : Nat) : Option Nat :=
  let x := s.twin
  if off = 0x4 then
    some (s.twinCode * 2 ^ 28 + flag x.standby 27 + flag s.twinLinkUp 26 + flag x.peerPresent 25 + flag x.force 24 + x.cause % 256 * 2 ^ 16 + x.epoch % 65536)
  else none

/-! Madder. -/

/-- CAND[c] (Table 13.11). -/
def State.readCand (s : State) (c off : Nat) : Option Nat :=
  let x := s.cand c
  if off = 0xC then
    some ((if s.candOn c then x.st else 0) * 2 ^ 29 + flag x.active 28 + flag x.pulse.isSome 27 + x.fmt % 8 * 2 ^ 24 + x.pulseRate % 256 * 2 ^ 16)
  else if off = 0x10 then some (sat32 x.freq)
  else if off = 0x14 then some (sat32 (s.phaseFrom c 0))
  else if off = 0x18 then some x.qtime
  else none

/-- Whether a frame-pulse input is active: its pulses keep coming (log entry 30). -/
def State.fpiActive (s : State) (i : Nat) : Bool :=
  match (s.fpIn i).last with
  | some t => (s.fpIn i).accepted && decide (s.ttime < t + 2 * s.fpPeriod i)
  | none => false

/-- The media lanes that a synthesiser serves (Table 13.8). -/
def State.synLanes (s : State) (i : Nat) : Nat :=
  (((s.syn i).users.map (fun u => u % 64)).eraseDups.map (fun n => (s.portLanes n).length)).sum

/-- MADDER (Tables 13.8 to 13.13). -/
def State.readMadder (s : State) (off k : Nat) : Option Nat :=
  let M := s.madder
  if off = 0x4 then
    some (M.st % 8 * 2 ^ 29 + M.sel % 16 * 2 ^ 24 + M.pend % 16 * 2 ^ 20 + flag M.wtrAt.isSome 19 + flag M.disagree.isSome 18
      + flag M.ptpOfs.isSome 17 + flag M.captured 16 + flag M.histValid 15 + flag (decide (5760000 ≤ M.hist.length)) 14)
  else if off = 0x18 then some (sat32 M.pdSample)
  else if off = 0x1C then some (M.pdSeq % 65536 * 2 ^ 16 + flag M.pdValid 8 + M.pdCand % 16)
  else if off = 0x20 then some (sat32 M.fcw)
  else if off = 0x24 then some (sat32 M.hold)
  else if off = 0x28 then some M.hist.length
  else if off = 0x2C then some (match M.slope with | some x => sat32 (x.remain s.ttime) | none => 0)
  else if off = 0x40 ∨ off = 0x44 then
    some (match M.ptpOfs with | some (sec, _, _) => (if off = 0x40 then (sec % 2 ^ 32).toNat else (sec / 2 ^ 32 % 2 ^ 16).toNat) | none => 0)
  else if off = 0x48 then some (match M.ptpOfs with | some (_, ns, _) => ns | none => 0)
  else if off = 0x4C then some (match M.ptpOfs with | some (_, _, f) => 2 ^ 31 + f % 65536 | none => 0)
  else if 0x100 ≤ off ∧ off < 0x120 then s.readCand k (off - 0x100)
  else if off = 0x408 then
    let x := s.fpOut k
    some (flag x.free 2 + flag x.flywheel 1 + flag (s.fpOn k && x.epoch.isSome) 0)
  else if off = 0x480 then some (flag (s.fpiActive k) 31 + s.fpPeriod k % 2 ^ 31)
  else if off = 0x500 then
    if k < 12 ∧ !s.tileHere (k / 3) then some (7 * 2 ^ 29)
    else some ((s.syn k).family % 8 * 2 ^ 29 + flag (decide ((s.syn k).family ≠ 0)) 28 + s.synLanes k)
  else none

/-! CXL, power and health. -/

/-- CXL (Tables 14.8 and 14.9). -/
def State.readCxl (s : State) (off k : Nat) : Option Nat :=
  if off = 0x0 then some (s.cxlSet % 16 * 2 ^ 24 + flag s.cxlRebuild 1 + flag s.memOk 0)
  else if off = 0x4 then some s.popGib
  else if off = 0x8 then some s.vidTotal
  else if off = 0xC then some s.resTotal
  else if off = 0x10 then some s.vidWr
  else if off = 0x14 then some s.vidRd
  else if off = 0x18 then some (s.gfxHeld + (if s.memOk then 3146 else 0))
  else if off = 0x30 then some (if s.memOk then heapLargest (popBytes s) heapStart s.heap / 2 ^ 20 else 0)
  else if off = 0x1004 then
    let p := s.cxPort k
    some (p.link % 16 * 2 ^ 28 + p.cause % 16 * 2 ^ 24 + flag (s.inSet k) 23 + flag p.ide 22 + p.width % 64 * 2 ^ 16)
  else if off = 0x1008 then some (s.cxPort k).cap
  else none

/-- Bits 32w to 32w + 31 of a set of domains. -/
def domWord (ds w : Nat) : Nat := ds / 2 ^ (32 * w) % 2 ^ 32

/-- The present domains as a set. -/
def State.domsHere (s : State) : Nat := domBits ((List.range 96).filter s.domPresent)

/-- PWR (Tables 15.13 to 15.16). -/
def State.readPwr (s : State) (off k : Nat) : Option Nat :=
  let p := s.pwr
  if off = 0x4 then
    some (p.shown % 16 * 2 ^ 28 + p.source % 4 * 2 ^ 26 + flag p.acOk 25 + flag p.dcOk 24 + flag p.pwrEn 23 + flag p.ioGood 22 + flag p.pwrGood 21
      + flag p.ride 20 + flag p.ceil 19 + flag p.vhost33 18 + p.lastCause % 16 * 2 ^ 12)
  else if off = 0xC then some s.effCeiling
  else if off = 0x40 then some ((s.reg (R.pwrPdReq k)).toNat &&& domWord s.domsHere k)
  else if off = 0x50 then some (domWord p.domOn k)
  else if off = 0x70 then some (domWord s.shedBits k)
  else if off = 0x84 then
    some (s.avsCode k * 2 ^ 24 + flag (p.avsHigh.testBit k) 17 + flag (p.avsLow.testBit k) 16
      + (match s.tileSlack k with | some x => (wordI x).toNat % 256 | none => 0))
  else if off = 0x100 then
    if 4 ≤ k ∧ k < 8 ∧ !s.tileHere (k - 4) then some (2 ^ 29)
    else some (flag (p.rails.testBit k) 31 + flag (p.railFault.testBit k) 30 + (s.mon (32 + k)).value.toNat % 65536)
  else none

/-- HLTH (Table 20.8): a monitor past CRIT counts as past WARN (log entry 30). -/
def State.readHlth (s : State) (off k : Nat) : Option Nat :=
  let h := s.health
  if off = 0x0 then
    some (flag h.exhausted 3 + flag (decide (h.applied ≠ [])) 2 + flag (h.mons.any (fun (q : Nat × Monitor) => decide (2 ≤ q.2.level))) 1
      + flag (h.mons.any (fun (q : Nat × Monitor) => decide (1 ≤ q.2.level))) 0)
  else if off = 0x8 then some h.ceiling
  else if off = 0xC then some h.applied.length
  else if off = 0x1010 then some (s.monStatus k)
  else none

/-! Identity, keys, storage, crossbar, tamper, events. -/

/-- Byte i of ID_CERT: the serial in bytes 8 to 15, the factory's for the rest (R377, R496). -/
def idCertByte (i : Nat) : Nat := if 8 ≤ i ∧ i < 16 then Config.serial / 256 ^ (i - 8) % 256 else Config.idCert i % 256

/-- GLOBAL (Tables 1.9, 16.8, 23.3); the tick number may trail by 8 CLK_D cycles, and no command tells of an edge
still in its filter: FILT_STATUS shows any (log entry 3). -/
def State.readGlobal (s : State) (off k : Nat) : Option Nat :=
  let b := s.boot
  if off = 0x0 then some (0x54590020 + s.variant)
  else if off = 0x18 then some ((s.ttime - Config.free 60 s.freeCtr % 9) / tickLen % 2 ^ 32)
  else if off = 0x30 ∨ off = 0x34 then some (halfOf (decide (off = 0x34)) Config.serial)
  else if off = 0x100 then
    some ((if s.tamperLock then 15 else b.stage % 16) * 2 ^ 28 + b.lastErr % 16 * 256 + b.src % 4 * 16 + flag b.slotB 0)
  else if off = 0x114 then some (b.rbRecord % 65536 * 2 ^ 16 + fuseCount b.fuses % 256 * 256)
  else if off = 0x11C ∨ off = 0x120 then some (halfOf (decide (off = 0x120)) b.build)
  else if off = 0x224 then some (b.attestStatus % 256 * 256 + flag b.reportOk 1 + flag b.attest.isSome 0)
  else if off = 0x710 then some ((s.reg R.globalFiltStatus).toNat + Config.free 62 s.freeCtr % 16)
  else if off = 0x600 then some (idCertByte (4 * k) + 256 * idCertByte (4 * k + 1) + 65536 * idCertByte (4 * k + 2) + 2 ^ 24 * idCertByte (4 * k + 3))
  else none

/-- WOAD (Table 17.13). -/
def State.readWoad (s : State) (off k : Nat) : Option Nat :=
  let w := s.woad
  let staged := match w.shadow with | some x => x.slot | none => 0
  if off = 0x0 then
    let st := if s.tamperLock then 3 else if w.vaultShut then 2 else if w.op.isSome then 1 else 0
    let full := (w.slots.filter (fun (q : Nat × Slot17) => decide (q.2.type ≠ 0))).length
    some (st * 2 ^ 28 + flag w.prov 16 + staged % 256 * 256 + full % 256)
  else if off = 0x1000 then some (s.slot k).attr.toNat
  else if off = 0x1004 then some (s.slot k).uses
  else if off = 0x1008 then some (s.slot k).kcv
  else if off = 0x100C then
    some (match w.shadow with
      | some x => if x.slot = k then 2 ^ 31 + flag x.verified 30 + bits x.attr 31 29 * 2 ^ 27 else 0
      | none => 0)
  else if off = 0x4000 then some (ofLeBytes (((s.slot (k / 8)).pub.drop (4 * (k % 8))).take 4))
  else none

/-- SAFFRON (Table 18.7). -/
def State.readSaffron (s : State) (off : Nat) : Option Nat :=
  let x := s.saff
  if off = 0x0 then
    let st := s.nvState
    some (st * 2 ^ 28 + x.bp % 4 * 2 ^ 24 + x.images.length % 32 * 2 ^ 16 + flag (decide (x.ties ≠ [])) 1 + flag (decide (st = 0 ∨ st = 2 ∨ st = 3)) 0)
  else if off = 0x20 then some x.spares.length
  else if off = 0x24 then some x.wearMax
  else if off = 0x2C then some ((s.reg R.saffronBpStatus).toNat + flag x.chal.isSome 1)
  else none

/-- XBAR (Table 19.10). -/
def State.readXbar (s : State) (off k : Nat) : Option Nat :=
  let x := s.xbar
  if off = 0x24 then
    some (flag (x.inReset.testBit k) 31 + flag (decide (k = 8) && !s.pciePresent) 30 + (match Tbl.find x.xacts k with | some t => 2 ^ 29 + t.target % 32 * 256 | none => 0))
  else if off = 0x100 then
    let busy := x.xacts.any (fun (q : Nat × Xact) => q.2.granted && decide (q.2.target = k))
    some (Tbl.get 0 x.parked k % 16 * 2 ^ 16 + flag busy 0)
  else if off = 0x200 then some (x.smbAddr % 128)
  else if off = 0x220 then some (flag x.pcieUp 31 + x.pcieWidth % 16 * 2 ^ 16 + x.pcieRate % 16)
  else none

/-- TAMPER (Table 17.14). -/
def State.readTamper (s : State) (off : Nat) : Option Nat :=
  if off = 0xC then some s.tamper.current
  else if off = 0x24 then some (s.tamper.status % 256 * 256 + flag s.tamper.chal.isSome 1)
  else none

/-- EVENT (Table 20.9). DEDUCED: an event output pin reads in GPIO_IN as the level driven on it (log entry 53). -/
def State.readEvent (s : State) (off : Nat) : Option Nat :=
  if off = 0x1C then some (s.evlog.held &&& (s.reg R.eventGpioCtrl).toNat)
  else if off = 0x20 then
    let ctrl := (s.reg R.eventGpioCtrl).toNat
    some ((s.evlog.pins &&& (ctrl ^^^ (2 ^ 32 - 1))) ||| (s.evlog.held &&& ctrl))
  else none

/-! One register. -/

/-- What a status register reads, none where it is stored or counted. -/
def State.readStatus (s : State) (h : RegHit) : Option Nat :=
  let off := h.row.off
  match h.blk with
  | .global => s.readGlobal off h.k
  | .pwr => s.readPwr off h.k
  | .hlth => s.readHlth off h.k
  | .madder => s.readMadder off h.k
  | .tgrp => s.readTgrp h.inst off
  | .tile => s.readTile h.inst off
  | .woad => s.readWoad off h.k
  | .saffron => s.readSaffron off
  | .xbar => s.readXbar off h.k
  | .tamper => s.readTamper off
  | .seq => s.readSeq h.inst off
  | .ceq => s.readCeq h.inst off
  | .event => s.readEvent off
  | .port =>
    if 0x800 ≤ off ∧ off < 0x900 then s.readLink (32 + 4 * h.inst + h.k) (off - 0x800)
    else if 0x1000 ≤ off ∧ off < 0x2000 then s.readLane (32 + 4 * h.inst + h.k) (off - 0x1000)
    else s.readPort h.inst off h.k
  | .stack =>
    if off < 0x100 then s.readLink (4 * h.inst + h.k) off
    else if 0x1000 ≤ off then s.readLane (4 * h.inst + h.k) (off - 0x1000)
    else none
  | .stk => s.readStk off
  | .out => s.readOut h.inst off h.k
  | .ochre => s.readOchre off h.k
  | .audio => s.readAudio off h.k
  | .cxl => s.readCxl off h.k
  | .twin => s.readTwin off
  | .flow => s.readFlow h.inst off h.k
  | .msix => none

/-- What a register of an absent unit reads: ABSENT in a status field that has it, else 0 (R2, R494). -/
def absentRead (h : RegHit) : Nat :=
  let off := h.row.off
  match h.blk with
  | .seq => if off = 0x4 then 5 else 0
  | .port => if off = 0x1004 then 0xC * 2 ^ 28 else 0
  | .stack => if off = 0x1004 then 0xC * 2 ^ 28 else 0
  | .flow => if off = 0x40 then 3 else 0
  | .cxl => if off = 0x1004 then 6 * 2 ^ 28 else 0
  | .twin => if off = 0x4 then 6 * 2 ^ 28 else 0
  | .hlth => if off = 0x1010 then 5 else 0
  | _ => 0

/-- The register that holds a counter's count: the low half for one wider than 32 bits. -/
def ctrHome (h : RegHit) (a : Nat) : Option (Nat × Bool) :=
  let off := h.row.off
  let lane := decide (h.blk = .port ∨ h.blk = .stack)
  if lane ∧ (off = 0x1034 ∨ off = 0x103C) then some (a, false)
  else if lane ∧ (off = 0x1038 ∨ off = 0x1040) then some (a - 4, true)
  else if h.blk = .hlth ∧ off = 0x40 then some (a, false)
  else if h.blk = .hlth ∧ off = 0x44 then some (a - 4, true)
  else none

/-- Whether the counters of a block are data-plane counters, read as copied at the last tick boundary (R27). -/
def Blk.copied : Blk → Bool
  | .seq | .ceq | .port | .stack | .stk | .out | .ochre | .audio | .cxl | .twin | .flow | .madder => true
  | _ => false

/-- The count that is readable now (R27). -/
def State.ctrRead (s : State) (b : Blk) (a : Nat) : Nat := Tbl.get 0 (if b.copied then s.snap else s.ctr) a

end Sys2Proof.Machine
end

