-- ==== Sys2Proof/Machine/RegRead.lean ====
section
/-! DEFINITION. A read of one word of the control space by a master (R2, R24, R27, R116, R410, R427, R429, R494, R495). -/

namespace Sys2Proof.Machine

/-! Memories behind the crossbar, by words (R428). -/

/-- Whether an address lies in the reserved part of the SRAM window (Table 8.11): it reads 0 and ignores writes. -/
def sramReserved (a : Nat) : Bool := decide (0x08600000 ≤ a ∧ a < 0x09000000)

/-- The population byte that the CXL aperture shows at a control address (R427). -/
def State.apertureByte (s : State) (a : Nat) : Nat := (a - 0x40000000) + s.regBits R.xbarCxlWin 10 0 * 2 ^ 30

/-- A word of a memory target; none beyond the memory population (R427). -/
def State.memWord (s : State) (a : Nat) : Option Nat :=
  if targetOf a = 22 then some (if sramReserved a then 0 else Memory.readLe s.mem.sram (a - 0x08000000) 4)
  else if targetOf a = 23 then
    if s.apertureByte a + 4 ≤ popBytes s then some (Memory.readLe s.mem.cxl (s.apertureByte a) 4) else none
  else some (Memory.readLe s.mem.prog a 4)

/-! Words latched for a master (R24, R27, R116). -/

/-- Where the word of address a latched for master m is kept; it is kept plus 1. -/
def latchKey (m a : Nat) : Nat := m * 2 ^ 32 + a
def State.latch (s : State) (m a v : Nat) : State := { s with frozen := Tbl.set 0 s.frozen (latchKey m a) (v + 1) }
def State.unlatch (s : State) (m a : Nat) : State := { s with frozen := Tbl.set 0 s.frozen (latchKey m a) 0 }
def State.latched (s : State) (m a : Nat) : Option Nat :=
  match Tbl.find s.frozen (latchKey m a) with | some v => some (v - 1) | none => none

/-- How far a captured TTIME trails, 4 to 8 CLK_D cycles: a free value (R24, log entry 3). -/
def State.readLag (s : State) : Nat × State :=
  let (v, s) := s.freeNat 60
  (4 + v % 5, s)

/-- A read of TTIME_LO captures 64 bits for the master (R24). -/
def State.captureTtime (s : State) (m : Nat) : Nat × State :=
  let (lag, s) := s.readLag
  let t := s.ttime - lag
  (t % 2 ^ 32, { s with capT := Tbl.set 0 s.capT m t })

/-- A read of the low half of a counter wider than 32 bits freezes its high half for the master until it reads it (R27). -/
def State.counterLow (s : State) (m : Nat) (h : RegHit) (a : Nat) : Nat × State :=
  let v := s.ctrRead h.blk a
  (v % 2 ^ 32, s.latch m (a + 4) (v / 2 ^ 32 % 2 ^ 32))

/-- A read of FRAME_LO or LAST_START_LO of group g latches the high word for the master (R116). The value may trail by at most 8 CLK_D cycles;
the model takes the lag as 0 (DESIGN CHOICE, log entry 53). -/
def State.groupLow (s : State) (m g off : Nat) : Nat × State :=
  let v := if off = 0x10 then (s.group g).frame else (s.group g).lastStart
  (v % 2 ^ 32, s.latch m (R.tgrpCtrl g + off + 4) (v / 2 ^ 32 % 2 ^ 32))

/-- The words that a read of PTP_OFS_SEC_LO latches (Table 13.8). -/
def ptpHigh : List Nat := [0x44, 0x48, 0x4C]

/-- RD_DATA: the committed word at RD_ADDR, which advances (R410). -/
def State.rdData (s : State) (corrected : Bool) : Nat × State :=
  let a := (s.reg R.saffronRdAddr).toNat % 0x80000
  let v := Memory.readLe s.mem.nv a 4
  let bad := s.saff.bad.contains (a / 64)
  let s := s.setRegN R.saffronRdStatus (if bad then stCheckFail else stOk)
  let s := if bad then s.eccUncorr (a / 64) else s.eccCorr corrected.toNat
  (v, s.setRegN R.saffronRdAddr ((a + 4) % 0x80000))

/-- What a register of a present unit reads for master m, and what the read does. FAULT_TTIME_LO captures the whole instant for the master
(R67); a captured FAULT, FAULT_WORD or STATE may trail by at most 8 CLK_D cycles, the model takes the lag as 0 (DESIGN CHOICE, log entry 53). -/
def State.readHit (s : State) (m : Nat) (h : RegHit) (a : Nat) : Nat × State :=
  let off := h.row.off
  let plain : Nat := (s.readStatus h).getD (s.ctrRead h.blk a + (s.reg a).toNat)
  if h.row.acc = .wo then (0, s)
  else if a = R.globalTtimeLo then s.captureTtime m
  else if a = R.globalTtimeHi then (Tbl.get 0 s.capT m / 2 ^ 32, s)
  else if a = R.saffronRdData then s.rdData false
  else if h.blk = .tgrp ∧ (off = 0x10 ∨ off = 0x18) then s.groupLow m h.inst off
  else if h.blk = .seq ∧ off = 0x10 then (plain, s.latch m (a + 4) (halfOf true (s.unit h.inst).faultTtime))
  else if h.blk = .seq ∧ off = 0x14 then ((s.latched m a).getD 0, s)
  else if (h.blk = .tgrp ∧ (off = 0x14 ∨ off = 0x1C)) ∨ (h.blk = .madder ∧ ptpHigh.contains off) ∨ (h.blk = .out ∧ off = 0x254) then
    ((s.latched m a).getD plain, s)
  else if h.blk = .out ∧ off = 0x250 then (plain, s.latch m (a + 4) (halfOf true (s.out h.inst).frame))
  else if a = R.madderPtpOfsSecLo then (plain, s.forEach ptpHigh (fun s o => s.latch m (0x30000 + o) ((s.readMadder o 0).getD 0)))
  else if (h.blk = .port ∨ h.blk = .stack) ∧ off = 0x1014 then (plain, (s.freeNat 61).2)
  else if a = R.globalTickNum then (plain, (s.freeNat 60).2)
  else match ctrHome h a with
    | some (_, false) => s.counterLow m h a
    | some (lo, true) => ((s.latched m a).getD (s.ctrRead h.blk lo / 2 ^ 32 % 2 ^ 32), s.unlatch m a)
    | none => (plain, s)

/-- A read of the word at a by master m that its gate lets pass: none where it lies beyond the memory population. -/
def State.readWord (s : State) (m a : Nat) : Option Nat × State :=
  match findReg a with
  | some h =>
    if s.hitHere h then
      let (v, s) := s.readHit m h a
      (some v, s)
    else (some (absentRead h), s)
  | none => if s.unitHere a then (s.memWord a, s) else (some 0, s)

/-- A read by master m: the response (0 OK, 2 DECODE, 4 turned away by the engine's windows, 5 never formed), the data and the state. -/
def State.readBy (s : State) (m a : Nat) : Nat × Nat × State :=
  match s.readGate m a with
  | .pass =>
    match (s.xbarGrant m (targetOf a)).readWord m a with
    | (some v, t) => (0, v, t)
    | (none, t) => (2, 0xFFFFFFFF, t.xbarErr 2 m a false)
  | .denied => (4, 0, s)
  | .ignored => (5, 0, s)
  | _ => (2, 0xFFFFFFFF, s.xbarErr 2 m a false)

/-- A read whose data leave the block: to the host, the firmware, a DMA engine or the TAP. -/
def State.readSend (s : State) (m a : Nat) : State :=
  if 12 ≤ m then s
  else
    let (resp, v, t) := s.readBy m a
    if resp = 0 then t.emit "READ" m a [v] else if resp = 2 then t.emit "READ_ERR" m a [v] else t

/-! Rows of the table. -/

/-- TTIME_LO_READ: master m reads TTIME_LO (R24). -/
def execTtimeLoRead (m : Nat) (s : State) : Host.Outcome State Fault Refusal := .next (s.readSend m R.globalTtimeLo)

/-- COUNTER_LO_READ: master m reads the low half of a counter wider than 32 bits (R27). -/
def execCounterLoRead (m a : Nat) (s : State) : Host.Outcome State Fault Refusal :=
  .next (match findReg a with
    | some h => if (match ctrHome h a with | some (_, false) => true | _ => false) then s.readSend m a else s
    | none => s)

/-- TGRP_FRAME_LO_READ: master m reads FRAME_LO, or LAST_START_LO, of group g (R116). -/
def execTgrpFrameLoRead (m g : Nat) (start : Bool) (s : State) : Host.Outcome State Fault Refusal :=
  .next (if g < 16 then s.readSend m (if start then R.tgrpLastStartLo g else R.tgrpFrameLo g) else s)

/-- RD_DATA_READ: master m reads RD_DATA; whether a sector had to be corrected is the storage's (R410). -/
def execRdDataRead (m : Nat) (corrected : Bool) (s : State) : Host.Outcome State Fault Refusal :=
  .next (if 12 ≤ m then s
    else match s.readGate m R.saffronRdData with
      | .pass =>
        let (v, t) := (s.xbarGrant m 5).rdData corrected
        t.emit "READ" m R.saffronRdData [v]
      | .decode => (s.xbarErr 2 m R.saffronRdData false).emit "READ_ERR" m R.saffronRdData [0xFFFFFFFF]
      | _ => s)

end Sys2Proof.Machine
end

