-- ==== Sys2Proof/Machine/RegWrite.lean ====
section
/-! DEFINITION. A write of one word of the control space by a master: what each register does with a value, and whether it accepts it (R12 to R14, R47, R96, R427, R494 and the register tables of every chapter). -/

namespace Sys2Proof.Machine

/-! Values. -/

/-- Whether every field of a value lies in its range. -/
def fieldsOk (v : Word) (lims : List (Nat × Nat × Nat × Nat)) : Bool :=
  lims.all (fun (q : Nat × Nat × Nat × Nat) => decide (q.2.2.1 ≤ bits v q.1 q.2.1 ∧ bits v q.1 q.2.1 ≤ q.2.2.2))

/-- A value stored under the register's mask where its fields are in range. -/
def State.storeReg (s : State) (h : RegHit) (a : Nat) (v : Word) (ok : Bool := true) : State × Bool :=
  if ok && fieldsOk v h.row.lims then (s.setReg a (maskWrite (s.reg a) v h.row.mask), true) else (s, false)

/-- Whether both digits of a field are decimal. -/
def bcdOk (n : Nat) : Bool := decide (n % 16 ≤ 9 ∧ n / 16 ≤ 9)

/-- Two BCD digits in each field of TC_LOAD_NEXT (Table 7.11). -/
def tcWordOk (v : Word) : Bool := bcdOk (bits v 29 24) && bcdOk (bits v 22 16) && bcdOk (bits v 14 8) && bcdOk (bits v 5 0)

/-- A timing group, or 0xFF for none. -/
def groupOrNone (g : Nat) : Bool := decide (g < 16 ∨ g = 0xFF)

/-! Blocks. -/

/-- GLOBAL (Tables 1.9, 16.8, 21.8, 23.3). -/
def State.writeGlobal (s : State) (h : RegHit) (a : Nat) (v : Word) : State × Bool :=
  if a = R.globalRangeRejectCnt then (if v = 0 then (s.setCtr a 0, true) else (s, false))
  else if a = R.globalReset then s.resetWrite v
  else if a = R.globalBootPush then s.bootPush v
  else if a = R.globalBootPref then
    let s := (s.setRegN a (v.toNat % 2)).modBoot (fun b => { b with pref := v.toNat % 2 })
    (s.postBoot s.pwr.lastCause, true)
  else if a = R.globalRbCommit then s.rbCommit v
  else if a = R.globalAttestCtrl then s.attestReq v
  else if a = R.globalFilt 1 then
    let fp := (List.range 4).any (fun i => s.fpOn i && decide (s.fpAlign i = 1 ∨ s.fpAlign i = 2))
    let tg := (List.range 16).any (fun g => s.groupEnabled g && decide (s.groupSource g = 2 ∨ s.groupSource g = 3))
    s.storeReg h a v (!fp && !tg)
  else s.storeReg h a v

/-- PWR (Tables 15.13 to 15.16). -/
def State.writePwr (s : State) (h : RegHit) (a : Nat) (v : Word) : State × Bool :=
  let off := h.row.off
  if off = 0x0 then s.pwrCtrlWrite v
  else if off = 0x40 then s.pdReqWrite h.k v
  else if off = 0x60 then s.pdFaultWrite h.k v
  else if off = 0x80 then s.storeReg h a v (decide (bits v 21 16 ≤ bits v 29 24))
  else s.storeReg h a v

/-- The factory TRIP of a monitor. -/
def tripFactory (m : Nat) : Int := (monTripReset m : Nat)

/-- Whether WARN, CRIT and TRIP of a monitor are in order (R447). -/
def monOrderOk (m : Nat) (warn crit trip : Int) : Bool :=
  if 80 ≤ m then decide (crit < warn)
  else if 43 ≤ m then decide (warn < crit)
  else decide (warn < crit ∧ crit < trip)

/-- HLTH (R447, R450). -/
def State.writeHlth (s : State) (h : RegHit) (a : Nat) (v : Word) : State × Bool :=
  let off := h.row.off
  let m := h.k
  let warn := sInt (s.reg (R.hlthMonWarn m))
  let crit := sInt (s.reg (R.hlthMonCrit m))
  let trip := sInt (s.reg (R.hlthMonTrip m))
  if off = 0x200 then s.storeReg h a v (decide (s.health.applied = []))
  else if off = 0x1004 then s.storeReg h a v (monOrderOk m (sInt v) crit trip)
  else if off = 0x1008 then s.storeReg h a v (monOrderOk m warn (sInt v) trip)
  else if off = 0x100C then
    if 43 ≤ m then (s, true) else s.storeReg h a v (monOrderOk m warn crit (sInt v) && decide (sInt v ≤ tripFactory m))
  else s.storeReg h a v

/-- MADDER (Tables 13.8 to 13.13). -/
def State.writeMadder (s : State) (h : RegHit) (a : Nat) (v : Word) : State × Bool :=
  let off := h.row.off
  if off = 0x0 then s.madderCtrlWrite v
  else if off = 0x14 then s.fcwWrite v
  else if off = 0x100 then s.candCfgWrite h.k 0 v
  else if off = 0x104 then s.candCfgWrite h.k 1 v
  else if off = 0x108 then s.candCfgWrite h.k 2 v
  else if off = 0x400 then s.fpCtrlWrite h.k v
  else if off = 0x404 then s.fpOffsetWrite h.k v
  else s.storeReg h a v

/-- TGRP[g] and TILE[t] (R115, R164). -/
def State.writeTgrp (s : State) (h : RegHit) (a : Nat) (v : Word) : State × Bool :=
  if h.row.off = 0x0 then s.tgrpCtrlWrite h.inst v
  else if h.row.off = 0x4 then s.phaseWrite h.inst v
  else s.storeReg h a v

def State.writeTile (s : State) (h : RegHit) (a : Nat) (v : Word) : State × Bool :=
  let off := h.row.off
  if off = 0x0 then s.tileCtrlWrite h.inst v
  else if off = 0x8 ∨ off = 0xC then
    let here (i : Nat) : Bool := s.outPresent ((if off = 0x8 then 0 else 32) + i)
    s.storeReg h a v (!s.tileEnabled h.inst && (List.range 32).all (fun i => !bit v i || here i))
  else if off = 0x10 then s.storeReg h a v (!s.tileEnabled h.inst)
  else s.storeReg h a v

/-- WOAD (Table 17.13, R384): a new sealing binding reseals (R414). -/
def State.writeWoad (s : State) (m : Nat) (h : RegHit) (a : Nat) (v : Word) : State × Bool :=
  if !vaultMaster m then (s, false)
  else if a = R.woadCmd then
    match bits v 31 28 with
    | 1 => let t := s.regBits R.woadArg1 31 29
      if t = 0 ∨ 4 < t then (s, false) else s.woadCmd m v 1 State.stage
    | 2 => s.woadCmd m v 2 State.woadVerify
    | 3 => s.woadCmd m v 3 State.woadCommit
    | 4 => s.woadCmd m v 4 State.woadAbort
    | 5 => s.woadCmd m v 5 State.woadErase
    | 6 => s.woadCmd m v 6 State.woadAttr
    | 7 => s.woadCmd m v 7 (fun s i => s.woadMake i 2)
    | 8 => s.woadCmd m v 8 (fun s i => s.woadMake i 4)
    | _ => (s, false)
  else if a = R.woadProvClose then s.provClose m v
  else if a = R.woadBindSeal then
    let (t, ok) := s.storeReg h a v
    (if ok then t.sealKeyChange else t, ok)
  else s.storeReg h a v

/-- SAFFRON (Table 18.7, R407, R424). -/
def State.writeSaffron (s : State) (m : Nat) (h : RegHit) (a : Nat) (v : Word) : State × Bool :=
  if !vaultMaster m then (s, false)
  else if a = R.saffronWrAddr then s.storeReg h a v (decide (bits v 1 0 = 0))
  else if a = R.saffronWrData then s.wrData m v
  else if a = R.saffronCommit then s.nvCommitWrite m v
  else if a = R.saffronBpCtrl then
    let (s1, ok1) := if bit v 1 then s.bpSubmit m else (s, true)
    let (s2, ok2) := if ok1 && bit v 0 then s1.bpChal m else (s1, true)
    (s2, ok1 && ok2)
  else if a = R.saffronRecCmd then s.recCmd m v (bits v 31 28)
  else s.storeReg h a v

/-- XBAR (R435, R444): the classes of MC0 to MC3 are read-only. -/
def State.writeXbar (s : State) (h : RegHit) (a : Nat) (v : Word) : State × Bool :=
  let w := bits v 4 0
  if a = R.xbarBar0Win then s.storeReg h a v (decide (w = 1 ∨ w = 2 ∨ (8 ≤ w ∧ w ≤ 15)))
  else if h.row.off = 0x20 ∧ h.k < 4 then (s, true)
  else s.storeReg h a v

/-- TAMPER (Table 17.14); a SUBMIT samples the sources that alarm. -/
def State.writeTamper (s : State) (h : RegHit) (a : Nat) (v : Word) : State × Bool :=
  if a = R.tamperArm then s.armWrite v
  else if a = R.tamperCtrl then s.tamperCtrlWrite v
  else if a = R.tamperUnlockSlot then s.unlockSlotWrite v
  else if a = R.tamperUnlockCtrl then s.unlockCtrl v s.tamper.current
  else s.storeReg h a v

/-- SEQ[u] and the queue registers (Tables 2.12, 2.13, 8.16). -/
def State.writeSeq (s : State) (h : RegHit) (a : Nat) (v : Word) : State × Bool :=
  if h.row.off = 0x0 then s.seqCtrlWrite h.inst v
  else if h.row.off = 0x60 then s.kick h.inst v
  else (s.modUnit h.inst (fun x => x.keepPar h.k (s.reg a) (seenCycle h.inst s.ttime))).storeReg h a v

def State.writeCeq (s : State) (h : RegHit) (a : Nat) (v : Word) : State × Bool :=
  let off := h.row.off
  if off = 0x80 then s.qCtrlWrite h.inst v
  else if off = 0x88 then s.doorbell h.inst v.toNat
  else if off = 0x90 then s.cqHeadWrite h.inst v.toNat
  else if off = 0x98 then s.qResume h.inst v
  else s.storeReg h a v

/-- EVENT (Table 20.9): floors 5 and 6 are out of range. -/
def State.writeEvent (s : State) (h : RegHit) (a : Nat) (v : Word) : State × Bool :=
  let floor (n : Nat) : Bool := decide (n ≠ 5 ∧ n ≠ 6)
  if a = R.eventLogHead then s.logHeadWrite v
  else if a = R.eventLogRead then s.logReadWrite v
  else if a = R.eventMsixPend ∨ a = R.eventAlarmPend then s.clearPend a v
  else if a = R.eventGpioClr then s.gpioClear v
  else if h.row.off = 0x40 then s.storeReg h a v (floor (bits v 26 24) && floor (bits v 14 12) && floor (bits v 10 8))
  else s.storeReg h a v

/-- Lane and link registers (Tables 10.8 to 10.12, R263, R264). -/
def State.writeLane (s : State) (h : RegHit) (a L off : Nat) (v : Word) : State × Bool :=
  if off = 0x0 then s.lnCtrlWrite L v
  else if off = 0x8 then s.rearmWrite L v
  else if off = 0xC then s.storeReg h a v (decide (bits v 4 0 ≤ bits v 12 8))
  else if off = 0x10 then s.storeReg h a v (decide (bits v 21 16 + bits v 5 0 ≤ bits v 13 8))
  else if off = 0x20 then s.storeReg h a v (decide ((s.lane L).state = .test) || (!bit v 15 && !bit v 14))
  else if off = 0x2C then s.injWrite L v
  else s.storeReg h a v

/-- Whether a link of a group or port is enabled (R270). -/
def State.anyLinkOn (s : State) (l0 : Nat) : Bool := (List.range 4).any (fun k => bit (s.reg (lkRegs (l0 + k))) 31)

/-- PORT[n] (Tables 3.8, 10.13, R267, R270). -/
def State.writePort (s : State) (h : RegHit) (a : Nat) (v : Word) : State × Bool :=
  let n := h.inst
  let off := h.row.off
  if off = 0x0 then s.portModeWrite n v
  else if off = 0xC then s.storeReg h a v (!bit v 16 || decide (bits v 11 0 ≠ 0 ∧ bits v 11 0 ≠ 0xFFF))
  else if off = 0x400 then s.storeReg h a v (decide (s.portFlows n = 0))
  else if off = 0x600 then s.storeReg h a v (!bit v 0)
  else if 0x800 ≤ off ∧ off < 0x900 then s.lkCtrlWrite (32 + 4 * n + h.k) v
  else if off = 0x900 then s.storeReg h a v (!s.anyLinkOn (32 + 4 * n))
  else if 0x1000 ≤ off ∧ off < 0x2000 then s.writeLane h a (32 + 4 * n + h.k) (off - 0x1000) v
  else s.storeReg h a v

/-- STACK[g] (R270). -/
def State.writeStack (s : State) (h : RegHit) (a : Nat) (v : Word) : State × Bool :=
  let g := h.inst
  let off := h.row.off
  if off < 0x100 then (if s.twinOwns (4 * g + h.k) then (s, false) else s.lkCtrlWrite (4 * g + h.k) v)
  else if off = 0x200 then s.storeReg h a v (!s.anyLinkOn (4 * g))
  else if 0x1000 ≤ off then s.writeLane h a (4 * g + h.k) (off - 0x1000) v
  else s.storeReg h a v

/-- A routing word that the firmware writes at a route of destination d: 6 or more hops are not loaded, and a destination that no route is left to
is reported on the master (R280); a word that names no hop of 1 to 32 links is not loaded (Table 11.4), nor one that names the link set of the
entry's other route (R274). -/
def State.routeWrite (s : State) (d r : Nat) (v : Word) : State :=
  let other := s.route d (1 - r)
  let a := R.stkRoute (2 * d + r)
  if bit v 31 && decide (5 < bits v 30 28) then
    let s := s.setReg a 0
    if s.isMaster && !bit other 31 then s.raise 0x9015 sevWarn kOther 0 d else s
  else if !routeWordOk v || (bit v 31 && bit other 31 && decide (bits v 27 22 = bits other 27 22 ∧ bits v 8 0 = bits other 8 0)) then s
  else s.setReg a (maskWrite 0 v 0xFFC001FF)

/-- STK: a routing entry, by the firmware (R276). -/
def State.writeStk (s : State) (m a : Nat) (v : Word) : State × Bool :=
  if R.stkRoute 0 ≤ a ∧ a < R.stkRoute 4096 then
    let i := (a - R.stkRoute 0) / 4
    (if m < 4 then s.routeWrite (i / 2) (i % 2) v else s, decide (m < 4))
  else (s, true)

/-- The mask of word i of an insert slot (Table 7.11). -/
def insMask (i : Nat) : Nat := if i = 0 then 0xDFFFFFFF else if i = 1 then 0xFF else 0x3FFFFFFF

/-- OUT[n] (Tables 4.14 to 4.16, 5.13 to 5.15, 6.12, 6.13, 6.15, 7.11). -/
def State.writeOut (s : State) (h : RegHit) (a : Nat) (v : Word) : State × Bool :=
  let n := h.inst
  let o := s.out n
  let off := h.row.off
  let inTile := match s.tileOf n with | some t => s.tileEnabled t | none => false
  if off = 0x8 then s.storeReg h a v (!bit v 31 || !o.hasTim || decide (bits v 12 0 < o.tim.firstActive))
  else if off = 0x30 ∨ off = 0x34 ∨ off = 0x38 then
    s.storeReg h a v (decide (o.cur.kind ≠ 5) && (match o.pend with | some p => decide (p.src.kind ≠ 5) | none => true))
  else if off = 0x118 then s.storeReg h a v (!bit v 19 || decide (bits v 23 22 = 2))
  else if off = 0x210 then s.storeReg h a v (groupOrNone (bits v 7 0))
  else if off = 0x248 then s.storeReg h a v (!inTile)
  else if off = 0x300 then s.storeReg h a v (decide (bits v 19 16 ≤ 3))
  else if off = 0x504 then s.storeReg h a v (tcWordOk v)
  else if off = 0x2000 then (s.setReg a (maskWrite 0 v (insMask (h.k % 128))), true)
  else s.storeReg h a v

/-- OCHRE (Table 9.11, R238, R239). -/
def State.writeOchre (s : State) (m : Nat) (h : RegHit) (a : Nat) (v : Word) : State × Bool :=
  let j := h.k
  let off := h.row.off
  if off < 0x30000 then (s, true)
  else if !obMayWrite m j then (s, false)
  else if off = 0x30000 then s.obCtrlWrite m j v
  else if off = 0x30014 then s.obTailWrite m j v
  else if off = 0x30004 ∨ off = 0x30008 then s.storeReg h a v (!s.obEnabled j)
  else if off = 0x3000C then
    s.storeReg h a v (!s.obEnabled j && ((List.range 9).map (fun i => 2 ^ (i + 4))).contains v.toNat)
  else s.storeReg h a v

/-- The mask of word w of a DEST entry (Table 7.9). -/
def destMask (w : Nat) : Nat := if w = 1 then 0x3FF else if w = 2 then 0xFFFFFFFF else 0x7FFFFF

/-- AUDIO (Tables 7.8 to 7.10, R174, R182). -/
def State.writeAudio (s : State) (h : RegHit) (a : Nat) (v : Word) : State × Bool :=
  let off := h.row.off
  if off = 0x0 then
    let flows := s.flows.any (fun (q : Nat × Flow) => q.2.valid && decide (q.2.ftype = 1))
    let dests := (List.range 512).any (fun d => bit (s.dest d) 31)
    let delays := s.regs.any (fun (q : Nat × Word) => decide (R.audioOcDelay 0 ≤ q.1 ∧ q.1 < R.audioOcDelay 8192 ∧ q.1 % 16 = R.audioOcDelay 0 % 16))
    s.storeReg h a v (!(flows || dests || delays))
  else if off = 0x100 then
    let (t, ok) := s.storeReg h a v
    (if ok && !bit v 0 then (t.audioLose true h.k).setAes h.k Aes.reset else t, ok)
  else if off = 0x1000 then s.destWrite h.k v
  else if off = 0x1004 ∨ off = 0x1008 ∨ off = 0x100C then
    let w := (off - 0x1000) / 4
    if bit (s.dest h.k) 31 ∨ (w = 1 ∧ bits v 9 8 = 3) then (s, false) else (s.setReg a (maskWrite 0 v (destMask w)), true)
  else if off = 0x10004 then
    let (t, ok) := s.storeReg h a v
    (if ok then t.ocRamps s h.k else t, ok)
  else if off = 0x10008 then s.storeReg h a v (decide (bits v 18 16 ≤ 3))
  else if off = 0x1000C then s.delayWrite h.k v
  else s.storeReg h a v

/-- CXL (Table 14.8). -/
def State.writeCxl (s : State) (h : RegHit) (a : Nat) (v : Word) : State × Bool :=
  if a = R.cxlHallocSize then s.halloc v
  else if a = R.cxlHfree then s.hfree v
  else if h.row.off = 0x1000 then s.storeReg h a v (!s.boot.ready)
  else s.storeReg h a v

/-- TWIN (R304). -/
def State.writeTwin (s : State) (h : RegHit) (a : Nat) (v : Word) : State × Bool :=
  if a = R.twinCtrl then s.twinCtrlWrite v
  else if a = R.twinCmd then
    match bits v 1 0 with
    | 1 => (s.attach, true)
    | 2 => (s.detach, true)
    | 3 => (s.switchCmd, true)
    | _ => (s, false)
  else if h.row.off = 0x100 then s.storeReg h a v (!bit (s.reg R.twinCtrl) 31)
  else s.storeReg h a v

/-- FLOW[f] (R96, Tables 3.12 and 3.15). -/
def State.writeFlow (s : State) (h : RegHit) (a : Nat) (v : Word) : State × Bool :=
  let x := s.flow h.inst
  if !x.valid then (s, false)
  else if h.row.off = 0x30 then s.storeReg h a v (groupOrNone (bits v 15 8))
  else if h.row.off = 0x34 then s.storeReg h a v (decide (1 ≤ bits v 6 0 ∧ bits v 6 0 ≤ x.window))
  else s.storeReg h a v

/-- The MSI-X table (R438): a pending vector that is unmasked sends its message. -/
def State.writeMsix (s : State) (h : RegHit) (a : Nat) (v : Word) : State × Bool :=
  if h.row.off ≠ 0 then (s, true)
  else if h.k % 4 = 3 then
    let was := s.msixMasked (h.k / 4)
    let s := s.setRegN a (v.toNat % 2)
    (if was ∧ v.toNat % 2 = 0 then s.msixUnmask (h.k / 4) else s, true)
  else (s.setReg a (if h.k % 4 = 0 then v &&& 0xFFFFFFFC else v), true)

/-- A write of a register of a present unit: the state it leads to, and whether the register accepts the value. A read-only register ignores
it (R12). -/
def State.writeHit (s : State) (m : Nat) (h : RegHit) (a : Nat) (v : Word) : State × Bool :=
  if h.blk = .stk then s.writeStk m a v
  else if h.blk = .flow ∧ !(s.flow h.inst).valid then (s, false)
  else if h.row.acc = .ro then (s, true)
  else match h.blk with
    | .global => s.writeGlobal h a v
    | .pwr => s.writePwr h a v
    | .hlth => s.writeHlth h a v
    | .madder => s.writeMadder h a v
    | .tgrp => s.writeTgrp h a v
    | .tile => s.writeTile h a v
    | .woad => s.writeWoad m h a v
    | .saffron => s.writeSaffron m h a v
    | .xbar => s.writeXbar h a v
    | .tamper => s.writeTamper h a v
    | .seq => s.writeSeq h a v
    | .ceq => s.writeCeq h a v
    | .event => s.writeEvent h a v
    | .port => s.writePort h a v
    | .stack => s.writeStack h a v
    | .stk => s.writeStk m a v
    | .out => s.writeOut h a v
    | .ochre => s.writeOchre m h a v
    | .audio => s.writeAudio h a v
    | .cxl => s.writeCxl h a v
    | .twin => s.writeTwin h a v
    | .flow => s.writeFlow h a v
    | .msix => s.writeMsix h a v

/-! Memories. -/

/-- The bank that is active in the cycle of TTIME: in the cycle of a bank swap the one after it (R47). -/
def UnitState.bankNow (x : UnitState) : Nat := if x.swapDue && x.swapArmed then 1 - x.bank else x.bank

/-- Whether a control-side write of program memory is taken: not the active bank of a sequencer that runs, waits or is about to start, not the
memory of an engine that executes a block (R47). -/
def State.progWritable (s : State) (a : Nat) : Bool :=
  let u := unitOfMem a
  let x := s.unit u
  if u < 128 then
    let active := decide ((a - unitMemBase u) / 0x8000 = x.bankNow)
    !(active && (decide (x.run = .run) || decide (x.run = .wait) || x.start.isSome))
  else (s.ce (u - 128)).exec.isNone

/-- Bytes written into a memory target; none beyond the memory population (R427). Enabled bytes are given from an address upward. -/
def State.memWrite (s : State) (a : Nat) (bs : List Byte) : Option (State × Bool) :=
  if targetOf a = 22 then some (if sramReserved a then s else s.sramPut (a - 0x08000000) bs, true)
  else if targetOf a = 23 then
    if s.apertureByte a + bs.length ≤ popBytes s then some (s.cxlPut (s.apertureByte a) bs, true) else none
  else if s.progWritable a then
    let u := unitOfMem a
    some ((s.unitWrite u (a - unitMemBase u) bs).modUnit u (fun x => x.keepCtl a bs.length (cycleOf u s.ttime)), true)
  else some (s, false)

/-! A word. -/

/-- A write of the word at a by master m, and its response: 0 OK, 1 REJECT, 2 DECODE, 4 turned away by the engine's windows, 5 never formed
or ignored. -/
def State.writeBy (s : State) (m a : Nat) (v : Word) : Nat × State :=
  match s.writeGate m a with
  | .pass =>
    match findReg a with
    | some h =>
      let r := s.writeHit m h a v
      (if r.2 then 0 else 1, s.regWriteBy m a r)
    | none =>
      match s.memWrite a (leBytes 4 v.toNat) with
      | some (t, true) => (0, t.xbarGrant m (targetOf a))
      | some (_, false) => (1, (s.xbarGrant m (targetOf a)).writeReject m a)
      | none => (2, (s.xbarGrant m (targetOf a)).xbarErr 2 m a true)
  | .reject => (1, s.regWriteBy m a (s, true))
  | .decode => (2, s.regWriteBy m a (s, true))
  | .denied => (4, s)
  | .ignored => (5, s)

/-- REGISTER_WRITE: master m writes a word (R14). -/
def execRegisterWrite (m a : Nat) (v : Word) (s : State) : Host.Outcome State Fault Refusal :=
  .next (if m < 12 then (s.writeBy m a v).2 else s)

end Sys2Proof.Machine
end

