-- ==== Sys2Proof/Machine/UmberXbar.lean ====
section
/-! DEFINITION. WR and RD of the command engines through the control crossbar (R211, R212, Table 8.6), and the end of transactions at the
crossbar: timeouts, master resets, DECODE (R429 to R433, R441, R442). -/

namespace Sys2Proof.Machine

/-! WR and RD. -/

/-- The registers that WR may write inside an atomic group: staged ones, INS and the parameters of a sequencer (R212). -/
def groupWritable (a : Nat) : Bool :=
  match findReg a with
  | none => false
  | some h =>
    let o := h.row.off
    match h.blk with
    | .out => decide ((0x100 ≤ o ∧ o < 0x11C) ∨ (0x200 ≤ o ∧ o < 0x214) ∨ (0x300 ≤ o ∧ o < 0x310) ∨ (0x500 ≤ o ∧ o < 0x590) ∨ o = 0x2000)
    | .tile => decide (0x14 ≤ o ∧ o < 0x24)
    | .seq => decide (o = 0x40)
    | _ => false

/-- The status that an engine sees for a response (Table 19.3). -/
def xbarStatus (resp : Nat) : Nat := if resp = 1 then stRange else if resp = 2 ∨ resp = 4 then stDenied else stOk

/-! Arbitration (R430, R431). -/

/-- A target has granted a transaction that is not yet ended. -/
def State.xbarBusy (s : State) (t : Nat) : Bool := s.xbar.xacts.any (fun (q : Nat × Xact) => q.2.granted && decide (q.2.target = t))

/-- The class at which a request stands: that of its master when it was issued, 3 once it has waited 2,048 management cycles. -/
def Xact.classAt (x : Xact) (now : Nat) : Nat := if x.issued + 2048 * mgmtCycle ≤ now then 3 else x.cls

/-- The master that a target grants next: the highest class; within it round-robin in ID order after the last one granted. -/
def State.xbarNext (s : State) (t : Nat) : Option Nat :=
  let waits := s.xbar.xacts.filter (fun (q : Nat × Xact) => decide (q.2.target = t) && !q.2.granted)
  let top := waits.foldl (fun m (q : Nat × Xact) => max m (q.2.classAt s.ttime)) 0
  let last := Tbl.get 0 s.xbar.parked t
  let ms := (waits.filter (fun (q : Nat × Xact) => decide (q.2.classAt s.ttime = top))).map Prod.fst
  match ms.find? (fun m => decide (last < m)) with
  | some m => some m
  | none => ms.head?

/-- A transaction of one word of an engine that has no response yet: the engine stalls. A request to a target with no transaction in progress is
granted. -/
def State.engineWaits (s : State) (e a : Nat) (write : Bool) (r : XbarEnd) (data : Word) (dst : VReg) : State :=
  let x : Xact := { target := targetOf a, addr := a, write := write, delivered := if r = .accepted then 1 else 0,
                    granted := decide (r = .accepted ∨ r = .granted) || !s.xbarBusy (targetOf a), issued := s.ttime,
                    cls := s.regBits (R.xbarMasterCfg (4 + e)) 1 0, data := data, dst := dst }
  let s := if x.granted then s.xbarGrant (4 + e) x.target else s
  { s with xbar := { s.xbar with xacts := Tbl.set Xact.none s.xbar.xacts (4 + e) x } }.modUnit (128 + e) (fun u => { u with stalled := true })

/-- What refuses a WR before any transaction is made: outside a group its window, inside one the group's expiry, the addresses that a member may
write, its 64 members (R211 to R213). -/
def State.wrRefused (s : State) (u a : Nat) : Bool :=
  !ceWindow true a || (match s.openGroup u with
    | none => false
    | some g => g.expired || !groupWritable a || decide (64 ≤ g.count))

/-- WR: one register written through the crossbar (R211, R212); `r` says how far the transaction comes. What the target took stands while the
engine waits for an answer. -/
def execWr (u : Nat) (a b : VReg) (r : XbarEnd) (s : State) : Host.Outcome State Fault Refusal :=
  .next (s.umber u (encM 0x3C 0 a b 0) true [a, b] (fun s _ =>
    let adr := (s.v u a).toNat
    let e := u - 128
    if adr % 4 ≠ 0 then .error fltOperand
    else if s.wrRefused u adr then .ok (s.media u (ceWindow true adr && ((s.openGroup u).isNone || groupWritable adr)) (fun _ s => .ok s))
    else
      let (resp, t) := if r = .answered ∨ r = .accepted then s.writeBy (4 + e) adr (s.v u b) else (0, s)
      if r = .answered then .ok (t.media u true (fun _ s => if xbarStatus resp = stOk then .ok s else .error (xbarStatus resp)))
      else .ok ((t.media u true (fun _ s => .ok s)).engineWaits e adr true r (s.v u b) 0)))

/-- RD: one register read through the crossbar; vd is written on OK only (R211). -/
def execRd (u : Nat) (d a : VReg) (r : XbarEnd) (s : State) : Host.Outcome State Fault Refusal :=
  .next (s.umber u (encM 0x3C 1 a d 0) true [a] (fun s _ =>
    let adr := (s.v u a).toNat
    let e := u - 128
    if adr % 4 ≠ 0 then .error fltOperand
    else if !ceWindow false adr then .ok (s.mediaResult u stDenied)
    else if r = .answered then
      let (resp, v, t) := s.readBy (4 + e) adr
      let t := if resp = 0 then t.setV u d (word v) else t
      .ok (t.mediaResult u (xbarStatus resp) (if resp = 0 then d else 0))
    else .ok (s.engineWaits e adr false r 0 d)))

/-! Transactions ended (R429, R433). -/

/-- What of a transaction in progress the target took stands: a write burst's beats delivered, a single beat accepted. A read changes nothing. -/
def State.takeBeats (s : State) (m : Nat) (x : XbarXact) : State :=
  if !x.granted then s
  else
    let s := s.xbarGrant m (targetOf x.addr)
    let beats := x.writes.take x.delivered
    if memTarget (targetOf x.addr) then
      s.forEach beats.flatten (fun (s : State) (q : Nat × Byte) => match s.memWrite q.1 [q.2] with | some (t, true) => t | _ => s)
    else match beats with
      | bs :: _ => (s.writeBy m x.addr (word (ofLeBytes (bs.map Prod.snd)))).2
      | [] => s

/-- A transaction in progress at a master: the one on record, or the one described. -/
def State.inProgress (s : State) (m : Nat) (x : XbarXact) : State :=
  match Tbl.find s.xbar.xacts m with
  | some _ => s
  | none =>
    if x.writes = [] ∧ x.readBeats = 0 then s else
    let s := s.takeBeats m x
    let r : Xact := { target := targetOf x.addr, addr := x.addr, write := x.writes ≠ [], beats := max x.writes.length x.readBeats,
                      delivered := if x.granted then min x.delivered (max x.writes.length x.readBeats) else 0, granted := x.granted, issued := s.ttime }
    { s with xbar := { s.xbar with xacts := Tbl.set Xact.none s.xbar.xacts m r } }

/-- The instant of a transaction's timeout: 16,000 management cycles after issue, 256,000 for a write to SAFFRON (R429). -/
def Xact.deadline (x : Xact) : Nat := x.issued + (if x.write ∧ x.target = 5 then 256000 else 16000) * mgmtCycle

/-- A member of an atomic group that ended with a status other than OK marks the group failed (R212). -/
def State.memberFails (s : State) (e st : Nat) : State :=
  match (s.ce e).grp with
  | none => s
  | some g => s.modCe e (fun c => { c with grp := some { g with failed := true },
                                           groupFail := if g.failed then c.groupFail else word (2 ^ 31 + st * 256 + g.count % 128) })

/-- A transaction of master m has no response in time: it is ended under R433, and a stalled engine goes on with TIMEOUT. -/
def State.xactTimeout (s : State) (m : Nat) : State :=
  match Tbl.find s.xbar.xacts m with
  | none => s
  | some x =>
    let s := if 4 ≤ m ∧ m ≤ 7 then s.advance x.deadline else s
    let s := (s.xbarErr 3 m x.addr x.write).endXact m
    if 4 ≤ m ∧ m ≤ 7 then
      let s := if x.write then s.memberFails (m - 4) stTimeout else s
      s.unstall (m - 4) stTimeout
    else s

/-- The request of an engine granted after a wait is answered: its write is made or its register read, and the engine goes on (R211, R430). -/
def State.xbarServe (s : State) (m : Nat) (x : Xact) : State :=
  let s := { s with xbar := { s.xbar with xacts := Tbl.set Xact.none s.xbar.xacts m Xact.none } }
  let u := 124 + m
  if x.write then
    let (resp, t) := s.writeBy m x.addr x.data
    let t := if xbarStatus resp = stOk then t else t.memberFails (m - 4) (xbarStatus resp)
    t.unstall (m - 4) (xbarStatus resp)
  else
    let (resp, v, t) := s.readBy m x.addr
    (if resp = 0 then t.setV u x.dst (word v) else t).unstall (m - 4) (xbarStatus resp)

/-- A target that has no transaction in progress any longer grants the requests that wait for it, one after the other (R430). -/
def State.xbarArbitrate (s : State) (t : Nat) : State :=
  s.forEach (List.range 4) (fun s _ =>
    if s.xbarBusy t then s
    else match s.xbarNext t with
      | some m => (match Tbl.find s.xbar.xacts m with | some x => s.xbarServe m x | none => s)
      | none => s)

/-- What ends the transaction of master m, and the arbitration at the target that it frees. -/
def State.xbarFrees (s : State) (m : Nat) (f : State → State) : State :=
  match Tbl.find s.xbar.xacts m with
  | some x => (f s).xbarArbitrate x.target
  | none => f s

/-- XBAR_TIMEOUT: master m's transaction, the one of a stalled engine or the one described (R429). -/
def execXbarTimeout (m : Nat) (x : XbarXact) (s : State) : Host.Outcome State Fault Refusal :=
  .next (if 12 ≤ m then s
    else if 4 ≤ m ∧ m ≤ 7 then s.xbarFrees m (fun s => s.xactTimeout m)
    else (s.inProgress m x).xbarFrees m (fun s => s.xactTimeout m))

/-- SEQ[u].CTRL.HALT written by master m (R65, R220); an engine's transaction ends with its command (R432). -/
def execSeqCtrlHalt (m u : Nat) (s : State) : Host.Outcome State Fault Refusal :=
  .next (if u < 128 then s.ctrlBit m u (s.seqHalt u) else s.xbarFrees (u - 124) (fun s => s.ctrlBit m u (s.seqHalt u)))

/-- The command of engine e exceeds its TIMEOUT: it ends with TIMEOUT, its group discarded, its salvo going on at its master (R220). -/
def execBlockTimeout (e : Nat) (s : State) : Host.Outcome State Fault Refusal :=
  .next (match (s.ce e).exec with
    | some x => s.xbarFrees (4 + e) (fun s =>
        let s := (s.advance x.deadline).raise 0x8025 sevWarn kCe e x.tag.toNat
        (s.bump (R.ceqBlockTimeoutCnt e)).endCommand e stTimeout)
    | none => s)


/-- Master m is reset: its transaction ends under R433, what was captured for it is cleared, targets parked on it park on MC0 (R431, R432). -/
def State.resetMaster (s : State) (m : Nat) : State :=
  let s := (s.endXact m).masterClear m
  let x := s.xbar
  { s with xbar := { x with inReset := setBit x.inReset m,
                            parked := x.parked.foldl (fun t (p : Nat × Nat) => if p.2 = m then Tbl.set 0 t p.1 0 else t) x.parked } }

/-- XBAR_MASTER_RESET: master m is reset with a transaction in progress (R433). An engine's reset is the end of its command (R432). -/
def execXbarMasterReset (m : Nat) (x : XbarXact) (s : State) : Host.Outcome State Fault Refusal :=
  .next (if 12 ≤ m then s
    else if 4 ≤ m ∧ m ≤ 7 then (match s.seqHalt (124 + m) with | some t => s.xbarFrees m (fun _ => t) | none => s)
    else (s.inProgress m x).xbarFrees m (fun s => s.resetMaster m))

/-- XBAR_DECODE: an access by master m that has no target, is not permitted, or has a size that its target does not take (R428, R429). -/
def execXbarDecode (m a : Nat) (write badSize : Bool) (s : State) : Host.Outcome State Fault Refusal :=
  .next (if 12 ≤ m ∨ 2 ^ 32 ≤ a then s
    else match (if write then s.writeGate m a else s.readGate m a) with
      | .decode => s.xbarErr 2 m a write
      | .denied => s
      | .ignored => s
      | .pass => if badSize then s.xbarErr 2 m a write else s
      | .reject => if badSize then s.xbarErr 2 m a write else s)

end Sys2Proof.Machine
end

