-- ==== Sys2Proof/Machine/Pins.lean ====
section
/-! DEFINITION. What the block drives on its output contacts (Table 21.3, R464, R473), read from its state. -/

namespace Sys2Proof.Machine

/-- An output contact of J3 or J4. -/
inductive Contact where
  | ioGood
  | pwrGood
  | alarmN
  | tamperN
  | twinPresentOutN
  | refState (k : Nat)
  | fpOut (i : Nat)
  | gpio (p : Nat)
  | aesOut (i : Nat)
  | cxPerstN (x : Nat)
  deriving DecidableEq, Repr

/-- What a contact carries: a level, nothing driven, or a biphase-mark stream of a pair of output channels with its channel status. -/
inductive Level where
  | low
  | high
  | released
  | aes (c : Nat) (status : (Nat × Nat) ⊕ List Nat)
  deriving DecidableEq, Repr

def Level.of (b : Bool) : Level := if b then .high else .low

/-- An open-drain contact: driven low, or released. -/
def Level.pull (b : Bool) : Level := if b then .low else .released

/-- Whether the pulse of FP_OUT[i] lasts now: WIDTH cycles from its instant (R320). -/
def State.fpPulsing (s : State) (i : Nat) : Bool :=
  match (s.fpOut i).last with
  | some t => decide (t ≤ s.ttime ∧ s.ttime < t + s.regBits (R.madderFpCtrl i) 15 0)
  | none => false

/-- FP_OUT[i]: low until it is enabled, then its pulse in its polarity (R320, Table 13.13). -/
def State.fpOutLevel (s : State) (i : Nat) : Level :=
  let w := s.reg (R.madderFpCtrl i)
  if bit w 31 then .of (s.fpPulsing i == bit w 30) else .low

/-- AES_OUT[i]: low while its pair is disabled (R473), and else the stream of its two output channels (R182, R183). -/
def State.aesOutLevel (s : State) (i : Nat) : Level :=
  if bit (s.reg (R.audioAesOutCtrl i)) 0 then .aes (8160 + 2 * i) (s.pairStatus (8160 + 2 * i) s.audioFast) else .low

/-- CXx_PERST_N: released from low at step 10 of Table 16.5; low on an absent port, an excluded port and a lost one (R464). -/
def State.cxReleased (s : State) (x : Nat) : Bool :=
  s.cxlPresent x && decide (10 ≤ s.boot.stage ∧ s.boot.stage ≤ 13) && decide ((s.cxPort x).cause = 0)
    && decide ((s.cxPort x).link ≠ 4 ∧ (s.cxPort x).link ≠ cxExcluded)

/-- What an output contact carries. One that is not always-on is unpowered before IO_GOOD; an open-drain one that the always-on domain pulls low
(R467, R490) is low in any state (Table 21.3). -/
def State.contact (s : State) (c : Contact) : Level :=
  match c with
  | .ioGood => .of s.pwr.ioGood
  | .pwrGood => .of s.pwr.pwrGood
  | .alarmN => .pull s.alarmLow
  | .tamperN => .pull s.tamper.latched
  | .twinPresentOutN => .pull (decide (s.pwr.state ≠ 0))
  | .refState k => if s.pwr.ioGood then .of ((s.madder.st % 8).testBit k) else .released
  | .fpOut i => if s.pwr.ioGood then s.fpOutLevel i else .released
  | .gpio p => if s.pwr.ioGood && bit (s.reg R.eventGpioCtrl) p then .of (s.evlog.held.testBit p) else .released
  | .aesOut i => if s.pwr.ioGood then s.aesOutLevel i else .released
  | .cxPerstN x => if s.pwr.ioGood then .of (s.cxReleased x) else .released

end Sys2Proof.Machine
end

