-- ==== Sys2Proof/Machine/Time.lean ====
section
/-! DEFINITION. Ticks and system time: what happens at a tick boundary (R21, R27, R263, R278, R300, R336), TIME messages and the one load of TTIME (R20, R278). -/

namespace Sys2Proof.Machine

/-! The load of TTIME (R278). -/

/-- An instant moved with TTIME. -/
def shiftT (d : Int) (t : Nat) : Nat := ((t : Int) + d).toNat

/-- The ticks that a phase of a lane's bring-up lasts. -/
def Lane.span (x : Lane) : Nat :=
  match x.state with
  | .detect => 160 * tickLen
  | .train => 32 * tickLen
  | .negotiate => 16 * tickLen
  | .step => 80 * tickLen
  | .verify => if x.vresOwn.isNone then 1600000 + tickLen else tickLen
  | .backoff => 2 ^ min (x.fails - 1) 8 * tickLen
  | _ => 0

/-- A lane at the load: b is the first tick boundary after it. -/
def Lane.rebase (x : Lane) (d : Int) (b : Nat) : Lane :=
  { x with deadline := b + x.span, verifyT := shiftT d x.verifyT, unanswered := x.unanswered.map (fun (q : List Nat × Nat) => (q.1, b)) }

def Link.rebase (x : Link) (d : Int) (b : Nat) : Link :=
  { x with asked := x.asked.map (fun (q : Nat × Nat) => (q.1, b + tickLen)), lastMedia := shiftT d x.lastMedia }

def UnitState.rebase (x : UnitState) (d : Int) (b : Nat) : UnitState :=
  { x with nextIssue := shiftT d x.nextIssue, resultAt := shiftT d x.resultAt, mbox := x.mbox.map (fun (q : Word × Nat) => (q.1, shiftT d q.2)),
           eventsCycle := 0, events := x.events ||| x.eventsNew, eventsNew := 0,
           lastTrap := x.lastTrap.map (shiftT d), lastMark := x.lastMark.map (shiftT d),
           start := x.start.map (fun q => { q with limit := b + 8 * tickLen }), srcCycle := 0, parCycle := 0, ctlCycle := 0 }

/-- An engine at the load: its open group and a command that misses blocks wait anew. -/
def Ce.rebase (x : Ce) (b : Nat) : Ce :=
  { x with partialAt := x.partialAt.map (fun _ => b + 8 * tickLen), enableAt := x.enableAt.map (fun _ => b),
           grp := x.grp.map (fun g => { g with deadline := b + 64 * tickLen }) }

/-- A landing store at the load. -/
def Flow.rebase (x : Flow) (d : Int) (b : Nat) : Flow :=
  { x with exchange := x.exchange.map (fun _ => b + 32 * tickLen), retryAt := b + 32 * tickLen, releasing := x.releasing.map (fun _ => b + 8 * tickLen),
           audioT := shiftT d x.audioT, lastRef := shiftT d x.lastRef, lastCommit := shiftT d x.lastCommit,
           slots := x.slots.map (fun (y : Slot) => { y with startT := shiftT d y.startT, commitT := shiftT d y.commitT }) }

/-- An output at the load; a LUT load restarts its count. -/
def Out.rebase (x : Out) (d : Int) (b : Nat) : Out :=
  { x with frameT := shiftT d x.frameT, lut := { x.lut with loading := x.lut.loading.map (fun _ => b + 8 * tickLen) } }

/-- An output channel at the load: sample numbers move by k, instants by d. -/
def Oc.rebase (x : Oc) (k : Nat → Nat) (d : Int) : Oc :=
  { x with fadeStart := k x.fadeStart, tapStart := k x.tapStart, gainStart := k x.gainStart, muteStart := k x.muteStart,
           gone := x.gone.map (fun (q : Nat × Nat) => (q.1, k q.2)), tapFail := x.tapFail.map k, tapBack := x.tapBack.map k, followDue := x.followDue.map (shiftT d),
           outgoing := x.outgoing.map (fun (f : Fading) => { f with freed := f.freed.map k }),
           pend := x.pend.map (fun p => { p with fromT := p.fromT.map (shiftT d) }) }

def Cand.rebase (x : Cand) (d : Int) (b : Nat) : Cand :=
  { x with ofsT := shiftT d x.ofsT, pulse := x.pulse.map (shiftT d), good := x.good.map (fun (q : Nat × Nat) => (b, q.2)),
           announce := x.announce.map (fun (q : Nat × Nat) => (b, q.2)) }

def FpIn.rebase (x : FpIn) (d : Int) : FpIn := { x with last := x.last.map (shiftT d), prev := x.prev.map (shiftT d) }

def FpOut.rebase (x : FpOut) (d : Int) (b : Nat) : FpOut :=
  { x with since := x.since.map (fun _ => b), epoch := x.epoch.map (shiftT d), fixT := shiftT d x.fixT, last := x.last.map (shiftT d) }

/-- Madder at the load; a slope in progress goes on. -/
def State.rebaseMadder (s : State) (d : Int) (b : Nat) : Madder :=
  let M := s.madder
  { M with wtrAt := M.wtrAt.map (fun _ => b + s.regBits R.madderWtr 19 0 * tickLen), acqT := b, fcwT := b, localT := b,
           slope := M.slope.map (fun x => { x with start := shiftT d x.start, stop := shiftT d x.stop }),
           cands := M.cands.map (fun (q : Nat × Cand) => (q.1, q.2.rebase d b)),
           fpIn := M.fpIn.map (fun (q : Nat × FpIn) => (q.1, q.2.rebase d)),
           fpOut := M.fpOut.map (fun (q : Nat × FpOut) => (q.1, q.2.rebase d b)) }

/-- The audio matrix at the load: samples are counted from TTIME. -/
def State.rebaseAudio (s : State) (d : Int) : Audio :=
  let k (i : Nat) : Nat := shiftT ((s.sampleAt (shiftT d s.ttime) : Int) - (s.sampleAt s.ttime : Int)) i
  { s.audio with
    ocs := s.audio.ocs.map (fun (q : Nat × Oc) => (q.1, q.2.rebase k d)),
    ics := s.audio.ics.map (fun (q : Nat × Ic) => (q.1, { q.2 with since := shiftT d q.2.since })) }

/-- TTIME loaded: what is counted in ticks starts its count again from the first tick boundary after the load, other instants move with TTIME,
stamps keep their values (R278). -/
def State.loadTime (s : State) (t : Nat) : State :=
  let d : Int := (t : Int) - (s.ttime : Int)
  let b := (t / tickLen + 1) * tickLen
  let since (x : Option Nat) : Option Nat := x.map (fun _ => b)
  let hold (x : Nat) : Nat := if s.ttime < x then b + chalHold * tickLen else 0
  { s with
    ttime := t,
    ticks := t / tickLen,
    units := s.units.map (fun (q : Nat × UnitState) => (q.1, q.2.rebase d b)),
    ces := s.ces.map (fun (q : Nat × Ce) => (q.1, q.2.rebase b)),
    flows := s.flows.map (fun (q : Nat × Flow) => (q.1, q.2.rebase d b)),
    outs := s.outs.map (fun (q : Nat × Out) => (q.1, q.2.rebase d b)),
    audio := s.rebaseAudio d,
    ser := { s.ser with lane := s.ser.lane.map (fun (q : Nat × Lane) => (q.1, q.2.rebase d b)),
                        link := s.ser.link.map (fun (q : Nat × Link) => (q.1, q.2.rebase d b)) },
    stk := { s.stk with heard := s.stk.heard.map (fun h => { h with t := b }), lastTime := since s.stk.lastTime, reqSent := [],
                        rx := s.stk.rx.map (fun (q : Nat × Nat × List Nat) => (q.1, shiftT d q.2.1, q.2.2)),
                        inbox := s.stk.inbox.map (fun m => { m with t := shiftT d m.t }), loaded := true },
    twin := { s.twin with phaseT := b, lastHb := since s.twin.lastHb, downSince := since s.twin.downSince,
                          planned := s.twin.planned.map (fun _ => b + 8 * tickLen), switchAt := since s.twin.switchAt },
    madder := s.rebaseMadder d b,
    saff := { s.saff with chal := s.saff.chal.map (fun (q : List Byte × Nat) => (q.1, b + chalTicks * tickLen)), chalFrom := hold s.saff.chalFrom },
    tamper := { s.tamper with chal := s.tamper.chal.map (fun (q : List Byte × Nat) => (q.1, shiftT d q.2)), chalFrom := shiftT d s.tamper.chalFrom },
    woad := { s.woad with shadow := s.woad.shadow.map (fun x => { x with expires := b + 16000 * tickLen }),
                          op := s.woad.op.map (fun x => { x with limit := b + 16 * tickLen }) },
    pwr := { s.pwr with failT := shiftT d s.pwr.failT, shutT := shiftT d s.pwr.shutT, stopBy := if s.ttime < s.pwr.stopBy then b + 5 * tickLen else 0,
                        switched := (0, 0), overT := since s.pwr.overT, idleT := s.pwr.idleT.map (fun (q : Nat × Nat) => (q.1, b + 1)) },
    evlog := { s.evlog with setCycle := 0, setMsix := 0, setAlarm := 0, setGpio := 0 },
    boot := { s.boot with pushT := s.boot.pushT.map (shiftT d), lastService := b },
    cx := s.cx.map (fun (q : Nat × CxPort) => (q.1, { q.2 with downT := since q.2.downT })),
    obs := s.obs.map (fun (q : Nat × Ob) => (q.1, { q.2 with started := q.2.started.map (shiftT d) })),
    health := { s.health with lastStep := since s.health.lastStep, calmT := since s.health.calmT, coldBack := since s.health.coldBack,
                              mountT := since s.health.mountT },
    lastRaise := s.lastRaise.map (fun (q : Nat × Nat) => (q.1, b + 1)),
    xbar := { s.xbar with xacts := s.xbar.xacts.map (fun (q : Nat × Xact) => (q.1, { q.2 with issued := shiftT d q.2.issued })),
                          uartEnd := shiftT (d * 115200) s.xbar.uartEnd, smbArm := s.xbar.smbArm.map (shiftT d) } }

/-- Whether TTIME may be loaded: no timing group enabled, no flow bound, every sequencer IDLE, no command executing, and not loaded since the
cold reset (R278). -/
def State.mayLoad (s : State) : Bool :=
  !s.stk.loaded && (List.range 16).all (fun g => !s.groupEnabled g) && s.flows.all (fun (q : Nat × Flow) => !q.2.valid || q.2.landing.isSome)
    && s.units.all (fun (q : Nat × UnitState) => decide (128 ≤ q.1) || decide (q.2.run = .idle)) && s.ces.all (fun (q : Nat × Ce) => q.2.exec.isNone)

/-- TIME accepted with an offset of the master's TTIME to the local one (R278). -/
def State.timeAccepted (s : State) (ofs : Int) : State :=
  let old := s.ttime
  let s := if s.mayLoad then
      let t := shiftT ofs s.ttime
      ({ (s.loadTime t) with stk := { (s.loadTime t).stk with timeOfs := 0 } } : State).raise 0x9014 sevInfo kOther 0 (old % 2 ^ 32) (t % 2 ^ 32)
        (old / 2 ^ 32 % 65536 * 65536 + t / 2 ^ 32 % 65536)
    else { s with stk := { s.stk with timeOfs := ofs } }
  let s : State := { s with stk := { s.stk with lastTime := some s.ttime } }
  if s.stkSrc = 0 then
    (s.modCand 8 (fun c => { c with good := some (s.ttime, 16 * tickLen), phase := s.stk.timeOfs * 256 })).goodSample 8
  else s

/-- TIME_MSG: a TIME message from the end of a link nearer the master: its time plus the one-way delay, against TTIME at its arrival (R278). -/
def execTimeMsg (s : State) : Host.Outcome State Fault Refusal :=
  .next (s.onStk 2 (fun s m =>
    if s.nearer m.link then
      s.timeAccepted ((byte4 m.pay 0 + 2 ^ 32 * byte4 m.pay 4 + Tbl.get 0 s.stk.delays m.link : Nat) - (m.t : Int))
    else s))

/-! A tick boundary. -/

/-- What a lane's pattern checker counted, where it is enabled (R263). -/
def State.prbsTick (s : State) (p : Nat × Nat × Nat × Bool) : State :=
  let (L, bits_, errs, lock) := p
  if (s.lane L).state ≠ .test ∨ !bit (s.reg (lnRegs L + 0x20)) 14 then s
  else ((s.bump48 (lnRegs L + 0x3C) bits_).bump48 (lnRegs L + 0x34) errs).modLane L (fun x => { x with chkLock := lock })

/-- What the FEC of an RSL lane that carries media or messages counted; one in detect-only mode corrects nothing (R248, Table 10.11). -/
def State.fecTick (s : State) (p : Nat × Nat × Nat) : State :=
  let (L, corr, unc) := p
  let x := s.lane L
  let only := (x.cfg.map LinkCfg.detectOnly).getD false
  if !s.laneRsl L || x.rate = 7 || x.state = .disabled || x.state = .test then s
  else (s.bumpBy (lnRegs L + 0x44) (if only then 0 else corr)).bumpBy (lnRegs L + 0x48) unc

/-- What the RS-FEC of an Ethernet port counted (Table 10.13). -/
def State.macTick (s : State) (p : Nat × Nat × Nat) : State :=
  if s.portPresent p.1 && s.portIsEth p.1 then (s.bumpBy (R.portFecCorrCnt p.1) p.2.1).bumpBy (R.portFecUncorrCnt p.1) p.2.2 else s

/-- A lane's receive adaptation at a bound of LN_EQ_BOUNDS, or back within them (R247). -/
def State.eqTick (s : State) (p : Nat × Bool) : State :=
  let s := s.modLane p.1 (fun x => { x with eqBound := p.2 })
  if p.2 then s.raiseLim p.1 0x3005 sevNotice kLane (laneIndex p.1) else s

/-- The rates of a CXL port over the last tick, as its status registers show them, and the class-3 requests that it arbitrated (R337, Table 14.8). -/
def State.cxlTick (s : State) (p : Nat × Nat × Nat × Nat) : State :=
  if s.cxlPresent p.1 then ((s.setRegN (R.cxlRdMbps p.1) p.2.1).setRegN (R.cxlWrMbps p.1) p.2.2.1).bumpBy (R.cxlClass3Cnt p.1) p.2.2.2 else s

/-- The queues enabled since the last boundary run (R217). -/
def State.queueTick (s : State) (e : Nat) : State :=
  match (s.ce e).enableAt with
  | some t => if t ≤ s.ttime then s.modCe e (fun c => { c with qstate := 1, enableAt := none }) else s
  | none => s

/-- Whether a FATAL event has been raised since the last boundary (Table 12.4). -/
def State.fatalTick (s : State) : Bool :=
  s.pwr.shut.isSome || s.raised.any (fun e => decide (e.sev = sevFatal))
    || s.evlog.ring.any (fun (q : Nat × List Word) => decide (bits (wordAt q.2 0) 18 16 = sevFatal)
        && decide (s.ttime ≤ join32 (wordAt q.2 2) (wordAt q.2 3) + tickLen) && !bit (wordAt q.2 0) 23)

/-- The twin at a tick boundary: its heartbeat and its mirror queue leave while its link is UP (R296, R298, R300); since when it is DOWN. -/
def State.twinTick (s : State) : State :=
  if s.twin.phase = .disabled then s
  else if s.twinLinkUp then
    (s.modTwin (fun x => { x with downSince := none, mirrorQ := 0 })).emit "HEARTBEAT" twinLink 0
      [s.twin.epoch, flag s.fatalTick 0, flag (decide (s.twin.phase = .solo)) 0, flag s.noWork 0, flag s.twin.force 0,
        if s.twin.planned.isSome then s.twin.trigger else 0]
  else s.modTwin (fun x => { x with downSince := if x.downSince.isSome then x.downSince else some s.ttime })

/-- The end of a link nearer the master sends TIME (R278). -/
def State.timeTick (s : State) : State :=
  s.forEach (s.upLinks.filter s.farther) (fun s l => s.sendLocal l "TIME" (leNats 8 s.ttime))

/-- A management core is in reset: the functions of the management plane stand still from its next tick boundary on (R18). -/
def State.mgmtHeld (s : State) : Bool := (List.range 4).any (fun m => bit (word s.xbar.inReset) m)

/-- The loops of the management plane at a tick boundary: reference steering, power, thermal and AVS, the heartbeat, the stack control protocol. -/
def State.mgmtTick (s : State) (i : TickInfo) : State :=
  if s.mgmtHeld then s
  else (((s.madderTick i).healthTick i).switchTick.idleTick.woadTick).twinTick.timeTick

/-- The number of the tick boundary that TICK runs: the first whose loops have not run yet, where another row has carried time past it, and
else the next one (R21). -/
def State.nextTick (s : State) : Nat := if s.ticks < s.ttime / tickLen then s.ticks + 1 else s.ttime / tickLen + 1

/-- A new level on a pin of GPIO is seen where it outlasts the pin's filter (R36, R466). -/
def State.gpioLevel (s : State) (x : Nat × Bool × Nat) : State :=
  if s.filtered 2 x.2.2 ∧ x.1 < 32 then
    { s with evlog := { s.evlog with pins := if x.2.1 then setBit s.evlog.pins x.1 else clearBit s.evlog.pins x.1 } }
  else s

/-- The work of tick boundary j, which begins at TTIME = j × 10^6: the loops of the tick run on what was measured; the counters were copied as
time came to it (R27). -/
def State.tickWork (s : State) (i : TickInfo) : State :=
  let s := s.forEach i.gpio State.gpioLevel
  let s := match i.alarms with | some k => s.modTamper (fun x => { x with current := k % 128 }) | none => s
  let s := ((s.forEach i.prbs State.prbsTick).forEach i.eq State.eqTick).forEach i.cxl State.cxlTick
  let s := (s.forEach i.fec State.fecTick).forEach i.mac State.macTick
  ((s.mgmtTick i).forEach (List.range 4) State.queueTick).statusTick

/-- TICK: the work of the next tick boundary, at its own instant; time moves to it where it lies ahead (R21, R499). Where a trip drops the rails in
that work, TTIME stands at 0 (Table 15.9). -/
def State.tickTo (s : State) (i : TickInfo) : State :=
  let j := s.nextTick
  let now := s.ttime
  let s := (s.advance (j * tickLen)).logDue (j * tickLen)
  let s := ({ s with ttime := j * tickLen, ticks := j } : State).tickWork i
  if s.ttime < j * tickLen then s
  else if now < j * tickLen then { s with snap := s.ctr }
  else { s with ttime := now }

def execTick (i : TickInfo) (s : State) : Host.Outcome State Fault Refusal := .next (s.tickTo i)

end Sys2Proof.Machine
end

