-- ==== Sys2Proof/Machine/HostPorts.lean ====
section
/-! DEFINITION. The host's ways in (chapter 19): resets of the PCIe function, MSI-X, the SMBus port, the console, the test access port (R437 to R441). -/

namespace Sys2Proof.Machine

/-! PCIe. -/

/-- PCIE_RESET: a function-level reset, hot reset, link-down or PERST_N; `x` is the host's transaction in progress, `l` the link after it (R437).
The host stays in reset while its link is not up. Configuration space is the endpoint's (log entry 15). -/
def execPcieReset (x : XbarXact) (l : PcieLink) (s : State) : Host.Outcome State Fault Refusal :=
  .next (if l.perst.any (fun held => !s.filtered 0 held) then s else
    let s := ((s.inProgress 8 x).xbarFrees 8 (fun s => s.resetMaster 8)).setRegN R.xbarBar0Win 1
    let s := s.forEach (List.range 64) (fun s v => s.setRegN (R.msixTab (4 * v + 3)) 1)
    let b := s.xbar
    ({ s with xbar := { b with pcieUp := l.up, pcieWidth := if l.up then l.width % 16 else 0, pcieRate := if l.up then l.rate % 16 else 0,
                               inReset := if l.up then clearBit b.inReset 8 else b.inReset } } : State).bump R.xbarPcieResetCnt)

/-- MSIX_UNMASK: the host clears the mask of a vector; one that is pending sends its one message (R438). -/
def execMsixUnmask (v : Nat) (s : State) : Host.Outcome State Fault Refusal :=
  .next (if v < 64 then (s.writeBy 8 (R.msixTab (4 * v + 3)) 0).2 else s)

/-! SMBus (R439, Table 19.6). -/

/-- An answer of the SMBus port: the command's code and the bytes read. -/
def State.smbReply (s : State) (code : Nat) (bs : List Nat) : State := s.emit "SMB" code s.xbar.smbAddr bs

def State.smbNack (s : State) (code : Nat) : State := s.emit "SMB_NACK" code s.xbar.smbAddr []

/-- A transaction on the port: nothing in OFF; one with a wrong PEC, command or length is discarded with NACK and counted. -/
def State.smbus (s : State) (code : Nat) (f : SmbFrame) (run : State → State) : State :=
  if s.pwr.state = 0 then s
  else if f.badPec ∨ f.badForm then (s.bump R.xbarSmbErrCnt).smbNack code
  else run s

/-- The value of a GLOBAL status register. -/
def State.globalStatus (s : State) (off : Nat) : Nat := (s.readGlobal off 0).getD 0

def State.smbIdent (s : State) : List Nat := leNats 4 (s.globalStatus 0) ++ leNats 4 (s.globalStatus 0x100)

def execIdent (f : SmbFrame) (s : State) : Host.Outcome State Fault Refusal :=
  .next (s.smbus 0x01 f (fun s => s.smbReply 0x01 s.smbIdent))

/-- The STATE word. -/
def State.smbStateWord (s : State) : Nat :=
  let p := s.pwr
  p.shown % 16 * 2 ^ 12 + p.lastCause % 16 * 2 ^ 8 + flag s.tamperLock 7 + flag p.pwrGood 6 + flag s.alarmLow 5 + s.globalStatus 0x100 / 2 ^ 28

def execSmbState (f : SmbFrame) (s : State) : Host.Outcome State Fault Refusal :=
  .next (s.smbus 0x02 f (fun s => s.smbReply 0x02 (leNats 2 s.smbStateWord)))

/-- The highest temperature monitor in service; 0x8000 when monitors are off. -/
def State.smbTemp (s : State) : Nat :=
  let ms := (List.range 32).filter (fun m => s.monHere m && !(s.mon m).failed && decide ((s.mon m).samples ≠ []))
  if s.pwr.state = 4 then 0x8000
  else match ms.map (fun m => (s.mon m).value) with
    | [] => 0x8000
    | x :: xs => ((xs.foldl max x) % 65536).toNat

def execTempMax (f : SmbFrame) (s : State) : Host.Outcome State Fault Refusal :=
  .next (s.smbus 0x03 f (fun s => s.smbReply 0x03 (leNats 2 s.smbTemp)))

def execInputW (f : SmbFrame) (s : State) : Host.Outcome State Fault Refusal :=
  .next (s.smbus 0x04 f (fun s => s.smbReply 0x04 (leNats 2 (if s.pwr.state = 4 then 0xFFFF else s.regBits R.pwrInputW 15 0))))

/-- The HEALTH word. -/
def State.smbHealth (s : State) : Nat :=
  let any (l : Nat) : Bool := s.health.mons.any (fun (q : Nat × Monitor) => decide (l ≤ q.2.level))
  flag (any 1) 0 + flag (any 2) 1 + flag (decide (s.health.applied ≠ [])) 2 + flag (decide (s.pwr.avsHigh ≠ 0)) 3

def execHealth (f : SmbFrame) (s : State) : Host.Outcome State Fault Refusal :=
  .next (s.smbus 0x05 f (fun s => if s.pwr.state = 4 then s.smbNack 0x05 else s.smbReply 0x05 (leNats 2 s.smbHealth)))

def State.smbSetArm (s : State) (t : Option Nat) : State := { s with xbar := { s.xbar with smbArm := t } }

/-- ARM with 0x5A; other data is answered with NACK and does nothing. -/
def execSmbArm (f : SmbFrame) (s : State) : Host.Outcome State Fault Refusal :=
  .next (s.smbus 0x10 f (fun s => if f.data = 0x5A then (s.smbSetArm (some s.ttime)).smbReply 0x10 [] else s.smbNack 0x10))

/-- POWER_OFF with 0xA5 in ACTIVE, TRIM or STANDBY within 100 ms of ARM: the orderly shutdown, cause 3. -/
def execPowerOff (f : SmbFrame) (s : State) : Host.Outcome State Fault Refusal :=
  .next (s.smbus 0x11 f (fun s =>
    let armed := match s.xbar.smbArm with | some t => decide (s.ttime ≤ t + 160000000) | none => false
    if armed && decide (f.data = 0xA5 ∧ 1 ≤ s.pwr.state ∧ s.pwr.state ≤ 3) then ((s.smbSetArm none).smbReply 0x11 []).shutAsk 3
    else s.smbNack 0x11))

/-- WAKE with 0xA5 in SLEEP: the power-up sequence starts (R351), where no falling and rising of PWR_EN is waited for (R347, R359). -/
def execWake (f : SmbFrame) (s : State) : Host.Outcome State Fault Refusal :=
  .next (s.smbus 0x12 f (fun s =>
    if f.data = 0xA5 ∧ s.pwr.state = 4 then (let s := s.smbReply 0x12 []; if s.pwr.needEdge then s else s.upBegin) else s.smbNack 0x12))

/-- The clock is held low for 25 ms: the port is reset. -/
def execSmbClockLowTimeout (s : State) : Host.Outcome State Fault Refusal :=
  .next (if s.pwr.state = 0 then s else (s.smbSetArm none).bump R.xbarSmbTimeoutCnt)

/-! The console (R440). -/

/-- UART_LINE_RX: a line of a length arrives with characters that failed their framing; a command reads at `a`, where it reads, and answers with
`reply` characters. Lines of more than 255 characters are discarded whole; from step 6 MC0 serves the console. -/
def execUartLineRx (len errs reply : Nat) (a : Option Nat) (s : State) : Host.Outcome State Fault Refusal :=
  .next (
    let s := s.bumpBy R.xbarUartErrCnt errs
    if 255 < len ∨ s.boot.stage < 6 ∨ 13 < s.boot.stage then s
    else
      let s := match a with | some a => s.readSend 0 a | none => s
      s.console reply)

/-! The test access port (R441). -/

/-- The instruction that a code of the TAP's instruction register selects, with RST_N low or high (Table 19.7): BYPASS where it is not listed or not
selected now. -/
def tapSelects (code : Nat) (rstLow : Bool) : Nat :=
  if code = 0x01 ∨ code = 0x02 ∨ code = 0x20 then code else if (code = 0x03 ∨ code = 0x04 ∨ code = 0x05) ∧ rstLow then code else 0xFF

/-- The IDCODE. -/
def tapIdcode : Nat := 0x254593CD

/-- TAP_XBAR_ACCESS: what the TAP does with a code in its instruction register: an access of master 11 with XBAR, IDCODE shifted out; SAMPLE,
EXTEST, CLAMP and HIGHZ act on the boundary register alone, which the model leaves out (log entry 15). -/
def execTapXbarAccess (code : Nat) (rstLow write : Bool) (a : Nat) (v : Word) (s : State) : Host.Outcome State Fault Refusal :=
  .next (
    let ir := tapSelects code rstLow
    if ir = 0x01 then s.emit "TDO" 1 0 [tapIdcode]
    else if ir ≠ 0x20 ∨ 2 ^ 32 ≤ a then s
    else if write then (s.writeBy 11 a v).2 else s.readSend 11 a)

end Sys2Proof.Machine
end

