-- ==== Sys2Proof/Machine/UmberWord.lean ====
section
/-! DEFINITION. An instruction word issued as it stands in a program: the instruction that its bits spell (R50, R51). -/

namespace Sys2Proof.Machine

/-- NOP itself, and every word that spells no instruction: an illegal opcode faults, and so do bits in an unused part of an immediate,
as operand out of range. -/
def State.bareWord (s : State) (u : Nat) (w : Word) : State :=
  s.umber u w (decide (0x28 ≤ bits w 31 26)) [] (fun s _ => if w = nopWord then .ok s else .error fltOperand)

/-- What a decoded instruction does; the rows of no instruction word are no case of it. -/
def instrRun (w : Word) (i : Instr) (s : State) : Host.Outcome State Fault Refusal :=
  match i with
  | .nop u _ => .next (s.bareWord u w)
  | .add u d a b => execAdd u d a b s
  | .sub u d a b => execSub u d a b s
  | .and u d a b => execAnd u d a b s
  | .or u d a b => execOr u d a b s
  | .xor u d a b => execXor u d a b s
  | .shl u d a b => execShl u d a b s
  | .shr u d a b => execShr u d a b s
  | .cmp u a b => execCmp u a b s
  | .min u d a b => execMin u d a b s
  | .max u d a b => execMax u d a b s
  | .jmp u a => execJmp u a s
  | .jcond u cond off => execJcond u cond off s
  | .call u off => execCall u off s
  | .ret u => execRet u s
  | .halt u => execHalt u s
  | .trap u imm => execTrap u imm s
  | .li u d imm => execLi u d imm s
  | .lui u d imm => execLui u d imm s
  | .ld u z d a imm => execLd u z d a imm s
  | .st u z d a imm => execSt u z d a imm s
  | .mfs u d imm => execMfs u d imm s
  | .mts u a imm => execMts u a imm s
  | .waitl u a b => execWaitl u a b s
  | .waitf u a b => execWaitf u a b s
  | .waite u a b => execWaite u a b s
  | .waitt u a b => execWaitt u a b s
  | .take u a b => execTake u a b s
  | .takeP u a b => execTakeP u a b s
  | .takeU u a b => execTakeU u a b s
  | .flip u plane a b => execFlip u plane a b s
  | .tset u a => execTset u a s
  | .fmt u a => execFmt u a s
  | .fmtF u a b => execFmtF u a b s
  | .lut u a => execLut u a s
  | .amapInputBlock u a b imm => execAmapInputBlock u a b imm s
  | .amapSourceCode u a b imm => execAmapSourceCode u a b imm s
  | .amapFollow u a b imm => execAmapFollow u a b imm s
  | .axf u a b imm => execAxf u a b imm s
  | .anc u a b => execAnc u a b s
  | .sigO u d b => execSigO u d b s
  | .sigSrc u d b => execSigSrc u d b s
  | .sigFlow u d b => execSigFlow u d b s
  | .markNow u a code => execMarkNow u a code s
  | .markNextFrame u a code => execMarkNextFrame u a code s
  | .bind u d a => execBind u d a s
  | .bindR u a => execBindR u a s
  | .swapp u imm => execSwapp u imm s
  | .wr u a b r => execWr u a b r s
  | .rd u d a r => execRd u d a r s
  | .begin u => execBegin u s
  | .commit u => execCommit u s
  | .abort u => execAbort u s
  | .salvo u d a => execSalvo u d a s
  | .send u a b => execSend u a b s
  | .loadp u a b => execLoadp u a b s
  | _ => .next s

/-- NOP: the word at the program counter issues. Its bits pick the instruction, NOP itself among them. -/
def execNop (u : Nat) (w : Word) (s : State) : Host.Outcome State Fault Refusal :=
  match decodeWord u w with
  | some i => if legalWord (decide (128 ≤ u)) w then instrRun w i s else .next (s.bareWord u w)
  | none => .next (s.bareWord u w)

end Sys2Proof.Machine
end

