-- ==== Sys2Proof/Machine/Dispatch.lean ====
section
/-! DEFINITION. One arm for each command: the direct call of its meaning. -/

namespace Sys2Proof.Machine

def exec (i : Instr) (s : State) : Host.Outcome State Fault Refusal :=
  match i with
  | .nop u w => Sys2Proof.Machine.execNop u w s
  | .jmp u a => Sys2Proof.Machine.execJmp u a s
  | .jcond u cond off => Sys2Proof.Machine.execJcond u cond off s
  | .call u off => Sys2Proof.Machine.execCall u off s
  | .ret u => Sys2Proof.Machine.execRet u s
  | .halt u => Sys2Proof.Machine.execHalt u s
  | .trap u imm => Sys2Proof.Machine.execTrap u imm s
  | .li u d imm => Sys2Proof.Machine.execLi u d imm s
  | .lui u d imm => Sys2Proof.Machine.execLui u d imm s
  | .add u d a b => Sys2Proof.Machine.execAdd u d a b s
  | .sub u d a b => Sys2Proof.Machine.execSub u d a b s
  | .cmp u a b => Sys2Proof.Machine.execCmp u a b s
  | .and u d a b => Sys2Proof.Machine.execAnd u d a b s
  | .or u d a b => Sys2Proof.Machine.execOr u d a b s
  | .xor u d a b => Sys2Proof.Machine.execXor u d a b s
  | .shl u d a b => Sys2Proof.Machine.execShl u d a b s
  | .shr u d a b => Sys2Proof.Machine.execShr u d a b s
  | .min u d a b => Sys2Proof.Machine.execMin u d a b s
  | .max u d a b => Sys2Proof.Machine.execMax u d a b s
  | .ld u z d a imm => Sys2Proof.Machine.execLd u z d a imm s
  | .st u z d a imm => Sys2Proof.Machine.execSt u z d a imm s
  | .mfs u d imm => Sys2Proof.Machine.execMfs u d imm s
  | .mts u a imm => Sys2Proof.Machine.execMts u a imm s
  | .waitl u a b => Sys2Proof.Machine.execWaitl u a b s
  | .waitf u a b => Sys2Proof.Machine.execWaitf u a b s
  | .waite u a b => Sys2Proof.Machine.execWaite u a b s
  | .waitt u a b => Sys2Proof.Machine.execWaitt u a b s
  | .waitComplete u tAt => Sys2Proof.Machine.execWaitComplete u tAt s
  | .waitTimeout u => Sys2Proof.Machine.execWaitTimeout u s
  | .take u a b => Sys2Proof.Machine.execTake u a b s
  | .takeP u a b => Sys2Proof.Machine.execTakeP u a b s
  | .takeU u a b => Sys2Proof.Machine.execTakeU u a b s
  | .flip u plane a b => Sys2Proof.Machine.execFlip u plane a b s
  | .tset u a => Sys2Proof.Machine.execTset u a s
  | .fmt u a => Sys2Proof.Machine.execFmt u a s
  | .fmtF u a b => Sys2Proof.Machine.execFmtF u a b s
  | .lut u a => Sys2Proof.Machine.execLut u a s
  | .amapInputBlock u a b imm => Sys2Proof.Machine.execAmapInputBlock u a b imm s
  | .amapSourceCode u a b imm => Sys2Proof.Machine.execAmapSourceCode u a b imm s
  | .amapFollow u a b imm => Sys2Proof.Machine.execAmapFollow u a b imm s
  | .axf u a b imm => Sys2Proof.Machine.execAxf u a b imm s
  | .anc u a b => Sys2Proof.Machine.execAnc u a b s
  | .sigO u d b => Sys2Proof.Machine.execSigO u d b s
  | .sigSrc u d b => Sys2Proof.Machine.execSigSrc u d b s
  | .sigFlow u d b => Sys2Proof.Machine.execSigFlow u d b s
  | .markNow u a code => Sys2Proof.Machine.execMarkNow u a code s
  | .markNextFrame u a code => Sys2Proof.Machine.execMarkNextFrame u a code s
  | .bind u d a => Sys2Proof.Machine.execBind u d a s
  | .bindR u a => Sys2Proof.Machine.execBindR u a s
  | .flowReleaseComplete f tAt => Sys2Proof.Machine.execFlowReleaseComplete f tAt s
  | .swapp u imm => Sys2Proof.Machine.execSwapp u imm s
  | .bankSwap u => Sys2Proof.Machine.execBankSwap u s
  | .wr u a b r => Sys2Proof.Machine.execWr u a b r s
  | .rd u d a r => Sys2Proof.Machine.execRd u d a r s
  | .begin u => Sys2Proof.Machine.execBegin u s
  | .commit u => Sys2Proof.Machine.execCommit u s
  | .abort u => Sys2Proof.Machine.execAbort u s
  | .groupExpired e => Sys2Proof.Machine.execGroupExpired e s
  | .salvo u d a => Sys2Proof.Machine.execSalvo u d a s
  | .send u a b => Sys2Proof.Machine.execSend u a b s
  | .loadp u a b => Sys2Proof.Machine.execLoadp u a b s
  | .loadpComplete e => Sys2Proof.Machine.execLoadpComplete e s
  | .loadpTimeout e => Sys2Proof.Machine.execLoadpTimeout e s
  | .seqCtrlStart m u => Sys2Proof.Machine.execSeqCtrlStart m u s
  | .seqCtrlRestart m u => Sys2Proof.Machine.execSeqCtrlRestart m u s
  | .seqCtrlHalt m u => Sys2Proof.Machine.execSeqCtrlHalt m u s
  | .seqCtrlSwapDisarm m u => Sys2Proof.Machine.execSeqCtrlSwapDisarm m u s
  | .seqStartAtFrame u => Sys2Proof.Machine.execSeqStartAtFrame u s
  | .startNoFrame u => Sys2Proof.Machine.execStartNoFrame u s
  | .kick m u v => Sys2Proof.Machine.execKick m u v s
  | .sqTailDoorbell m e v => Sys2Proof.Machine.execSqTailDoorbell m e v s
  | .cqHeadWrite m e v => Sys2Proof.Machine.execCqHeadWrite m e v s
  | .qCtrlEnable m e v => Sys2Proof.Machine.execQCtrlEnable m e v s
  | .qResume m e v => Sys2Proof.Machine.execQResume m e v s
  | .cmdNop e => Sys2Proof.Machine.execCmdNop e s
  | .cmdCall e => Sys2Proof.Machine.execCmdCall e s
  | .cmdInline e => Sys2Proof.Machine.execCmdInline e s
  | .cmdLoadc e => Sys2Proof.Machine.execCmdLoadc e s
  | .blockPartialTimeout e => Sys2Proof.Machine.execBlockPartialTimeout e s
  | .blockTimeout e => Sys2Proof.Machine.execBlockTimeout e s
  | .completionSpaceFreed e => Sys2Proof.Machine.execCompletionSpaceFreed e s
  | .tick ii => Sys2Proof.Machine.execTick ii s
  | .ttimeLoRead m => Sys2Proof.Machine.execTtimeLoRead m s
  | .counterLoRead m a => Sys2Proof.Machine.execCounterLoRead m a s
  | .tgrpFrameLoRead m g start => Sys2Proof.Machine.execTgrpFrameLoRead m g start s
  | .registerWrite m a v => Sys2Proof.Machine.execRegisterWrite m a v s
  | .tgrpEnable m g v => Sys2Proof.Machine.execTgrpEnable m g v s
  | .tgrpDisable m g v => Sys2Proof.Machine.execTgrpDisable m g v s
  | .tgrpEpochFixed g pulse => Sys2Proof.Machine.execTgrpEpochFixed g pulse s
  | .tgrpFree g => Sys2Proof.Machine.execTgrpFree g s
  | .tgrpFrameStart g => Sys2Proof.Machine.execTgrpFrameStart g s
  | .outputFrameStart n ii => Sys2Proof.Machine.execOutputFrameStart n ii s
  | .switchingLine n noRoom => Sys2Proof.Machine.execSwitchingLine n noRoom s
  | .latchLine n => Sys2Proof.Machine.execLatchLine n s
  | .selectionLine n => Sys2Proof.Machine.execSelectionLine n s
  | .scanLineStart n l lv l0 l1 late late0 late1 => Sys2Proof.Machine.execScanLineStart n l lv l0 l1 late late0 late1 s
  | .groupChangeCut n ii => Sys2Proof.Machine.execGroupChangeCut n ii s
  | .tileCtrlEnable m k v => Sys2Proof.Machine.execTileCtrlEnable m k v s
  | .portModeWrite m n v => Sys2Proof.Machine.execPortModeWrite m n v s
  | .packetRx n dst src udp pt p => Sys2Proof.Machine.execPacketRx n dst src udp pt p s
  | .sdiLineRx n k line trs crcOk payload skew audio x => Sys2Proof.Machine.execSdiLineRx n k line trs crcOk payload skew audio x s
  | .igmpReport f => Sys2Proof.Machine.execIgmpReport f s
  | .igmpQuery n => Sys2Proof.Machine.execIgmpQuery n s
  | .inputFrameStart f contacts => Sys2Proof.Machine.execInputFrameStart f contacts s
  | .frameCommit f => Sys2Proof.Machine.execFrameCommit f s
  | .frameRxComplete f ii => Sys2Proof.Machine.execFrameRxComplete f ii s
  | .flowNoSignal f => Sys2Proof.Machine.execFlowNoSignal f s
  | .flowUnstable f => Sys2Proof.Machine.execFlowUnstable f s
  | .mergeWindowExpiry f seq => Sys2Proof.Machine.execMergeWindowExpiry f seq s
  | .legLost f legB => Sys2Proof.Machine.execLegLost f legB s
  | .remotePrepared f => Sys2Proof.Machine.execRemotePrepared f s
  | .remoteTakeFail f => Sys2Proof.Machine.execRemoteTakeFail f s
  | .remoteSourceLost f => Sys2Proof.Machine.execRemoteSourceLost f s
  | .remoteReserveRetry f => Sys2Proof.Machine.execRemoteReserveRetry f s
  | .lutLoaded n => Sys2Proof.Machine.execLutLoaded n s
  | .lutFail n => Sys2Proof.Machine.execLutFail n s
  | .lutTimeout n => Sys2Proof.Machine.execLutTimeout n s
  | .frcPoolReturn k => Sys2Proof.Machine.execFrcPoolReturn k s
  | .amapSwitchPoint ref => Sys2Proof.Machine.execAmapSwitchPoint ref s
  | .followSwitch n => Sys2Proof.Machine.execFollowSwitch n s
  | .ocDelayWrite m c v => Sys2Proof.Machine.execOcDelayWrite m c v s
  | .destWrite m d v => Sys2Proof.Machine.execDestWrite m d v s
  | .audioSrcLost pair x => Sys2Proof.Machine.execAudioSrcLost pair x s
  | .audioSrcBack pair x hz nonPcm => Sys2Proof.Machine.execAudioSrcBack pair x hz nonPcm s
  | .audioSlip c => Sys2Proof.Machine.execAudioSlip c s
  | .aesUnlock ii => Sys2Proof.Machine.execAesUnlock ii s
  | .obTailDoorbell m j v => Sys2Proof.Machine.execObTailDoorbell m j v s
  | .obFixedEncode j => Sys2Proof.Machine.execObFixedEncode j s
  | .obFixedDecode j => Sys2Proof.Machine.execObFixedDecode j s
  | .obLosslessEncode j => Sys2Proof.Machine.execObLosslessEncode j s
  | .obLosslessDecode j => Sys2Proof.Machine.execObLosslessDecode j s
  | .obJobTimeout j units => Sys2Proof.Machine.execObJobTimeout j units s
  | .laneSignalDetect L => Sys2Proof.Machine.execLaneSignalDetect L s
  | .commaLockGained L => Sys2Proof.Machine.execCommaLockGained L s
  | .reservedSlotRx L comma body rm => Sys2Proof.Machine.execReservedSlotRx L comma body rm s
  | .cap L => Sys2Proof.Machine.execCap L s
  | .cfg L => Sys2Proof.Machine.execCfg L s
  | .linkAck L => Sys2Proof.Machine.execLinkAck L s
  | .step L => Sys2Proof.Machine.execStep L s
  | .stepSwitch L => Sys2Proof.Machine.execStepSwitch L s
  | .stepDone L => Sys2Proof.Machine.execStepDone L s
  | .verifyTestEnd L unc corr prbs => Sys2Proof.Machine.execVerifyTestEnd L unc corr prbs s
  | .vres L => Sys2Proof.Machine.execVres L s
  | .join L => Sys2Proof.Machine.execJoin L s
  | .laneJoin L skew => Sys2Proof.Machine.execLaneJoin L skew s
  | .drop L => Sys2Proof.Machine.execDrop L s
  | .l1reqMsg L => Sys2Proof.Machine.execL1reqMsg L s
  | .l1ackMsg L => Sys2Proof.Machine.execL1ackMsg L s
  | .l2reqMsg L => Sys2Proof.Machine.execL2reqMsg L s
  | .l2ackMsg L => Sys2Proof.Machine.execL2ackMsg L s
  | .l1Refused l => Sys2Proof.Machine.execL1Refused l s
  | .idleL1Timeout l => Sys2Proof.Machine.execIdleL1Timeout l s
  | .linkMsgRetry L => Sys2Proof.Machine.execLinkMsgRetry L s
  | .lanePhaseTimeout L => Sys2Proof.Machine.execLanePhaseTimeout L s
  | .backoffExpiry L => Sys2Proof.Machine.execBackoffExpiry L s
  | .laneLost L cause => Sys2Proof.Machine.execLaneLost L cause s
  | .lnRearm m L v => Sys2Proof.Machine.execLnRearm m L v s
  | .lnCtrlTest m L v => Sys2Proof.Machine.execLnCtrlTest m L v s
  | .injTrigger m L v => Sys2Proof.Machine.execInjTrigger m L v s
  | .lkCtrlEnable m l v => Sys2Proof.Machine.execLkCtrlEnable m l v s
  | .l1Req m l v => Sys2Proof.Machine.execL1Req m l v s
  | .l2Req m l v => Sys2Proof.Machine.execL2Req m l v s
  | .sdiEthLockChange L locked => Sys2Proof.Machine.execSdiEthLockChange L locked s
  | .stackMsgRx => Sys2Proof.Machine.execStackMsgRx s
  | .announce => Sys2Proof.Machine.execAnnounce s
  | .announceTimer => Sys2Proof.Machine.execAnnounceTimer s
  | .masterLost => Sys2Proof.Machine.execMasterLost s
  | .timeMsg => Sys2Proof.Machine.execTimeMsg s
  | .delayReq => Sys2Proof.Machine.execDelayReq s
  | .delayReqTimer => Sys2Proof.Machine.execDelayReqTimer s
  | .delayResp => Sys2Proof.Machine.execDelayResp s
  | .group => Sys2Proof.Machine.execGroup s
  | .groupTimer => Sys2Proof.Machine.execGroupTimer s
  | .route => Sys2Proof.Machine.execRoute s
  | .routeCommit => Sys2Proof.Machine.execRouteCommit s
  | .routeInstall missing => Sys2Proof.Machine.execRouteInstall missing s
  | .exportReq => Sys2Proof.Machine.execExportReq s
  | .exportAck => Sys2Proof.Machine.execExportAck s
  | .resv => Sys2Proof.Machine.execResv s
  | .resvAck => Sys2Proof.Machine.execResvAck s
  | .release => Sys2Proof.Machine.execRelease s
  | .submit => Sys2Proof.Machine.execSubmit s
  | .prepare => Sys2Proof.Machine.execPrepare s
  | .entry => Sys2Proof.Machine.execEntry s
  | .ready => Sys2Proof.Machine.execReady s
  | .refuse => Sys2Proof.Machine.execRefuse s
  | .salvoDecide id => Sys2Proof.Machine.execSalvoDecide id s
  | .salvoCommitMsg => Sys2Proof.Machine.execSalvoCommitMsg s
  | .salvoAbortMsg => Sys2Proof.Machine.execSalvoAbortMsg s
  | .salvoSplit id => Sys2Proof.Machine.execSalvoSplit id s
  | .salvoTakeCommit id => Sys2Proof.Machine.execSalvoTakeCommit id s
  | .salvoAck => Sys2Proof.Machine.execSalvoAck s
  | .salvoCollect id => Sys2Proof.Machine.execSalvoCollect id s
  | .comp => Sys2Proof.Machine.execComp s
  | .salvoTimeout e => Sys2Proof.Machine.execSalvoTimeout e s
  | .twinEnable m v => Sys2Proof.Machine.execTwinEnable m v s
  | .attach m => Sys2Proof.Machine.execAttach m s
  | .detach m => Sys2Proof.Machine.execDetach m s
  | .switch m => Sys2Proof.Machine.execSwitch m s
  | .twinAuthPass p => Sys2Proof.Machine.execTwinAuthPass p s
  | .twinCopyDone => Sys2Proof.Machine.execTwinCopyDone s
  | .twinPaired => Sys2Proof.Machine.execTwinPaired s
  | .twinAttachFail cause => Sys2Proof.Machine.execTwinAttachFail cause s
  | .heartbeatRx h => Sys2Proof.Machine.execHeartbeatRx h s
  | .twinHbLost => Sys2Proof.Machine.execTwinHbLost s
  | .twinLinkDownTimeout => Sys2Proof.Machine.execTwinLinkDownTimeout s
  | .twinPresentChange present held => Sys2Proof.Machine.execTwinPresentChange present held s
  | .twinForce level held => Sys2Proof.Machine.execTwinForce level held s
  | .twinSwitchover => Sys2Proof.Machine.execTwinSwitchover s
  | .twinOutputRoleChange n => Sys2Proof.Machine.execTwinOutputRoleChange n s
  | .mirrorDrainDone => Sys2Proof.Machine.execMirrorDrainDone s
  | .mirrorDrainTimeout => Sys2Proof.Machine.execMirrorDrainTimeout s
  | .mirrorUpdate frame op => Sys2Proof.Machine.execMirrorUpdate frame op s
  | .candActivityLost c => Sys2Proof.Machine.execCandActivityLost c s
  | .candGoodSample r => Sys2Proof.Machine.execCandGoodSample r s
  | .refQualified c => Sys2Proof.Machine.execRefQualified c s
  | .refLost c => Sys2Proof.Machine.execRefLost c s
  | .refDisagree c => Sys2Proof.Machine.execRefDisagree c s
  | .disagreeClear => Sys2Proof.Machine.execDisagreeClear s
  | .wtrExpiry => Sys2Proof.Machine.execWtrExpiry s
  | .refSwitch => Sys2Proof.Machine.execRefSwitch s
  | .acquireLock => Sys2Proof.Machine.execAcquireLock s
  | .acqFail => Sys2Proof.Machine.execAcqFail s
  | .slopeComplete => Sys2Proof.Machine.execSlopeComplete s
  | .slewDone => Sys2Proof.Machine.execSlewDone s
  | .holdover => Sys2Proof.Machine.execHoldover s
  | .soft m v => Sys2Proof.Machine.execSoft m v s
  | .fcwWrite m v => Sys2Proof.Machine.execFcwWrite m v s
  | .softTimeout => Sys2Proof.Machine.execSoftTimeout s
  | .madderFault => Sys2Proof.Machine.execMadderFault s
  | .faultRecover => Sys2Proof.Machine.execFaultRecover s
  | .recapture m v => Sys2Proof.Machine.execRecapture m v s
  | .histValid => Sys2Proof.Machine.execHistValid s
  | .fpInPulse ii seen held => Sys2Proof.Machine.execFpInPulse ii seen held s
  | .fpOutPulse ii => Sys2Proof.Machine.execFpOutPulse ii s
  | .fpOutFree ii => Sys2Proof.Machine.execFpOutFree ii s
  | .ptpMessage c p => Sys2Proof.Machine.execPtpMessage c p s
  | .candCfgWrite m c reg v => Sys2Proof.Machine.execCandCfgWrite m c reg v s
  | .synthShort n => Sys2Proof.Machine.execSynthShort n s
  | .cxlPortTrain x up width rate64 type3 cap ideOk => Sys2Proof.Machine.execCxlPortTrain x up width rate64 type3 cap ideOk s
  | .cxlReadErr x cto use => Sys2Proof.Machine.execCxlReadErr x cto use s
  | .cxlWriteErr x cto use => Sys2Proof.Machine.execCxlWriteErr x cto use s
  | .cxlCrcRetry x => Sys2Proof.Machine.execCxlCrcRetry x s
  | .cxlLinkDown x => Sys2Proof.Machine.execCxlLinkDown x s
  | .cxlRecovered x => Sys2Proof.Machine.execCxlRecovered x s
  | .cxlPortLost x => Sys2Proof.Machine.execCxlPortLost x s
  | .memRelayout => Sys2Proof.Machine.execMemRelayout s
  | .memWrOverflow f => Sys2Proof.Machine.execMemWrOverflow f s
  | .hallocSize m v => Sys2Proof.Machine.execHallocSize m v s
  | .hfree m v => Sys2Proof.Machine.execHfree m v s
  | .ideKeyExchange x ok => Sys2Proof.Machine.execIdeKeyExchange x ok s
  | .inputOk dc cycles strap vhost33 => Sys2Proof.Machine.execInputOk dc cycles strap vhost33 s
  | .inputLost dc => Sys2Proof.Machine.execInputLost dc s
  | .inputSwitch cycles => Sys2Proof.Machine.execInputSwitch cycles s
  | .pwrEnRise cool held => Sys2Proof.Machine.execPwrEnRise cool held s
  | .pwrEnFall held => Sys2Proof.Machine.execPwrEnFall held s
  | .powerUpStep => Sys2Proof.Machine.execPowerUpStep s
  | .powerUpOverrun rail => Sys2Proof.Machine.execPowerUpOverrun rail s
  | .railFault r => Sys2Proof.Machine.execRailFault r s
  | .pwrFailEarly => Sys2Proof.Machine.execPwrFailEarly s
  | .pwrRide dc held busV => Sys2Proof.Machine.execPwrRide dc held busV s
  | .pwrShutdown => Sys2Proof.Machine.execPwrShutdown s
  | .shutdownStage => Sys2Proof.Machine.execShutdownStage s
  | .powerRestart cycles => Sys2Proof.Machine.execPowerRestart cycles s
  | .stateReq m v => Sys2Proof.Machine.execStateReq m v s
  | .domainOnUse d => Sys2Proof.Machine.execDomainOnUse d s
  | .domainIdleOff d => Sys2Proof.Machine.execDomainIdleOff d s
  | .pdFault d => Sys2Proof.Machine.execPdFault d s
  | .pdReqWrite m w v => Sys2Proof.Machine.execPdReqWrite m w v s
  | .pdFaultClear m w v => Sys2Proof.Machine.execPdFaultClear m w v s
  | .overloadTimeout => Sys2Proof.Machine.execOverloadTimeout s
  | .thermalTrip mon => Sys2Proof.Machine.execThermalTrip mon s
  | .coldReset cause held => Sys2Proof.Machine.execColdReset cause held s
  | .warmReset => Sys2Proof.Machine.execWarmReset s
  | .watchdogExpiry => Sys2Proof.Machine.execWatchdogExpiry s
  | .strapSample a b floats => Sys2Proof.Machine.execStrapSample a b floats s
  | .strapRetry a b floats => Sys2Proof.Machine.execStrapRetry a b floats s
  | .bootImageCheck img => Sys2Proof.Machine.execBootImageCheck img s
  | .bootSourceTimeout => Sys2Proof.Machine.execBootSourceTimeout s
  | .bootPush m v => Sys2Proof.Machine.execBootPush m v s
  | .bootPushTimeout => Sys2Proof.Machine.execBootPushTimeout s
  | .startupStep => Sys2Proof.Machine.execStartupStep s
  | .bootReady => Sys2Proof.Machine.execBootReady s
  | .rbCommitSaffron m v => Sys2Proof.Machine.execRbCommitSaffron m v s
  | .rbCommitFuses m v => Sys2Proof.Machine.execRbCommitFuses m v s
  | .attestReq m v => Sys2Proof.Machine.execAttestReq m v s
  | .attestDone => Sys2Proof.Machine.execAttestDone s
  | .stage m v => Sys2Proof.Machine.execStage m v s
  | .woadVerify m v => Sys2Proof.Machine.execWoadVerify m v s
  | .keyCommitted m v => Sys2Proof.Machine.execKeyCommitted m v s
  | .keyAborted m v => Sys2Proof.Machine.execKeyAborted m v s
  | .keyErased m v => Sys2Proof.Machine.execKeyErased m v s
  | .attr m v => Sys2Proof.Machine.execAttr m v s
  | .sign m v => Sys2Proof.Machine.execSign m v s
  | .mac m v => Sys2Proof.Machine.execMac m v s
  | .provClose m v => Sys2Proof.Machine.execProvClose m v s
  | .stageExpired => Sys2Proof.Machine.execStageExpired s
  | .keyBusRequest e ii => Sys2Proof.Machine.execKeyBusRequest e ii s
  | .tamper src held => Sys2Proof.Machine.execTamper src held s
  | .chalReq m => Sys2Proof.Machine.execChalReq m s
  | .unlockSubmit m still => Sys2Proof.Machine.execUnlockSubmit m still s
  | .wrData m v => Sys2Proof.Machine.execWrData m v s
  | .saffronCommit bad => Sys2Proof.Machine.execSaffronCommit bad s
  | .rdDataRead m corrected => Sys2Proof.Machine.execRdDataRead m corrected s
  | .recCmdWrite m v => Sys2Proof.Machine.execRecCmdWrite m v s
  | .recCmdRead m v => Sys2Proof.Machine.execRecCmdRead m v s
  | .bpChalReq m => Sys2Proof.Machine.execBpChalReq m s
  | .bpSubmit m => Sys2Proof.Machine.execBpSubmit m s
  | .nvScrub corrected bad => Sys2Proof.Machine.execNvScrub corrected bad s
  | .nvWearLevel => Sys2Proof.Machine.execNvWearLevel s
  | .faultLogCommit => Sys2Proof.Machine.execFaultLogCommit s
  | .nvReplay journalBad => Sys2Proof.Machine.execNvReplay journalBad s
  | .sealingKeyReseal => Sys2Proof.Machine.execSealingKeyReseal s
  | .xbarTimeout m x => Sys2Proof.Machine.execXbarTimeout m x s
  | .xbarMasterReset m x => Sys2Proof.Machine.execXbarMasterReset m x s
  | .xbarDecode m a write badSize => Sys2Proof.Machine.execXbarDecode m a write badSize s
  | .pcieReset x l => Sys2Proof.Machine.execPcieReset x l s
  | .msixUnmask v => Sys2Proof.Machine.execMsixUnmask v s
  | .ident f => Sys2Proof.Machine.execIdent f s
  | .smbState f => Sys2Proof.Machine.execSmbState f s
  | .tempMax f => Sys2Proof.Machine.execTempMax f s
  | .inputW f => Sys2Proof.Machine.execInputW f s
  | .health f => Sys2Proof.Machine.execHealth f s
  | .smbArm f => Sys2Proof.Machine.execSmbArm f s
  | .powerOff f => Sys2Proof.Machine.execPowerOff f s
  | .wake f => Sys2Proof.Machine.execWake f s
  | .smbClockLowTimeout => Sys2Proof.Machine.execSmbClockLowTimeout s
  | .uartLineRx len errs reply a => Sys2Proof.Machine.execUartLineRx len errs reply a s
  | .tapXbarAccess code rstLow write a v => Sys2Proof.Machine.execTapXbarAccess code rstLow write a v s
  | .mountGradient => Sys2Proof.Machine.execMountGradient s
  | .shed => Sys2Proof.Machine.execShed s
  | .shedRestore => Sys2Proof.Machine.execShedRestore s
  | .eventRaised => Sys2Proof.Machine.execEventRaised s
  | .logRead m v => Sys2Proof.Machine.execLogRead m v s
  | .logHeadWrite m v => Sys2Proof.Machine.execLogHeadWrite m v s
  | .msixPendClear m v => Sys2Proof.Machine.execMsixPendClear m v s
  | .alarmPendClear m v => Sys2Proof.Machine.execAlarmPendClear m v s
  | .gpioClr m v => Sys2Proof.Machine.execGpioClr m v s
  | .baseplateHold t30 t31 => Sys2Proof.Machine.execBaseplateHold t30 t31 s
  | .mediaBlockRx l dev flow beyond bs => Sys2Proof.Machine.execMediaBlockRx l dev flow beyond bs s
  | .l1Resume l => Sys2Proof.Machine.execL1Resume l s
  | .l2Wake l => Sys2Proof.Machine.execL2Wake l s
  | .asrcRange pair x => Sys2Proof.Machine.execAsrcRange pair x s
  | .flywheel ii => Sys2Proof.Machine.execFlywheel ii s
  | .vbatLoss => Sys2Proof.Machine.execVbatLoss s
  | .twinBootImageRequest => Sys2Proof.Machine.execTwinBootImageRequest s
  | .challengeExpired bp => Sys2Proof.Machine.execChallengeExpired bp s

end Sys2Proof.Machine
end

