-- ==== Sys2Proof/WellFormed.lean ====
section
/-! DEFINITION. Well-formed commands: every number that names a part of the module is in its range. What the numbers name may still be absent from an ordering code (R2); an operand without such a range is an operand of every value. -/

namespace Sys2Proof

/-- A unit of R67. -/
def okUnit (x : Nat) : Bool := decide (x < 132)
/-- A crossbar master (Table 19.1). -/
def okMaster (x : Nat) : Bool := decide (x < 12)
/-- A command engine. -/
def okEngine (x : Nat) : Bool := decide (x < 4)
/-- A port, or the output or slice port of its number. -/
def okPort (x : Nat) : Bool := decide (x < 64)
/-- A timing group. -/
def okGroup (x : Nat) : Bool := decide (x < 16)
/-- A tile group. -/
def okTileGroup (x : Nat) : Bool := decide (x < 16)
/-- An FRC pool. -/
def okPool (x : Nat) : Bool := decide (x < 8)
/-- A flow index. -/
def okFlow (x : Nat) : Bool := decide (x < 16384)
/-- A lane, by its single-lane link (Table 11.2). -/
def okLane (x : Nat) : Bool := decide (x < 288)
/-- A link ID. -/
def okLink (x : Nat) : Bool := decide (x < 288)
/-- A CXL port. -/
def okCxl (x : Nat) : Bool := decide (x < 4)
/-- A reference candidate, LOCAL included (Table 13.1). -/
def okCand (x : Nat) : Bool := decide (x < 10)
/-- An audio channel. -/
def okChannel (x : Nat) : Bool := decide (x < 8192)
/-- An audio destination. -/
def okDest (x : Nat) : Bool := decide (x < 512)
/-- A bulk engine. -/
def okBulk (x : Nat) : Bool := decide (x < 8)
/-- An AES pair. -/
def okAes (x : Nat) : Bool := decide (x < 16)
/-- A frame-pulse output. -/
def okFpOut (x : Nat) : Bool := decide (x < 4)
/-- A frame-pulse input. -/
def okFpIn (x : Nat) : Bool := decide (x < 2)
/-- A monitor (Table 20.1). -/
def okMonitor (x : Nat) : Bool := decide (x < 96)
/-- A power domain. -/
def okDomain (x : Nat) : Bool := decide (x < 96)
/-- A word of the domain registers. -/
def okPdWord (x : Nat) : Bool := decide (x < 3)
/-- A rail (Table 15.2). -/
def okRail (x : Nat) : Bool := decide (x < 11)
/-- A control address. -/
def okAddr (x : Nat) : Bool := decide (x < 2 ^ 32)
/-- An MSI-X vector. -/
def okVector (x : Nat) : Bool := decide (x < 64)
/-- A salvo ID. -/
def okSalvoId (x : Nat) : Bool := decide (x < 2 ^ 32)
/-- A line number. -/
def okLine (x : Nat) : Bool := decide (x < 8192)
/-- A key slot. -/
def okSlot (x : Nat) : Bool := decide (x < 256)
/-- A link of an SDI port. -/
def okSdiLink (x : Nat) : Bool := decide (x < 4)
/-- A tamper source (R392). -/
def okTamperSrc (x : Nat) : Bool := decide (x < 7)
/-- An engine on the key bus. -/
def okKeyEngine (x : Nat) : Bool := decide (x < 23)
/-- CFG, LIMITS or TIMES of a candidate. -/
def okCandReg (x : Nat) : Bool := decide (x < 3)
/-- A reference output, 0xFE for none. -/
def okRefOut (x : Nat) : Bool := decide (x < 255)
/-- A device ID. -/
def okIdent (x : Nat) : Bool := decide (x < 2048)

/-- A command whose numbers are in range. -/
def Instr.wf : Instr → Bool
  | .nop u _ => okUnit u
  | .jmp u _ => okUnit u
  | .jcond u _ _ => okUnit u
  | .call u _ => okUnit u
  | .ret u => okUnit u
  | .halt u => okUnit u
  | .trap u _ => okUnit u
  | .li u _ _ => okUnit u
  | .lui u _ _ => okUnit u
  | .add u _ _ _ => okUnit u
  | .sub u _ _ _ => okUnit u
  | .cmp u _ _ => okUnit u
  | .and u _ _ _ => okUnit u
  | .or u _ _ _ => okUnit u
  | .xor u _ _ _ => okUnit u
  | .shl u _ _ _ => okUnit u
  | .shr u _ _ _ => okUnit u
  | .min u _ _ _ => okUnit u
  | .max u _ _ _ => okUnit u
  | .ld u _ _ _ _ => okUnit u
  | .st u _ _ _ _ => okUnit u
  | .mfs u _ _ => okUnit u
  | .mts u _ _ => okUnit u
  | .waitl u _ _ => okUnit u
  | .waitf u _ _ => okUnit u
  | .waite u _ _ => okUnit u
  | .waitt u _ _ => okUnit u
  | .waitComplete u _ => okUnit u
  | .waitTimeout u => okUnit u
  | .take u _ _ => okUnit u
  | .takeP u _ _ => okUnit u
  | .takeU u _ _ => okUnit u
  | .flip u _ _ _ => okUnit u
  | .tset u _ => okUnit u
  | .fmt u _ => okUnit u
  | .fmtF u _ _ => okUnit u
  | .lut u _ => okUnit u
  | .amapInputBlock u _ _ _ => okUnit u
  | .amapSourceCode u _ _ _ => okUnit u
  | .amapFollow u _ _ _ => okUnit u
  | .axf u _ _ _ => okUnit u
  | .anc u _ _ => okUnit u
  | .sigO u _ _ => okUnit u
  | .sigSrc u _ _ => okUnit u
  | .sigFlow u _ _ => okUnit u
  | .markNow u _ _ => okUnit u
  | .markNextFrame u _ _ => okUnit u
  | .bind u _ _ => okUnit u
  | .bindR u _ => okUnit u
  | .flowReleaseComplete f _ => okFlow f
  | .swapp u _ => okUnit u
  | .bankSwap u => okUnit u
  | .wr u _ _ _ => okUnit u
  | .rd u _ _ _ => okUnit u
  | .begin u => okUnit u
  | .commit u => okUnit u
  | .abort u => okUnit u
  | .groupExpired e => okEngine e
  | .salvo u _ _ => okUnit u
  | .send u _ _ => okUnit u
  | .loadp u _ _ => okUnit u
  | .loadpComplete e => okEngine e
  | .loadpTimeout e => okEngine e
  | .seqCtrlStart m u => okMaster m && okUnit u
  | .seqCtrlRestart m u => okMaster m && okUnit u
  | .seqCtrlHalt m u => okMaster m && okUnit u
  | .seqCtrlSwapDisarm m u => okMaster m && okUnit u
  | .seqStartAtFrame u => okUnit u
  | .startNoFrame u => okUnit u
  | .kick m u _ => okMaster m && okUnit u
  | .sqTailDoorbell m e _ => okMaster m && okEngine e
  | .cqHeadWrite m e _ => okMaster m && okEngine e
  | .qCtrlEnable m e _ => okMaster m && okEngine e
  | .qResume m e _ => okMaster m && okEngine e
  | .cmdNop e => okEngine e
  | .cmdCall e => okEngine e
  | .cmdInline e => okEngine e
  | .cmdLoadc e => okEngine e
  | .blockPartialTimeout e => okEngine e
  | .blockTimeout e => okEngine e
  | .completionSpaceFreed e => okEngine e
  | .tick _ => true
  | .ttimeLoRead m => okMaster m
  | .counterLoRead m a => okMaster m && okAddr a
  | .tgrpFrameLoRead m g _ => okMaster m && okGroup g
  | .registerWrite m a _ => okMaster m && okAddr a
  | .tgrpEnable m g _ => okMaster m && okGroup g
  | .tgrpDisable m g _ => okMaster m && okGroup g
  | .tgrpEpochFixed g _ => okGroup g
  | .tgrpFree g => okGroup g
  | .tgrpFrameStart g => okGroup g
  | .outputFrameStart n _ => okPort n
  | .switchingLine n _ => okPort n
  | .latchLine n => okPort n
  | .selectionLine n => okPort n
  | .scanLineStart n l _ _ _ _ _ _ => okPort n && okLine l
  | .groupChangeCut n _ => okPort n
  | .tileCtrlEnable m k _ => okMaster m && okTileGroup k
  | .portModeWrite m n _ => okMaster m && okPort n
  | .packetRx n _ _ _ _ _ => okPort n
  | .sdiLineRx n k line _ _ _ _ _ _ => okPort n && okSdiLink k && okLine line
  | .igmpReport f => okFlow f
  | .igmpQuery n => okPort n
  | .inputFrameStart f _ => okFlow f
  | .frameCommit f => okFlow f
  | .frameRxComplete f _ => okFlow f
  | .flowNoSignal f => okFlow f
  | .flowUnstable f => okFlow f
  | .mergeWindowExpiry f _ => okFlow f
  | .legLost f _ => okFlow f
  | .remotePrepared f => okFlow f
  | .remoteTakeFail f => okFlow f
  | .remoteSourceLost f => okFlow f
  | .remoteReserveRetry f => okFlow f
  | .lutLoaded n => okPort n
  | .lutFail n => okPort n
  | .lutTimeout n => okPort n
  | .frcPoolReturn k => okPool k
  | .amapSwitchPoint ref => okRefOut ref
  | .followSwitch n => okPort n
  | .ocDelayWrite m c _ => okMaster m && okChannel c
  | .destWrite m d _ => okMaster m && okDest d
  | .audioSrcLost _ x => okFlow x
  | .audioSrcBack _ x _ _ => okFlow x
  | .audioSlip c => okChannel c
  | .aesUnlock i => okAes i
  | .obTailDoorbell m j _ => okMaster m && okBulk j
  | .obFixedEncode j => okBulk j
  | .obFixedDecode j => okBulk j
  | .obLosslessEncode j => okBulk j
  | .obLosslessDecode j => okBulk j
  | .obJobTimeout j _ => okBulk j
  | .laneSignalDetect L => okLane L
  | .commaLockGained L => okLane L
  | .reservedSlotRx L _ _ _ => okLane L
  | .cap L => okLane L
  | .cfg L => okLane L
  | .linkAck L => okLane L
  | .step L => okLane L
  | .stepSwitch L => okLane L
  | .stepDone L => okLane L
  | .verifyTestEnd L _ _ _ => okLane L
  | .vres L => okLane L
  | .join L => okLane L
  | .laneJoin L _ => okLane L
  | .drop L => okLane L
  | .l1reqMsg L => okLane L
  | .l1ackMsg L => okLane L
  | .l2reqMsg L => okLane L
  | .l2ackMsg L => okLane L
  | .l1Refused l => okLink l
  | .idleL1Timeout l => okLink l
  | .linkMsgRetry L => okLane L
  | .lanePhaseTimeout L => okLane L
  | .backoffExpiry L => okLane L
  | .laneLost L _ => okLane L
  | .lnRearm m L _ => okMaster m && okLane L
  | .lnCtrlTest m L _ => okMaster m && okLane L
  | .injTrigger m L _ => okMaster m && okLane L
  | .lkCtrlEnable m l _ => okMaster m && okLink l
  | .l1Req m l _ => okMaster m && okLink l
  | .l2Req m l _ => okMaster m && okLink l
  | .sdiEthLockChange L _ => okLane L
  | .stackMsgRx => true
  | .announce => true
  | .announceTimer => true
  | .masterLost => true
  | .timeMsg => true
  | .delayReq => true
  | .delayReqTimer => true
  | .delayResp => true
  | .group => true
  | .groupTimer => true
  | .route => true
  | .routeCommit => true
  | .routeInstall _ => true
  | .exportReq => true
  | .exportAck => true
  | .resv => true
  | .resvAck => true
  | .release => true
  | .submit => true
  | .prepare => true
  | .entry => true
  | .ready => true
  | .refuse => true
  | .salvoDecide id => okSalvoId id
  | .salvoCommitMsg => true
  | .salvoAbortMsg => true
  | .salvoSplit id => okSalvoId id
  | .salvoTakeCommit id => okSalvoId id
  | .salvoAck => true
  | .salvoCollect id => okSalvoId id
  | .comp => true
  | .salvoTimeout e => okEngine e
  | .twinEnable m _ => okMaster m
  | .attach m => okMaster m
  | .detach m => okMaster m
  | .switch m => okMaster m
  | .twinAuthPass _ => true
  | .twinCopyDone => true
  | .twinPaired => true
  | .twinAttachFail _ => true
  | .heartbeatRx _ => true
  | .twinHbLost => true
  | .twinLinkDownTimeout => true
  | .twinPresentChange _ _ => true
  | .twinForce _ _ => true
  | .twinSwitchover => true
  | .twinOutputRoleChange n => okPort n
  | .mirrorDrainDone => true
  | .mirrorDrainTimeout => true
  | .mirrorUpdate _ _ => true
  | .candActivityLost c => okCand c
  | .candGoodSample _ => true
  | .refQualified c => okCand c
  | .refLost c => okCand c
  | .refDisagree c => okCand c
  | .disagreeClear => true
  | .wtrExpiry => true
  | .refSwitch => true
  | .acquireLock => true
  | .acqFail => true
  | .slopeComplete => true
  | .slewDone => true
  | .holdover => true
  | .soft m _ => okMaster m
  | .fcwWrite m _ => okMaster m
  | .softTimeout => true
  | .madderFault => true
  | .faultRecover => true
  | .recapture m _ => okMaster m
  | .histValid => true
  | .fpInPulse i _ _ => okFpIn i
  | .fpOutPulse i => okFpOut i
  | .fpOutFree i => okFpOut i
  | .ptpMessage c _ => okCand c
  | .candCfgWrite m c reg _ => okMaster m && okCand c && okCandReg reg
  | .synthShort n => okPort n
  | .cxlPortTrain x _ _ _ _ _ _ => okCxl x
  | .cxlReadErr x _ _ => okCxl x
  | .cxlWriteErr x _ _ => okCxl x
  | .cxlCrcRetry x => okCxl x
  | .cxlLinkDown x => okCxl x
  | .cxlRecovered x => okCxl x
  | .cxlPortLost x => okCxl x
  | .memRelayout => true
  | .memWrOverflow f => okFlow f
  | .hallocSize m _ => okMaster m
  | .hfree m _ => okMaster m
  | .ideKeyExchange x _ => okCxl x
  | .inputOk _ _ _ _ => true
  | .inputLost _ => true
  | .inputSwitch _ => true
  | .pwrEnRise _ _ => true
  | .pwrEnFall _ => true
  | .powerUpStep => true
  | .powerUpOverrun rail => okRail rail
  | .railFault r => okRail r
  | .pwrFailEarly => true
  | .pwrRide _ _ _ => true
  | .pwrShutdown => true
  | .shutdownStage => true
  | .powerRestart _ => true
  | .stateReq m _ => okMaster m
  | .domainOnUse d => okDomain d
  | .domainIdleOff d => okDomain d
  | .pdFault d => okDomain d
  | .pdReqWrite m w _ => okMaster m && okPdWord w
  | .pdFaultClear m w _ => okMaster m && okPdWord w
  | .overloadTimeout => true
  | .thermalTrip mon => okMonitor mon
  | .coldReset _ _ => true
  | .warmReset => true
  | .watchdogExpiry => true
  | .strapSample _ _ _ => true
  | .strapRetry _ _ _ => true
  | .bootImageCheck _ => true
  | .bootSourceTimeout => true
  | .bootPush m _ => okMaster m
  | .bootPushTimeout => true
  | .startupStep => true
  | .bootReady => true
  | .rbCommitSaffron m _ => okMaster m
  | .rbCommitFuses m _ => okMaster m
  | .attestReq m _ => okMaster m
  | .attestDone => true
  | .stage m _ => okMaster m
  | .woadVerify m _ => okMaster m
  | .keyCommitted m _ => okMaster m
  | .keyAborted m _ => okMaster m
  | .keyErased m _ => okMaster m
  | .attr m _ => okMaster m
  | .sign m _ => okMaster m
  | .mac m _ => okMaster m
  | .provClose m _ => okMaster m
  | .stageExpired => true
  | .keyBusRequest e i => okKeyEngine e && okSlot i
  | .tamper src _ => okTamperSrc src
  | .chalReq m => okMaster m
  | .unlockSubmit m _ => okMaster m
  | .wrData m _ => okMaster m
  | .saffronCommit _ => true
  | .rdDataRead m _ => okMaster m
  | .recCmdWrite m _ => okMaster m
  | .recCmdRead m _ => okMaster m
  | .bpChalReq m => okMaster m
  | .bpSubmit m => okMaster m
  | .nvScrub _ _ => true
  | .nvWearLevel => true
  | .faultLogCommit => true
  | .nvReplay _ => true
  | .sealingKeyReseal => true
  | .xbarTimeout m _ => okMaster m
  | .xbarMasterReset m _ => okMaster m
  | .xbarDecode m a _ _ => okMaster m && okAddr a
  | .pcieReset _ _ => true
  | .msixUnmask v => okVector v
  | .ident _ => true
  | .smbState _ => true
  | .tempMax _ => true
  | .inputW _ => true
  | .health _ => true
  | .smbArm _ => true
  | .powerOff _ => true
  | .wake _ => true
  | .smbClockLowTimeout => true
  | .uartLineRx _ _ _ _ => true
  | .tapXbarAccess _ _ _ a _ => okAddr a
  | .mountGradient => true
  | .shed => true
  | .shedRestore => true
  | .eventRaised => true
  | .logRead m _ => okMaster m
  | .logHeadWrite m _ => okMaster m
  | .msixPendClear m _ => okMaster m
  | .alarmPendClear m _ => okMaster m
  | .gpioClr m _ => okMaster m
  | .baseplateHold _ _ => true
  | .mediaBlockRx l dev flow _ _ => okLink l && okIdent dev && okFlow flow
  | .l1Resume l => okLink l
  | .l2Wake l => okLink l
  | .asrcRange _ x => okFlow x
  | .flywheel i => okFpOut i
  | .vbatLoss => true
  | .twinBootImageRequest => true
  | .challengeExpired _ => true

end Sys2Proof
end

