-- ==== Sys2Proof/Safety.lean ====
section
/-! DEFINITION. The terms that the claims use: the canonical form of the memories, the completion of a command, what an instruction of a unit leaves as it was. -/

namespace Sys2Proof.Machine

/-- Every memory lists its bytes in the one canonical form. -/
def Mems.wf (m : Mems) : Bool := m.prog.wf && m.sram.wf && m.cxl.wf && m.nv.wf && m.nvOld.wf

/-- The command answers a next state, and that state has a property. -/
def Completes (c : Instr) (s : State) (P : State → Prop) : Prop := ∃ t, exec c s = .next t ∧ P t

/-- Unit u issues the instruction now (R39, R57), and its PC lies in the fetch range of Table 2.1 (R46). -/
def State.canIssue (s : State) (u : Nat) : Bool := s.runs u && decide ((s.unit u).pc < fetchRange u)

/-- What a snapshot of the counters holds once time has come to t: the counters themselves where a tick boundary has been passed (R27). -/
def State.snapTo (s : State) (t : Nat) : Tbl Nat := if s.ttime / tickLen < t / tickLen then s.ctr else s.snap

/-- The state at a later instant at which nothing else has changed: the counters' copy apart (R27). -/
def State.movedTo (s : State) (t : Nat) : State := { s with ttime := t, snap := s.snapTo t }

/-- What the state is after an instruction of unit u that touched no more than the unit: the instant of issue, the rest of the module and
every other unit as before. -/
def UnitOnly (u : Nat) (held : Bool) (reads : List VReg) (s t : State) : Prop :=
  t.ttime = s.issueAt u held reads ∧ ({ t with units := s.units } : State) = s.movedTo t.ttime ∧ ∀ w, w ≠ u → t.unit w = s.unit w

/-- What a unit is after an instruction that touched no more than its PC, registers and flags: the next issue is one cycle on, and events
set in earlier cycles have become visible (R61). -/
def CoreOnly (u : Nat) (s t : State) : Prop :=
  (t.unit u).nextIssue = t.ttime + unitCycle u
    ∧ (t.unit u).events ||| (t.unit u).eventsNew = (s.unit u).events ||| (s.unit u).eventsNew
    ∧ { t.unit u with pc := (s.unit u).pc, regs := (s.unit u).regs, flags := (s.unit u).flags, events := (s.unit u).events,
                      eventsNew := (s.unit u).eventsNew, eventsCycle := (s.unit u).eventsCycle, nextIssue := (s.unit u).nextIssue } = s.unit u

/-- Register d of unit u holds r, v0 reads 0, and every other register reads as before (R42). -/
def WritesV (u : Nat) (d : VReg) (r : Word) (s t : State) : Prop :=
  ∀ x : VReg, t.v u x = if x = 0 then 0 else if x = d then r else s.v u x

/-- Every register of unit u reads as before. -/
def KeepsV (u : Nat) (s t : State) : Prop := ∀ x : VReg, t.v u x = s.v u x

/-- An arithmetic instruction of unit u completed: d holds r, the flags are Z, N and C as given with T and E as before, the PC is one
further, all else is as before. -/
def AluDone (u : Nat) (d : VReg) (reads : List VReg) (r : Word) (z n c : Bool) (s t : State) : Prop :=
  WritesV u d r s t ∧ (t.unit u).flags = { (s.unit u).flags with z := z, n := n, c := c } ∧ (t.unit u).pc = (s.unit u).pc + 1
    ∧ UnitOnly u false reads s t ∧ CoreOnly u s t

/-- Unit u has taken a fault with a code of Table 2.10 at its PC: a sequencer is in SAFE, FAULT and its word and time are recorded, the
fault is counted, no register or flag of the unit has changed and no memory. -/
def Faulted (u code : Nat) (s t : State) : Prop :=
  (t.unit u).run = .safe ∧ (t.unit u).faultCode = code ∧ (t.unit u).faultPc = (s.unit u).pc ∧ (t.unit u).swapArmed = false
    ∧ (t.unit u).faultTtime = t.ttime ∧ (t.unit u).flags = (s.unit u).flags ∧ KeepsV u s t ∧ (t.unit u).stack = (s.unit u).stack
    ∧ t.mem = s.mem ∧ t.ctrOf (R.seqFaultCnt u) = satAdd ctrMax (s.ctrOf (R.seqFaultCnt u)) 1

/-- The state that the body of an instruction sees: time at the issue cycle, earlier events visible, the PC one further. -/
def State.issued (s : State) (u : Nat) (held : Bool) (reads : List VReg) : State :=
  let s1 := s.advance (s.issueAt u held reads)
  let s2 := s1.modUnit u (fun x => { x.settle (cycleOf u s1.ttime) with nextIssue := s1.ttime + unitCycle u })
  s2.modUnit u (fun x => { x with pc := (s.unit u).pc + 1 })

/-- A media instruction of unit u has ended with a status: S_STATUS holds it, E says whether it failed, the PC is one further (R199). -/
def MediaEnd (u st : Nat) (s t : State) : Prop :=
  (t.unit u).status = st ∧ (t.unit u).flags = { (s.unit u).flags with e := decide (st ≠ 0) } ∧ (t.unit u).pc = (s.unit u).pc + 1

/-- A media instruction refused with a status: no register, no other unit and nothing else of the module has changed. -/
def MediaRefused (u st : Nat) (s t : State) : Prop :=
  MediaEnd u st s t ∧ KeepsV u s t ∧ ({ t with units := s.units, freeCtr := s.freeCtr } : State) = s.movedTo t.ttime
    ∧ ∀ w, w ≠ u → t.unit w = s.unit w

/-- Output n alone may have changed. -/
def OutOnly (n : Nat) (s t : State) : Prop := ∀ m, m ≠ n → t.out m = s.out m

/-- A write of master m to the word at an address has been rejected (R14): the reject is counted and its address kept, but not over that of a
lower-numbered master in the same management cycle (R37); the crossbar's error registers
and the limited event apart, the module is as before. -/
def WriteRejected (m a : Nat) (s t : State) : Prop :=
  t.ctrOf R.globalRangeRejectCnt = satAdd ctrMax (s.ctrOf R.globalRangeRejectCnt) 1 ∧ t.reg R.globalRangeRejectAddr = (if s.rejectNewest m = true then word a else s.reg R.globalRangeRejectAddr)
    ∧ ({ t with rejLast := s.rejLast, ctr := s.ctr, regs := s.regs, raised := s.raised, lastRaise := s.lastRaise, xbar := s.xbar } : State) = s
    ∧ ∀ r, r ≠ R.globalRangeRejectAddr → r ≠ R.xbarErrAddr → r ≠ R.xbarErrInfo → t.reg r = s.reg r

/-- An event with a code, a severity and an index has been raised at the present instant (R458). -/
def EventNow (code sev index : Nat) (t : State) : Prop :=
  ∃ e ∈ t.raised, e.code = code ∧ e.sev = sev ∧ e.index = index ∧ e.stamp = t.ttime

/-- The shutdown sequence has begun at its 2 ms mark with a cause (R353, R360), the power state before it being p: PWR_GOOD is low, 0x1003
is raised, Saffron takes no more writes; the instant apart, all else is as before. -/
def ShutBegun (p : Pwr) (cause : Nat) (s t : State) : Prop :=
  t.pwr = { p with ride := false, shut := some 1, shutT := t.ttime, state := 8, target := 0, stopOuts := [], pwrGood := false, cause := cause,
                   upStep := none }
    ∧ EventNow 0x1003 sevFatal 0 t ∧ t.saff = { s.saff with state := if s.saff.state = 1 then 3 else s.saff.state }
    ∧ ({ t with pwr := s.pwr, raised := s.raised, saff := s.saff } : State) = s.movedTo t.ttime

/-- The rails have fallen (Table 15.9): the module is in SLEEP, or in OFF with no input; what volatile memory held is lost, the always-on
domain's registers and Saffron's contents are kept. -/
def RailsDown (s t : State) : Prop :=
  t.pwr.state = (if s.pwr.acOk = true ∨ s.pwr.dcOk = true then 4 else 0) ∧ t.pwr.rails = (if s.pwr.acOk = true ∨ s.pwr.dcOk = true then 1 else 0)
    ∧ t.pwr.upStep = none ∧ t.pwr.shut = none ∧ t.pwr.ride = false ∧ t.pwr.ioGood = false ∧ t.pwr.pwrGood = false ∧ t.pwr.domOn = 0
    ∧ t.ttime = 0 ∧ t.flows = [] ∧ t.outs = [] ∧ t.units = [] ∧ t.ports = [] ∧ t.heap = [] ∧ t.woad.live = false
    ∧ t.mem = { nv := s.mem.nv, nvOld := s.mem.nvOld } ∧ t.pending = s.pending
    ∧ ∀ a, t.reg a = if aonAddr a = true then s.reg a else regReset a

/-- The always-on domain has told an event (R28): raised at once with CLK_D running before, else held there. -/
def AonTold (code sev index : Nat) (s t : State) : Prop :=
  if s.pwr.state = 0 ∨ s.pwr.state = 4 then ∃ e ∈ t.aonEvents, e.code = code ∧ e.sev = sev ∧ e.index = index ∧ e.aon = true
  else EventNow code sev index t

/-- The commands that may write a memory: instructions of a unit (a fault or the end of an engine's command writes a completion), lines, packets,
blocks and frames stored, a frozen frame captured, jobs, records, loads, mirrored state, resets, and what takes a CXL port out (a tick boundary may
trip or switch a domain). Every other command leaves all of memory as it is. -/
def mayStore : Instr → Bool
  | .nop .. | .jmp .. | .jcond .. | .call .. | .ret .. | .halt .. | .trap .. | .li .. | .lui .. | .add .. | .sub .. | .cmp .. | .and ..
  | .or .. | .xor .. | .shl .. | .shr .. | .min .. | .max .. | .ld .. | .st .. | .mfs .. | .mts .. | .waitl .. | .waitf .. | .waite ..
  | .waitt .. | .take .. | .takeP .. | .takeU .. | .flip .. | .tset .. | .fmt .. | .fmtF .. | .lut .. | .amapInputBlock ..
  | .amapSourceCode .. | .amapFollow .. | .axf .. | .anc .. | .sigO .. | .sigSrc .. | .sigFlow .. | .markNow .. | .markNextFrame ..
  | .bind .. | .bindR .. | .swapp .. | .wr .. | .rd .. | .begin .. | .commit .. | .abort .. | .salvo .. | .send .. | .loadp ..
  | .loadpComplete .. | .loadpTimeout .. | .seqCtrlHalt .. | .sqTailDoorbell .. | .cqHeadWrite .. | .qCtrlEnable .. | .qResume ..
  | .cmdNop .. | .cmdCall .. | .cmdInline .. | .cmdLoadc .. | .blockPartialTimeout .. | .blockTimeout .. | .completionSpaceFreed ..
  | .registerWrite .. | .obTailDoorbell .. | .obFixedEncode .. | .obFixedDecode .. | .obLosslessEncode .. | .obLosslessDecode ..
  | .obJobTimeout .. | .twinAuthPass .. | .twinAttachFail .. | .heartbeatRx .. | .twinSwitchover .. | .mirrorUpdate .. | .cxlReadErr ..
  | .cxlWriteErr .. | .memRelayout .. | .pwrEnFall .. | .powerUpOverrun .. | .pwrFailEarly .. | .shutdownStage .. | .stateReq ..
  | .overloadTimeout .. | .thermalTrip .. | .coldReset .. | .warmReset .. | .watchdogExpiry .. | .rbCommitSaffron .. | .rbCommitFuses ..
  | .tamper .. | .chalReq .. | .unlockSubmit .. | .wrData .. | .saffronCommit .. | .bpSubmit .. | .nvScrub .. | .nvWearLevel ..
  | .faultLogCommit .. | .nvReplay .. | .sealingKeyReseal .. | .xbarTimeout .. | .xbarMasterReset .. | .pcieReset .. | .msixUnmask ..
  | .powerOff .. | .tapXbarAccess .. | .tick .. | .scanLineStart .. | .packetRx .. | .sdiLineRx .. | .frameCommit .. | .mediaBlockRx ..
  | .twinCopyDone .. | .cxlPortLost .. | .pdFault .. | .keyErased .. | .shed .. => true
  | _ => false

end Sys2Proof.Machine
end

