-- ==== Sys2Proof/Certificates/Slice0/Obligations.lean ====
section
/-! DEFINITION. The statements for the provers. -/

open Sys2Proof Sys2Proof.Machine


/-! The queue, reset, memory. -/

/-- Log entries 5 and 9. -/
def Obligations.StepRunsTheFront : Prop :=
  (∀ (c : Instr) (rest : List Instr) (s : State), step { s with pending := c :: rest } = exec c { s with pending := rest })
    ∧ (∀ s : State, s.pending = [] → step s = .next s)

/-- R12, R20, R27, R366, R438, R444, R447, R458. -/
def Obligations.ResetState : Prop :=
  let s := State.reset
  s.pending = [] ∧ s.ttime = 0 ∧ s.flows = [] ∧ s.outs = [] ∧ s.units = [] ∧ s.heap = [] ∧ s.mem.wf = true
    ∧ (∀ a, Memory.read s.mem.prog a = Memory.read s.mem.sram a ∧ Memory.read s.mem.nv a = Memory.read s.mem.cxl a) ∧ (∀ a, s.ctrOf a = 0)
    ∧ s.reg R.xbarBar0Win = 1 ∧ s.reg R.pwrCeiling = 600 ∧ s.reg R.eventLogHead = 0 ∧ s.reg R.eventLogTail = 0
    ∧ (∀ c, c < 16 → s.reg (R.eventRoute c) = if c = 6 then 0x023F7200 else 0x023F7300)
    ∧ (∀ v, v < 64 → s.msixMasked v = true) ∧ (∀ m, m < 30 → s.reg (R.hlthMonWarn m) = 840 ∧ s.reg (R.hlthMonCrit m) = 1000 ∧ s.reg (R.hlthMonTrip m) = 1120)
    ∧ (∀ w, w < 3 → s.reg (R.pwrPdReq w) = 0xFFFFFFFF)

/-- The memories of R45, R217, R333, R404. -/
def Obligations.MemoriesStayCanonical : Prop :=
  ∀ (s t : State), s.mem.wf = true → step s = .next t → t.mem.wf = true

/-- The block answers misuse with a status, an event, a counter or a crossbar response; the queue is the model's own. -/
def Obligations.EveryCommandAnswers : Prop :=
  ∀ (c : Instr) (s : State), ∃ t, exec c s = .next t ∧ t.pending = s.pending ∧ t.variant = s.variant

/-- The memories of R45, R217, R333, R404. -/
def Obligations.OthersStoreNothing : Prop :=
  ∀ (c : Instr) (s t : State), mayStore c = false → exec c s = .next t → t.mem = s.mem
/-! Umber: the core instructions. -/

/-- Table 2.5 with the flags of R43 and v0 of R42. CMP writes no register: its destination is v0. -/
def Obligations.ArithmeticAndLogic : Prop :=
  ∀ (u : Nat) (d a : VReg) (b : AluSrc) (s : State), s.canIssue u = true → srcSigned b = false →
    let x := s.v u a
    let y := s.opS u b
    let z := s.opZ u b
    let rd := a :: srcRegs b
    Completes (.add u d a b) s
        (AluDone u d rd (x + y) (decide (x + y = 0)) ((x + y).getLsbD 31) (decide (2 ^ 32 ≤ x.toNat + y.toNat)) s)
      ∧ Completes (.sub u d a b) s
        (AluDone u d rd (x - y) (decide (x - y = 0)) (decide (x.toInt < y.toInt)) (decide (x.toNat < y.toNat)) s)
      ∧ Completes (.cmp u a b) s
        (AluDone u 0 rd 0 (decide (x - y = 0)) (decide (x.toInt < y.toInt)) (decide (x.toNat < y.toNat)) s)
      ∧ Completes (.and u d a b) s (AluDone u d rd (x &&& z) (decide (x &&& z = 0)) ((x &&& z).getLsbD 31) false s)
      ∧ Completes (.or u d a b) s (AluDone u d rd (x ||| z) (decide (x ||| z = 0)) ((x ||| z).getLsbD 31) false s)
      ∧ Completes (.xor u d a b) s (AluDone u d rd (x ^^^ z) (decide (x ^^^ z = 0)) ((x ^^^ z).getLsbD 31) false s)

/-- Table 2.5: the shift amount is the whole register, C the last bit shifted out. -/
def Obligations.ShiftsAndSelections : Prop :=
  ∀ (u : Nat) (d a r : VReg) (g : Bool) (s : State), s.canIssue u = true →
    let x := s.v u a
    let y := s.v u r
    let k := y.toNat
    let f := (s.unit u).flags
    let out (c : Nat) : Bool := decide (1 ≤ k ∧ k < 32) && x.getLsbD c
    let sr := if g then x.sshiftRight k else x >>> k
    let less (p q : Word) : Bool := if g then decide (p.toInt < q.toInt) else decide (p.toNat < q.toNat)
    let mn := if less y x then y else x
    let mx := if less x y then y else x
    Completes (.shl u d a (.reg r false)) s
        (AluDone u d [a, r] (x <<< k) (decide (x <<< k = 0)) ((x <<< k).getLsbD 31) (out (32 - k)) s)
      ∧ Completes (.shr u d a (.reg r g)) s (AluDone u d [a, r] sr (decide (sr = 0)) (sr.getLsbD 31) (out (k - 1)) s)
      ∧ Completes (.min u d a (.reg r g)) s (AluDone u d [a, r] mn (decide (mn = 0)) (mn.getLsbD 31) (less y x) s)
      ∧ Completes (.max u d a (.reg r g)) s (AluDone u d [a, r] mx (decide (mx = 0)) (mx.getLsbD 31) (less x y) s)
      ∧ (∀ i : BitVec 18, i.toNat < 32 →
          let l := x <<< i.toNat
          Completes (.shl u d a (.imm i)) s (AluDone u d [a] l (decide (l = 0)) (l.getLsbD 31) (decide (i.toNat ≠ 0) && x.getLsbD (32 - i.toNat)) s))
      ∧ (∀ i : BitVec 18, i.toNat < 64 →
          let n := i.toNat % 32
          let l := if i.toNat < 32 then x >>> n else x.sshiftRight n
          Completes (.shr u d a (.imm i)) s (AluDone u d [a] l (decide (l = 0)) (l.getLsbD 31) (decide (n ≠ 0) && x.getLsbD (n - 1)) s))
      ∧ (∀ i : BitVec 18,
          let q := i.setWidth 32
          let mn := if q.toNat < x.toNat then q else x
          let mx := if x.toNat < q.toNat then q else x
          Completes (.min u d a (.imm i)) s (AluDone u d [a] mn (decide (mn = 0)) (mn.getLsbD 31) (decide (q.toNat < x.toNat)) s)
            ∧ Completes (.max u d a (.imm i)) s (AluDone u d [a] mx (decide (mx = 0)) (mx.getLsbD 31) (decide (x.toNat < q.toNat)) s)
            ∧ Completes (.li u d i) s (AluDone u d [] (i.signExtend 32) f.z f.n f.c s)
            ∧ (i.toNat < 2 ^ 14 → Completes (.lui u d i) s (AluDone u d [] (BitVec.ofNat 32 (i.toNat * 2 ^ 18)) f.z f.n f.c s)))
      ∧ Completes (.nop u nopWord) s (AluDone u 0 [] 0 f.z f.n f.c s)

/-- Tables 2.2 to 2.5, R44, R50, R65. The row NOP carries the word (log entry 53). -/
def Obligations.ControlFlow : Prop :=
  (∀ (u : Nat) (d a b : VReg) (i : BitVec 18) (c : BitVec 4) (off : BitVec 22) (s : State),
    exec (.nop u (encA 0x08 d a b 1)) s = exec (.add u d a (.reg b false)) s ∧ exec (.nop u (encI 0x09 d 0 i)) s = exec (.li u d i) s
      ∧ (c ≠ 15 → exec (.nop u (encJ 0x03 c.toNat off)) s = exec (.jcond u c off) s)
      ∧ exec (.nop u (encM 0x28 3 a b 0)) s = exec (.waitt u a b) s ∧ exec (.nop u (encM 0x30 0 a b 0)) s = exec (.take u a b) s)
  ∧ ∀ (u : Nat) (s : State), s.canIssue u = true →
    let x := s.unit u
    let moved (reads : List VReg) (held : Bool) (pc : Int) (stack : List Nat) (t : State) : Prop :=
      ((t.unit u).pc : Int) = pc ∧ (t.unit u).stack = stack ∧ (t.unit u).flags = x.flags ∧ (t.unit u).run = .run ∧ KeepsV u s t
        ∧ (t.unit u).nextIssue = t.ttime + unitCycle u ∧ UnitOnly u held reads s t
    let ok (p : Int) : Prop := 0 ≤ p ∧ p < fetchRange u
    (∀ a, ok (s.v u a).toNat → Completes (.jmp u a) s (moved [a] false (s.v u a).toNat x.stack))
      ∧ (∀ (c : BitVec 4) (off : BitVec 22), c ≠ 15 → ok (x.pc + off.toInt) →
          let f := x.flags
          let holds := [true, f.z, !f.z, f.n, !f.n, !f.n && !f.z, f.n || f.z, f.c, !f.c, !f.c && !f.z, f.c || f.z, f.t, !f.t, f.e, !f.e].getD c.toNat false
          Completes (.jcond u c off) s (moved [] (decide (c = 13 ∨ c = 14)) (if holds then x.pc + off.toInt else x.pc + 1) x.stack))
      ∧ (∀ off : BitVec 22, x.stack.length < 8 → ok (x.pc + off.toInt) →
          Completes (.call u off) s (moved [] false (x.pc + off.toInt) ((x.pc + 1) :: x.stack)))
      ∧ (∀ r rs, x.stack = r :: rs → ok r → Completes (.ret u) s (moved [] false r rs))
      ∧ (u < 128 → Completes (.halt u) s (fun t => (t.unit u).run = .halted ∧ (t.unit u).swapArmed = false
          ∧ (t.unit u).stack = x.stack ∧ (t.unit u).flags = x.flags ∧ KeepsV u s t ∧ t.mem = s.mem ∧ ∀ w, w ≠ u → t.unit w = s.unit w))
      ∧ (∀ imm : BitVec 18, x.lastTrap = none → Completes (.trap u imm) s (fun t =>
          (t.unit u).pc = x.pc + 1 ∧ (t.unit u).lastTrap = some t.ttime ∧ (t.unit u).flags = x.flags ∧ KeepsV u s t
            ∧ (∃ e ∈ t.raised, e.code = 0x8020 ∧ e.sev = imm.toNat / 2 ^ 16 ∧ e.stamp = t.ttime ∧ e.a0 = word x.pc ∧ e.a1 = word (imm.toNat % 2 ^ 16))
            ∧ ({ t with units := s.units, raised := s.raised } : State) = s.movedTo t.ttime ∧ ∀ w, w ≠ u → t.unit w = s.unit w))

/-- R45 to R47 and Table 2.5. R60, R61. Values that the timing context gives are read in the state of the issue cycle, which differs from the next state in the registers only. -/
def Obligations.LoadsAndStores : Prop :=
  (
     ∀ (u : Nat) (z : Size) (d a : VReg) (imm : BitVec 18) (s : State), s.canIssue u = true →
       let p := effAddr (s.v u a) imm
       let n := sizeBytes z
       let f := (s.unit u).flags
       let addr (i : Nat) : Nat := unitMemBase u + (s.unit u).phys u (p + i)
       let kept (t : State) : Prop := u < 128 ∧ (s.unit u).ctlCycle = cycleOf u t.ttime + 1 ∧ addr 0 / 4 ∈ (s.unit u).ctlWords
       p % n = 0 → p + n ≤ unitMemSize u →
         Completes (.ld u z d a imm) s (AluDone u d [a]
             (BitVec.ofNat 32 (ofLeBytes ((List.range n).map (fun i => Memory.read s.mem.prog (addr i))))) f.z f.n f.c s)
           ∧ Completes (.st u z d a imm) s (fun t =>
             ((kept t → t.mem = s.mem) ∧ (¬ kept t → ∀ i, i < n → Memory.read t.mem.prog (addr i) = BitVec.ofNat 8 ((s.v u d).toNat / 256 ^ i)))
               ∧ (∀ q, (∀ i, i < n → q ≠ addr i) → Memory.read t.mem.prog q = Memory.read s.mem.prog q)
               ∧ ({ t.mem with prog := s.mem.prog } : Mems) = s.mem
               ∧ (t.unit u).pc = (s.unit u).pc + 1 ∧ (t.unit u).flags = f ∧ KeepsV u s t ∧ CoreOnly u s t
               ∧ ({ t with units := s.units, mem := s.mem, sent := s.sent, twin := s.twin } : State) = s.movedTo t.ttime
               ∧ ∀ w, w ≠ u → t.unit w = s.unit w))
  ∧ (
     ∀ (u : Nat) (d a : VReg) (i : BitVec 18) (s : State), s.canIssue u = true →
       let k := i.toNat
       let reads (P : State → Prop) (v : State → Word) : Prop :=
         Completes (.mfs u d i) s (fun t => WritesV u d (v t) s t ∧ (t.unit u).pc = (s.unit u).pc + 1 ∧ (t.unit u).flags = (s.unit u).flags
           ∧ UnitOnly u (specialHeld i) [] s t ∧ P t)
       let plain (v : State → Word) : Prop :=
         reads (fun t => (t.unit u).mbox = (s.unit u).mbox ∧ (t.unit u).latTtimeHi = (s.unit u).latTtimeHi ∧ (t.unit u).latFrameHi = (s.unit u).latFrameHi) v
       (k = 0x001 → plain (fun t => word (t.ctxLine u)))
         ∧ (k = 0x002 → reads (fun t => (t.unit u).latFrameHi = word (t.ctxFrame u / 2 ^ 32 % 65536)) (fun t => word (t.ctxFrame u)))
         ∧ (k = 0x003 → reads (fun t => (t.unit u).latTtimeHi = word (t.ttime / 2 ^ 32)) (fun t => word t.ttime))
         ∧ (k = 0x004 → plain (fun _ => (s.unit u).latTtimeHi))
         ∧ (k = 0x005 → plain (fun _ => (s.unit u).latFrameHi))
         ∧ (k = 0x006 → plain (fun _ => word (if u < 128 then (s.unit u).bank + (if (s.unit u).swapArmed then 2 else 0) else 0)))
         ∧ (k = 0x008 → plain (fun _ => word (s.unit u).status))
         ∧ (k = 0x009 → plain (fun _ => word ((s.unit u).faultPc % 65536 * 65536 + (s.unit u).faultCode)))
         ∧ (k = 0x00A → plain (fun _ => (s.unit u).flags.toWord))
         ∧ (k = 0x00B → plain (fun _ => word (s.unit u).stack.length))
         ∧ (k = 0x00C → plain (fun _ => word (s.devId * 65536 + unitKind u * 256 + unitIndex u)))
         ∧ (k = 0x010 → plain (fun t => word (t.srcSeen u)))
         ∧ (k = 0x011 → plain (fun t => (t.unit u).events))
         ∧ (k = 0x018 → 128 ≤ u → plain (fun _ => word (s.unit u).timing))
         ∧ (k = 0x018 → u < 128 → plain (fun _ => word ((s.unitGroup u).getD 255)))
         ∧ (k = 0x020 → plain (fun t => t.unitSig u))
         ∧ (k = 0x030 → ∀ m q, (s.unit u).mbox = m :: q → cycleOf u m.2 < cycleOf u s.ttime →
             reads (fun t => (t.unit u).mbox = q) (fun _ => m.1))
         ∧ (k = 0x030 → (s.unit u).mbox = [] → plain (fun _ => 0))
         ∧ (k = 0x031 → plain (fun t => word ((s.unit u).mail u t.ttime).length))
         ∧ (0x040 ≤ k → k ≤ 0x047 → plain (fun t => t.paramSeen u (k - 0x040)))
         ∧ (k = 0x00A → (s.v u a).toNat < 32 → Completes (.mts u a i) s (fun t =>
             (t.unit u).flags.toWord = s.v u a ∧ (t.unit u).pc = (s.unit u).pc + 1 ∧ KeepsV u s t ∧ UnitOnly u false [a] s t))
         ∧ (k = 0x011 → (s.v u a).toNat < 0x1000 → Completes (.mts u a i) s (fun t =>
             (t.unit u).events &&& s.v u a = 0 ∧ (t.unit u).flags = (s.unit u).flags ∧ (t.unit u).pc = (s.unit u).pc + 1 ∧ KeepsV u s t ∧ UnitOnly u false [a] s t))
         ∧ (k = 0x018 → 128 ≤ u → (s.v u a).toNat < 16 ∨ (s.v u a).toNat = 255 → Completes (.mts u a i) s (fun t =>
             (t.unit u).timing = (s.v u a).toNat ∧ (t.unit u).flags = (s.unit u).flags ∧ (t.unit u).pc = (s.unit u).pc + 1 ∧ KeepsV u s t ∧ UnitOnly u false [a] s t)))



/-- R48, R54, R55. -/
def Obligations.WaitsBeginAndEnd : Prop :=
  (∀ (u : Nat) (a b : VReg) (s : State), s.canIssue u = true →
    let arg := (s.v u a).toNat
    let dl := (s.v u b).toNat
    let hasCtx : Prop := u < 128 ∨ (s.unit u).timing ≠ 255
    let waits (k : WaitKind) (t : State) : Prop :=
      (t.unit u).run = .wait ∧ (∃ n m, (t.unit u).wait = some ⟨k, arg, t.ttime, t.ttime + dl * unitCycle u, n, m⟩)
        ∧ (t.unit u).pc = (s.unit u).pc + 1 ∧ (t.unit u).flags = (s.unit u).flags ∧ KeepsV u s t ∧ UnitOnly u false [a, b] s t
    1 ≤ dl → dl ≤ 0x40000000 →
      (hasCtx → (∀ n, s.ctxLines u = some n → arg < n) → (s.ctxLines u = none → arg ≤ 8191) → Completes (.waitl u a b) s (waits .line))
        ∧ (hasCtx → 1 ≤ arg → arg ≤ 255 → Completes (.waitf u a b) s (waits .frame))
        ∧ (1 ≤ arg → arg < 0x1000 → Completes (.waite u a b) s (waits .event))
        ∧ Completes (.waitt u a b) s (waits .time))
  ∧ (∀ (u tAt : Nat) (s : State) (w : Wait), (s.unit u).wait = some w → (s.unit u).run = .wait →
    let x := s.unit u
    let ended (b : Bool) (c : Nat) (t : State) : Prop :=
      (t.unit u).run = .run ∧ (t.unit u).wait = none ∧ (t.unit u).flags = { x.flags with t := b } ∧ t.ttime = max s.ttime c
        ∧ (t.unit u).nextIssue = c + unitCycle u ∧ (t.unit u).pc = x.pc ∧ KeepsV u s t ∧ ∀ v, v ≠ u → t.unit v = s.unit v
    let reached (i : Nat) : Prop := ((i : Int) - w.arg) % 2 ^ 32 < 2 ^ 31
    let first (i : Nat) : Prop := w.metAt = some i ∨ (w.metAt = none ∧
      ((w.kind = .line ∧ (s.ctxOut u).any (fun n => decide (w.arg < (s.out n).tim.vTotal ∧ i = s.lineStart n w.arg ∧ w.issued ≤ i)) = true)
        ∨ (w.kind = .time ∧ (if reached w.issued then i = w.issued else w.issued < i ∧ i < w.issued + 2 ^ 32 ∧ i % 2 ^ 32 = w.arg % 2 ^ 32))))
    let late : State → Prop := fun t => ended true w.deadline t ∧ t.ctrOf (R.seqTimeoutCnt u) = satAdd ctrMax (s.ctrOf (R.seqTimeoutCnt u)) 1
      ∧ ({ t with units := s.units, ctr := s.ctr } : State) = s.movedTo t.ttime
    (x.swapDue = true → Completes (.waitComplete u tAt) s (fun t => t = s) ∧ Completes (.waitTimeout u) s (fun t => t = s))
      ∧ (x.swapDue = false →
        (∀ i, first i →
          let c := max w.issued (alignUp (unitCycle u) i)
          let done : State → Prop := fun t => ended false c t ∧ ({ t with units := s.units } : State) = s.movedTo t.ttime
          (alignUp (unitCycle u) i ≤ w.deadline → i ≤ alignUp (unitCycle u) (max s.ttime tAt) → Completes (.waitComplete u tAt) s done)
            ∧ (alignUp (unitCycle u) i ≤ w.deadline → Completes (.waitTimeout u) s done)
            ∧ (w.deadline < alignUp (unitCycle u) i → Completes (.waitTimeout u) s late))
        ∧ (w.metAt = none → w.kind = .frame ∨ w.kind = .event
              ∨ (w.kind = .line ∧ ∀ n, s.ctxOut u = some n → (s.out n).tim.vTotal ≤ w.arg ∨ s.lineStart n w.arg < w.issued) →
            Completes (.waitTimeout u) s late)))

/-- R46, R51, R54, R62, R63. -/
def Obligations.FaultsEnterSafe : Prop :=
  (∀ (u : Nat) (s : State), u < 128 → s.runs u = true → fetchRange u ≤ (s.unit u).pc → Completes (.ret u) s (Faulted u 5 s))
  ∧ ∀ (u : Nat) (d a : VReg) (s : State), u < 128 → s.canIssue u = true →
    let x := s.unit u
    let faults (c : Instr) (code : Nat) : Prop := Completes c s (Faulted u code s)
    let beyond (p : Int) : Prop := p < 0 ∨ (fetchRange u : Int) ≤ p
    (∀ w, legalWord false w = false → faults (.nop u w) 1 ∧ Completes (.nop u w) s (fun t => (t.unit u).faultWord = w))
      ∧ (∀ (b : VReg) (i : BitVec 14), i ≠ 0 → faults (.nop u (encM 0x28 3 a b i)) 2 ∧ faults (.nop u (encM 0x30 0 a b i)) 2 ∧ faults (.nop u (encM 0x31 0 a b i)) 2)
      ∧ (∀ r, faults (.add u d a (.reg r true)) 1 ∧ faults (.sub u d a (.reg r true)) 1 ∧ faults (.cmp u a (.reg r true)) 1
          ∧ faults (.and u d a (.reg r true)) 1 ∧ faults (.or u d a (.reg r true)) 1 ∧ faults (.xor u d a (.reg r true)) 1
          ∧ faults (.shl u d a (.reg r true)) 1)
      ∧ (∀ off, faults (.jcond u 15 off) 1)
      ∧ (∀ i : BitVec 18, (2 ^ 14 ≤ i.toNat → faults (.lui u d i) 2) ∧ (32 ≤ i.toNat → faults (.shl u d a (.imm i)) 2)
          ∧ (64 ≤ i.toNat → faults (.shr u d a (.imm i)) 2))
      ∧ (∀ (z : Size) (i : BitVec 18),
          let p := effAddr (s.v u a) i
          (p % sizeBytes z ≠ 0 → faults (.ld u z d a i) 2 ∧ faults (.st u z d a i) 2)
            ∧ (p % sizeBytes z = 0 → unitMemSize u < p + sizeBytes z → faults (.ld u z d a i) 5 ∧ faults (.st u z d a i) 5))
      ∧ (∀ i : BitVec 18, i.toNat = 0 ∨ i.toNat = 7 ∨ 0x48 ≤ i.toNat → faults (.mfs u d i) 2)
      ∧ (∀ i : BitVec 18, i.toNat ≠ 0x00A → i.toNat ≠ 0x011 → faults (.mts u a i) 2)
      ∧ (∀ off, x.stack.length = 8 → faults (.call u off) 3)
      ∧ (x.stack = [] → faults (.ret u) 4)
      ∧ (fetchRange u ≤ (s.v u a).toNat → faults (.jmp u a) 5)
      ∧ (∀ off, x.stack.length < 8 → beyond (x.pc + off.toInt) → faults (.call u off) 5)
      ∧ (∀ off, beyond (x.pc + off.toInt) → faults (.jcond u 0 off) 5)
      ∧ (∀ b, (s.v u b).toNat = 0 ∨ 0x40000000 < (s.v u b).toNat → faults (.waitt u a b) 6)
      ∧ (∀ b, s.v u a = 0 → faults (.waitf u a b) 2 ∧ faults (.waite u a b) 2)

/-- R54. A bad operand of Table 2.6 is reported first, having the lower code; WAITT has none. -/
def Obligations.WaitTimeoutRange : Prop :=
  ∀ (u : Nat) (a b : VReg) (s : State), s.canIssue u = true →
    let dl := (s.v u b).toNat
    let fault (ok : Nat → Prop) (t : State) : Prop :=
      ok (t.unit u).faultCode ∧ (t.unit u).faultPc = (s.unit u).pc ∧ (t.unit u).wait = none ∧ (t.unit u).run ≠ .wait
    (dl = 0 ∨ 0x40000000 < dl → Completes (.waitt u a b) s (fault (fun c => c = 6)))
      ∧ (1 ≤ dl → dl ≤ 0x40000000 → Completes (.waitt u a b) s (fun t => (t.unit u).run = .wait
          ∧ ∃ w, (t.unit u).wait = some w ∧ w.issued = t.ttime ∧ w.deadline = t.ttime + dl * unitCycle u))
      ∧ Completes (.waitl u a 0) s (fault (fun c => c = 2 ∨ c = 6)) ∧ Completes (.waitf u a 0) s (fault (fun c => c = 2 ∨ c = 6))
      ∧ Completes (.waite u a 0) s (fault (fun c => c = 2 ∨ c = 6)) ∧ Completes (.waitt u a 0) s (fault (fun c => c = 6))

/-- R40 with the profiles of Table 2.1. -/
def Obligations.ProfileExclusions : Prop :=
  ∀ (u : Nat) (d a b : VReg) (r : XbarEnd) (s : State), s.canIssue u = true →
    let illegal (t : State) : Prop := (t.unit u).faultCode = 1 ∧ (t.unit u).faultPc = (s.unit u).pc ∧ (t.unit u).faultTtime = t.ttime
    let excluded (c : Instr) : Prop := Completes c s (fun t => illegal t ∧ (t.unit u).run = .safe ∧ KeepsV u s t ∧ t.mem = s.mem)
    (u < 128 → excluded (.wr u a b r) ∧ excluded (.rd u d a r) ∧ excluded (.begin u) ∧ excluded (.commit u) ∧ excluded (.abort u)
        ∧ excluded (.salvo u d a) ∧ excluded (.send u a b) ∧ excluded (.loadp u a b))
      ∧ (128 ≤ u → ∀ imm, Completes (.swapp u imm) s illegal)

/-- R42. -/
def Obligations.VRegisters : Prop :=
  (∀ (s : State) (u : Nat), s.v u 0 = 0)
    ∧ (∀ (s : State) (u : Nat) (w : Word), KeepsV u s (s.setV u 0 w))
    ∧ (∀ (s : State) (u : Nat) (d : VReg) (i : BitVec 18), s.canIssue u = true →
        Completes (.li u d i) s (fun t => ∀ x, t.v u x = if x = 0 then 0 else if x = d then i.signExtend 32 else s.v u x))
    ∧ (∀ (s : State) (u : Nat), (s.unit u).start.isSome = true → (s.unit u).startDue = true →
        Completes (.seqStartAtFrame u) s (fun t => ∀ x, t.v u x = 0))
    ∧ (∀ (s : State) (u : Nat), (s.unit u).start.isSome = true → (s.unit u).startDue = false →
        Completes (.startNoFrame u) s (fun t => ∀ x, t.v u x = 0))
    ∧ (∀ (s : State) (e : Nat), e < 4 → s.headBlock e = .ready → bits (s.blockWord e (s.ce e).sqHead 0 0) 7 0 = 2 →
        Completes (.cmdCall e) s (fun t => ∀ x, t.v (128 + e) x = 0))
    ∧ (∀ (s : State) (e : Nat), e < 4 → s.headBlock e = .ready → bits (s.blockWord e (s.ce e).sqHead 0 0) 7 0 = 3 →
        Completes (.cmdInline e) s (fun t => ∀ x, t.v (128 + e) x = 0))
    ∧ (∀ (s : State) (u : Nat), (s.unit u).swapDue = true → (s.unit u).swapArmed = true → (s.unit u).run = .run ∨ (s.unit u).run = .wait →
        Completes (.bankSwap u) s (KeepsV u s))

/-! Umber: the media instructions. The checks are those of the tables named; they are judged in the issue cycle. -/

/-- R101, R120, R146, R161, R195, R199. Tables 4.5, 4.7, 6.3, 6.8 and R212: the refusals that come first. -/
def Obligations.OutputChangesCommit : Prop :=
  (
     ∀ (u : Nat) (a b : VReg) (n : Nat) (s : State), s.canIssue u = true → s.openGroup u = none → s.mayTarget u (.out n) = true →
       let w := s.v u b
       (readTarget u false (s.v u a) = some (.out n) →
         let i2 := s.issued u true [a, b]
         let i1 := s.issued u true [a]
         (srcWordOk w = true → (∀ r, i2.takeCheck u none n n w = .error r → Completes (.take u a b) s (MediaRefused u r s))
           ∧ (∀ i p, i2.takeCheck u none n n w = .ok (i, p) → Completes (.take u a b) s (fun t => MediaEnd u 0 s t ∧ OutOnly n s t ∧ KeepsV u s t
               ∧ (∃ q, (t.out n).pend = some q ∧ q.src = p.src ∧ q.commitT = t.ttime ∧ q.remote = p.remote)
               ∧ { t.out n with pend := (s.out n).pend } = s.out n ∧ t.mem = s.mem)))
         ∧ (∀ r, i1.tsetCheck u none n n false = .error r → Completes (.tset u a) s (MediaRefused u r s))
         ∧ (∀ p, i1.tsetCheck u none n n false = .ok p → Completes (.tset u a) s (fun t => MediaEnd u 0 s t ∧ OutOnly n s t ∧ KeepsV u s t
               ∧ (if (s.out n).scanning then (t.out n).timPend = some { p with commitT := t.ttime }
                  else if p.set.group = 0xFF then (t.out n).tim = p.set ∧ (t.out n).hasTim = true ∧ (t.out n).group = 0xFF
                  else (t.out n).timCap = some { p with commitT := t.ttime }) ∧ t.mem = s.mem))
         ∧ (∀ r, i1.fmtCheck u none n n none = .error r → Completes (.fmt u a) s (MediaRefused u r s))
         ∧ (∀ p, i1.fmtCheck u none n n none = .ok p → Completes (.fmt u a) s (fun t => MediaEnd u 0 s t ∧ KeepsV u s t
               ∧ (∀ m, m ≠ n → { t.out m with pool := (s.out m).pool } = s.out m) ∧ (t.out n).convPend = some { p with swLeft := 2 } ∧ t.mem = s.mem))
         ∧ ((∀ k, k < 16 → w.toNat.testBit k = true → s.insValid n k = true) → w.toNat < 65536 →
             (∀ r, i2.ancCheck u n w.toNat = .error r → Completes (.anc u a b) s (MediaRefused u r s))
             ∧ (∀ p, i2.ancCheck u n w.toNat = .ok p → Completes (.anc u a b) s (fun t => MediaEnd u 0 s t ∧ OutOnly n s t ∧ KeepsV u s t
               ∧ (t.out n).ancPend = some { p with commitT := t.ttime } ∧ { t.out n with ancPend := (s.out n).ancPend } = s.out n ∧ t.mem = s.mem))))
       ∧ (readTarget u true (s.v u a) = some (.out n) → ∀ plane : Bool,
         let i2 := s.issued u true [a, b]
         let p := if plane then 1 else 0
         let base := bits (s.v u a) 23 16 * 2 ^ 38 + w.toNat * 64
         (∀ r, i2.flipCheck u none n n p base false = .error r → Completes (.flip u plane a b) s (MediaRefused u r s))
           ∧ (∀ f, i2.flipCheck u none n n p base false = .ok f → Completes (.flip u plane a b) s (fun t => MediaEnd u 0 s t ∧ OutOnly n s t ∧ KeepsV u s t
               ∧ (∃ q, ((t.out n).plane p).pend = some q ∧ q.set = f.set ∧ q.set.base = base ∧ q.commitT = t.ttime)
               ∧ ((t.out n).plane (1 - p)) = (s.out n).plane (1 - p) ∧ t.mem = s.mem))))
  ∧ (
     ∀ (u : Nat) (a b : VReg) (n : Nat) (plane : Bool) (s : State), s.canIssue u = true → s.openGroup u = none → s.mayTarget u (.out n) = true →
       readTarget u false (s.v u a) = some (.out n) → srcWordOk (s.v u b) = true → (srcKind (s.v u b) = 3 ∨ srcKind (s.v u b) = 4) →
       let refused (c : Instr) (st : Nat) : Prop := Completes c s (MediaRefused u st s)
       let masked (c : VReg) : Prop := (s.v u c).toNat < 65536 ∧ ∀ k, k < 16 → (s.v u c).toNat.testBit k = true → s.insValid n k = true
       (s.outPresent n = false → refused (.take u a b) stAbsent ∧ refused (.tset u a) stAbsent ∧ refused (.fmt u a) stAbsent
           ∧ refused (.flip u plane a b) stAbsent ∧ (∀ c, masked c → refused (.anc u a c) stAbsent))
         ∧ (s.outPresent n = true → s.memOk = false → refused (.take u a b) stDenied ∧ refused (.flip u plane a b) stRange)
         ∧ (s.outPresent n = true → (s.out n).salvo.isSome = true →
             (s.memOk = true → refused (.take u a b) stLocked) ∧ refused (.tset u a) stLocked ∧ refused (.fmt u a) stLocked
             ∧ (∀ c, masked c → refused (.anc u a c) stLocked))
         ∧ (∀ e, s.outPresent n = true → (s.out n).salvo = none → (s.out n).grpHold = some e → u ≠ 128 + e →
             (s.memOk = true → refused (.take u a b) stBusy ∧ refused (.flip u plane a b) stBusy) ∧ refused (.tset u a) stBusy ∧ refused (.fmt u a) stBusy
             ∧ (∀ c, masked c → refused (.anc u a c) stBusy)))
  ∧ (
     ∀ (u : Nat) (a b : VReg) (n : Nat) (s : State), s.canIssue u = true → s.openGroup u = none → s.mayTarget u (.out n) = true →
       s.outPresent n = true → (s.out n).salvo = none → (s.out n).grpHold = none → s.groupMembers = [] → s.stk.parts = [] → s.memOk = true →
       let o := s.out n
       let w := s.v u b
       let plain (k : Nat) : Prop := k = 3 ∨ k = 4
       let ends (c : Instr) (P : State → Prop) : Prop := Completes c s (fun t => MediaEnd u 0 s t ∧ KeepsV u s t ∧ t.mem = s.mem ∧ P t)
       (readTarget u false (s.v u a) = some (.out n) →
         (srcWordOk w = true → plain (srcKind w) → ends (.take u a b) (fun t => OutOnly n s t ∧ ∃ q, (t.out n).pend = some q
             ∧ q.src = (if srcKind w = 3 then { kind := 3, idx := srcIdx w } else { kind := 4 }) ∧ q.commitT = t.ttime ∧ q.remote = false))
           ∧ (let p := s.stagedTim n
             p.group = 0xFF → p.limitsOk = true → s.tileOf n = none → s.portMode n ≠ 0 → s.portMode n ≠ 10 → ends (.tset u a) (fun t => OutOnly n s t
               ∧ (o.scanning = true → (t.out n).timPend = some { set := p, commitT := t.ttime })
               ∧ (o.scanning = false → (t.out n).tim = p ∧ (t.out n).hasTim = true ∧ (t.out n).group = 0xFF)))
           ∧ ((s.stagedConv n).lutEn = false → plain o.cur.kind → o.pend = none → ends (.fmt u a) (fun t =>
               (t.out n).convPend = some { set := s.stagedConv n, swLeft := 2 } ∧ ∀ m, m ≠ n → (t.out m).convPend = (s.out m).convPend))
           ∧ (w.toNat < 65536 → (∀ k, k < 16 → w.toNat.testBit k = true → s.insValid n k = true) → ends (.anc u a b) (fun t => OutOnly n s t
               ∧ (t.out n).ancPend = some { set := s.stagedAnc n w.toNat, commitT := t.ttime })))
         ∧ (∀ plane : Bool, readTarget u true (s.v u a) = some (.out n) →
           let p := if plane then 1 else 0
           (s.stagedPlane n p 0).enabled = false → s.tileOf n = none → ends (.flip u plane a b) (fun t => OutOnly n s t ∧ ∃ q, ((t.out n).plane p).pend = some q
             ∧ q.set.enabled = false ∧ q.commitT = t.ttime)))
  ∧ (
     ∀ (u k m : Nat) (ms : List Nat) (a b : VReg) (s : State), s.canIssue u = true → s.openGroup u = none → readTarget u false (s.v u a) = some (.tile k) →
       s.tileEnabled k = true → s.tileMembers k = m :: ms → srcWordOk (s.v u b) = true → srcKind (s.v u b) = 4 → s.memOk = true → s.groupMembers = [] → s.stk.parts = [] →
       (s.mayTarget u (.tile k) = false → Completes (.take u a b) s (MediaRefused u stDenied s))
         ∧ (s.mayTarget u (.tile k) = true → (∀ n ∈ m :: ms, s.outPresent n = true ∧ (s.out n).salvo = none ∧ (s.out n).grpHold = none) →
           Completes (.take u a b) s (fun t => MediaEnd u 0 s t ∧ KeepsV u s t ∧ t.mem = s.mem ∧ (∀ n, n ∉ m :: ms → t.out n = s.out n)
             ∧ ∀ n ∈ m :: ms, ∃ q, (t.out n).pend = some q ∧ q.src = { kind := 4 } ∧ q.commitT = t.ttime ∧ q.lines = (if n = m then none else some m))))
  ∧ (
     ∀ (u n : Nat) (a b : VReg) (s : State), s.canIssue u = true → s.openGroup u = none → readTarget u false (s.v u a) = some (.out n) →
       srcWordOk (s.v u b) = true → s.mayTarget u (.out n) = false → Completes (.take u a b) s (MediaRefused u stDenied s))



/-- R82, R109, R131, R204, R205. R185, R187, R206. -/
def Obligations.RemoteFormatAndLut : Prop :=
  (
     ∀ (u : Nat) (a b : VReg) (n : Nat) (s : State), s.canIssue u = true → s.openGroup u = none →
       let w := s.v u b
       let i := s.issued u true [a, b]
       let i1 := s.issued u true [a]
       let dev := srcDev w
       let idx := srcIdx w
       (readTarget u false (s.v u a) = some (.out n) → s.mayTarget u (.out n) = true →
         (srcWordOk w = true → srcKind w = 2 →
             (∀ r, i.prepare n w = .error r → Completes (.takeP u a b) s (MediaRefused u r s))
             ∧ (∀ f, s.outPresent n = true → s.memOk = true → dev ≠ s.devId → s.hasRoute dev = true → s.landingOf dev idx = some f →
                 Completes (.takeP u a b) s (fun t => MediaEnd u 0 s t ∧ KeepsV u s t ∧ t.flow f = { s.flow f with prepared := true } ∧ t.mem = s.mem
                   ∧ t.outs = s.outs))
             ∧ (∀ f i2, s.outPresent n = true → s.memOk = true → dev ≠ s.devId → s.hasRoute dev = true → s.landingOf dev idx = none →
                 i.addLanding n dev idx = some (f, i2) →
                 Completes (.takeP u a b) s (fun t => KeepsV u s t ∧ t.mem = s.mem ∧ t.outs = s.outs ∧
                   if fits i.vidWr i2.vidWr i.vidTotal = true ∧ fits i.vidRd i2.vidRd i.vidTotal = true then MediaEnd u 0 s t ∧
                       (match i2.startExchange n f dev idx with
                       | some _ => (t.flow f).prepared = true ∧ (t.flow f).landing = some (dev, idx)
                           ∧ (t.flow f).exchange = some (t.ticksOn 32) ∧ (∃ m ∈ t.sent, m.kind = "EXPORT_REQ" ∧ m.dst = dev)
                       | none => t.flows = s.flows ∧ EventNow 0x4010 sevWarn n t)
                   else MediaRefused u stNoBandwidth s t))
             ∧ (∀ r, i.unprepare n w = .error r → Completes (.takeU u a b) s (MediaRefused u r s))
             ∧ (∀ f, s.outPresent n = true → dev ≠ s.devId → s.landingOf dev idx = some f → s.landingUsed dev idx = false → (s.flow f).landing = some (dev, idx) →
                 Completes (.takeU u a b) s (fun t => MediaEnd u 0 s t ∧ KeepsV u s t ∧ Tbl.find t.flows f = none ∧ t.mem = s.mem ∧ t.outs = s.outs)))
         ∧ ((s.out n).grpHold = none → (∀ r, i1.lutStart n = .error r → Completes (.lut u a) s (MediaRefused u r s))
             ∧ (∀ i', i1.lutStart n = .ok i' → Completes (.lut u a) s (fun t => MediaEnd u 0 s t ∧ KeepsV u s t ∧ OutOnly n s t ∧ t.mem = s.mem
                 ∧ (t.out n).lut.loading = some (t.ticksOn 8) ∧ (t.out n).lut.src = s.reg64 (R.outLutSrcLo n)
                 ∧ (t.out n).lut.validBank (1 - (t.out n).lut.active) = false ∧ (t.out n).lut.active = (s.out n).lut.active))))
       ∧ (∀ ws, bits (s.v u a) 31 14 = 0 → i.readRecord u w.toNat 3 = .ok ws →
           formatOk (wordAt ws 0) (wordAt ws 1) (wordAt ws 2) = true →
           let f := bits (s.v u a) 13 0
           ((s.flow f).isIp = true → wordAt ws 2 = 0) → s.mayFlow u f = true →
           (s.slicePresent (f / 2048) = false → Completes (.fmtF u a b) s (MediaRefused u stAbsent s))
           ∧ (∀ r, i.fmtFlowCheck f (wordAt ws 0) (wordAt ws 1) (wordAt ws 2) = .error r → Completes (.fmtF u a b) s (MediaRefused u r s))
           ∧ (i.fmtFlowCheck f (wordAt ws 0) (wordAt ws 1) (wordAt ws 2) = .ok () → Completes (.fmtF u a b) s (fun t => MediaEnd u 0 s t ∧ KeepsV u s t
               ∧ t.flow f = { s.flow f with fmtPend := some (wordAt ws 0, wordAt ws 1, wordAt ws 2) } ∧ (∀ g, g ≠ f → t.flow g = s.flow g) ∧ t.mem = s.mem))))
  ∧ (
     ∀ (u : Nat) (a b : VReg) (imm : BitVec 14) (ref oc : Nat) (s : State), s.canIssue u = true → s.openGroup u = none →
       readChannel u (s.v u a) = some (ref, oc) → imm.toNat < 64 → oc + (imm.toNat + 1) ≤ 8192 → mayRef u ref = true →
       let n := imm.toNat + 1
       let x := (s.v u b).toNat
       let i := s.issued u true [a, b]
       let mapped (kind : Nat) (t : State) : Prop := MediaEnd u 0 s t ∧ KeepsV u s t ∧ t.mem = s.mem
         ∧ (∀ k, k < n → (t.oc (oc + k)).pend = some (PendMap.mk (mapCode kind x k) ref 2 (if ref = 0xFE ∨ (s.out ref).scanning = false then some (t.ttime + tickLen) else none))
             ∧ { t.oc (oc + k) with pend := (s.oc (oc + k)).pend } = s.oc (oc + k))
         ∧ (∀ c, c < oc ∨ oc + n ≤ c → t.oc c = s.oc c)
       let amap (c : Instr) (kind : Nat) : Prop :=
         (∀ r, i.amapCheck u { oc := oc, count := n, kind := kind, src := x, ref := ref } = .error r → Completes c s (MediaRefused u r s))
           ∧ (∀ r, i.amapCheck u { oc := oc, count := n, kind := kind, src := x, ref := ref } = .ok r → Completes c s (mapped kind))
       (x + n ≤ 8192 → amap (.amapInputBlock u a b imm) 0)
         ∧ (x = 0x2000 ∨ x = 0x2001 → amap (.amapSourceCode u a b imm) 1)
         ∧ (x < 0x4000 → bits (s.v u b) 7 6 = 0 → bits (s.v u b) 5 0 + n ≤ 64 → amap (.amapFollow u a b imm) 2)
         ∧ (bits (s.v u b) 31 19 = 0 → bits (s.v u b) 18 16 ≤ 3 → bits (s.v u b) 15 0 ≤ 48000 →
             (∀ r, i.axfCheck u ref = .error r → Completes (.axf u a b imm) s (MediaRefused u r s))
             ∧ (i.axfCheck u ref = .ok () → Completes (.axf u a b imm) s (fun t => MediaEnd u 0 s t ∧ KeepsV u s t ∧ t.mem = s.mem
                 ∧ (∀ k, k < n → t.reg (R.audioOcXf (oc + k)) = s.v u b)
                 ∧ (∀ r, (∀ k, k < n → r ≠ R.audioOcXf (oc + k)) → t.reg r = s.reg r)))))


/-- R207, R208. -/
def Obligations.SignaturesAndMarks : Prop :=
  ∀ (u : Nat) (d a b : VReg) (s : State), s.canIssue u = true →
    let x := (s.v u b).toNat
    let got (v : Word) (t : State) : Prop := WritesV u d v s t ∧ (t.unit u).status = 0 ∧ (t.unit u).pc = (s.unit u).pc + 1
      ∧ (t.unit u).flags = { (s.unit u).flags with e := false, z := decide (v = 0) }
      ∧ ({ t with units := s.units, freeCtr := s.freeCtr } : State) = s.movedTo t.ttime
    (x < 64 → s.outPresent x = true → Completes (.sigO u d b) s (got (s.out x).sigOut) ∧ Completes (.sigSrc u d b) s (got (s.out x).sigSrc))
      ∧ (x < 64 → s.outPresent x = false → Completes (.sigO u d b) s (MediaRefused u stAbsent s) ∧ Completes (.sigSrc u d b) s (MediaRefused u stAbsent s))
      ∧ (x = 255 → 64 ≤ u → u < 128 → s.outPresent (u - 64) = true →
          Completes (.sigO u d b) s (got (s.out (u - 64)).sigOut) ∧ Completes (.sigSrc u d b) s (got (s.out (u - 64)).sigSrc))
      ∧ (x < 16384 → s.slicePresent (x / 2048) = true →
          ((s.flow x).usable = true → (s.flow x).isVideo = true → Completes (.sigFlow u d b) s (got (s.flow x).sig))
            ∧ ((s.flow x).usable = false ∨ (s.flow x).isVideo = false → Completes (.sigFlow u d b) s (MediaRefused u stDenied s)))
      ∧ (x < 16384 → s.slicePresent (x / 2048) = false → Completes (.sigFlow u d b) s (MediaRefused u stAbsent s))
      ∧ (∀ (code : BitVec 14) (l : Nat), (s.unit u).lastMark = some l → s.issueAt u true [a] < l + 256 * unitCycle u → Completes (.markNow u a code) s (fun t =>
          MediaEnd u 0 s t ∧ KeepsV u s t ∧ t.raised = s.raised ∧ (t.unit u).lastMark = some l
            ∧ t.ctrOf (R.seqTrapDropCnt u) = satAdd ctrMax (s.ctrOf (R.seqTrapDropCnt u)) 1))
      ∧ (∀ code : BitVec 14, (s.unit u).lastMark = none → Completes (.markNow u a code) s (fun t => MediaEnd u 0 s t ∧ KeepsV u s t
          ∧ (∃ e ∈ t.raised, e.code = 0x8023 ∧ e.stamp = t.ttime ∧ e.a0 = word code.toNat ∧ e.a1 = s.v u a)
          ∧ ({ t with units := s.units, freeCtr := s.freeCtr, raised := s.raised } : State) = s.movedTo t.ttime))
      ∧ (∀ code : BitVec 14, u < 128 ∨ (s.unit u).timing ≠ 255 → Completes (.markNextFrame u a code) s (fun t => MediaEnd u 0 s t ∧ KeepsV u s t
          ∧ (t.unit u).mark = some ⟨code.toNat, s.v u a⟩ ∧ ({ t with units := s.units, freeCtr := s.freeCtr } : State) = s.movedTo t.ttime))

/-- R78, R81, R83, R96, R209, R210. -/
def Obligations.BindingsAndSwaps : Prop :=
  (∀ (u : Nat) (d a : VReg) (s : State), s.canIssue u = true → s.openGroup u = none →
    let i := s.issued u true [a]
    let x := (s.v u a).toNat
    (∀ ws, i.readRecord u x 16 = .ok ws → bindOperandOk ws = true → (128 ≤ u ∨ u < 64 ∧ bindPortA ws = u) →
        (∀ r, i.bindRows ws = .error r → Completes (.bind u d a) s (MediaRefused u r s))
        ∧ (∀ f i', i.bindRows ws = .ok (f, i') → Completes (.bind u d a) s (fun t => MediaEnd u 0 s t ∧ WritesV u d (word f) s t ∧ t.mem = s.mem
            ∧ (t.flow f).valid = true ∧ (t.flow f).det = .acquire ∧ (t.flow f).fmt0 = wordAt ws 2 ∧ (t.flow f).fmt1 = wordAt ws 3 ∧ (t.flow f).fmt2 = wordAt ws 4
            ∧ (t.flow f).bindT = t.ttime ∧ t.ctrOf (R.flowFramesIn f) = 0 ∧ t.ctrOf (R.flowFramesCommitted f) = 0 ∧ t.reg (R.flowPolicy f) = 0xFF20)))
      ∧ (x < 16384 → s.mayFlow u x = true →
        (s.slicePresent (x / 2048) = false → Completes (.bindR u a) s (MediaRefused u stAbsent s))
        ∧ (s.slicePresent (x / 2048) = true → (s.flow x).usable = false → Completes (.bindR u a) s (MediaRefused u stDenied s))
        ∧ (s.slicePresent (x / 2048) = true → (s.flow x).usable = true → s.flowTaken x = true → Completes (.bindR u a) s (MediaRefused u stBusy s))
        ∧ (∀ i', i.release x = .ok i' → Completes (.bindR u a) s (fun t => MediaEnd u 0 s t ∧ KeepsV u s t ∧ t.mem = s.mem
            ∧ (t.flow x).valid = false ∧ (t.flow x).releasing = some (t.ticksOn 8) ∧ (t.flow x).matchA = none ∧ (t.flow x).matchB = none)))
      ∧ (u < 128 → ∀ imm : BitVec 14, imm.toNat < 2 →
          (s.loadsInactive u = true → Completes (.swapp u imm) s (MediaRefused u stBusy s))
          ∧ (s.loadsInactive u = false → imm.toNat = 1 → s.unitLoad u 0x8000 4 = 0 → Completes (.swapp u imm) s (MediaRefused u stDenied s))
          ∧ (s.loadsInactive u = false → (imm.toNat = 1 → s.unitLoad u 0x8000 4 ≠ 0) → Completes (.swapp u imm) s (fun t => MediaEnd u 0 s t ∧ KeepsV u s t
              ∧ (t.unit u).swapArmed = true ∧ (t.unit u).bank = (s.unit u).bank ∧ ({ t with units := s.units } : State) = s.movedTo t.ttime))))
  ∧ (∀ (f tAt : Nat) (s : State) (lim : Nat), (s.flow f).releasing = some lim → Completes (.flowReleaseComplete f tAt) s (fun t =>
      Tbl.find t.flows f = none ∧ (∀ g, g ≠ f → t.flow g = s.flow g) ∧ t.ttime = max s.ttime (min lim (max s.ttime tAt))
        ∧ ((s.flow f).slots ≠ [] → ∀ h ∈ t.heap, h.1 ≠ (s.flow f).base)
        ∧ ({ t with flows := s.flows, heap := s.heap } : State) = s.movedTo t.ttime))

/-! The command engines: groups, WR and RD, SEND, LOADP, SALVO. -/

/-- R212, R213. -/
def Obligations.AtomicGroups : Prop :=
  (∀ (e : Nat) (s : State), s.canIssue (128 + e) = true →
    let u := 128 + e
    let noHold (t : State) : Prop := (t.ce e).grp = none ∧ ∀ p ∈ t.outs, p.2.grpHold ≠ some e
    let applied (t : State) : Prop := ∃ p ∈ s.outs, (t.out p.1).pend ≠ (s.out p.1).pend ∨ (t.out p.1).convPend ≠ (s.out p.1).convPend ∨ (t.out p.1).timPend ≠ (s.out p.1).timPend
      ∨ (t.out p.1).p0 ≠ (s.out p.1).p0 ∨ (t.out p.1).p1 ≠ (s.out p.1).p1 ∨ (t.out p.1).ancPend ≠ (s.out p.1).ancPend
    ((s.ce e).grp = none → Completes (.begin u) s (fun t => MediaEnd u 0 s t ∧ KeepsV u s t
          ∧ (∃ g, (t.ce e).grp = some g ∧ g.deadline = t.ticksOn 64 ∧ g.members = [] ∧ g.count = 0 ∧ g.failed = false ∧ g.expired = false)
          ∧ ({ t with units := s.units, freeCtr := s.freeCtr, ces := s.ces } : State) = s.movedTo t.ttime)
        ∧ Completes (.commit u) s (MediaRefused u stDenied s) ∧ Completes (.abort u) s (MediaRefused u stDenied s))
      ∧ (∀ g, (s.ce e).grp = some g →
          Completes (.begin u) s (MediaRefused u stBusy s)
          ∧ Completes (.abort u) s (fun t => MediaEnd u 0 s t ∧ KeepsV u s t ∧ noHold t ∧ ¬ applied t ∧ t.mem = s.mem)
          ∧ (g.expired = true → Completes (.commit u) s (fun t => MediaEnd u stTimeout s t ∧ noHold t ∧ ¬ applied t))
          ∧ (g.expired = false → g.failed = true → Completes (.commit u) s (fun t => MediaEnd u stAborted s t ∧ noHold t ∧ ¬ applied t))
          ∧ (g.expired = false → g.failed = false → Completes (.commit u) s (fun t => MediaEnd u 0 s t ∧ KeepsV u s t ∧ noHold t ∧ t.mem = s.mem))
          ∧ (∀ n m p q, g.expired = false → g.failed = false → g.members = [.take n p, .anc m q] → n ≠ m → Completes (.commit u) s (fun t => MediaEnd u 0 s t
              ∧ (∃ r, (t.out n).pend = some r ∧ r.src = p.src ∧ r.commitT = t.ttime) ∧ (t.out m).ancPend = some { q with commitT := t.ttime }))
          ∧ (g.expired = false → g.failed = false →
            let applies (P : State → Prop) : Prop := Completes (.commit u) s (fun t => MediaEnd u 0 s t ∧ noHold t ∧ P t)
            (∀ ms : List (Nat × PendTake), g.members = ms.map (fun q => .take q.1 q.2) → (ms.map Prod.fst).Nodup → applies (fun t =>
                (∀ q ∈ ms, ∃ r, (t.out q.1).pend = some r ∧ r.src = q.2.src ∧ r.commitT = t.ttime) ∧ ∀ n, n ∉ ms.map Prod.fst → (t.out n).pend = (s.out n).pend))
              ∧ (∀ n p, g.members = [.fmt n p] → applies (fun t => (t.out n).convPend = some { p with swLeft := 2 } ∧ ∀ m, m ≠ n → (t.out m).convPend = (s.out m).convPend))
              ∧ (∀ n p, g.members = [.tset n p] → (s.out n).scanning = true → applies (fun t => (t.out n).timPend = some { p with commitT := t.ttime }
                ∧ ∀ m, m ≠ n → (t.out m).timPend = (s.out m).timPend))
              ∧ (∀ n k x, g.members = [.flip n k x] → k < 2 → applies (fun t => (∃ y, ((t.out n).plane k).pend = some y ∧ y.set = x.set ∧ y.commitT = t.ttime)
                ∧ (t.out n).plane (1 - k) = (s.out n).plane (1 - k)))
              ∧ (∀ oc x, g.members = [.axf oc 1 x] → applies (fun t => t.reg (R.audioOcXf oc) = x ∧ ∀ r, r ≠ R.audioOcXf oc → t.reg r = s.reg r))
              ∧ (∀ x, g.members = [.amap x] → x.count = 1 → applies (fun t => (∃ y, (t.oc x.oc).pend = some y ∧ y.src = mapCode x.kind x.src 0 ∧ y.ref = x.ref)
                ∧ ∀ c, c ≠ x.oc → t.oc c = s.oc c))
              ∧ (∀ x w0 w1 w2, g.members = [.ffmt x w0 w1 w2] → applies (fun t => t.flow x = { s.flow x with fmtPend := some (w0, w1, w2) })))
          ∧ (∀ (a b : VReg) (n : Nat), readTarget u false (s.v u a) = some (.out n) → s.v u b = 0 →
            (g.expired = true → Completes (.anc u a b) s (MediaRefused u stTimeout s))
              ∧ (g.expired = false → s.outPresent n = true → (s.out n).salvo = none → (s.out n).grpHold = none ∨ (s.out n).grpHold = some e →
                (g.count < 64 → Completes (.anc u a b) s (fun t => MediaEnd u 0 s t ∧ KeepsV u s t ∧ OutOnly n s t ∧ t.out n = { s.out n with grpHold := some e }
                    ∧ (t.ce e).grp = some { g with count := g.count + 1, members := g.members ++ [.anc n { set := s.stagedAnc n 0, commitT := t.ttime }] } ∧ t.mem = s.mem))
                  ∧ (64 ≤ g.count → Completes (.anc u a b) s (fun t => MediaEnd u stRange s t ∧ t.outs = s.outs
                    ∧ (t.ce e).grp = some { g with count := g.count + 1, failed := true })))
              ∧ (g.expired = false → s.outPresent n = false → g.count < 64 → Completes (.anc u a b) s (fun t => MediaEnd u stAbsent s t ∧ t.outs = s.outs
                  ∧ (t.ce e).grp = some { g with count := g.count + 1, failed := true }
                  ∧ (g.failed = false → (t.ce e).groupFail = word (2 ^ 31 + stAbsent * 256 + (g.count + 1) % 128)))))))
  ∧ (∀ (e : Nat) (s : State) (g : Group), (s.ce e).grp = some g → g.expired = false → Completes (.groupExpired e) s (fun t =>
      t.ttime = max s.ttime g.deadline ∧ (t.ce e).grp = some { g with members := [], expired := true } ∧ (∀ p ∈ t.outs, p.2.grpHold ≠ some e)
        ∧ (∃ x ∈ t.raised, x.code = 0x8024 ∧ x.kind = kCe ∧ x.index = e ∧ x.stamp = t.ttime) ∧ t.mem = s.mem ∧ t.units = s.units))

/-- R211, R429. R216, R281. -/
def Obligations.EngineRegisterAccess : Prop :=
  (
     ∀ (e : Nat) (d a b : VReg) (r : XbarEnd) (s : State), s.canIssue (128 + e) = true → (s.ce e).grp = none →
       let u := 128 + e
       let adr := (s.v u a).toNat
       let i := s.issued u true [a, b]
       let i1 := s.issued u true [a]
       (adr % 4 = 0 → ceWindow true adr = true → (i.writeBy (4 + e) adr (s.v u b)).2.openGroup u = none → Completes (.wr u a b .answered) s (fun t =>
           let w := i.writeBy (4 + e) adr (s.v u b)
           (t.unit u).status = xbarStatus w.1 ∧ (t.unit u).flags.e = decide (xbarStatus w.1 ≠ 0) ∧ ({ t with units := w.2.units, freeCtr := w.2.freeCtr } : State) = w.2))
         ∧ (adr % 4 = 0 → ceWindow false adr = true → Completes (.rd u d a .answered) s (fun t =>
           let w := i1.readBy (4 + e) adr
           (t.unit u).status = xbarStatus w.1 ∧ (t.unit u).flags.e = decide (xbarStatus w.1 ≠ 0)
             ∧ (∀ x : VReg, t.v u x = if x = 0 then 0 else if x = d ∧ w.1 = 0 then word w.2.1 else w.2.2.v u x)
             ∧ ({ t with units := w.2.2.units, freeCtr := w.2.2.freeCtr } : State) = w.2.2))
         ∧ (adr % 4 = 0 → ceWindow true adr = false → Completes (.wr u a b r) s (MediaRefused u stDenied s))
         ∧ (adr % 4 = 0 → ceWindow false adr = false → Completes (.rd u d a r) s (MediaRefused u stDenied s))
         ∧ (adr % 4 = 0 → ceWindow false adr = true → Completes (.rd u d a .granted) s (fun t => (t.unit u).stalled = true ∧ KeepsV u s t
             ∧ Tbl.find t.xbar.xacts (4 + e) = some { target := targetOf adr, addr := adr, write := false, granted := true, issued := t.ttime, cls := s.regBits (R.xbarMasterCfg (4 + e)) 1 0, dst := d }
             ∧ t.mem = s.mem))
         ∧ (adr % 4 = 0 → ceWindow true adr = true →
           let waits (acc : Bool) (t : State) : Prop := (t.unit u).stalled = true ∧ KeepsV u s t ∧ ∃ x, Tbl.find t.xbar.xacts (4 + e) = some x ∧ x.target = targetOf adr
             ∧ x.addr = adr ∧ x.write = true ∧ x.granted = true ∧ x.data = s.v u b ∧ x.delivered = (if acc then 1 else 0)
           Completes (.wr u a b .granted) s (fun t => waits false t ∧ t.mem = s.mem ∧ t.regs = s.regs)
             ∧ ((i.writeBy (4 + e) adr (s.v u b)).2.openGroup u = none → KeepsV u s (i.writeBy (4 + e) adr (s.v u b)).2 → Completes (.wr u a b .accepted) s (fun t =>
               waits true t ∧ t.regs = (i.writeBy (4 + e) adr (s.v u b)).2.regs ∧ t.mem = (i.writeBy (4 + e) adr (s.v u b)).2.mem)))
         ∧ (adr % 4 ≠ 0 → Completes (.wr u a b r) s (fun t => (t.unit u).faultCode = 2 ∧ (t.unit u).faultPc = (s.unit u).pc)
             ∧ Completes (.rd u d a r) s (fun t => (t.unit u).faultCode = 2 ∧ (t.unit u).faultPc = (s.unit u).pc)))
  ∧ (
     ∀ (e : Nat) (d a : VReg) (s : State) (hd ws : List Word), s.canIssue (128 + e) = true → (s.ce e).grp = none →
       let u := 128 + e
       let i := s.issued u true [a]
       let x := (s.v u a).toNat
       let n := bits (wordAt hd 1) 12 0
       let lead := bits (wordAt hd 0) 15 8
       let g := bits (wordAt hd 0) 7 0
       let id := s.devId * 2 ^ 21 + (s.stk.salvoSeq + 1) % 2 ^ 21
       i.readRecord u x 4 = .ok hd → bits (wordAt hd 0) 31 24 = 0 → g < 16 → bits (wordAt hd 1) 31 13 = 0 → wordAt hd 3 = 0 →
         (n = 0 ∨ 4096 < n ∨ lead < 3 ∨ lead ≤ bits (wordAt hd 0) 23 16 → Completes (.salvo u d a) s (MediaRefused u stRange s))
         ∧ (1 ≤ n → n ≤ 4096 → 3 ≤ lead → bits (wordAt hd 0) 23 16 < lead → i.readRecord u x (4 + 4 * n) = .ok ws → salvoOk ws n = true →
             (s.groupEnabled g = false ∨ twice (salvoEntries ws n) = true → Completes (.salvo u d a) s (MediaRefused u stDenied s))
             ∧ (s.groupEnabled g = true → twice (salvoEntries ws n) = false →
                 (s.stk.master = none → Completes (.salvo u d a) s (fun t => MediaEnd u stAborted s t ∧ KeepsV u s t ∧ t.reg R.stkSalvoLast = word id
                     ∧ (∃ ev ∈ t.raised, ev.code = 0x9002 ∧ ev.a0 = word id ∧ ev.a2 = 2) ∧ t.mem = s.mem))
                 ∧ (s.stk.master = some s.devId → Completes (.salvo u d a) s (fun t => (t.unit u).stalled = true ∧ (t.unit u).pc = (s.unit u).pc + 1
                     ∧ KeepsV u s t ∧ t.reg R.stkSalvoLast = word id
                     ∧ (∃ w, (t.ce e).salvo = some w ∧ w.id = id ∧ w.vd = d.toNat ∧ w.group = g ∧ w.target = (s.group g).frame + lead)
                     ∧ (∃ v ∈ t.stk.salvos, v.id = id ∧ v.issuer = s.devId ∧ v.entries = salvoEntries ws n ∧ v.frame = (s.group g).frame + lead)
                     ∧ t.mem = s.mem)))))


/-- R61, R214, R215. -/
def Obligations.MailboxesAndProgramLoads : Prop :=
  (∀ (e : Nat) (a b : VReg) (v : Nat) (s : State), s.canIssue (128 + e) = true → (s.ce e).grp = none → readUnitWord (s.v (128 + e) a) = some v →
    let u := 128 + e
    let i := s.issued u true [a, b]
    (s.unitPresent v = false → Completes (.send u a b) s (MediaRefused u stAbsent s))
      ∧ (s.unitPresent v = true → 4 ≤ (s.unit v).mbox.length → Completes (.send u a b) s (MediaRefused u stBusy s))
      ∧ (s.unitPresent v = true → (s.unit v).mbox.length < 4 → Completes (.send u a b) s (fun t => MediaEnd u 0 s t ∧ KeepsV u s t
          ∧ (t.unit v).mbox = (s.unit v).mbox ++ [(s.v u b, t.ttime)] ∧ ((s.unit v).mbox = [] → (t.unit v).eventsNew &&& 0x100 = 0x100)
          ∧ ({ t with units := s.units, freeCtr := s.freeCtr } : State) = s.movedTo t.ttime))
      ∧ (∀ ws, i.readRecord u (s.v u b).toNat 4 = .ok ws → bits (wordAt ws 1) 31 14 = 0 → bits (wordAt ws 3) 31 5 = 0 → bits (wordAt ws 3) 3 2 = 0 →
          (∀ r, i.loadpRefusal v ws = some r → Completes (.loadp u a b) s (MediaRefused u r s))
          ∧ (i.loadpRefusal v ws = none → Completes (.loadp u a b) s (fun t => (t.unit u).stalled = true ∧ (t.unit u).pc = (s.unit u).pc + 1 ∧ KeepsV u s t
              ∧ (∃ l, (t.ce e).loadp = some l ∧ l.tgt = v ∧ l.src = (wordAt ws 0).toNat ∧ l.words = bits (wordAt ws 1) 13 0 ∧ l.crc = wordAt ws 2
                  ∧ l.started = t.ttime ∧ l.deadline = t.ticksOn 2 ∧ l.bank = (if bit (wordAt ws 3) 1 then (s.unit v).bank else 1 - (s.unit v).bank)
                  ∧ l.arm = bit (wordAt ws 3) 0 ∧ l.srcInEngine = !bit (wordAt ws 3) 4)
              ∧ ({ t with units := s.units, ces := s.ces } : State) = s.movedTo t.ttime))))
  ∧ (∀ (e : Nat) (s : State) (l : Loadp), (s.ce e).loadp = some l →
    let at_ := unitMemBase l.tgt + l.bank * 0x8000
    let src (k : Nat) : Byte := if l.srcInEngine then Memory.read s.mem.prog (unitMemBase (128 + e) + l.src + k) else Memory.read s.mem.sram (stageBase + l.src + k)
    let crcOk : Prop := word (crc32c (s.loadpBytes e l)) = l.crc
    let ends (st : Nat) (t : State) : Prop := (t.ce e).loadp = none ∧ (t.unit (128 + e)).stalled = false ∧ (t.unit (128 + e)).status = st
      ∧ (t.unit (128 + e)).flags.e = decide (st ≠ 0) ∧ (∀ q, q < at_ ∨ at_ + 4 * l.words ≤ q → Memory.read t.mem.prog q = Memory.read s.mem.prog q)
      ∧ ({ t.mem with prog := s.mem.prog } : Mems) = s.mem
    let loaded (st : Nat) (t : State) : Prop := ends st t ∧ ∀ k, k < 4 * l.words → Memory.read t.mem.prog (at_ + k) = src k
    (crcOk → l.arm = false → Completes (.loadpComplete e) s (loaded 0))
      ∧ (¬ crcOk → Completes (.loadpComplete e) s (loaded stCheckFail))
      ∧ (crcOk → l.arm = true → l.tgt ≠ 128 + e → (s.unit l.tgt).run = .run ∨ (s.unit l.tgt).run = .wait →
          Completes (.loadpComplete e) s (fun t => loaded 0 t ∧ (t.unit l.tgt).swapArmed = true))
      ∧ (crcOk → l.arm = true → (s.unit l.tgt).run ≠ .run → (s.unit l.tgt).run ≠ .wait → Completes (.loadpComplete e) s (fun t => loaded stDenied t
          ∧ (t.unit l.tgt).swapArmed = (s.unit l.tgt).swapArmed))
      ∧ Completes (.loadpTimeout e) s (fun t => ends stTimeout t ∧ t.ttime = max s.ttime l.deadline))


/-! Control of the sequencers and the host queues. -/

/-- R44, R48, R61, R65, R66, R355. -/
def Obligations.SequencerControl : Prop :=
  (∀ (m u : Nat) (s : State), m < 12 → u < 128 → s.writeGate m (R.seqCtrl u) = .pass →
    let x := s.unit u
    let only (P : UnitState → Prop) (t : State) : Prop := P (t.unit u) ∧ (∀ w, w ≠ u → t.unit w = s.unit w) ∧ t.mem = s.mem ∧ t.ttime = s.ttime
      ∧ ({ t with units := s.units, xbar := s.xbar, sent := s.sent, twin := s.twin } : State) = s
    let rejected : State → Prop := WriteRejected m (R.seqCtrl u) s
    let allowed : Prop := s.domAllowed (72 + u % 64 / 8) = true
    (allowed → x.start = none → x.run = .idle → s.isStandby = false →
        Completes (.seqCtrlStart m u) s (only (fun y => y = { x with start := some ⟨false, s.ticksOn 8⟩ })))
      ∧ (allowed → x.start = none → x.run = .safe ∨ x.run = .halted →
        Completes (.seqCtrlRestart m u) s (only (fun y => y = { x with start := some ⟨true, s.ticksOn 8⟩ })))
      ∧ (x.start.isSome = true ∨ ¬ allowed → Completes (.seqCtrlStart m u) s rejected ∧ Completes (.seqCtrlRestart m u) s rejected)
      ∧ (x.run ≠ .idle ∨ s.isStandby = true → Completes (.seqCtrlStart m u) s rejected)
      ∧ (x.run ≠ .safe → x.run ≠ .halted → Completes (.seqCtrlRestart m u) s rejected)
      ∧ (x.run = .run ∨ x.run = .wait →
        Completes (.seqCtrlHalt m u) s (only (fun y => y = { x with run := .halted, wait := none, swapArmed := false, swapDue := false })))
      ∧ (x.run ≠ .run → x.run ≠ .wait → Completes (.seqCtrlHalt m u) s rejected)
      ∧ Completes (.seqCtrlSwapDisarm m u) s (only (fun y => y = { x with swapArmed := false, swapDue := false })))
  ∧ (∀ (m u : Nat) (v : Word) (s : State), m < 12 → u < 132 → s.writeGate m (R.seqKick u) = .pass → s.unitPresent u = true →
      (v = 1 → Completes (.kick m u v) s (fun t => (t.unit u).eventsNew &&& 0x200 = 0x200 ∧ (∀ w, w ≠ u → t.unit w = s.unit w)
          ∧ ({ t with units := s.units, xbar := s.xbar, sent := s.sent, twin := s.twin } : State) = s))
        ∧ (1 < v.toNat → Completes (.kick m u v) s (fun t => t.units = s.units
          ∧ t.ctrOf R.globalRangeRejectCnt = satAdd ctrMax (s.ctrOf R.globalRangeRejectCnt) 1)))
  ∧ (∀ (u : Nat) (s : State) (r : StartReq), (s.unit u).start = some r →
      let fresh (t : State) : Prop := (∀ x, t.v u x = 0) ∧ (t.unit u).flags = {} ∧ (t.unit u).stack = [] ∧ (t.unit u).events = 0
        ∧ (t.unit u).pc = 0 ∧ (t.unit u).run = .run ∧ (t.unit u).start = none ∧ (t.unit u).bank = (s.unit u).bank
        ∧ (t.unit u).faultCode = (s.unit u).faultCode ∧ ∀ w, w ≠ u → t.unit w = s.unit w
      ((s.unit u).startDue = true → Completes (.seqStartAtFrame u) s (fun t => fresh t ∧ ({ t with units := s.units } : State) = s))
        ∧ ((s.unit u).startDue = false → r.restart = true → Completes (.startNoFrame u) s (fun t => fresh t ∧ t.ttime = max s.ttime r.limit
            ∧ ({ t with units := s.units } : State) = s.movedTo t.ttime))
        ∧ ((s.unit u).startDue = false → r.restart = false → Completes (.startNoFrame u) s (fun t => fresh t ∧ t.ttime = max s.ttime r.limit
            ∧ (∃ e ∈ t.raised, e.code = 0x8022 ∧ e.sev = sevNotice ∧ e.stamp = t.ttime)
            ∧ ({ t with units := s.units, raised := s.raised } : State) = s.movedTo t.ttime)))
  ∧ (∀ (u : Nat) (s : State), (s.unit u).swapDue = true → (s.unit u).swapArmed = true → (s.unit u).run = .run ∨ (s.unit u).run = .wait →
      Completes (.bankSwap u) s (fun t => KeepsV u s t ∧ (t.unit u).bank = 1 - (s.unit u).bank ∧ (t.unit u).flags = (s.unit u).flags
        ∧ (t.unit u).events = (s.unit u).events ∧ (t.unit u).stack = [] ∧ (t.unit u).wait = none ∧ (t.unit u).run = .run ∧ (t.unit u).pc = 0
        ∧ (t.unit u).swapArmed = false ∧ (∀ w, w ≠ u → t.unit w = s.unit w) ∧ ({ t with units := s.units } : State) = s))

/-- R218, R221, R222. R219, R220, R221. -/
def Obligations.HostQueues : Prop :=
  (
     (∀ (m e : Nat) (v : Word) (s : State), m < 12 → e < 4 →
       let c := s.ce e
       let w := v.toNat % 0x8000
       let rejected (t : State) : Prop := t.ces = s.ces ∧ t.mem = s.mem ∧ t.ctrOf R.globalRangeRejectCnt = satAdd ctrMax (s.ctrOf R.globalRangeRejectCnt) 1
       (s.writeGate m (R.ceqSqTail e) = .pass →
           (c.qstate ≠ 0 → (w + 0x8000 - c.sqHead) % 0x8000 ≤ 0x4000 →
             Completes (.sqTailDoorbell m e v) s (fun t => (t.ce e).sqTail = w ∧ t.mem.prog = s.mem.prog ∧ t.units = s.units
               ∧ (c.exec.isSome = true ∨ c.qstate = 2 → t.ce e = { c with sqTail := w } ∧ t.mem = s.mem)))
           ∧ (c.qstate = 0 ∨ 0x4000 < (w + 0x8000 - c.sqHead) % 0x8000 → Completes (.sqTailDoorbell m e v) s rejected))
         ∧ (s.writeGate m (R.ceqCqHead e) = .pass → (w + 0x8000 - c.cqHead) % 0x8000 ≤ c.unread →
             Completes (.cqHeadWrite m e v) s (fun t => (t.ce e).cqHead = w ∧ t.mem.prog = s.mem.prog ∧ t.units = s.units
               ∧ (c.exec.isSome = true ∨ c.qstate ≠ 1 → t.ce e = { c with cqHead := w } ∧ t.mem = s.mem)))
         ∧ (s.writeGate m (R.ceqCqHead e) = .pass → c.unread < (w + 0x8000 - c.cqHead) % 0x8000 → Completes (.cqHeadWrite m e v) s rejected)
         ∧ (s.writeGate m (R.ceqQCtrl e) = .pass →
           (bit v 31 = true → bit (s.reg (R.ceqQCtrl e)) 31 = false → Completes (.qCtrlEnable m e v) s (fun t =>
               t.ce e = { c with qstate := 0, sqHead := 0, sqTail := 0, cqTail := 0, cqHead := 0, waitCq := false, partialAt := none, enableAt := some ((s.tick + 1) * tickLen) }
               ∧ (∀ q, cqBase e ≤ q → q < cqBase e + 0x80000 → Memory.read t.mem.sram q = 0)
               ∧ (∀ q, q < cqBase e ∨ cqBase e + 0x80000 ≤ q → Memory.read t.mem.sram q = Memory.read s.mem.sram q)
               ∧ bit (t.reg (R.ceqQCtrl e)) 31 = true))
           ∧ (bit v 31 = false → c.exec.isSome = true → Completes (.qCtrlEnable m e v) s rejected)
           ∧ (bit v 31 = false → c.exec = none → Completes (.qCtrlEnable m e v) s (fun t => t.ce e = { c with qstate := 0, enableAt := none } ∧ t.mem = s.mem)))
         ∧ (s.writeGate m (R.ceqQResume e) = .pass →
           (bit v 0 = true → c.qstate = 2 → c.sqTail = c.sqHead → c.sqHead < 0x8000 → Completes (.qResume m e v) s (fun t => t.ce e = { c with qstate := 1 } ∧ t.mem = s.mem))
           ∧ (bit v 0 = false → c.qstate = 2 → Completes (.qResume m e v) s (fun t => t.ces = s.ces ∧ t.mem = s.mem))
           ∧ (c.qstate ≠ 2 → Completes (.qResume m e v) s rejected)))
     ∧ (∀ (e : Nat) (s : State), e < 4 → s.headBlock e = .ready →
       let c := s.ce e
       let h := c.sqHead
       let w0 := s.blockWord e h 0 0
       let u := 128 + e
       let kind := bits w0 7 0
       let done (t : State) : Prop := (t.ce e).sqHead = (h + bits w0 15 8) % 0x8000 ∧ (t.ce e).cqTail = (c.cqTail + 1) % 0x8000 ∧ (t.ce e).exec = c.exec
         ∧ word (Memory.readLe t.mem.sram (cqBase e + 32 * (c.cqTail % 16384)) 4) = word ((if c.cqTail < 16384 then 1 else 0) * 2 ^ 16 + kind * 256)
         ∧ t.ctrOf (R.ceqBlockCnt e) = satAdd ctrMax (s.ctrOf (R.ceqBlockCnt e)) 1 ∧ t.unit u = s.unit u
       let started (pc : Nat) (t : State) : Prop := (t.unit u).pc = pc ∧ (t.unit u).run = .run ∧ (∀ x, t.v u x = 0)
         ∧ (t.unit u).timing = bits (s.blockWord e h 0 3) 31 24
         ∧ (∃ x, (t.ce e).exec = some x ∧ x.idx = h ∧ x.nblk = bits w0 15 8 ∧ x.tag = s.blockWord e h 0 1
             ∧ x.deadline = s.ttime + (if bits (s.blockWord e h 0 2) 15 0 = 0 then 1600 else bits (s.blockWord e h 0 2) 15 0) * tickLen)
         ∧ (t.ce e).sqHead = h ∧ (∀ k, k < 16 → word (Memory.readLe t.mem.prog (unitMemBase u + 0x3FFC0 + 4 * k) 4) = s.blockWord e h 0 k)
         ∧ t.mem.sram = s.mem.sram
       let off := (s.blockWord e h 0 4).toNat
       let len := (s.blockWord e h 0 5).toNat
       let dst := bits (s.blockWord e h 0 3) 17 0
       (kind = 1 → Completes (.cmdNop e) s (fun t => done t ∧ t.mem.prog = s.mem.prog))
         ∧ (kind = 2 → Completes (.cmdCall e) s (started (bits (s.blockWord e h 0 3) 15 0)))
         ∧ (kind = 3 → Completes (.cmdInline e) s (fun t => started 0xFC00 t
             ∧ (∀ k, k < 12 → word (Memory.readLe t.mem.prog (unitMemBase u + 0x3F000 + 4 * k) 4) = s.blockWord e h 0 (4 + k))
             ∧ (∀ j k, 1 ≤ j → j < bits w0 15 8 → k < 16 → word (Memory.readLe t.mem.prog (unitMemBase u + 0x3F000 + 48 + 64 * (j - 1) + 4 * k) 4) = s.blockWord e h j k)))
         ∧ (kind = 4 → Completes (.cmdLoadc e) s (fun t => done t
             ∧ (∀ k, k < len → Memory.read t.mem.prog (unitMemBase u + dst + k) = Memory.read s.mem.sram (stageBase + off + k))
             ∧ (∀ q, q < unitMemBase u + dst ∨ unitMemBase u + dst + len ≤ q → Memory.read t.mem.prog q = Memory.read s.mem.prog q)))))
  ∧ (
     ∀ (e : Nat) (s : State),
       let c := s.ce e
       (∀ lim, c.partialAt = some lim → s.headBlock e = .partly → Completes (.blockPartialTimeout e) s (fun t =>
           t.ttime = max s.ttime lim ∧ (t.ce e).sqHead = (c.sqHead + c.posted) % 0x8000 ∧ (t.ce e).partialAt = none ∧ (t.ce e).cqTail = (c.cqTail + 1) % 0x8000
             ∧ t.ctrOf (R.ceqBlockRejectCnt e) = satAdd ctrMax (s.ctrOf (R.ceqBlockRejectCnt e)) 1 ∧ t.units = s.units ∧ t.mem.prog = s.mem.prog))
         ∧ (∀ m x, m < 12 → e < 4 → s.writeGate m (R.seqCtrl (128 + e)) = .pass → c.exec = some x → (s.unit (128 + e)).run = .run ∨ (s.unit (128 + e)).run = .wait →
           Tbl.find s.xbar.xacts (4 + e) = none → Completes (.seqCtrlHalt m (128 + e)) s (fun t => (t.ce e).exec = none ∧ (t.ce e).grp = none
             ∧ (t.unit (128 + e)).run = .idle ∧ (t.unit (128 + e)).wait = none ∧ (t.ce e).cqTail = (c.cqTail + 1) % 0x8000
             ∧ bits (word (Memory.readLe t.mem.sram (cqBase e + 32 * (c.cqTail % 16384)) 4)) 7 0 = stAborted ∧ t.ttime = s.ttime
             ∧ ∀ w, w ≠ 128 + e → t.unit w = s.unit w))
         ∧ (∀ x, c.exec = some x → Tbl.find s.xbar.xacts (4 + e) = none → Completes (.blockTimeout e) s (fun t =>
             t.ttime = max s.ttime x.deadline ∧ (t.ce e).exec = none ∧ (t.ce e).grp = none ∧ (t.unit (128 + e)).run = .idle ∧ (t.unit (128 + e)).wait = none
               ∧ (t.ce e).sqHead = (c.sqHead + x.nblk) % 0x8000 ∧ (t.ce e).cqTail = (c.cqTail + 1) % 0x8000
               ∧ t.ctrOf (R.ceqBlockTimeoutCnt e) = satAdd ctrMax (s.ctrOf (R.ceqBlockTimeoutCnt e)) 1
               ∧ (∃ v ∈ t.raised, v.code = 0x8025 ∧ v.sev = sevWarn ∧ v.index = e ∧ v.stamp = t.ttime) ∧ ∀ w, w ≠ 128 + e → t.unit w = s.unit w))
         ∧ (c.waitCq = true → c.unread < 16384 → Completes (.completionSpaceFreed e) s (fun t =>
             (t.ce e).waitCq = false ∧ (t.ce e).exec = c.exec ∧ t.units = s.units ∧ t.mem.prog = s.mem.prog ∧ (c.posted = 0 → ({ t with ces := s.ces } : State) = s))))



/-! Reads and writes of the control space; ticks. -/

/-- R24, R27, R116. How far TTIME trails is a free value (log entry 3). R21, R27, R222. -/
def Obligations.LatchedReads : Prop :=
  (
     ∀ (m : Nat) (s : State), m < 12 →
       let read (a v : Nat) (t : State) : Prop := t.sent = s.sent ++ [{ kind := "READ", via := m, dst := a, args := [v] }]
       (s.readGate m R.globalTtimeLo = .pass → Completes (.ttimeLoRead m) s (fun t => ∃ lag, 4 ≤ lag ∧ lag ≤ 8
           ∧ read R.globalTtimeLo ((s.ttime - lag) % 2 ^ 32) t ∧ Tbl.get 0 t.capT m = s.ttime - lag ∧ (∀ k, k ≠ m → Tbl.get 0 t.capT k = Tbl.get 0 s.capT k)
           ∧ ({ t with capT := s.capT, freeCtr := s.freeCtr, sent := s.sent, xbar := s.xbar } : State) = s))
         ∧ (∀ a h, findReg a = some h → ctrHome h a = some (a, false) → h.row.acc ≠ .wo → s.readGate m a = .pass → s.hitHere h = true →
             let v := s.ctrRead h.blk a
             Completes (.counterLoRead m a) s (fun t => read a (v % 2 ^ 32) t ∧ t.latched m (a + 4) = some (v / 2 ^ 32 % 2 ^ 32)
               ∧ ({ t with frozen := s.frozen, sent := s.sent, xbar := s.xbar } : State) = s))
         ∧ (∀ g start, g < 16 →
             let a := if start then R.tgrpLastStartLo g else R.tgrpFrameLo g
             let v := if start then (s.group g).lastStart else (s.group g).frame
             s.readGate m a = .pass → Completes (.tgrpFrameLoRead m g start) s (fun t => read a (v % 2 ^ 32) t
               ∧ t.latched m (a + 4) = some (v / 2 ^ 32 % 2 ^ 32) ∧ ({ t with frozen := s.frozen, sent := s.sent, xbar := s.xbar } : State) = s)))
  ∧ (
     ∀ (i : TickInfo) (s : State), s.pwr.upStep = none →
       let b := (if s.ticks < s.ttime / tickLen then s.ticks + 1 else s.ttime / tickLen + 1) * tickLen
       Completes (.tick i) s (fun t => t.ttime = max s.ttime b ∧ t.ticks = b / tickLen ∧ (s.ttime < b → t.snap = t.ctr) ∧ (b ≤ s.ttime → t.snap = s.snap)
         ∧ t.pending = s.pending ∧ ({ t.mem with cxl := s.mem.cxl } : Mems) = s.mem ∧ (s.pwr.target = 0 → s.pwr.domOn = s.domGoal → t.mem = s.mem)
         ∧ (∀ e lim, e < 4 → (s.ce e).enableAt = some lim → lim ≤ b → (t.ce e).qstate = 1 ∧ (t.ce e).enableAt = none)
         ∧ (∀ e, (s.ce e).enableAt = none → t.ce e = s.ce e) ∧ (∀ u x, t.v u x = s.v u x)
         ∧ (∀ k, i.alarms = some k → t.tamper.current = k % 128) ∧ (i.alarms = none → t.tamper = s.tamper)
         ∧ (∀ p level held, i.gpio = [(p, level, held)] → p < 32 →
             t.evlog.pins.testBit p = (if 80 * bits (s.reg (R.globalFilt 2)) 6 0 ≤ held then level else s.evlog.pins.testBit p))
         ∧ ((∃ m, m < 4 ∧ s.xbar.inReset.testBit m = true) → t.madder = s.madder ∧ t.health = s.health ∧ t.pwr = s.pwr ∧ t.twin = s.twin ∧ t.mem = s.mem
             ∧ t.units = s.units ∧ t.outs = s.outs ∧ t.flows = s.flows)))


/-- R6, R12, R14, R47, R217, R427. A program comes into the machine by such writes (log entry 8). -/
def Obligations.RegisterWrites : Prop :=
  ∀ (m a : Nat) (v : Word) (s : State), m < 12 →
    let stored (r : State → Nat → Byte) (at_ : Nat) (t : State) : Prop :=
      (∀ k, k < 4 → r t (at_ + k) = BitVec.ofNat 8 (v.toNat / 256 ^ k)) ∧ ∀ q, q < at_ ∨ at_ + 4 ≤ q → r t q = r s q
    let rejected : State → Prop := WriteRejected m a s
    (s.writeGate m a = .pass → targetOf a = 22 → sramReserved a = false → Completes (.registerWrite m a v) s (fun t =>
        stored (fun x q => Memory.read x.mem.sram q) (a - 0x08000000) t ∧ ({ t.mem with sram := s.mem.sram } : Mems) = s.mem
          ∧ ({ t with mem := s.mem, xbar := s.xbar } : State) = s))
      ∧ (s.writeGate m a = .pass → targetOf a = 23 → s.apertureByte a + 4 ≤ popBytes s → Completes (.registerWrite m a v) s (fun t =>
        stored (fun x q => Memory.read x.mem.cxl q) (s.apertureByte a) t ∧ ({ t.mem with cxl := s.mem.cxl } : Mems) = s.mem
          ∧ ({ t with mem := s.mem, xbar := s.xbar } : State) = s))
      ∧ (s.writeGate m a = .pass → 18 ≤ targetOf a → targetOf a ≤ 20 → s.progWritable a = true → Completes (.registerWrite m a v) s (fun t =>
        stored (fun x q => Memory.read x.mem.prog q) a t ∧ ({ t.mem with prog := s.mem.prog } : Mems) = s.mem
          ∧ ({ t with mem := s.mem, xbar := s.xbar, sent := s.sent, twin := s.twin, units := s.units } : State) = s
          ∧ ∀ u, { t.unit u with ctlWords := (s.unit u).ctlWords, ctlCycle := (s.unit u).ctlCycle } = s.unit u))
      ∧ (s.writeGate m a = .pass → 18 ≤ targetOf a → targetOf a ≤ 20 → s.progWritable a = false → Completes (.registerWrite m a v) s rejected)
      ∧ (s.writeGate m a = .reject → Completes (.registerWrite m a v) s rejected)
      ∧ (∀ h, s.writeGate m a = .pass → findReg a = some h → (s.writeHit m h a v).2 = false → Completes (.registerWrite m a v) s rejected)
      ∧ (∀ h, s.writeGate m a = .pass → findReg a = some h → (s.writeHit m h a v).2 = true → Completes (.registerWrite m a v) s (fun t =>
          ({ t with xbar := (s.writeHit m h a v).1.xbar, sent := (s.writeHit m h a v).1.sent, twin := (s.writeHit m h a v).1.twin } : State) = (s.writeHit m h a v).1))
      ∧ (∀ k, k < 4 → a = R.globalScratch k → s.writeGate m a = .pass → Completes (.registerWrite m a v) s (fun t => t.reg a = v
          ∧ (∀ r, r ≠ a → t.reg r = s.reg r) ∧ t.mem = s.mem ∧ t.units = s.units))


/-! Timing groups and frames. -/

/-- R113 to R116, R41. -/
def Obligations.TimingGroups : Prop :=
  (∀ (m g : Nat) (v : Word) (s : State), m < 12 → g < 16 → s.writeGate m (R.tgrpCtrl g) = .pass →
    let old := s.reg (R.tgrpCtrl g)
    let new := maskWrite old v 0x80FF3700
    let num := rateNum (bits v 23 16)
    let wrote (t : State) : Prop := t.reg (R.tgrpCtrl g) = new ∧ (∀ r, r ≠ R.tgrpCtrl g → t.reg r = s.reg r) ∧ (∀ k, k ≠ g → t.group k = s.group k)
      ∧ ({ t with groups := s.groups, regs := s.regs, flows := s.flows, raised := s.raised, xbar := s.xbar, sent := s.sent, twin := s.twin } : State) = s
    let bad : Prop := bits v 13 12 = 3 ∨ 4 < bits v 10 8 ∨ s.groupOutputs g ≠ 0
      ∨ (bit v 31 = true ∧ (num = 0 ∨ phaseOk (s.phaseOfs g) num = false)) ∨ (bit v 31 = true ∧ bit old 31 = true ∧ new ≠ old)
    (bit v 31 = true → bad → Completes (.tgrpEnable m g v) s (WriteRejected m (R.tgrpCtrl g) s))
      ∧ (bit v 31 = false → bad → Completes (.tgrpDisable m g v) s (WriteRejected m (R.tgrpCtrl g) s))
      ∧ (bit v 31 = true → bit old 31 = false → ¬ bad → bits v 10 8 = 0 → Completes (.tgrpEnable m g v) s (fun t => wrote t ∧ t.flows = s.flows ∧ t.raised = s.raised
          ∧ t.group g = { s.group g with fixed := true, waiting := none, epoch := (alignUp tickLen s.ttime : Nat) + s.phaseOfs g, fixT := s.ttime, free := false, running := false }))
      ∧ (bit v 31 = true → bit old 31 = false → ¬ bad → bits v 10 8 ≠ 0 → Completes (.tgrpEnable m g v) s (fun t => wrote t ∧ t.flows = s.flows ∧ t.raised = s.raised
          ∧ t.group g = { TGroup.reset with waiting := some (s.ticksOn 8), fixT := s.ttime }))
      ∧ (bit v 31 = true → bit old 31 = true → ¬ bad → Completes (.tgrpEnable m g v) s (fun t => wrote t ∧ t.flows = s.flows ∧ t.raised = s.raised ∧ t.group g = s.group g))
      ∧ (bit v 31 = false → bit old 31 = false → ¬ bad → Completes (.tgrpDisable m g v) s (fun t => wrote t ∧ t.flows = s.flows ∧ t.raised = s.raised ∧ t.group g = s.group g))
      ∧ (bit v 31 = false → bit old 31 = true → ¬ bad → Completes (.tgrpDisable m g v) s (fun t => wrote t ∧ t.group g = TGroup.reset
          ∧ (∀ f, { t.flow f with aligned := (s.flow f).aligned, alignRun := (s.flow f).alignRun } = s.flow f)
          ∧ ∀ f, (s.flow f).alignGroup = g → (t.flow f).aligned = false)))
  ∧ (∀ (g pulse : Nat) (s : State), g < 16 → (s.group g).waiting.isSome = true → s.sourceCompat g = true → (s.group g).fixT ≤ pulse → pulse ≤ s.ttime →
      Completes (.tgrpEpochFixed g pulse) s (fun t => (∀ k, k ≠ g → t.group k = s.group k) ∧ ({ t with groups := s.groups } : State) = s
        ∧ t.group g = { s.group g with fixed := true, waiting := none, epoch := (pulse : Int) + s.phaseOfs g, fixT := s.ttime, free := false, running := false }))
  ∧ (∀ (g : Nat) (s : State) (lim : Nat), (s.group g).waiting = some lim → Completes (.tgrpFree g) s (fun t =>
        let b := alignUp tickLen t.ttime
        t.ttime = max s.ttime lim ∧ EventNow 0x2010 sevWarn g t ∧ (∀ k, k ≠ g → t.group k = s.group k)
          ∧ t.group g = { s.group g with fixed := true, waiting := none, epoch := (b : Int) + s.phaseOfs g, fixT := b, free := true, running := false }
          ∧ ({ t with groups := s.groups, raised := s.raised } : State) = s.movedTo t.ttime))
  ∧ (∀ (g : Nat) (s : State), g < 16 → s.groupEnabled g = true → (s.group g).fixed = true →
      let G := s.group g
      let num := s.groupRate g
      let k := if G.running then G.frame + 1 else firstK G.epoch num G.fixT
      Completes (.tgrpFrameStart g) s (fun t =>
        t.group g = { G with running := true, frame := k % 2 ^ 48, lastStart := (G.epoch + (k * (clkHz * 1001) / num : Nat)).toNat,
                             liner := (s.outs.find? (fun p => p.2.scanning && decide (p.2.group = g))).map Prod.fst }
          ∧ t.ttime = max s.ttime (t.group g).lastStart ∧ (∀ j, j ≠ g → t.group j = s.group j)
          ∧ (∀ e, e < 4 → (s.unit (128 + e)).timing = g → s.unitPresent (128 + e) = true → (t.unit (128 + e)).lastFrame = some t.ttime)
          ∧ ({ t with groups := s.groups, units := s.units, ctr := s.ctr, raised := s.raised } : State) = s.movedTo t.ttime))

/-- R145, R149 to R151, R162, R167. -/
def Obligations.OutputFrames : Prop :=
  (∀ (n : Nat) (i : OutFrame) (s : State), s.outPresent n = true → s.pwr.stopOuts.contains n = false →
    let o := s.out n
    let T := (s.group o.group).lastStart
    let rest (t : State) : Prop := (∀ m, m ≠ n → t.port m = s.port m) ∧ (∀ g, { t.group g with liner := (s.group g).liner } = s.group g)
      ∧ ({ t with audio := s.audio, groups := s.groups, outs := s.outs, ctr := s.ctr, lastRaise := s.lastRaise, ports := s.ports, raised := s.raised, regs := s.regs, sent := s.sent, ser := s.ser, syns := s.syns, tiles := s.tiles, units := s.units } : State) = s
    let begun (tm : Nat) (t : State) : Prop := (t.out n).frameT = tm ∧ (t.out n).frame = (o.frame + 1) % 2 ^ 48 ∧ (t.out n).line = 0
      ∧ (t.out n).swSeen = false ∧ (t.out n).latchSeen = false ∧ rest t
    let applied (p q : Plane) (tm : Nat) (t : State) : Prop :=
      (∀ f, p.cap = some f → q.cur = f.set ∧ q.cap = none ∧ q.pend = p.pend ∧ (t.out n).flipTtime = tm) ∧ (p.cap = none → q.cur = p.cur ∧ q.pend = p.pend)
    let started (p q : Plane) : Prop := q.cap = none ∧ q.pend = none ∧ (∀ f, p.pend = some f → q.cur = f.set)
      ∧ (∀ f, p.pend = none → p.cap = some f → q.cur = f.set) ∧ (p.pend = none → p.cap = none → q.cur = p.cur)
    let goesOn (t : State) : Prop := begun T t ∧ applied o.p0 (t.out n).p0 T t ∧ applied o.p1 (t.out n).p1 T t
    (o.scanning = true → o.frameT < T →
      (o.timCap = none → Completes (.outputFrameStart n i) s (fun t =>
        goesOn t ∧ OutOnly n s t ∧ (t.out n).tim = o.tim ∧ (t.out n).cur = o.cur ∧ (t.out n).transition = o.resume
          ∧ (o.resume = true → (t.out n).shown = .black)
          ∧ (o.resume = false → o.cutWait = false → o.safe = none → o.safeDue = false → o.fallback = false → o.cur.kind ≠ 4 → (t.out n).shown = .picture)))
      ∧ (∀ p, o.timCap = some p →
        (p.set.group = o.group → o.cutWait = false → Completes (.outputFrameStart n i) s (fun t => goesOn t ∧ (t.out n).tim = p.set
          ∧ (t.out n).timCap = none ∧ (t.out n).transition = decide (p.set.vTotal ≠ o.tim.vTotal)))
        ∧ (p.set.group ≠ o.group ∨ o.cutWait = true →
          (p.set.group = 0xFF → Completes (.outputFrameStart n i) s (fun t => rest t ∧ (t.out n).scanning = false ∧ (t.out n).frameT = T
            ∧ (t.out n).frame = o.frame ∧ applied o.p0 (t.out n).p0 T t ∧ applied o.p1 (t.out n).p1 T t
            ∧ (o.timPend = none → (t.out n).tim = p.set ∧ (t.out n).timCap = none) ∧ (∀ q, o.timPend = some q → q.set.group ≠ 0xFF → (t.out n).timCap = some q)))
          ∧ (p.set.group ≠ 0xFF → s.startsAt p.set.group T = true → Completes (.outputFrameStart n i) s (fun t => goesOn t ∧ (t.out n).tim = p.set
            ∧ (t.out n).timCap = none ∧ (t.out n).group = p.set.group ∧ (t.out n).transition = true ∧ (t.out n).cutWait = false ∧ (t.out n).shown = .black))
          ∧ (p.set.group ≠ 0xFF → s.startsAt p.set.group T = false → Completes (.outputFrameStart n i) s (fun t => goesOn t ∧ OutOnly n s t ∧ (t.out n).tim = o.tim
            ∧ (t.out n).timCap = some p ∧ (t.out n).group = o.group ∧ (t.out n).transition = false ∧ (t.out n).cutWait = true ∧ (t.out n).shown = .black)))))
      ∧ (∀ p, o.scanning = false → o.timCap = some p → p.set.group < 16 → (s.group p.set.group).running = true → p.commitT ≤ (s.group p.set.group).lastStart →
        Completes (.outputFrameStart n i) s (fun t => begun (s.group p.set.group).lastStart t ∧ (t.out n).tim = p.set ∧ (t.out n).timCap = none
          ∧ (t.out n).scanning = true ∧ (t.out n).group = p.set.group ∧ (t.out n).transition = true ∧ (t.out n).shown = .black
          ∧ started o.p0 (t.out n).p0 ∧ started o.p1 (t.out n).p1)))
  ∧ (∀ (n : Nat) (i : OutFrame) (s : State), s.outPresent n = true → s.pwr.stopOuts.contains n = true → (s.out n).scanning = true →
      (s.out n).frameT < (s.group (s.out n).group).lastStart → Completes (.outputFrameStart n i) s (fun t => OutOnly n s t
        ∧ t.out n = { s.out n with scanning := false, frameT := (s.group (s.out n).group).lastStart } ∧ t.pwr.stopOuts.contains n = false
        ∧ ({ t with outs := s.outs, ports := s.ports, pwr := s.pwr } : State) = s ∧ { t.pwr with stopOuts := s.pwr.stopOuts } = s.pwr))
  ∧ (∀ (n : Nat) (i : OutFrame) (s : State) (p : PendTim), (s.out n).timCap = some p → (s.out n).cutWait = true → (s.group p.set.group).running = true →
      (s.out n).frameT ≤ (s.group p.set.group).lastStart → Completes (.groupChangeCut n i) s (fun t =>
        (t.out n).tim = p.set ∧ (t.out n).group = p.set.group ∧ (t.out n).timCap = none ∧ (t.out n).cutWait = false ∧ (t.out n).transition = true
          ∧ (t.out n).shown = .black ∧ (t.out n).frameT = (s.group p.set.group).lastStart ∧ (t.out n).frame = ((s.out n).frame + 1) % 2 ^ 48
          ∧ ({ t with audio := s.audio, groups := s.groups, outs := s.outs, ctr := s.ctr, lastRaise := s.lastRaise, ports := s.ports, raised := s.raised, regs := s.regs, sent := s.sent, ser := s.ser, syns := s.syns, units := s.units } : State) = s))

/-- R87, R89, R97, R101, R105, R120, R131, R149, R153, R154, R162, R166, R195. -/
def Obligations.OutputLines : Prop :=
  ∀ (n : Nat) (s : State), (s.out n).scanning = true →
    let o := s.out n
    let swT := s.lineStart n o.sw
    (∀ noRoom : Nat, Completes (.switchingLine n noRoom) s (fun t =>
        t.ttime = max s.ttime swT ∧ (t.out n).swSeen = true ∧ t.mem = s.mem ∧ t.ports = s.ports ∧ t.groups = s.groups
          ∧ (∀ m p, (s.out m).pend = some p → p.lines.getD m = n →
              (p.swLeft ≤ 1 → p.remote = false → (p.src.kind = 5 → 2 ≤ p.frames) →
                (t.out m).pend = none ∧ (t.out m).taken = true ∧ (t.out m).takeTtime = swT ∧ (t.out m).cur.kind = p.src.kind ∧ (t.out m).cur.idx = p.src.idx
                  ∧ (p.src.kind ≠ 1 → (t.out m).cur = p.src ∧ (t.out m).takeStatus = stOk))
              ∧ (1 < p.swLeft → (t.out m).pend = some { p with swLeft := p.swLeft - 1 })
              ∧ (p.swLeft ≤ 1 → p.remote = true ∨ (p.src.kind = 5 ∧ p.frames < 2) → (t.out m).pend = some p))
          ∧ (∀ m q, (s.out m).convPend = some q → q.lines.getD m = n →
              (q.swLeft ≤ 1 → (t.out m).conv = q.set ∧ (t.out m).convPend = none)
              ∧ (1 < q.swLeft → (t.out m).conv = (s.out m).conv ∧ (t.out m).convPend = some { q with swLeft := q.swLeft - 1 }))
          ∧ (∀ m, (∀ p, (s.out m).pend = some p → p.lines.getD m ≠ n) → (t.out m).pend = (s.out m).pend ∧ (t.out m).taken = (s.out m).taken
              ∧ (t.out m).takeTtime = (s.out m).takeTtime)
          ∧ (∀ m, (∀ q, (s.out m).convPend = some q → q.lines.getD m ≠ n) → (t.out m).convPend = (s.out m).convPend ∧ (t.out m).conv = (s.out m).conv)
          ∧ (∀ k, o.lut.swapLeft = some k → k ≤ 1 → (t.out n).lut = { o.lut with swapLeft := none, active := 1 - o.lut.active })
          ∧ (∀ k, o.lut.swapLeft = some k → 1 < k → (t.out n).lut = { o.lut with swapLeft := some (k - 1) })))
      ∧ (let t1 := s.advance (s.lineStart n o.tim.latchLineNo)
        Completes (.latchLine n) s (fun t => t.ttime = t1.ttime ∧ (t.out n).latchSeen = true
          ∧ (∀ m k f, k < 2 → ((s.out m).plane k).pend = some f → f.lines.getD m = n →
              (t1.waitsLatch m f.commitT f.due = false → ((t.out m).plane k).cap = some f ∧ ((t.out m).plane k).pend = none)
              ∧ (t1.waitsLatch m f.commitT f.due = true → ((t.out m).plane k).cap = ((s.out m).plane k).cap ∧ ((t.out m).plane k).pend = some { f with late := true }))
          ∧ (∀ m k, k < 2 → (∀ f, ((s.out m).plane k).pend = some f → f.lines.getD m ≠ n) → (t.out m).plane k = (s.out m).plane k)
          ∧ (∀ m k, k < 2 → ((t.out m).plane k).cur = ((s.out m).plane k).cur)
          ∧ (∀ m p, (s.out m).timPend = some p → p.lines.getD m = n →
              (t1.waitsLatch m p.commitT p.due = false → (s.out m).cutWait = false → (t.out m).timCap = some p ∧ (t.out m).timPend = none)
              ∧ (t1.waitsLatch m p.commitT p.due = true ∨ (s.out m).cutWait = true → (t.out m).timCap = (s.out m).timCap ∧ (t.out m).timPend = some p))
          ∧ (∀ m, (∀ p, (s.out m).timPend = some p → p.lines.getD m ≠ n) → (t.out m).timCap = (s.out m).timCap ∧ (t.out m).timPend = (s.out m).timPend)
          ∧ (∀ p, o.ancPend = some p → t1.waitsLatch n p.commitT p.due = false → (t.out n).ancCap = some p ∧ (t.out n).ancPend = none)
          ∧ (∀ p, o.ancPend = some p → t1.waitsLatch n p.commitT p.due = true → (t.out n).ancCap = o.ancCap ∧ (t.out n).ancPend = some p)
          ∧ (∀ m, { t.out m with latchSeen := (s.out m).latchSeen, p0 := (s.out m).p0, p1 := (s.out m).p1, timPend := (s.out m).timPend, timCap := (s.out m).timCap,
                                 ancPend := (s.out m).ancPend, ancCap := (s.out m).ancCap } = s.out m)
          ∧ ({ t with outs := s.outs, units := s.units } : State) = s.movedTo t.ttime))
      ∧ Completes (.selectionLine n) s (fun t => t.ttime = max s.ttime (s.lineStart n o.tim.selLineNo) ∧ OutOnly n s t
          ∧ (s.repeats n = true → t.outs = s.outs ∧ t.ctr = s.ctr)
          ∧ (s.repeats n = false → s.storeOf o.nextSrc = none → (t.out n).sel = none ∧ (t.out n).selBlack = true)
          ∧ (∀ f, s.repeats n = false → s.storeOf o.nextSrc = some f →
              let q := newestSeq (s.flow f).slots
              ((s.flow f).presentsBlack = true → (t.out n).sel = some (f, 0) ∧ (t.out n).selBlack = true)
              ∧ ((s.flow f).presentsBlack = false → (t.out n).sel = some (f, q) ∧ (t.out n).selBlack = false
                ∧ ∀ p, o.sel = some (f, p) → o.selBlack = false →
                  (p = q → (t.out n).selDup = o.selDup + 1 ∧ (s.twiceRate n (s.flow f) = false →
                      t.ctrOf (R.outRepeatCnt n) = satAdd ctrMax (s.ctrOf (R.outRepeatCnt n)) 1))
                  ∧ (p + 1 < q → (t.out n).selDup = 0 ∧ t.ctrOf (R.outSkipCnt n) = satAdd ctrMax (s.ctrOf (R.outSkipCnt n)) (q - p - 1))))
          ∧ ({ t with outs := s.outs, ctr := s.ctr } : State) = s.movedTo t.ttime)
      ∧ (∀ l lv l0 l1 (late late0 late1 : Bool), l < o.tim.vTotal → Completes (.scanLineStart n l lv l0 l1 late late0 late1) s (fun t =>
          let e := o.conv.enc
          t.ttime = max s.ttime (s.lineStart n l) ∧ OutOnly n s t ∧ (t.out n).line = l ∧ (t.out n).bufLevel = (o.levels false lv l0 l1).foldl min 24
            ∧ (t.out n).urgency = (match o.levels o.isDirect lv l0 l1 with | [] => 0 | x :: xs => urgencyOf (xs.foldl min x) (bit (s.reg (R.outScanCtrl n)) 0))
            ∧ t.ctrOf (R.outUnderflowCnt n) = satAdd ctrMax (s.ctrOf (R.outUnderflowCnt n)) late.toNat
            ∧ t.ctrOf (R.outPlaneUnderflowCnt n) = satAdd ctrMax (s.ctrOf (R.outPlaneUnderflowCnt n)) (late0.toNat + late1.toNat)
            ∧ (∀ y, o.tim.row l = some y → (late = true → (t.out n).sent = o.sent)
                ∧ (late = false → o.shown = .black ∨ (o.seen.kind = 4 ∧ o.shown ≠ .black) → (t.out n).sent = e.blackLine o.tim.hActive)
                ∧ (late = false → o.shown ≠ .black → o.seen.kind = 3 → (t.out n).sent = e.line [n, o.frame, y]
                    ((List.range o.tim.hActive).map (fun x => e.ofRgb (patternPx e o.seen.idx o.tim.hActive o.tim.vActive x y))))
                ∧ (late0 = true → (t.out n).p0.sent = o.p0.sent) ∧ (late1 = true → (t.out n).p1.sent = o.p1.sent))
            ∧ ((∀ p, o.pend = some p → p.src.kind = 5 → p.frames ≠ 1) → t.mem = s.mem)
            ∧ ({ t with mem := s.mem, outs := s.outs, ctr := s.ctr, lastRaise := s.lastRaise, raised := s.raised, regs := s.regs, sent := s.sent, units := s.units } : State) = s.movedTo t.ttime))

/-- R68, R69, R131, R137, R140, R164. -/
def Obligations.TilesLutsPoolsPorts : Prop :=
  (∀ (m k : Nat) (v : Word) (s : State), m < 12 → k < 16 → s.writeGate m (R.tileCtrl k) = .pass →
    let waits := (s.tileMembers k).any (fun n => (s.out n).timPend.isSome || (s.out n).timCap.isSome)
    let scans := (s.tileMembers k).any (fun n => (s.out n).scanning)
    let settled (on : Bool) (t : State) : Prop := t.reg (R.tileCtrl k) = (if on then 0x80000000 else 0) ∧ (∀ r, r ≠ R.tileCtrl k → t.reg r = s.reg r)
      ∧ t.tile k = (if scans = true then { s.tile k with change := some on } else { s.tile k with on := on, change := none }) ∧ (∀ j, j ≠ k → t.tile j = s.tile j)
      ∧ ({ t with regs := s.regs, tiles := s.tiles, xbar := s.xbar, sent := s.sent, twin := s.twin } : State) = s
    (bit v 31 = true → s.tileEnabled k = false → s.tileOk k = true → Completes (.tileCtrlEnable m k v) s (settled true))
      ∧ (bit v 31 = false → s.tileEnabled k = true → waits = false → Completes (.tileCtrlEnable m k v) s (settled false))
      ∧ (bit v 31 = s.tileEnabled k → Completes (.tileCtrlEnable m k v) s (fun t => ({ t with xbar := s.xbar, sent := s.sent, twin := s.twin } : State) = s))
      ∧ (bit v 31 = true → s.tileEnabled k = false → s.tileOk k = false → Completes (.tileCtrlEnable m k v) s (WriteRejected m (R.tileCtrl k) s))
      ∧ (bit v 31 = false → s.tileEnabled k = true → waits = true → Completes (.tileCtrlEnable m k v) s (WriteRejected m (R.tileCtrl k) s)))
  ∧ (∀ (n : Nat) (s : State),
      let L := (s.out n).lut
      let failed (code : Nat) (t : State) : Prop := (t.out n).lut = { L with loading := none, result := code } ∧ EventNow 0x4023 sevWarn n t ∧ OutOnly n s t
        ∧ t.ctrOf (R.outLutFailCnt n) = satAdd ctrMax (s.ctrOf (R.outLutFailCnt n)) 1
        ∧ ({ t with outs := s.outs, ctr := s.ctr, raised := s.raised } : State) = s.movedTo t.ttime
      (L.loading.isSome = true → s.lutImage n = stOk → Completes (.lutLoaded n) s (fun t =>
          (t.out n).lut.loading = none ∧ (t.out n).lut.result = stOk ∧ (t.out n).lut.swapLeft = some 2 ∧ (t.out n).lut.active = L.active
            ∧ (if L.active = 0 then (t.out n).lut.valid1 else (t.out n).lut.valid0) = true
            ∧ (if L.active = 0 then (t.out n).lut.data1 else (t.out n).lut.data0) = s.lutData n ∧ EventNow 0x4022 sevInfo n t ∧ OutOnly n s t
            ∧ ({ t with outs := s.outs, raised := s.raised, sent := s.sent, twin := s.twin } : State) = s))
        ∧ (L.loading.isSome = true → s.lutImage n ≠ stOk → Completes (.lutFail n) s (fun t => failed (s.lutImage n) t ∧ t.ttime = s.ttime))
        ∧ (∀ lim, L.loading = some lim → Completes (.lutTimeout n) s (fun t => failed stTimeout t ∧ t.ttime = max s.ttime lim)))
  ∧ (∀ (k : Nat) (s : State), k < 8 → s.poolLost.testBit k = true → s.poolPresent k = true → s.pwr.domOn.testBit (80 + k) = true →
      Completes (.frcPoolReturn k) s (fun t => t.poolLost.testBit k = false ∧ (∀ j, j ≠ k → t.poolLost.testBit j = s.poolLost.testBit j)
        ∧ (∀ n, n / 8 ≠ k → t.out n = s.out n) ∧ ({ t with outs := s.outs, raised := s.raised, poolLost := s.poolLost } : State) = s
        ∧ ∀ n, n / 8 = k → s.domAllowed (80 + k) = true → (s.out n).conv.frcMode = 2 → 0 < s.poolAsk n → s.poolAsk n ≤ poolUnits → (t.out n).pool ≠ .none))
  ∧ (∀ (m n : Nat) (v : Word) (s : State), m < 12 → n < 64 → s.portPresent n = true → s.writeGate m (R.portMode n) = .pass →
      let mode := bits v 3 0
      let cls := bits v 6 4
      let pair := n / 2 * 2 + 1
      let bad : Prop := 10 < mode ∨ 5 < cls ∨ (cls ≠ 0 ∧ (mode = 0 ∨ 3 < mode)) ∨ s.portFlows n ≠ 0 ∨ (n % 2 = 1 ∧ s.regBits (R.portMode (n - 1)) 3 0 = 9)
        ∨ (s.isFabric = true ∧ mode ≠ 10) ∨ (mode ≠ 0 ∧ (s.domAllowed n = false ∨ s.domAllowed (72 + n / 8) = false))
        ∨ (mode = 9 ∧ (n % 2 = 1 ∨ s.portFlows pair ≠ 0))
      (bad → Completes (.portModeWrite m n v) s (WriteRejected m (R.portMode n) s))
        ∧ (¬ bad → Completes (.portModeWrite m n v) s (fun t => t.reg (R.portMode n) = v &&& 0x7F
          ∧ (s.portMode n = 9 → mode ≠ 9 → n ≠ pair → t.reg (R.portMode pair) = 0)
          ∧ ({ t with ctr := s.ctr, lastRaise := s.lastRaise, ports := s.ports, raised := s.raised, regs := s.regs, sent := s.sent, ser := s.ser, stk := s.stk, syns := s.syns, twin := s.twin, xbar := s.xbar } : State) = s)))

/-! Ingest and the flows. -/

/-- R70 to R75, R77, R85, R177. That passed-over packets count in RTP_LOSS_CNT is the model's choice (log entry 54). -/
def Obligations.Reception : Prop :=
  (∀ (n k line : Nat) (crcOk : Bool) (payload : Option Word) (skew : Nat) (audio : Bool) (x : SdiMore) (s : State),
    s.portPresent n = true → (s.port n).shedHold = false → s.portIsSdi n = true → k < modeLinks (s.portMode n) →
    let p := s.port n
    let link := match x.linkNo with | some i => i | none => p.linkNo.getD k k
    let rest (t : State) : Prop := ({ t with ctr := s.ctr, flows := s.flows, mem := s.mem, ports := s.ports, raised := s.raised, units := s.units } : State) = s
      ∧ (∀ m, m ≠ n → t.port m = s.port m) ∧ ({ t.mem with cxl := s.mem.cxl } : Mems) = s.mem
      ∧ (∀ w, payload = some w → (t.port n).payload.getD k 0 = w)
    Completes (.sdiLineRx n k line false crcOk payload skew audio x) s (fun t => rest t ∧ t.mem = s.mem ∧ (t.port n).trsOk.testBit k = false
        ∧ (t.port n).missing.testBit k = true ∧ (∀ f, (s.flow f).usable = true → (s.flow f).portA = n → (t.flow f).refOk = false)
        ∧ t.ctrOf (R.portTrsLossCnt n) = (if p.trsOk.testBit k then satAdd ctrMax (s.ctrOf (R.portTrsLossCnt n)) 1 else s.ctrOf (R.portTrsLossCnt n)))
      ∧ Completes (.sdiLineRx n k line true crcOk payload skew audio x) s (fun t => rest t ∧ (x.pix = none → t.mem = s.mem) ∧ (t.port n).trsOk.testBit k = true
        ∧ (t.port n).cls = x.cls ∧ (t.port n).lvlB = x.lvlB ∧ (k = 0 → (t.port n).line = line) ∧ (k ≠ 0 → (t.port n).line = p.line)
        ∧ (3200 < skew → k ≠ 0 ∨ line ≠ 0 → (t.port n).missing.testBit k = true)
        ∧ t.ctrOf (R.portCrcErrCnt n k) = (if crcOk = false ∧ x.cls ≠ 1 then satAdd ctrMax (s.ctrOf (R.portCrcErrCnt n k)) 1 else s.ctrOf (R.portCrcErrCnt n k))
        ∧ ((∀ j, j < modeLinks (s.portMode n) → j ≠ k → p.trsOk.testBit j = true) →
            ∀ f, (s.flow f).usable = true → (s.flow f).portA = n → (s.flow f).isVideo = true ∨ (audio = true ∧ link = 0) →
              (t.flow f).refOk = true ∧ (t.flow f).lastRef = s.ttime ∧ (t.flow f).det ≠ .noSignal)))
  ∧ (∀ (n : Nat) (dst src : Word) (udp pt : Nat) (p : PacketInfo) (s : State), s.portPresent n = true → (s.port n).shedHold = false → s.portIsEth n = true →
    let counted (t : State) : Prop := t.ctrOf (R.portRxFrames n) = satAdd ctrMax (s.ctrOf (R.portRxFrames n)) 1
    (p.fcsBad = true → Completes (.packetRx n dst src udp pt p) s (fun t =>
        t.ctrOf (R.portRxFcsErrCnt n) = satAdd ctrMax (s.ctrOf (R.portRxFcsErrCnt n)) 1 ∧ ({ t with ctr := s.ctr } : State) = s))
      ∧ (p.fcsBad = false → s.matchPacket n dst src udp pt = none → Completes (.packetRx n dst src udp pt p) s (fun t => counted t
        ∧ t.ctrOf (R.portUnmatchedCnt n) = satAdd ctrMax (s.ctrOf (R.portUnmatchedCnt n)) 1 ∧ ({ t with ctr := s.ctr } : State) = s))
      ∧ (∀ f leg, p.fcsBad = false → s.matchPacket n dst src udp pt = some (f, leg) →
        let x := s.flow f
        let ours : Prop := x.sa = 0 ∨ (x.sa = p.sa ∧ s.macAccepts x.sa p.an = true)
        let late : Prop := ∃ m, p.marker = some m ∧ m + x.skewMax * 1600000 < s.ttime
        let seen (t : State) : Prop := counted t ∧ (t.flow f).refOk = true ∧ (t.flow f).lastRef = s.ttime ∧ (t.flow f).det ≠ .noSignal
          ∧ (if leg = 0 then (t.flow f).legAUp = true ∧ (t.flow f).legALast = s.ttime else (t.flow f).legBUp = true ∧ (t.flow f).legBLast = s.ttime)
          ∧ (∀ g, g ≠ f → x.assoc ≠ some g → t.flow g = s.flow g) ∧ { t.woad with macAn := s.woad.macAn } = s.woad
          ∧ ({ t with audio := s.audio, ctr := s.ctr, flows := s.flows, mem := s.mem, ports := s.ports, raised := s.raised, sent := s.sent, units := s.units, woad := s.woad } : State) = s
        let nothing (t : State) : Prop := t.mem = s.mem ∧ t.sent = s.sent ∧ t.audio = s.audio ∧ t.ports = s.ports ∧ (∀ g, g ≠ f → t.flow g = s.flow g)
          ∧ (t.flow f).live = x.live ∧ (t.flow f).anc = x.anc ∧ (t.flow f).mrg = x.mrg ∧ (t.flow f).slots = x.slots
        (¬ ours → Completes (.packetRx n dst src udp pt p) s (fun t => counted t
            ∧ t.ctrOf (R.portMacsecDropCnt n) = satAdd ctrMax (s.ctrOf (R.portMacsecDropCnt n)) 1 ∧ ({ t with ctr := s.ctr } : State) = s))
          ∧ (ours → x.valid = true → p.beyond = true → Completes (.packetRx n dst src udp pt p) s (fun t => seen t ∧ nothing t
            ∧ t.ctrOf (R.flowRxOverflowCnt f) = satAdd ctrMax (s.ctrOf (R.flowRxOverflowCnt f)) 1))
          ∧ (ours → x.valid = true → p.beyond = false → x.prot = false → Completes (.packetRx n dst src udp pt p) s (fun t => seen t
            ∧ (∀ k, x.nextSeq = some k → k < p.seq → t.ctrOf (R.flowRtpLossCnt f) = satAdd ctrMax (s.ctrOf (R.flowRtpLossCnt f)) (p.seq - k))))
          ∧ (ours → x.valid = true → p.beyond = false → x.prot = true → late → Completes (.packetRx n dst src udp pt p) s (fun t => seen t ∧ nothing t
            ∧ t.ctrOf (R.flowSkewExceedCnt f) = satAdd ctrMax (s.ctrOf (R.flowSkewExceedCnt f)) 1))
          ∧ (ours → x.valid = true → p.beyond = false → x.prot = true → ¬ late → p.seq ∈ x.mrg.seen → Completes (.packetRx n dst src udp pt p) s (fun t => seen t ∧ nothing t))
          ∧ (ours → x.valid = true → p.beyond = false → x.prot = true → ¬ late → p.seq ∉ x.mrg.seen → Completes (.packetRx n dst src udp pt p) s (fun t => seen t
            ∧ ∀ q, q ∈ (t.flow f).mrg.seen ↔ q = p.seq ∨ q ∈ x.mrg.seen))))
  ∧ (∀ (f seq : Nat) (s : State), (s.flow f).valid = true → (s.flow f).prot = true →
      (seq ∈ (s.flow f).mrg.seen → Completes (.mergeWindowExpiry f seq) s (fun t => seq ∉ (t.flow f).mrg.seen
          ∧ { t.flow f with mrg := (s.flow f).mrg } = s.flow f
          ∧ (∀ q, q ≠ seq → (q ∈ (t.flow f).mrg.seen ↔ q ∈ (s.flow f).mrg.seen)) ∧ (∀ g, g ≠ f → t.flow g = s.flow g) ∧ ({ t with flows := s.flows } : State) = s))
        ∧ (seq ∉ (s.flow f).mrg.seen → Completes (.mergeWindowExpiry f seq) s (fun t => t.flow f = { s.flow f with lostSeqs := (s.flow f).lostSeqs ++ [seq] }
          ∧ t.ctrOf (R.flowRtpLossCnt f) = satAdd ctrMax (s.ctrOf (R.flowRtpLossCnt f)) 1 ∧ (∀ g, g ≠ f → t.flow g = s.flow g)
          ∧ ({ t with ctr := s.ctr, flows := s.flows } : State) = s))
        ∧ ((s.flow f).legAUp = true ∨ (s.flow f).legANoted = false → Completes (.legLost f false) s (fun t => t.flow f = { s.flow f with legAUp := false, legANoted := true }
          ∧ t.ttime = max s.ttime ((s.flow f).legALast + 16000000) ∧ EventNow 0x4005 sevWarn f t
          ∧ ({ t with flows := s.flows, raised := s.raised } : State) = s.movedTo t.ttime))
        ∧ ((s.flow f).legBUp = true ∨ (s.flow f).legBNoted = false → Completes (.legLost f true) s (fun t => t.flow f = { s.flow f with legBUp := false, legBNoted := true }
          ∧ t.ttime = max s.ttime ((s.flow f).legBLast + 16000000) ∧ EventNow 0x4005 sevWarn f t
          ∧ ({ t with flows := s.flows, raised := s.raised } : State) = s.movedTo t.ttime)))
  ∧ (∀ (f : Nat) (s : State), (s.flow f).igmp.due.isSome = true →
      let x := s.flow f
      let rep (port k : Nat) (m : Option Nat) : List OutMsg := match m with
        | some i =>
          let e := Tbl.get [] (s.port port).table i
          if x.igmp.legs.testBit k && isMulticast (wordAt e 0) then
            [{ kind := "IGMPv3", via := port, dst := (wordAt e 0).toNat, args := [(wordAt e 1).toNat, (s.reg (R.portIpv4Addr port)).toNat] }] else []
        | none => []
      Completes (.igmpReport f) s (fun t => t.flow f = { x with igmp := { due := none, sent := x.igmp.sent + 1 } } ∧ (∀ g, g ≠ f → t.flow g = s.flow g)
        ∧ t.sent = s.sent ++ rep x.portA 0 x.matchA ++ rep x.portB 1 x.matchB ∧ ({ t with ctr := s.ctr, flows := s.flows, sent := s.sent } : State) = s))
  ∧ (∀ (n : Nat) (s : State), Completes (.igmpQuery n) s (fun t => (∀ f,
      let x := s.flow f
      let on (port : Nat) (m : Option Nat) : Bool := decide (port = n) && (match m with | some i => isMulticast (wordAt (Tbl.get [] (s.port port).table i) 0) | none => false)
      let legs := flag (on x.portA x.matchA) 0 + flag (on x.portB x.matchB) 1
      (legs ≠ 0 → x.igmp.due = none → t.flow f = { x with igmp := { x.igmp with due := some (s.ticksOn 4), legs := legs } })
        ∧ (∀ d, legs ≠ 0 → x.igmp.due = some d → t.flow f = { x with igmp := { x.igmp with due := some d, legs := x.igmp.legs ||| legs } })
        ∧ (legs = 0 → t.flow f = x))
      ∧ ({ t with flows := s.flows } : State) = s))

/-- R63, R75, R77, R82, R84 to R90, R96, R340. -/
def Obligations.FramesAndDetection : Prop :=
  ∀ (f : Nat) (s : State),
    let x := s.flow f
    (∀ contacts, x.releasing.isSome = true → Completes (.inputFrameStart f contacts) s (fun t => t.flow f = Flow.reset ∧ (∀ g, g ≠ f → t.flow g = s.flow g)
        ∧ ({ t with flows := s.flows, heap := s.heap } : State) = s))
      ∧ (∀ contacts, x.releasing = none → x.valid = true ∨ x.landing.isSome = true → Completes (.inputFrameStart f contacts) s (fun t =>
        let y := t.flow f
        let held : Prop := (s.unit x.portA).run = .safe
        let xs := x.slots.map (fun z => if z.writing then { z with writing := false } else z)
        let closed : Prop := x.isVideo = false ∨ x.storeEn = false ∨ s.cxlRebuild = true ∨ (x.depth = 1 ∧ (x.det = .unstable ∨ x.det = .noSignal) ∧ x.landing = none)
        (∀ w0 w1 w2, x.fmtPend = some (w0, w1, w2) → ¬ held → y.fmt0 = w0 ∧ y.fmt1 = w1 ∧ y.fmt2 = w2 ∧ y.fmtPend = none)
          ∧ (x.fmtPend = none ∨ held → y.fmt0 = x.fmt0 ∧ y.fmt1 = x.fmt1 ∧ y.fmt2 = x.fmt2 ∧ y.fmtPend = x.fmtPend)
          ∧ (x.valid = true → y.policy = s.reg (R.flowPolicy f) ∧ y.skewMax = (s.reg (R.flowSkewMax f)).toNat) ∧ y.det = x.det
          ∧ (closed → y.slots = x.slots)
          ∧ (∀ i, ¬ closed → pickSlot xs (s.heldSeqs f) = some i →
              y.slots = xs.modify i (fun z => { z with writing := true, startT := s.ttime, seq := if x.depth = 1 then z.seq else 0 }))
          ∧ (¬ closed → pickSlot xs (s.heldSeqs f) = none → y.slots = xs ∧ t.ctrOf (R.flowWrDropCnt f) = satAdd ctrMax (s.ctrOf (R.flowWrDropCnt f)) 1)
          ∧ t.ctrOf (R.flowFramesIn f) = satAdd ctrMax (s.ctrOf (R.flowFramesIn f)) 1 ∧ (∀ g, g ≠ f → t.flow g = s.flow g)
          ∧ ({ t with ctr := s.ctr, flows := s.flows, raised := s.raised, units := s.units } : State) = s))
      ∧ (∀ i, x.slots.findIdx? (fun y => y.writing) = some i → x.overflowed = false → x.landing = none →
        (x.usable = true → x.det = .locked → x.badLast = false → Completes (.frameCommit f) s (fun t =>
            let b := x.base + i * x.slotBytes
            t.flow f = { x with slots := x.slots.modify i (fun y => { y with writing := false, seq := x.commitSeq + 1, commitT := s.ttime, sig := x.sigNow, lines := (ancFit [] x.anc).map (fun p => (p.line, p.hanc)) }),
                                commitSeq := x.commitSeq + 1, commits := x.commits + 1, lastCommit := s.ttime }
              ∧ (∀ g, g ≠ f → t.flow g = s.flow g) ∧ t.ctrOf (R.flowFramesCommitted f) = satAdd ctrMax (s.ctrOf (R.flowFramesCommitted f)) 1
              ∧ t.headWord b 0 = 0x3146434F ∧ t.headWord b 1 = (x.commitSeq + 1) % 2 ^ 32 ∧ t.headWord b 2 = x.sigNow.toNat
              ∧ (∀ a, a < b → Memory.read t.mem.cxl a = Memory.read s.mem.cxl a) ∧ ({ t.mem with cxl := s.mem.cxl } : Mems) = s.mem
              ∧ ({ t with ctr := s.ctr, flows := s.flows, lastRaise := s.lastRaise, mem := s.mem, raised := s.raised, sent := s.sent, units := s.units } : State) = s))
          ∧ (x.usable = false ∨ x.det ≠ .locked ∨ x.badLast = true → Completes (.frameCommit f) s (fun t => t = s)))
      ∧ (∀ i d, x.slots.findIdx? (fun y => y.writing) = some i → x.overflowed = false → x.landing = some d → x.base ≠ 0 → Completes (.frameCommit f) s (fun t =>
          (t.flow f).ready = true ∧ (t.flow f).lost = false ∧ (t.flow f).commitSeq = x.commitSeq + 1 ∧ (t.flow f).lastCommit = s.ttime ∧ t.mem = s.mem
            ∧ (∀ g, g ≠ f → t.flow g = s.flow g) ∧ ({ t with ctr := s.ctr, flows := s.flows, units := s.units } : State) = s))
      ∧ (∀ i, x.usable = true → x.isVideo = true → x.det ≠ .noSignal →
        let links := if x.isIp then 1 else s.linksHere x.portA
        let good := x.frameGood (s.needsPid x.portA) (s.pidsOk x.portA) links i && !x.overflowed
        let partly : Prop := x.isIp = false ∧ 1 < x.links ∧ links ≠ 0 ∧ links ≠ 2 ^ x.links - 1
        Completes (.frameRxComplete f i) s (fun t => (t.flow f).det0 = i.d0 ∧ (t.flow f).det1 = i.d1 ∧ (t.flow f).det2 = i.d2
          ∧ (t.flow f).badLast = !good ∧ (t.flow f).linksUp = links ∧ (∀ g, g ≠ f → t.flow g = s.flow g)
          ∧ (good = true → (t.flow f).good = x.good + 1 ∧ (t.flow f).lastGood = s.ttime ∧ (t.flow f).sig = x.sigNow)
          ∧ (good = false → (t.flow f).good = 0 ∧ (t.flow f).lastGood = x.lastGood ∧ (t.flow f).sig = x.sig ∧ (t.flow f).det = x.det
              ∧ (x.det = .locked → t.ctrOf (R.flowRejectCnt f) = satAdd ctrMax (s.ctrOf (R.flowRejectCnt f)) 1))
          ∧ (good = true → x.det = .acquire ∨ x.det = .unstable → x.lockFrames ≤ x.good + 1 → (t.flow f).det = .locked ∧ EventNow 0x4003 sevInfo f t)
          ∧ (good = true → x.good + 1 < x.lockFrames → (t.flow f).det = x.det)
          ∧ (partly → (t.flow f).partialLinks = true ∧ (x.partialLinks = false → EventNow 0x4004 sevWarn f t))
          ∧ (¬ partly → good = true ∨ links = 0 → (t.flow f).partialLinks = false)
          ∧ ({ t with ctr := s.ctr, flows := s.flows, raised := s.raised, units := s.units } : State) = s))
      ∧ (∀ i, x.usable = true → x.isVideo = true → x.det = .noSignal →
        let links := if x.isIp then 1 else s.linksHere x.portA
        Completes (.frameRxComplete f i) s (fun t => t.flow f = { x with linksUp := links, partialLinks := x.partialLinks && decide (links ≠ 0) }
          ∧ (∀ g, g ≠ f → t.flow g = s.flow g) ∧ ({ t with flows := s.flows } : State) = s))
      ∧ (x.usable = true → x.det ≠ .noSignal → x.det ≠ .idle → x.prot = false ∨ (x.legAUp = false ∧ x.legBUp = false) → Completes (.flowNoSignal f) s (fun t =>
        t.ttime = max s.ttime (x.lastRef + (if x.isIp then 16000000 else 3200000)) ∧ (t.flow f).det = .noSignal ∧ (t.flow f).refOk = false ∧ (t.flow f).good = 0
          ∧ (t.flow f).aligned = false ∧ EventNow 0x4001 sevWarn f t ∧ (∀ g, g ≠ f → t.flow g = s.flow g)
          ∧ (x.isVideo = true → x.inFrame = true → (t.flow f).badLast = true)
          ∧ ({ t with audio := s.audio, ctr := s.ctr, flows := s.flows, raised := s.raised, units := s.units } : State) = s.movedTo t.ttime))
      ∧ (x.prot = true → x.legAUp = true ∨ x.legBUp = true → Completes (.flowNoSignal f) s (fun t => t = s))
      ∧ (x.usable = true → x.isVideo = true → x.refOk = true → x.det = .acquire ∨ x.det = .locked → Completes (.flowUnstable f) s (fun t =>
        t.ttime = max s.ttime (max x.lastGood (max x.bindT x.acquireT) + 3 * (clkHz * 1001) / x.num + x.absentAcc) ∧ (t.flow f).det = .unstable ∧ (t.flow f).good = 0
          ∧ (t.flow f).aligned = false ∧ EventNow 0x4002 sevWarn f t ∧ (∀ g, g ≠ f → t.flow g = s.flow g)
          ∧ ({ t with audio := s.audio, ctr := s.ctr, flows := s.flows, raised := s.raised, units := s.units } : State) = s.movedTo t.ttime))

/-- R109, R110. -/
def Obligations.RemoteExchange : Prop :=
  ∀ (f dev idx : Nat) (s : State), (s.flow f).landing = some (dev, idx) →
    let x := s.flow f
    let mine (q : PendTake) : Prop := q.src.kind = 2 ∧ q.src.dev = dev ∧ q.src.idx = idx
    (∀ lim, x.exchange = some lim → x.ready = true → s.stk.parts = [] → Completes (.remotePrepared f) s (fun t =>
        (t.flow f).exchange = none ∧ (t.flow f).failed = 0 ∧ (t.flow f).ready = true ∧ (t.flow f).landing = x.landing
          ∧ (∀ n q, (s.out n).pend = some q → mine q → t.out n = { s.out n with pend := some { q with remote := false } })
          ∧ (∀ n q, (s.out n).pend = some q → ¬ mine q → t.out n = s.out n) ∧ (∀ n, (s.out n).pend = none → t.out n = s.out n)
          ∧ t.mem = s.mem ∧ t.ttime = s.ttime ∧ t.regs = s.regs))
      ∧ (∀ lim, x.exchange = some lim → Completes (.remoteTakeFail f) s (fun t =>
        let st := if x.failed = 0 then stTimeout else x.failed
        t.flow f = Flow.reset ∧ t.ttime = (if x.failed = 0 then max s.ttime lim else s.ttime) ∧ t.mem = s.mem
          ∧ (s.stk.parts = [] → (∀ n q, (s.out n).pend = some q → mine q → t.out n = { s.out n with pend := none, takeStatus := st }
              ∧ t.ctrOf (R.outRemoteFailCnt n) = satAdd ctrMax (s.ctrOf (R.outRemoteFailCnt n)) 1 ∧ (∃ e ∈ t.raised, e.code = 0x4010 ∧ e.index = n ∧ e.stamp = t.ttime))
            ∧ (∀ n q, (s.out n).pend = some q → ¬ mine q → t.out n = s.out n))))
      ∧ (x.ready = true → x.lost = false → Completes (.remoteSourceLost f) s (fun t => t.flow f = { x with lost := true, retryAt := s.ticksOn 32 }
        ∧ (∀ g, g ≠ f → t.flow g = s.flow g) ∧ EventNow 0x4011 sevWarn f t ∧ ({ t with flows := s.flows, raised := s.raised, units := s.units } : State) = s))
      ∧ (x.lost = true → Completes (.remoteReserveRetry f) s (fun t => t.ttime = max s.ttime x.retryAt
        ∧ t.flow f = { x with retryAt := t.ticksOn 32 } ∧ (∀ g, g ≠ f → t.flow g = s.flow g)
        ∧ ({ t with flows := s.flows, ctr := s.ctr, sent := s.sent, stk := s.stk } : State) = s.movedTo t.ttime))

/-! The audio matrix. -/

/-- R175, R179 to R182, R185 to R190, R196. -/
def Obligations.AudioMatrix : Prop :=
  (∀ (ref t0 : Nat) (s : State), t0 ∈ (s.dueMaps ref).map Prod.snd → (∀ d ∈ s.dueMaps ref, t0 ≤ d.2) → Completes (.amapSwitchPoint ref) s (fun t =>
      t.ttime = max s.ttime (s.sampleTime (s.sampleAt t0))
        ∧ (∀ c tc p, (c, tc) ∈ s.dueMaps ref → s.sampleAt tc ≤ s.sampleAt t0 → (s.oc c).pend = some p →
            (t.oc c).pend = none ∧ (t.oc c).src = p.src ∧ (t.oc c).heard = s.heardOf p.src ∧ (t.oc c).fadeStart = s.sampleAt t0 ∧ (t.oc c).followDue = none
              ∧ (bits (s.reg (R.audioOcXf c)) 18 16 = 0 → (t.oc c).outgoing = []))
        ∧ (∀ c, (∀ tc, (c, tc) ∉ s.dueMaps ref) → t.oc c = s.oc c) ∧ t.audio.ics = s.audio.ics ∧ t.audio.aes = s.audio.aes
        ∧ ({ t with audio := s.audio, ctr := s.ctr, raised := s.raised } : State) = s.movedTo t.ttime))
  ∧ (∀ (n t0 : Nat) (s : State), t0 ∈ (s.dueFollows n).map Prod.snd → (∀ d ∈ s.dueFollows n, t0 ≤ d.2) →
      let i := s.sampleAt t0
      let mapWins (c : Nat) : Prop := ∃ p tm, (s.oc c).pend = some p ∧ p.fromT = some tm ∧ s.sampleAt tm ≤ i
      Completes (.followSwitch n) s (fun t => t.ttime = max s.ttime (s.sampleTime i)
        ∧ (∀ c tc, (c, tc) ∈ s.dueFollows n → s.sampleAt tc ≤ i → mapWins c → t.oc c = { s.oc c with followDue := none })
        ∧ (∀ c tc, (c, tc) ∈ s.dueFollows n → s.sampleAt tc ≤ i → ¬ mapWins c → (t.oc c).src = (s.oc c).src ∧ (t.oc c).heard = s.heardOf (s.oc c).src
            ∧ (t.oc c).fadeStart = i ∧ (t.oc c).followDue = none ∧ (t.oc c).pend = (s.oc c).pend
            ∧ (bits (s.reg (R.audioOcXf c)) 18 16 = 0 → (t.oc c).outgoing = []))
        ∧ (∀ c, (∀ tc, (c, tc) ∉ s.dueFollows n) → t.oc c = s.oc c) ∧ t.audio.ics = s.audio.ics ∧ t.audio.aes = s.audio.aes
        ∧ ({ t with audio := s.audio, ctr := s.ctr, raised := s.raised } : State) = s.movedTo t.ttime))
  ∧ (∀ (m c : Nat) (v : Word) (s : State), m < 12 → c < 8192 → s.writeGate m (R.audioOcDelay c) = .pass →
      let d := bits v 17 0
      let bad : Prop := s.delayMax < d ∨ ((s.oc c).tapLen ≠ 0 ∧ s.sampleAt s.ttime < (s.oc c).tapStart + (s.oc c).tapLen)
      (¬ bad → Completes (.ocDelayWrite m c v) s (fun t => t.reg (R.audioOcDelay c) = word d
          ∧ (t.oc c).tapOld = bits (s.reg (R.audioOcDelay c)) 17 0 ∧ (t.oc c).tapStart = s.sampleAt (s.ttime + 1) ∧ (t.oc c).tapFail = none
          ∧ (t.oc c).src = (s.oc c).src ∧ (t.oc c).pend = (s.oc c).pend
          ∧ (∀ k, k ≠ c → t.oc k = s.oc k) ∧ (∀ r, r ≠ R.audioOcDelay c → t.reg r = s.reg r)
          ∧ ({ t with audio := s.audio, regs := s.regs, xbar := s.xbar, sent := s.sent, twin := s.twin } : State) = s))
        ∧ (bad → Completes (.ocDelayWrite m c v) s (WriteRejected m (R.audioOcDelay c) s)))
  ∧ (∀ (m d : Nat) (v : Word) (s : State), m < 12 → d < 512 → s.writeGate m (R.audioDest0 d) = .pass →
      (bit v 31 = false ∨ (bit (s.dest d) 31 = false ∧ s.destOk d v = true) → Completes (.destWrite m d v) s (fun t =>
          t.reg (R.audioDest0 d) = v &&& 0xF03F3FFF ∧ (∀ r, r ≠ R.audioDest0 d → t.reg r = s.reg r)
            ∧ ({ t with regs := s.regs, xbar := s.xbar, sent := s.sent, twin := s.twin } : State) = s))
        ∧ (bit v 31 = true → bit (s.dest d) 31 = true ∨ s.destOk d v = false → Completes (.destWrite m d v) s (WriteRejected m (R.audioDest0 d) s)))
  ∧ (∀ (pair : Bool) (x : Nat) (s : State), s.audioIcs pair x ≠ [] →
      let cs := s.audioIcs pair x
      let c0 := s.ic (cs.headD 0)
      let asrc := s.audioAsrc pair x
      let others (t : State) : Prop := (∀ c, c ∉ cs → t.ic c = s.ic c) ∧ t.audio.ocs = s.audio.ocs ∧ (∀ j, pair = false ∨ j ≠ x → t.aes j = s.aes j)
      let settled (c : Nat) (y : Ic) (t : State) : Prop := t.ic c = (if t.icUp c = s.icUp c then y else { y with since := t.ttime, level := s.icLevel c t.ttime })
      (c0.state ≠ 1 → pair = false ∨ (s.aes x).lock = true → Completes (.audioSrcLost pair x) s (fun t =>
          (∀ c ∈ cs, t.icUp c = false ∧ settled c { s.ic c with state := 1 } t) ∧ others t ∧ EventNow 0x4050 sevWarn x t
            ∧ (pair = true → t.aes x = { s.aes x with lock := false, rate := 0 })
            ∧ t.ttime = (if pair = true ∨ (s.flow x).landing.isSome = true then s.ttime else max s.ttime ((s.flow x).audioT + (s.flow x).refLimit))
            ∧ t.ctrOf R.audioSrcLossCnt = satAdd ctrMax (s.ctrOf R.audioSrcLossCnt) 1
            ∧ ({ t with audio := s.audio, ctr := s.ctr, raised := s.raised } : State) = s.movedTo t.ttime))
        ∧ (∀ hz np0, (pair = true ∧ (s.aes x).lock = false) ∨ c0.state = 1 ∨ c0.muted = true → (pair = true → bit (s.reg (R.audioAesInCtrl x)) 0 = true) →
          State.audioRateOk asrc hz = true →
          let np := if pair then np0 else c0.nonPcm
          Completes (.audioSrcBack pair x hz np0) s (fun t => (∀ c ∈ cs, settled c { s.ic c with state := 0, muted := asrc && np } t)
            ∧ (pair = true → t.aes x = { lock := true, nonPcm := np, rate := hz }) ∧ others t ∧ EventNow 0x4051 sevInfo x t
            ∧ (pair = true → asrc = true → np = true → EventNow 0x4057 sevWarn x t)
            ∧ ({ t with audio := s.audio, raised := s.raised } : State) = s))
        ∧ (asrc = true → c0.muted = false → Completes (.asrcRange pair x) s (fun t =>
          (∀ c ∈ cs, t.icUp c = false ∧ settled c { s.ic c with muted := true } t) ∧ others t ∧ t.audio.aes = s.audio.aes ∧ EventNow 0x4057 sevWarn x t
            ∧ ({ t with audio := s.audio, raised := s.raised } : State) = s)))
  ∧ (∀ (c : Nat) (s : State),
      let slipped (t : State) : Prop := t.ctrOf R.audioSlipCnt = satAdd ctrMax (s.ctrOf R.audioSlipCnt) 1 ∧ ({ t with ctr := s.ctr, lastRaise := s.lastRaise, raised := s.raised } : State) = s
      (c < 8160 → (s.ic c).valid = true → (s.flow (s.ic c).flow).asrc = false → Completes (.audioSlip c) s slipped)
        ∧ (8160 ≤ c → c < 8192 → bit (s.reg (R.audioAesInCtrl ((c - 8160) / 2))) 1 = false → Completes (.audioSlip c) s slipped))
  ∧ (∀ (i : Nat) (s : State), i < 16 → (s.aes i).lock = true → Completes (.aesUnlock i) s (fun t =>
      t.aes i = { s.aes i with lock := false, rate := 0 } ∧ (∀ j, j ≠ i → t.aes j = s.aes j) ∧ t.audio.ocs = s.audio.ocs
        ∧ (∀ c, c = 8160 + 2 * i ∨ c = 8161 + 2 * i → t.icUp c = false ∧ ((s.ic (8160 + 2 * i)).state ≠ 1 → (t.ic c).state = 1))
        ∧ (∀ c, c ≠ 8160 + 2 * i → c ≠ 8161 + 2 * i → t.ic c = s.ic c)
        ∧ EventNow 0x4056 sevWarn i t ∧ ({ t with audio := s.audio, ctr := s.ctr, raised := s.raised } : State) = s))

/-! The bulk engines. -/

/-- R238, R239, R241 to R243. -/
def Obligations.BulkJobs : Prop :=
  (∀ (m j : Nat) (v : Word) (s : State), m < 12 → s.obPresent j = true → s.writeGate m (R.ochreObTail j) = .pass →
    let N := s.obSize j
    let tl := v.toNat % 8192
    let d := obJob (s.obDesc j)
    (N ≤ tl % 4096 ∨ N < ringCount N (s.obHead j) tl ∨ (6 ≤ j ∧ 4 ≤ m) → Completes (.obTailDoorbell m j v) s (WriteRejected m (R.ochreObTail j) s))
      ∧ (tl % 4096 < N → ringCount N (s.obHead j) tl ≤ N → j < 6 ∨ m < 4 →
        Completes (.obTailDoorbell m j v) s (fun t => ({ t with xbar := s.xbar, sent := s.sent, twin := s.twin } : State) = { (s.setRegN (R.ochreObTail j) tl).obServe j with sent := s.sent })
          ∧ (s.obEnabled j = false ∨ (s.ob j).started.isSome = true ∨ ringCount N (s.obHead j) tl = 0 → Completes (.obTailDoorbell m j v) s (fun t => t.obTail j = tl ∧ t.mem = s.mem ∧ t.obs = s.obs
            ∧ (∀ r, r ≠ R.ochreObTail j → t.reg r = s.reg r) ∧ ({ t with regs := s.regs, xbar := s.xbar, sent := s.sent, twin := s.twin } : State) = s))
          ∧ (s.obEnabled j = true → (s.ob j).started = none → ringCount N (s.obHead j) tl ≠ 0 → d.length ≠ 0 → (∃ p, s.obCheck j d = .ok p) →
            Completes (.obTailDoorbell m j v) s (fun t => t.obTail j = tl ∧ t.obHead j = s.obHead j ∧ t.ob j = { s.ob j with started := some s.ttime } ∧ t.mem = s.mem
              ∧ (∀ k, k ≠ j → t.ob k = s.ob k) ∧ ({ t with obs := s.obs, regs := s.regs, xbar := s.xbar, sent := s.sent, twin := s.twin } : State) = s))))
  ∧ (∀ (j t0 : Nat) (s : State), j < 8 → (s.ob j).started = some t0 → s.bulkIn (s.obDescAt j) 32 = true →
    let d := obJob (s.obDesc j)
    let A := s.obDescAt j
    let ended (tt status consumed produced : Nat) (t : State) : Prop := t.ttime = tt ∧ (t.ob j).started = none ∧ (t.ob j).last = status
      ∧ t.obHead j = ringNext (s.obSize j) (s.obHead j) ∧ t.obTail j = s.obTail j
      ∧ t.bulkWord (A + 24) = status * 2 ^ 24 + consumed % 2 ^ 24 ∧ t.bulkWord (A + 28) = produced % 2 ^ 32
      ∧ t.ctrOf (R.ochreObJobCnt j) = satAdd ctrMax (s.ctrOf (R.ochreObJobCnt j)) 1
      ∧ t.ctrOf (R.ochreObJobErrCnt j) = (if status = stOk then s.ctrOf (R.ochreObJobErrCnt j) else satAdd ctrMax (s.ctrOf (R.ochreObJobErrCnt j)) 1)
      ∧ (status ≠ stOk → EventNow 0x4078 sevWarn j t) ∧ (status = stOk → t.raised = s.raised) ∧ (∀ k, k ≠ j → t.ob k = s.ob k)
      ∧ ({ t with ctr := s.ctr, mem := s.mem, obs := s.obs, raised := s.raised, regs := s.regs, sent := s.sent } : State) = s.movedTo t.ttime
    let keeps (q : Nat) (t : State) : Prop := t.bulkRead q 1 = s.bulkRead q 1
    let job (c : Instr) (limit late tt : Nat) : Prop :=
      (∀ e, s.obCheck j d = .error e → Completes c s (fun t => ∃ r : State, t = r.obServe j ∧ ended tt e 0 0 r ∧ (r.ob j).stream = (s.ob j).stream
          ∧ ∀ q, q < A + 24 ∨ A + 32 ≤ q → keeps q r))
        ∧ (∀ src dst, s.obCheck j d = .ok (src, dst) →
          let fresh : ObStream := { op := d.op, fmt := d.fmt }
          let x := if d.start then fresh else (s.ob j).stream.getD fresh
          ∀ s1 y de stop, State.obUnits limit d.flush (s.movedTo tt) { x with buf := x.buf ++ s.chainBytes src d.length, total := x.total + d.length } { rest := dst } = (s1, y, de, stop) →
            Completes c s (fun t => ∃ r : State, t = r.obServe j ∧ ended tt (match stop with | .all => stOk | .overrun => stOverrun | .checkFail => stCheckFail | .limit => late) (y.coded - x.total) de.produced r
              ∧ (stop = .all → d.flush = false → (r.ob j).stream = some y) ∧ (stop = .all → d.flush = true → (r.ob j).stream = none)
              ∧ (stop = .checkFail ∨ stop = .limit → (r.ob j).stream = none)
              ∧ ∀ q, (q < A + 24 ∨ A + 32 ≤ q) → (∀ b ∈ dst, q < b.entry + 12 ∨ b.entry + 16 ≤ q) → (∀ a, y.hdrAt = some a → q < a + 4 ∨ a + 12 ≤ q) →
                  r.bulkRead q 1 = s1.bulkRead q 1 ∧ ((∀ b ∈ dst, q < b.addr ∨ b.addr + b.size ≤ q) → keeps q r)))
    (d.op = 1 → job (.obFixedEncode j) obAllUnits stTimeout s.ttime)
      ∧ (d.op = 2 → job (.obFixedDecode j) obAllUnits stTimeout s.ttime)
      ∧ (d.op = 3 → job (.obLosslessEncode j) obAllUnits stTimeout s.ttime)
      ∧ (d.op = 4 → job (.obLosslessDecode j) obAllUnits stTimeout s.ttime)
      ∧ (∀ units, job (.obJobTimeout j units) units stTimeout (max s.ttime (ticksAfter t0 (s.reg (R.ochreObJobTimeout j)).toNat))))

/-- R235. The tokens that the encoder chooses are a free value (log entry 20). -/
def Obligations.LosslessRoundTrip : Prop :=
  ∀ (input rest : List Byte), 1 ≤ input.length → input.length ≤ 128 →
    readLossless (codeLossless input ++ rest) = .ok (some (input, (codeLossless input).length)) ∧ (codeLossless input).length ≤ input.length + 1

/-! Lanes and links. -/

/-- R249 to R251, R253 to R255. -/
def Obligations.LaneBringUp : Prop :=
  ∀ (L : Nat) (s : State),
    let x := s.lane L
    let l := s.linkOf L
    let only (t : State) : Prop := (∀ K, K ≠ L → t.lane K = s.lane K) ∧ t.ser.link = s.ser.link
    let heard (ty : Nat) (m : Nat × List Nat) : Prop := s.ser.msgs.find? (fun q => decide (q.1 = L ∧ byteAt q.2 0 = ty)) = some m
    let sends (bs : List Nat) (t : State) : Prop := t.sent = s.sent ++ [{ kind := "CTRL", via := L, args := pad20 bs }]
    let rest (t : State) : Prop := ({ t with ser := s.ser, sent := s.sent } : State) = s
    let leads : Prop := s.leads l x.partner = true
    let next (y : Lane) (t : State) : Prop := (t.lane L).state = .step ∧ (t.lane L).rate = x.rate ∧ (t.lane L).deadline = s.ticksOn 80 ∧ (t.lane L).doneTx = false
      ∧ (t.lane L).doneRx = false ∧ (t.lane L).cfg = y.cfg ∧ (leads → (t.lane L).stepTo = some (x.rate + 1))
    (∀ comma body rm, s.lanePresent L = true → s.laneRsl L = true → x.comma = true →
        let bad (t : State) : Prop := t.ctrOf (lkRegs l + 0x1C) = satAdd ctrMax (s.ctrOf (lkRegs l + 0x1C)) 1 ∧ ({ t with ctr := s.ctr } : State) = s
        let ty := fieldOf comma.toNat 12 8
        let bytes := (body.take 20).map BitVec.toNat
        (commaOk comma.toNat = false → Completes (.reservedSlotRx L comma body rm) s bad)
          ∧ (commaOk comma.toNat = true → ty = 1 ∨ ty = 2 → bodyOk body = false → Completes (.reservedSlotRx L comma body rm) s bad)
          ∧ (commaOk comma.toNat = true → 2 < ty → Completes (.reservedSlotRx L comma body rm) s bad)
          ∧ (commaOk comma.toNat = true → ty = 1 → byteAt bytes 0 < 0x10 ∨ 0x1B < byteAt bytes 0 → Completes (.reservedSlotRx L comma body rm) s bad)
          ∧ (commaOk comma.toNat = true → ty = 0 → rm = 0 ∨ 2 < rm → Completes (.reservedSlotRx L comma body rm) s (fun t => t = s))
          ∧ (commaOk comma.toNat = true → ty = 0 → rm = 1 ∨ rm = 2 → Completes (.reservedSlotRx L comma body rm) s (fun t =>
              (let a := lnRegs L + (if rm = 1 then 0x58 else 0x54); t.ctrOf a = satAdd ctrMax (s.ctrOf a) 1)
                ∧ ({ t with ctr := s.ctr, lastRaise := s.lastRaise, raised := s.raised } : State) = s))
          ∧ (commaOk comma.toNat = true → ty = 1 → bodyOk body = true → 0x10 ≤ byteAt bytes 0 → byteAt bytes 0 ≤ 0x1B →
              Completes (.reservedSlotRx L comma body rm) s (fun t => t = { s with ser := { s.ser with msgs := s.ser.msgs ++ [(L, bytes)] } }))
          ∧ (commaOk comma.toNat = true → ty = 2 → bodyOk body = true →
              Completes (.reservedSlotRx L comma body rm) s (fun t => t = { s with stk := { s.stk with rx := s.stk.rx ++ [(l, s.ttime, bytes)] } })))
      ∧ (x.state = .detect → Completes (.laneSignalDetect L) s (fun t =>
          t.lane L = { x with state := .train, sigDet := true, deadline := s.ticksOn 32 } ∧ only t ∧ ({ t with ser := s.ser } : State) = s))
      ∧ (x.state = .train → Completes (.commaLockGained L) s (fun t => sends (s.capOf L) t ∧ only t ∧ rest t
          ∧ t.lane L = { x with state := .negotiate, comma := true, cdr := true, deadline := s.ticksOn 16, unanswered := some (pad20 (s.capOf L), s.ttime) }))
      ∧ (x.state = .step → x.comma = false → x.rate ≠ 7 → x.doneRx = false → Completes (.commaLockGained L) s (fun t =>
          sends [0x14, x.rate] t ∧ only t ∧ rest t ∧ t.lane L = { x with comma := true, cdr := true, doneTx := true }))
      ∧ (∀ c, x.state = .step → x.comma = false → x.rate ≠ 7 → x.doneRx = true → x.cfg = some c →
        (c.rate = x.rate → Completes (.commaLockGained L) s (fun t => sends [0x14, x.rate] t ∧ only t ∧ rest t ∧ t.lane L = { x with comma := true, cdr := true, doneTx := true, state := .verify, verifyT := s.ttime, deadline := s.ttime + 1600000 + tickLen, vresOwn := none, vresPeer := none }))
          ∧ (c.rate ≠ x.rate → Completes (.commaLockGained L) s (fun t => next x t ∧ only t ∧ { kind := "CTRL", via := L, args := pad20 [0x14, x.rate] } ∈ t.sent)))
      ∧ (∀ m, heard 0x10 m → x.state = .negotiate → byteAt m.2 1 = 1 →
        (∀ c, s.negotiate L m.2 = .error c → Completes (.cap L) s (fun t => (t.lane L).state = .down ∧ (t.lane L).lastFail = c ∧ (t.lane L).fails = x.fails
            ∧ t.ser.msgs = s.ser.msgs.erase m ∧ only t ∧ EventNow (if c = 7 then 0x3009 else 0x3008) sevError (laneIndex L) t))
          ∧ (∀ c, s.negotiate L m.2 = .ok c → s.leads l (byte2 m.2 6) = true → Completes (.cap L) s (fun t => sends c.bytes t ∧ only t ∧ rest t ∧ t.ser.msgs = s.ser.msgs.erase m
            ∧ t.lane L = { x with partner := byte2 m.2 6, cfg := some c, unanswered := some (pad20 c.bytes, s.ttime) }))
          ∧ (∀ c, s.negotiate L m.2 = .ok c → s.leads l (byte2 m.2 6) = false → Completes (.cap L) s (fun t => t.sent = s.sent ∧ only t ∧ rest t ∧ t.ser.msgs = s.ser.msgs.erase m
            ∧ t.lane L = { x with partner := byte2 m.2 6, unanswered := none })))
      ∧ (∀ m, heard 0x11 m → x.state = .negotiate → ¬ leads → s.linkUp l = true →
        let c := cfgOf m.2
        let wrong (code : Nat) (t : State) : Prop := (t.lane L).state = .down ∧ (t.lane L).lastFail = code ∧ (t.lane L).fails = x.fails ∧ only t ∧ t.sent = s.sent
          ∧ EventNow 0x3008 sevError (laneIndex L) t ∧ t.ser.msgs = s.ser.msgs.erase m
        ((s.link l).rate ≠ c.rate → Completes (.cfg L) s (wrong 9))
          ∧ ((s.link l).rate = c.rate → (s.link l).precode ≠ c.precode ∨ (s.link l).detectOnly ≠ c.detectOnly ∨ (s.link l).cipher ≠ c.cipher → Completes (.cfg L) s (wrong 6)))
      ∧ (∀ m, heard 0x11 m → x.state = .negotiate → ¬ leads → (s.linkUp l = true → (s.link l).rate = (cfgOf m.2).rate ∧ (s.link l).precode = (cfgOf m.2).precode
          ∧ (s.link l).detectOnly = (cfgOf m.2).detectOnly ∧ (s.link l).cipher = (cfgOf m.2).cipher) →
        Completes (.cfg L) s (fun t => sends ([0x12, 0x11] ++ (m.2.drop 1).take 18) t ∧ only t ∧ rest t ∧ t.ser.msgs = s.ser.msgs.erase m
          ∧ t.lane L = { x with unanswered := none, cfg := some (cfgOf m.2), state := .step, deadline := s.ticksOn 80, doneTx := false, doneRx := false }))
      ∧ (∀ m q t0, heard 0x12 m → x.unanswered = some (q, t0) → byteAt q 0 = byteAt m.2 1 → (m.2.drop 2).take 18 = (q.drop 1).take 18 →
        (byteAt q 0 ≠ 0x11 → Completes (.linkAck L) s (fun t => t.lane L = { x with unanswered := none } ∧ only t ∧ t.sent = s.sent ∧ rest t ∧ t.ser.msgs = s.ser.msgs.erase m))
          ∧ (byteAt q 0 = 0x11 → x.state = .negotiate → Completes (.linkAck L) s (fun t => (t.lane L).state = .step ∧ (t.lane L).deadline = s.ticksOn 80
            ∧ (t.lane L).cfg = x.cfg ∧ (leads → (t.lane L).stepTo = some 0 ∧ t.sent.length = s.sent.length + 1) ∧ only t ∧ t.ser.msgs = s.ser.msgs.erase m)))
      ∧ (∀ m, heard 0x13 m → x.state = .step → byteAt m.2 1 ≤ 3 → Completes (.step L) s (fun t => sends ([0x12, 0x13] ++ (m.2.drop 1).take 18) t
          ∧ only t ∧ rest t ∧ t.ser.msgs = s.ser.msgs.erase m ∧ t.lane L = { x with stepTo := some (byteAt m.2 1) }))
      ∧ (∀ r, x.state = .step → x.stepTo = some r → Completes (.stepSwitch L) s (fun t => only t ∧ ({ t with ser := s.ser } : State) = s
          ∧ t.lane L = { x with rate := r, stepTo := none, comma := false, cdr := false, doneTx := false, doneRx := false }))
      ∧ (∀ m, heard 0x14 m → x.state = .step → byteAt m.2 1 = x.rate →
        (x.doneTx = false → Completes (.stepDone L) s (fun t => t.lane L = { x with doneRx := true } ∧ only t ∧ t.sent = s.sent ∧ rest t ∧ t.ser.msgs = s.ser.msgs.erase m))
          ∧ (∀ c, x.doneTx = true → x.cfg = some c → c.rate ≠ x.rate → Completes (.stepDone L) s (fun t => next x t ∧ only t ∧ t.ser.msgs = s.ser.msgs.erase m))
          ∧ (∀ c, x.doneTx = true → x.cfg = some c → c.rate = x.rate → Completes (.stepDone L) s (fun t => only t ∧ t.sent = s.sent ∧ rest t ∧ t.ser.msgs = s.ser.msgs.erase m
            ∧ t.lane L = { x with doneRx := true, state := .verify, verifyT := s.ttime, deadline := s.ttime + 1600000 + tickLen, vresOwn := none, vresPeer := none })))
      ∧ (∀ q t0, x.unanswered = some (q, t0) → Completes (.linkMsgRetry L) s (fun t => t.ttime = max s.ttime (ticksAfter t0 1) ∧ sends q t ∧ only t
          ∧ t.lane L = { x with unanswered := some (pad20 q, t.ttime) } ∧ ({ t with ser := s.ser, sent := s.sent } : State) = s.movedTo t.ttime))

/-- R253, R254, R257 to R259. -/
def Obligations.LaneVerifyAndLoss : Prop :=
  ∀ (L : Nat) (s : State), s.lanePresent L = true →
    let x := s.lane L
    let l := s.linkOf L
    let heard (ty : Nat) (m : Nat × List Nat) : Prop := s.ser.msgs.find? (fun q => decide (q.1 = L ∧ byteAt q.2 0 = ty)) = some m
    let alone (t : State) : Prop := ∀ K, K ≠ L → t.lane K = s.lane K
    let failed (phase : Nat) (t : State) : Prop :=
      let n := min 16 (x.fails + if x.lossDue then 2 else 1)
      (t.lane L).fails = n ∧ (t.lane L).lastFail = phase ∧ (t.lane L).state = (if n < 16 then .backoff else .down)
        ∧ (n < 16 → (t.lane L).deadline = t.ticksOn (2 ^ min (n - 1) 8)) ∧ alone t
        ∧ EventNow (if n < 16 then 0x3002 else 0x3003) (if n < 16 then sevNotice else sevError) (laneIndex L) t
        ∧ t.ctrOf (lnRegs L + 0x50) = satAdd ctrMax (s.ctrOf (lnRegs L + 0x50)) (if x.lossDue then 2 else 1)
    let active (t : State) : Prop := (t.lane L).state = .active ∧ (t.lane L).fails = 0 ∧ (t.lane L).lossDue = false ∧ EventNow 0x3001 sevInfo (laneIndex L) t ∧ alone t
      ∧ ((s.link l).lanes = [] → (t.link l).lanes = [L] ∧ (t.link l).rate = x.rate ∧ (t.link l).partner = x.partner ∧ (t.link l).down = false)
    let lost (k : Nat) (t : State) : Prop := (t.lane k).state = .detect ∧ (t.lane k).fails = (s.lane k).fails ∧ (t.lane k).lossDue = true
      ∧ k ∉ (t.link (s.linkOf k)).lanes ∧ EventNow 0x3004 sevWarn (laneIndex k) t ∧ t.mem = s.mem ∧ t.regs = s.regs ∧ t.ttime = s.ttime
    (∀ unc corr prbs, x.state = .verify → x.vresOwn = none →
        let only := (x.cfg.map LinkCfg.detectOnly).getD false
        let pass := decide (unc = 0 ∧ prbs = 0 ∧ corr * 10000 < testBits x.rate) && (!only || decide (corr = 0))
        Completes (.verifyTestEnd L unc corr prbs) s (fun t => t.ttime = max s.ttime (x.verifyT + 1600000)
          ∧ t.ctrOf (lnRegs L + 0x44) = satAdd ctrMax (s.ctrOf (lnRegs L + 0x44)) corr ∧ t.ctrOf (lnRegs L + 0x48) = satAdd ctrMax (s.ctrOf (lnRegs L + 0x48)) unc
          ∧ (x.vresPeer = none → t.lane L = { x with vresOwn := some pass, deadline := t.ticksOn 1 } ∧ alone t)
          ∧ (x.vresPeer = some true → pass = true → active t) ∧ (x.vresPeer = some false ∨ (x.vresPeer = some true ∧ pass = false) → failed 5 t)))
      ∧ (∀ m, heard 0x15 m → x.state = .verify →
        let b := (byteAt m.2 1).testBit 0
        Completes (.vres L) s (fun t => t.ser.msgs = s.ser.msgs.erase m ∧ t.ttime = s.ttime
          ∧ (x.vresOwn = none → t.lane L = { x with vresPeer := some b } ∧ alone t)
          ∧ (x.vresOwn = some true → b = true → active t) ∧ (x.vresOwn = some false ∨ (x.vresOwn = some true ∧ b = false) → failed 5 t)))
      ∧ (∀ m, heard 0x16 m → (let k := L / 4 * 4 + byteAt m.2 1 % 4
        (s.lane k).state = .active → s.linkOf k = l → Completes (.join L) s (fun t => t.lane k = { s.lane k with joinAt := some (byte2 m.2 2) }
          ∧ (∀ K, K ≠ k → t.lane K = s.lane K) ∧ t.ser.link = s.ser.link ∧ t.ser.msgs = s.ser.msgs.erase m ∧ ({ t with ser := s.ser } : State) = s)))
      ∧ (∀ skew, x.state = .active → x.joinAt ≠ none → L ∉ (s.link l).lanes →
        (skew ≤ 128 → Completes (.laneJoin L skew) s (fun t => t.lane L = { x with joinAt := none, skew := skew } ∧ alone t
            ∧ t.link l = { s.link l with lanes := addLane L (s.link l).lanes } ∧ (∀ k, k ≠ l → t.link k = s.link k)
            ∧ (addLane L (s.link l).lanes = s.linkLanes l → EventNow 0x3012 sevInfo l t) ∧ ({ t with ser := s.ser, raised := s.raised } : State) = s))
          ∧ (128 < skew → Completes (.laneJoin L skew) s (fun t => failed 10 t ∧ EventNow 0x3015 sevWarn (laneIndex L) t ∧ t.ser.link = s.ser.link ∧ t.ttime = s.ttime)))
      ∧ (let timed (phase : Nat) (t : State) : Prop := failed phase t ∧ t.ttime = max s.ttime x.deadline ∧ t.ser.link = s.ser.link
        (x.state = .detect → Completes (.lanePhaseTimeout L) s (timed 1)) ∧ (x.state = .train → Completes (.lanePhaseTimeout L) s (timed 2))
          ∧ (x.state = .negotiate → Completes (.lanePhaseTimeout L) s (timed 3)) ∧ (x.state = .step → Completes (.lanePhaseTimeout L) s (timed 4))
          ∧ (x.state = .verify → Completes (.lanePhaseTimeout L) s (timed 5)))
      ∧ (x.state = .backoff → s.laneHeld L = true → Completes (.backoffExpiry L) s (fun t => t.ttime = max s.ttime x.deadline ∧ t = s.movedTo t.ttime))
      ∧ (x.state = .train ∨ x.state = .negotiate ∨ x.state = .step ∨ x.state = .verify → Completes (.laneLost L 4) s (fun t => EventNow 0x3007 sevWarn (laneIndex L) t
          ∧ ({ t with raised := s.raised } : State) = s))
      ∧ (x.state = .backoff → s.laneHeld L = false → Completes (.backoffExpiry L) s (fun t => t.ttime = max s.ttime x.deadline ∧ (t.lane L).state = .detect
          ∧ (t.lane L).deadline = t.ticksOn 160 ∧ (t.lane L).fails = x.fails ∧ alone t ∧ t.ser.link = s.ser.link
          ∧ ({ t with ser := s.ser, sent := s.sent } : State) = s.movedTo t.ttime))
      ∧ (∀ cause, x.state = .active → 1 ≤ cause → cause ≤ 4 → Completes (.laneLost L cause) s (fun t => lost L t
          ∧ t.ctrOf (lnRegs L + 0x4C) = satAdd ctrMax (s.ctrOf (lnRegs L + 0x4C)) 1))
      ∧ (∀ m, heard 0x17 m → (let k := L / 4 * 4 + byteAt m.2 1 % 4
        (s.lane k).state = .active → s.linkOf k = l → Completes (.drop L) s (lost k)))

/-- R253, R261, R263, R264, R266. -/
def Obligations.LaneRegisters : Prop :=
  ∀ (m L : Nat) (v : Word) (s : State), m < 12 → s.lanePresent L = true →
    let x := s.lane L
    let alone (t : State) : Prop := ∀ K, K ≠ L → t.lane K = s.lane K
    let rest (t : State) : Prop := ({ t with regs := s.regs, ser := s.ser, sent := s.sent, twin := s.twin, xbar := s.xbar } : State) = s
    let begun (f : Nat) (t : State) : Prop := (t.lane L).state = .detect ∧ (t.lane L).deadline = s.ticksOn 160 ∧ (t.lane L).fails = f
    (s.writeGate m (lnRegs L + 8) = .pass →
        (bit v 0 = true → x.state = .down → s.laneHeld L = false → Completes (.lnRearm m L v) s (fun t => begun 0 t ∧ alone t ∧ rest t
            ∧ bits (t.reg (lnRegs L)) 1 0 = 3 ∧ t.ser.link = s.ser.link))
          ∧ (bit v 0 = true → x.state = .down → s.laneHeld L = true → Completes (.lnRearm m L v) s (fun t => t.lane L = { x with fails := 0, lossDue := false } ∧ alone t ∧ rest t))
          ∧ (bit v 0 = true → x.state ≠ .down → Completes (.lnRearm m L v) s (WriteRejected m (lnRegs L + 8) s))
          ∧ (bit v 0 = false → Completes (.lnRearm m L v) s (fun t => t.ser = s.ser ∧ rest t ∧ t.regs = s.regs)))
      ∧ (s.writeGate m (lnRegs L) = .pass →
        let old := bit (s.reg (lnRegs L)) 4
        (bit v 4 = true → old = false → x.state = .active → s.resvsOn (s.linkOf L) ≠ [] → Completes (.lnCtrlTest m L v) s (WriteRejected m (lnRegs L) s))
          ∧ (bit v 4 = true → old = false → x.state ≠ .active ∨ s.resvsOn (s.linkOf L) = [] → Completes (.lnCtrlTest m L v) s (fun t =>
            (t.lane L).state = .test ∧ (t.lane L).rate = x.rate ∧ L ∉ (t.link (s.linkOf L)).lanes ∧ t.reg (lnRegs L) = maskWrite (s.reg (lnRegs L)) v 0x13 ∧ t.mem = s.mem))
          ∧ (bit v 4 = old → Completes (.lnCtrlTest m L v) s (fun t => t.ser = s.ser ∧ rest t ∧ t.reg (lnRegs L) = maskWrite (s.reg (lnRegs L)) v 0x13))
          ∧ (bit v 4 = false → old = true → Completes (.lnCtrlTest m L v) s (fun t => alone t ∧ rest t ∧ t.ser.link = s.ser.link
            ∧ t.reg (lnRegs L) = maskWrite (s.reg (lnRegs L)) v 0x13
            ∧ (s.lkEnabled (s.linkOf L) = true → L ∈ s.linkLanes (s.linkOf L) → s.laneHeld L = false → begun x.fails t)
            ∧ (s.lkEnabled (s.linkOf L) = false → (t.lane L).state = .disabled))))
      ∧ (s.writeGate m (lnRegs L + 0x2C) = .pass →
        let mode := bits v 30 28
        let bad : Prop := 4 < mode ∨ (mode = 2 ∧ bits v 23 16 = 0) ∨ (mode = 4 ∧ (bits v 13 8 < 10 ∨ 40 < bits v 13 8))
        (bad → Completes (.injTrigger m L v) s (WriteRejected m (lnRegs L + 0x2C) s))
          ∧ (¬ bad → bit v 0 = false ∨ mode = 0 ∨ mode = 4 ∨ x.injPending = true → Completes (.injTrigger m L v) s (fun t => t.ser = s.ser ∧ rest t
            ∧ t.reg (lnRegs L + 0x2C) = v &&& 0x70FF3F00))
          ∧ (1 ≤ mode → mode ≤ 3 → (mode = 2 → bits v 23 16 ≠ 0) → bit v 0 = true → x.injPending = false →
            (x.state ∈ [.disabled, .l1, .l2, .down] → Completes (.injTrigger m L v) s (fun t => t.lane L = { x with injPending := true } ∧ alone t ∧ rest t))
              ∧ (x.state ∉ [.disabled, .l1, .l2, .down] → Completes (.injTrigger m L v) s (fun t => t.lane L = x ∧ alone t ∧ rest t
                ∧ { kind := "INJECT", via := L, args := [v.toNat] } ∈ t.sent ∧ t.reg (lnRegs L + 0x2C) = v &&& 0x70FF3F00))))
      ∧ (s.writeGate m (lkRegs L) = .pass → bit v 31 ≠ bit (s.lkCtrl L) 31 →
        (s.lkCtrlOk L v = false → Completes (.lkCtrlEnable m L v) s (WriteRejected m (lkRegs L) s))
          ∧ (s.lkCtrlOk L v = true → bit v 31 = true → Completes (.lkCtrlEnable m L v) s (fun t => rest t ∧ t.link L = Link.reset
            ∧ t.lkCtrl L = maskWrite (s.lkCtrl L) v 0xF3FCFFFF
            ∧ (∀ k, k < 4 → (lkMask v).testBit k = true → (s.lane (L / 4 * 4 + k)).state = .disabled → s.laneHeld (L / 4 * 4 + k) = false →
                (t.lane (L / 4 * 4 + k)).state = .detect)
            ∧ (∀ K, (s.lane K).state ≠ .disabled → t.lane K = s.lane K)))
          ∧ (s.lkCtrlOk L v = true → bit v 31 = false → Completes (.lkCtrlEnable m L v) s (fun t => rest t ∧ t.link L = Link.reset
            ∧ (∀ k, k < 4 → (lkMask v).testBit k = true → (t.lane (L / 4 * 4 + k)).state = .disabled) ∧ bit (t.lkCtrl L) 31 = false
            ∧ (∀ K, K / 4 ≠ L / 4 → t.lane K = s.lane K))))
      ∧ (∀ locked, 32 ≤ L → s.laneRsl L = false → (s.portLanes ((L - 32) / 4)).contains (L % 4) = true → s.laneHeld L = false → x.cdr ≠ locked →
        Completes (.sdiEthLockChange L locked) s (fun t => t.lane L = { x with cdr := locked, sigDet := locked } ∧ alone t ∧ t.ser.link = s.ser.link
          ∧ t.ctrOf (lnRegs L + 0x4C) = (if locked then s.ctrOf (lnRegs L + 0x4C) else satAdd ctrMax (s.ctrOf (lnRegs L + 0x4C)) 1) ∧ ({ t with ctr := s.ctr, ser := s.ser } : State) = s))

/-- R98, R234, R248, R262. -/
def Obligations.LinkPowerAndBlocks : Prop :=
  ∀ (l : Nat) (s : State),
    let y := s.link l
    let rest (t : State) : Prop := ({ t with regs := s.regs, ser := s.ser, sent := s.sent, twin := s.twin, xbar := s.xbar } : State) = s
    let others (t : State) : Prop := ∀ k, k ≠ l → t.link k = s.link k
    let asks (kind : Nat) (a tt : Nat) (t : State) : Prop := t.link l = { y with asked := some (kind, ticksAfter tt 1) } ∧ others t
      ∧ { kind := "CTRL", via := a, args := pad20 [if kind = 1 then 0x18 else 0x1A] } ∈ t.sent
      ∧ (t.lane a).unanswered = some (pad20 [if kind = 1 then 0x18 else 0x1A], tt) ∧ ∀ K, K ≠ a → t.lane K = s.lane K
    let left1 (t : State) : Prop := (t.link l).power = 0 ∧ (t.link l).lanes = y.lanes ∧ others t
      ∧ ∀ K, t.lane K = if K ∈ y.lanes ∧ (s.lane K).state = .l1 then { s.lane K with state := .active } else s.lane K
    let left2 (t : State) : Prop := (t.link l).power = 0 ∧ (t.link l).lanes = [] ∧ others t
      ∧ ∀ K, t.lane K = if K ∈ y.lanes then { Lane.reset with state := .train, deadline := s.ticksOn 32 } else s.lane K
    (∀ m v, m < 12 → s.lanePresent l = true → s.writeGate m (lkRegs l) = .pass → s.lkCtrlOk l v = true →
      let old := s.lkCtrl l
      bit v 31 = bit old 31 →
        (∀ a ls, bit v 19 = true → bit old 19 = false → bit v 18 = bit old 18 → y.power = 0 → y.lanes = a :: ls → Completes (.l1Req m l v) s (fun t => asks 1 a s.ttime t ∧ rest t))
          ∧ (bit v 19 = false → bit old 19 = true → bit v 18 = bit old 18 → y.power = 1 → Completes (.l1Req m l v) s (fun t => left1 t ∧ rest t))
          ∧ (∀ a ls, bit v 18 = true → bit old 18 = false → bit v 19 = bit old 19 → y.power = 0 → y.lanes = a :: ls → Completes (.l2Req m l v) s (fun t => asks 2 a s.ttime t ∧ rest t))
          ∧ (bit v 18 = false → bit old 18 = true → bit v 19 = bit old 19 → y.power = 2 → Completes (.l2Req m l v) s (fun t => left2 t ∧ rest t)))
      ∧ (∀ m v, m < 12 → s.lanePresent l = true → s.writeGate m (lkRegs l) = .pass → s.lkCtrlOk l v = false →
        (bit v 19 ≠ bit (s.lkCtrl l) 19 → Completes (.l1Req m l v) s (WriteRejected m (lkRegs l) s))
          ∧ (bit v 18 ≠ bit (s.lkCtrl l) 18 → Completes (.l2Req m l v) s (WriteRejected m (lkRegs l) s)))
      ∧ (∀ L, s.linkOf L = l →
        let heard (ty : Nat) (q : Nat × List Nat) : Prop := s.ser.msgs.find? (fun q => decide (q.1 = L ∧ byteAt q.2 0 = ty)) = some q
        let entered (kind : Nat) (q : Nat × List Nat) (t : State) : Prop := t.link l = { y with power := kind, asked := none } ∧ others t ∧ t.ser.msgs = s.ser.msgs.erase q
          ∧ (∀ K, K ∈ y.lanes → t.lane K = { s.lane K with unanswered := none, state := if kind = 1 then .l1 else .l2 }) ∧ (∀ K, K ∉ y.lanes → t.lane K = s.lane K)
          ∧ ({ t with ctr := s.ctr, ser := s.ser, sent := s.sent } : State) = s
        let free (kind : Nat) : Prop := y.lanes ≠ [] ∧ y.power = 0 ∧ s.resvsOn l = [] ∧ (y.asked.map Prod.fst = some kind → s.leads l y.partner = false)
        let kept (q : Nat × List Nat) (t : State) : Prop := t = { s with ser := { s.ser with msgs := s.ser.msgs.erase q } }
        (∀ q, heard 0x18 q → (free 1 → Completes (.l1reqMsg L) s (fun t => entered 1 q t ∧ t.sent = s.sent ++ [{ kind := "CTRL", via := L, args := pad20 [0x19] }]))
            ∧ (¬ free 1 → Completes (.l1reqMsg L) s (kept q)))
          ∧ (∀ q, heard 0x1A q → (free 2 → Completes (.l2reqMsg L) s (fun t => entered 2 q t ∧ t.sent = s.sent ++ [{ kind := "CTRL", via := L, args := pad20 [0x1B] }]))
            ∧ (¬ free 2 → Completes (.l2reqMsg L) s (kept q)))
          ∧ (∀ q, heard 0x19 q → y.asked.map Prod.fst ≠ some 1 → Completes (.l1ackMsg L) s (kept q))
          ∧ (∀ q, heard 0x1B q → y.asked.map Prod.fst ≠ some 2 → Completes (.l2ackMsg L) s (kept q))
          ∧ (∀ q tt, heard 0x19 q → y.asked = some (1, tt) → Completes (.l1ackMsg L) s (fun t => entered 1 q t ∧ t.sent = s.sent))
          ∧ (∀ q tt, heard 0x1B q → y.asked = some (2, tt) → Completes (.l2ackMsg L) s (fun t => entered 2 q t ∧ t.sent = s.sent)))
      ∧ (∀ tt, y.asked = some (1, tt) → Completes (.l1Refused l) s (fun t => t.ttime = max s.ttime tt ∧ t.link l = { y with asked := none } ∧ others t
          ∧ (∀ K, K ∈ y.lanes → t.lane K = { s.lane K with unanswered := none }) ∧ EventNow 0x3014 sevNotice l t
          ∧ ({ t with raised := s.raised, ser := s.ser } : State) = s.movedTo t.ttime))
      ∧ (∀ a ls, bits (s.lkCtrl l) 15 0 ≠ 0 → y.lanes = a :: ls → y.power = 0 → y.asked = none → s.resvsOn l = [] → Completes (.idleL1Timeout l) s (fun t =>
          t.ttime = max s.ttime (y.lastMedia + bits (s.lkCtrl l) 15 0 * 1600) ∧ asks 1 a t.ttime t ∧ ({ t with ser := s.ser, sent := s.sent } : State) = s.movedTo t.ttime))
      ∧ (y.power = 1 → Completes (.l1Resume l) s (fun t => left1 t ∧ ({ t with ser := s.ser } : State) = s))
      ∧ (y.power = 2 → Completes (.l2Wake l) s (fun t => left2 t ∧ ({ t with ser := s.ser } : State) = s))
      ∧ (∀ dev flow (beyond : Bool) (bs : List Byte), s.linkUp l = false ∨ 2 ≤ y.power → Completes (.mediaBlockRx l dev flow beyond bs) s (fun t => t = s))
      ∧ (∀ dev flow (beyond : Bool) (bs : List Byte), s.linkUp l = true → y.power < 2 → Completes (.mediaBlockRx l dev flow beyond bs) s (fun t =>
          let block (k : Nat) : OutMsg := { kind := "BLOCK", via := k, dst := dev, args := flow :: bs.map BitVec.toNat }
          (t.link l).lastMedia = s.ttime ∧ (t.link l).power = 0 ∧ (beyond = true → t.sent = s.sent ∧ t.mem = s.mem)
            ∧ (beyond = false → ∀ r ∈ s.stk.resvs, r.dev = dev → r.flow = flow → r.link ≠ l → block r.link ∈ t.sent ∧ (t.link r.link).lastMedia = s.ttime)
            ∧ ((∀ r ∈ s.stk.resvs, r.dev = dev → r.flow = flow → r.link = l) → t.sent = s.sent)
            ∧ (s.landingOf dev flow = none → t.flows = s.flows ∧ t.mem = s.mem)
            ∧ (∀ f, s.landingOf dev flow = some f →
                let x := s.flow f
                (∀ g, g ≠ f → t.flow g = s.flow g) ∧ ∀ i, x.slots.findIdx? (fun z => z.writing) = some i →
                  let a := x.base + i * x.slotBytes + x.rxPos
                  let n := min bs.length (x.slotBytes - x.rxPos)
                  t.flow f = { x with rxPos := x.rxPos + bs.length }
                    ∧ (beyond = false → x.base ≠ 0 → ∀ k, k < n → Memory.read t.mem.cxl (a + k) = bs.getD k 0)
                    ∧ ∀ q, q < a ∨ a + n ≤ q → Memory.read t.mem.cxl q = Memory.read s.mem.cxl q)
            ∧ ({ t.mem with cxl := s.mem.cxl } : Mems) = s.mem
            ∧ ({ t with flows := s.flows, mem := s.mem, ser := s.ser, sent := s.sent } : State) = s))

/-! The stacking fabric. -/

/-- R268, R271 to R273, R277 to R279, R299. That a group is taken from the cluster master or the system master is the model's reading (log 58). -/
def Obligations.StackMastersAndTime : Prop :=
  ∀ (s : State),
    let heard (ty : Nat) (m : StkMsg) : Prop := s.stk.inbox.find? (fun q => decide (q.type = ty)) = some m
    let rest1 (m : StkMsg) : List StkMsg := s.stk.inbox.erase m
    let now16 : Nat := (s.ttime / (16 * tickLen) + 1) * (16 * tickLen)
    let s16 : State := s.movedTo now16
    let elected (b : State) (t : State) : Prop := t.stk.master = lowest t.candidates ∧ t.stk.parts = (if t.stk.master = s.stk.master then s.stk.parts else s.orphans t.stk.master)
      ∧ (t.stk.master ≠ s.stk.master → EventNow 0x9010 sevNotice 0 t) ∧ (t.stk.master ≠ none → t.regs = b.regs)
      ∧ (t.stk.master = none → (∀ l ∈ s.upLinks, (s.link l).partner ≠ s.devId → t.route (s.link l).partner 1 = 0 ∧ ∃ k ∈ s.upLinks, (s.link k).partner = (s.link l).partner
          ∧ t.route (s.link l).partner 0 = word (2 ^ 31 + 2 ^ 28 + 2 ^ 22 + k))
        ∧ ∀ a, (∀ l ∈ s.upLinks, a ≠ R.stkRoute (2 * (s.link l).partner) ∧ a ≠ R.stkRoute (2 * (s.link l).partner + 1)) → t.reg a = b.reg a)
    (∀ l t0 bs rest, s.stk.rx = (l, t0, bs) :: rest →
        let m := stkMsgOf l t0 bs
        let here := m.local = true ∨ m.dst = s.devId
        let counted (a : Nat) (t : State) : Prop := t.ctrOf a = satAdd ctrMax (s.ctrOf a) 1 ∧ (∀ b, b ≠ a → t.ctrOf b = s.ctrOf b) ∧ t.stk = { s.stk with rx := rest }
          ∧ ({ t with ctr := s.ctr, stk := s.stk } : State) = s
        (m.ok = false → Completes .stackMsgRx s (counted (lkRegs l + 0x1C)))
          ∧ (m.ok = true → here → s.seenSeq m.src m.seq = true → Completes .stackMsgRx s (counted R.stkMsgDupCnt))
          ∧ (m.ok = true → here → s.seenSeq m.src m.seq = false → Completes .stackMsgRx s (fun t => t.seenSeq m.src m.seq = true
              ∧ (∀ src q, src ≠ m.src → t.seenSeq src q = s.seenSeq src q)
              ∧ t.stk = { s.stk with rx := rest, inbox := s.stk.inbox ++ [m], seen := t.stk.seen } ∧ t.ctrOf R.stkMsgRxCnt = satAdd ctrMax (s.ctrOf R.stkMsgRxCnt) 1
              ∧ ({ t with ctr := s.ctr, stk := s.stk } : State) = s))
          ∧ (m.ok = true → ¬ here → m.hops = 5 → Completes .stackMsgRx s (counted R.stkMsgHopsCnt))
          ∧ (m.ok = true → ¬ here → m.hops ≠ 5 → m.type = 0x12 ∨ m.type = 0x14 → Completes .stackMsgRx s (fun t =>
              t = { s with stk := { s.stk with rx := rest, inbox := s.stk.inbox ++ [m] } }))
          ∧ (m.ok = true → ¬ here → m.hops ≠ 5 → m.type ≠ 0x12 → m.type ≠ 0x14 →
            (∀ k, s.hopOut (m.dst % 2048) m.route = some k → Completes .stackMsgRx s (fun t => t = { s with stk := { s.stk with rx := rest }, sent := s.sent ++ [{ kind := "FORWARD", via := k, dst := m.dst % 2048, args := [m.src, m.type, m.route + 2 * (m.hops + 1), m.seq] ++ m.pay }] }))
            ∧ (s.hopOut (m.dst % 2048) m.route = none → Completes .stackMsgRx s (counted R.stkMsgNorouteCnt))))
      ∧ (∀ m, heard 1 m →
        let h : Heard := { id := m.src, fabric := (byteAt m.pay 0).testBit 0, capable := (byteAt m.pay 0).testBit 1, standby := (byteAt m.pay 0).testBit 2, master := byte2 m.pay 1, hops := byteAt m.pay 3, t := m.t, link := m.link }
        let dup := s.isMaster = true ∧ s.dupSeen h = true ∧ h.id ∉ s.stk.dupIds
        Completes .announce s (fun t =>
          t.stk = { s.stk with inbox := rest1 m, heard := h :: s.stk.heard.filter (fun g => !decide (g.id = h.id ∧ g.link = h.link ∧ g.standby = h.standby)), master := t.stk.master, parts := t.stk.parts, dupIds := t.stk.dupIds }
          ∧ ({ t with stk := s.stk, regs := s.regs, raised := s.raised } : State) = s
          ∧ (¬ dup → elected s t ∧ t.stk.dupIds = s.stk.dupIds)
          ∧ (dup → t.stk.dupIds = h.id :: s.stk.dupIds ∧ EventNow 0x9013 sevError 0 t ∧ elected ((s.setReg (R.stkRoute (2 * h.id)) 0).setReg (R.stkRoute (2 * h.id + 1)) 0) t)))
      ∧ Completes .announceTimer s (fun t => t.ttime = now16 ∧ elected s t ∧ t.stk = { s.stk with master := t.stk.master, parts := t.stk.parts, msgSeq := t.stk.msgSeq }
          ∧ ({ t with stk := s.stk, regs := s.regs, raised := s.raised, sent := s.sent, ctr := s.ctr } : State) = s16
          ∧ t.sent.length = s.sent.length + s.upLinks.length ∧ ∀ l ∈ s.upLinks, ∃ q, { kind := "ANNOUNCE", via := l, dst := 0x8000, args := q :: pay12 ((flag s.isFabric 0 + flag (decide (s.stk.role % 2 = 1)) 1 + flag s.isStandby 2) :: match t.stk.master with | some k => leNats 2 k ++ [t.masterHops] | none => [0xFF, 0xFF, 0]) } ∈ t.sent.drop s.sent.length)
      ∧ (s.stk.master = none ∨ s.stk.master = some s.devId → Completes .masterLost s (fun t => t = s))
      ∧ (∀ k, s.stk.master = some k → k ≠ s.devId →
        let last := ((s.stk.heard.filter (fun h => decide (h.id = k) || decide (h.master = k))).map Heard.t).foldl max 0
        Completes .masterLost s (fun t => t.ttime = max s.ttime (last + 48 * tickLen + 1) ∧ elected s t
          ∧ t.stk = { s.stk with heard := s.stk.heard.filter (fun h => decide (h.id ≠ k ∧ h.master ≠ k)), master := t.stk.master, parts := t.stk.parts }
          ∧ ({ t with stk := s.stk, regs := s.regs, raised := s.raised } : State) = s.movedTo t.ttime))
      ∧ (∀ m, heard 3 m → Completes .delayReq s (fun t => t.stk = { s.stk with inbox := rest1 m, msgSeq := t.stk.msgSeq } ∧ ∃ q, t.sent = s.sent ++ [{ kind := "DELAY_RESP", via := m.link, dst := 0x8000, args := q :: pay12 (leNats 8 m.t ++ leNats 4 (s.ttime - m.t)) }] ∧ ({ t with stk := s.stk, sent := s.sent, ctr := s.ctr } : State) = s))
      ∧ Completes .delayReqTimer s (fun t => t.ttime = now16 ∧ (∀ l ∈ s.upLinks, s16.nearer l = true → Tbl.find t.stk.reqSent l = some now16
            ∧ ∃ q, { kind := "DELAY_REQ", via := l, dst := 0x8000, args := q :: pay12 (leNats 8 now16) } ∈ t.sent.drop s.sent.length)
          ∧ (∀ l, s16.nearer l = false → Tbl.get 0 t.stk.reqSent l = Tbl.get 0 s.stk.reqSent l) ∧ t.stk = { s.stk with reqSent := t.stk.reqSent, msgSeq := t.stk.msgSeq }
          ∧ ({ t with stk := s.stk, sent := s.sent, ctr := s.ctr } : State) = s16)
      ∧ (∀ m, heard 4 m → (Tbl.find s.stk.reqSent m.link = none → Completes .delayResp s (fun t => t = { s with stk := { s.stk with inbox := rest1 m } }))
        ∧ ∀ t0, Tbl.find s.stk.reqSent m.link = some t0 → Completes .delayResp s (fun t =>
          Tbl.get 0 t.stk.delays m.link = (m.t - t0 - byte4 m.pay 8) / 2 ∧ Tbl.find t.stk.reqSent m.link = none
          ∧ (∀ l, l ≠ m.link → Tbl.get 0 t.stk.delays l = Tbl.get 0 s.stk.delays l ∧ Tbl.find t.stk.reqSent l = Tbl.find s.stk.reqSent l)
          ∧ t.stk = { s.stk with inbox := rest1 m, delays := t.stk.delays, reqSent := t.stk.reqSent } ∧ ({ t with stk := s.stk } : State) = s))
      ∧ (∀ m, heard 2 m →
        let ofs : Int := (byte4 m.pay 0 + 2 ^ 32 * byte4 m.pay 4 + Tbl.get 0 s.stk.delays m.link : Nat) - (m.t : Int)
        let b := (((s.ttime : Int) + ofs).toNat / tickLen + 1) * tickLen
        let feeds (t : State) : Prop := s.stkSrc = 0 → (t.cand 8).active = true ∧ (s.cand 8 |>.st) ≠ cdFailed → (t.cand 8).good = some (t.ttime, 16 * tickLen) ∧ (t.cand 8).phase = t.stk.timeOfs * 256
        (s.nearer m.link = true → s.mayLoad = true → Completes .timeMsg s (fun t => t.ttime = ((s.ttime : Int) + ofs).toNat ∧ t.ticks = t.ttime / tickLen ∧ t.stk.loaded = true ∧ t.mayLoad = false
            ∧ t.stk.timeOfs = 0 ∧ t.stk.lastTime = some t.ttime ∧ EventNow 0x9014 sevInfo 0 t ∧ (∀ h ∈ t.stk.heard, h.t = b) ∧ (s.twin.lastHb.isSome = true → t.twin.lastHb = some b)
            ∧ (s.stk.inbox.length = t.stk.inbox.length + 1) ∧ feeds t ∧ t.mem = s.mem ∧ t.regs = s.regs ∧ t.ctr = s.ctr ∧ t.groups = s.groups ∧ t.ports = s.ports ∧ t.sent = s.sent ∧ t.pending = s.pending
            ∧ t.flows.map Prod.fst = s.flows.map Prod.fst ∧ t.outs.map Prod.fst = s.outs.map Prod.fst))
          ∧ (s.nearer m.link = true → s.mayLoad = false → Completes .timeMsg s (fun t => t.stk = { s.stk with inbox := rest1 m, timeOfs := ofs, lastTime := some s.ttime } ∧ feeds t
            ∧ ({ t with stk := s.stk, madder := s.madder, raised := s.raised } : State) = s ∧ (s.stkSrc ≠ 0 → t.madder = s.madder ∧ t.raised = s.raised)))
          ∧ (s.nearer m.link = false → Completes .timeMsg s (fun t => t = { s with stk := { s.stk with inbox := rest1 m } })))
      ∧ (∀ m, heard 5 m →
        let g := byteAt m.pay 0
        let fromMaster := s.clusterMaster (s.devId / 16) = some m.src ∨ s.stk.master = some m.src
        let twin := s.isStandby = true ∧ m.link = 28
        let fits := g < 16 ∧ byteAt m.pay 1 = s.regBits (R.tgrpCtrl g) 23 16 ∧ s.groupEnabled g = true ∧ (twin ∨ s.groupSource g = 4 ∧ (s.group g).waiting ≠ none ∧ fromMaster)
        Completes .group s (fun t => t.stk = { s.stk with inbox := rest1 m } ∧ (∀ k, k ≠ g → t.group k = s.group k) ∧ ({ t with groups := s.groups, stk := s.stk } : State) = s
          ∧ (fits → t.group g = { s.group g with fixed := true, waiting := none, fixT := s.ttime, free := false, running := false, epoch := (nearLow s.ttime (byte4 m.pay 8) : Int) - ((byte2 m.pay 2 + 65536 * byte4 m.pay 4) * (clkHz * 1001) / s.groupRate g : Nat) + s.phaseOfs g })
          ∧ (¬ fits → t.group g = s.group g)))
      ∧ Completes .groupTimer s (fun t =>
          let runs (g : Nat) : Prop := g < 16 ∧ s.groupEnabled g = true ∧ (s.group g).running = true
          let pay (g : Nat) : List Nat := pay12 ([g, s.regBits (R.tgrpCtrl g) 23 16] ++ leNats 6 (s.group g).frame ++ leNats 4 ((s.group g).lastStart % 2 ^ 32))
          let sentTo (d via : Nat) (g : Nat) : Prop := ∃ q, { kind := "GROUP", via := via, dst := d, args := q :: pay g } ∈ t.sent.drop s.sent.length
          t.ttime = now16 ∧ (s16.isMaster = false → s16.isClusterMaster = false → s.mirrors = false → t.sent = s.sent)
          ∧ (∀ d g, s16.isClusterMaster = true → d ∈ s16.clusterIds (s.devId / 16) → d ≠ s.devId → s.hasRoute d = true → runs g → sentTo d 0 g)
          ∧ (∀ c d g, s16.isMaster = true → c < 128 → c ≠ s.devId / 16 → s16.clusterMaster c = some d → s.hasRoute d = true → runs g → sentTo d 0 g)
          ∧ (∀ g, s.mirrors = true → runs g → sentTo 0x8000 28 g)
          ∧ t.stk = { s.stk with msgSeq := t.stk.msgSeq } ∧ ({ t with stk := s.stk, sent := s.sent, ctr := s.ctr } : State) = s16)

/-- R108, R109, R274 to R276; R292: a link of the twin pair carries no route. -/
def Obligations.RoutesAndReservations : Prop :=
  (∀ (s : State) (r : Resv),
    let ls := s.hopOrder (hopLinks (s.hopWord r.dst r.route)) r.dev r.flow
    (∀ l ∈ ls, l ∈ hopLinks (s.hopWord r.dst r.route) ∧ s.linkUp l = true ∧ s.twinOwns l = false)
    ∧ (∀ l ∈ hopLinks (s.hopWord r.dst r.route), s.linkUp l = true → s.twinOwns l = false → l ∈ ls)
    ∧ ls.Pairwise (fun a b => s.carries b r.dev r.flow = true → s.carries a r.dev r.flow = true)
    ∧ ls.Pairwise (fun a b => s.carries a r.dev r.flow = false → s.carries b r.dev r.flow = false → s.linkLoad a ≤ s.linkLoad b)
    ∧ (s.reserveHop r = none ↔ ∀ l ∈ ls, l ∈ r.tried ∨ s.resvFits l r = false)
    ∧ (∀ q t, s.reserveHop r = some (q, t) → q = { r with link := q.link, tried := r.tried ++ [q.link] }
      ∧ q.link ∈ ls ∧ q.link ∉ r.tried ∧ t.stk = { s.stk with resvs := q :: s.stk.resvs } ∧ ({ t with stk := s.stk, ser := s.ser } : State) = s
      ∧ (s.carries q.link r.dev r.flow = true → t.linkLoad q.link = s.linkLoad q.link)
      ∧ (s.carries q.link r.dev r.flow = false → t.linkLoad q.link = s.linkLoad q.link + r.mbps ∧ t.linkLoad q.link ≤ s.linkCapacity q.link))
    ∧ (∀ q t, s.reserveHop r = some (q, t) → s.sourceReserve r = t.sendResv q)
    ∧ (∀ q t, s.reserveHop r = none → r.route = 0 → bit (s.route r.dst 1) 31 = true → s.reserveHop { r with route := 1, tried := [] } = some (q, t) → s.sourceReserve r = t.sendResv q)
    ∧ (s.reserveHop r = none → (r.route ≠ 0 ∨ bit (s.route r.dst 1) 31 = false ∨ s.reserveHop { r with route := 1, tried := [] } = none) →
      s.sourceReserve r = s.stkSend r.dst 0x13 "RESV_ACK" (exchPay r.flow stNoBandwidth r.route r.mbps r.out r.dst)))
  ∧ ∀ (s : State) (m : StkMsg),
    let heard (ty : Nat) : Prop := s.stk.inbox.find? (fun q => decide (q.type = ty)) = some m
    let s0 : State := { s with stk := { s.stk with inbox := s.stk.inbox.erase m } }
    let told (dst ty : Nat) (name : String) (pay : List Nat) (t : State) : Prop :=
      (s.hasRoute dst = true → dst ≠ s.devId → ∃ q, { kind := name, via := 0, dst := dst, args := q :: pay12 pay } ∈ t.sent.drop s.sent.length
          ∧ (bit (s.route dst 1) 31 = true → { kind := name, via := 1, dst := dst, args := q :: pay12 pay } ∈ t.sent.drop s.sent.length))
        ∧ (s.hasRoute dst = false → dst ≠ s.devId → t.sent = s.sent ∧ t.ctrOf R.stkMsgNorouteCnt = satAdd ctrMax (s.ctrOf R.stkMsgNorouteCnt) 1)
        ∧ (dst = s.devId → t.sent = s.sent ∧ ∃ x ∈ t.stk.inbox, x.type = ty ∧ x.pay = pay12 pay)
    let only (t : State) : Prop := ({ t with stk := s.stk, sent := s.sent, ctr := s.ctr } : State) = s
    let failedAs (f st : Nat) (t : State) : Prop := t.flow f = { s.flow f with failed := st } ∧ (∀ g, g ≠ f → t.flow g = s.flow g) ∧ ({ t with flows := s.flows } : State) = s0
    (heard 6 →
        let e : StagedRoute := { d := byte2 m.pay 0 % 2048, w0 := word (byte4 m.pay 2), w1 := word (byte4 m.pay 6), version := byte2 m.pay 10 }
        (s.stk.master = some m.src → Completes .route s (fun t => e ∈ t.stk.staged ∧ (∀ x ∈ t.stk.staged, x = e ∨ x ∈ s.stk.staged)
            ∧ (∀ x ∈ s.stk.staged, x.d ≠ e.d ∨ x.version ≠ e.version → x ∈ t.stk.staged) ∧ (∀ x ∈ t.stk.staged, x.d = e.d → x.version = e.version → x = e)
            ∧ ({ t with stk := { t.stk with staged := s.stk.staged } } : State) = s0))
          ∧ (s.stk.master ≠ some m.src → Completes .route s (fun t => t = s0)))
      ∧ (heard 7 → (s.stk.master = some m.src → Completes .routeCommit s (fun t => t = { s with stk := { s0.stk with commit := some (byte4 m.pay 0, byte4 m.pay 4) } }))
          ∧ (s.stk.master ≠ some m.src → Completes .routeCommit s (fun t => t = s0)))
      ∧ (∀ v tick missing, s.stk.commit = some (v, tick) →
        let mine := s.stk.staged.filter (fun e => decide (e.version = v % 65536))
        let after (t : State) : Prop := t.stk = { s.stk with commit := none, staged := s.stk.staged.filter (fun e => decide (e.version ≠ v % 65536)), version := t.stk.version }
          ∧ t.ttime = max s.ttime (nearLow s.tick tick * tickLen) ∧ ({ t with stk := s.stk, regs := s.regs, raised := s.raised } : State) = s.movedTo t.ttime
        (missing ≠ 0 ∨ mine = [] → Completes (.routeInstall missing) s (fun t => after t ∧ t.regs = s.regs ∧ t.stk.version = s.stk.version ∧ EventNow 0x9012 sevWarn 0 t))
          ∧ (missing = 0 → mine ≠ [] → Completes (.routeInstall missing) s (fun t => after t ∧ t.stk.version = v ∧ EventNow 0x9011 sevInfo 0 t
            ∧ (∀ e ∈ mine, (∀ x ∈ mine, x.d = e.d → x = e) → t.route e.d 0 = (if routeWordOk e.w0 && bit e.w0 31 then e.w0 &&& 0xFFC001FF else 0)
                ∧ t.route e.d 1 = (if routeWordOk e.w1 && bit e.w1 31 && !decide (bits e.w1 27 22 = bits e.w0 27 22 ∧ bits e.w1 8 0 = bits e.w0 8 0) then e.w1 &&& 0xFFC001FF else 0))
            ∧ ∀ a, (∀ e ∈ mine, a ≠ R.stkRoute (2 * e.d) ∧ a ≠ R.stkRoute (2 * e.d + 1)) → t.reg a = s.reg a)))
      ∧ (heard 0x10 →
        let f := m.xFlow
        let x := s.flow f
        let ok := x.usable && x.isVideo && x.storeEn
        Completes .exportReq s (fun t => only t
          ∧ (ok = true → t.stk.exports = s.stk.exports.filter (fun e => !decide (e.flow = f ∧ e.dev = m.src)) ++ [{ flow := f, dev := m.src, out := m.xOut, mbps := s.exportRate f }]
            ∧ told m.src 0x11 "EXPORT_ACK" (exchPay f stOk 0 (s.exportRate f) m.xOut m.xDev) t)
          ∧ (ok = false → t.stk.exports = s.stk.exports ∧ told m.src 0x11 "EXPORT_ACK" (exchPay f stDenied 0 (s.exportRate f) m.xOut m.xDev) t)))
      ∧ (heard 0x11 → (s.landingOf m.src m.xFlow = none → Completes .exportAck s (fun t => t = s0))
        ∧ ∀ f, s.landingOf m.src m.xFlow = some f → (m.xStatus ≠ stOk → Completes .exportAck s (failedAs f stDenied))
          ∧ (m.xStatus = stOk → Completes .exportAck s (fun t => t.flow f = { s.flow f with acked := true, resvRate := m.xRate } ∧ (∀ g, g ≠ f → t.flow g = s.flow g)
            ∧ ({ t with stk := s.stk, sent := s.sent, ctr := s.ctr, flows := s.flows } : State) = s ∧ told m.src 0x12 "RESV" (exchPay m.xFlow 0 0 m.xRate m.xOut m.xDev) t)))
      ∧ (heard 0x12 →
        let r : Resv := { link := 0, dev := m.src, flow := m.xFlow, dst := m.dst, out := m.xOut, mbps := m.xRate, route := m.xRoute, up := some m.link }
        let mine : Resv := { link := 0, dev := s.devId, flow := m.xFlow, dst := m.src, out := m.xOut, mbps := s.exportRate m.xFlow }
        (m.dst ≠ s.devId → m.route ≠ m.xRoute → Completes .resv s (fun t => t = s0.forward m))
          ∧ (∀ q t1, m.dst ≠ s.devId → m.route = m.xRoute → s0.reserveHop r = some (q, t1) → Completes .resv s (fun t => t = t1.passOn m q.link))
          ∧ (m.dst ≠ s.devId → m.route = m.xRoute → s0.reserveHop r = none →
            Completes .resv s (fun t => t.stk.resvs = s.stk.resvs ∧ told (s.link m.link).partner 0x13 "RESV_ACK" (exchPay m.xFlow stNoBandwidth m.xRoute m.xRate m.xOut m.xDev) t ∧ only t))
          ∧ (m.dst = s.devId → m.xDev = m.src → (∀ e ∈ s.stk.exports, ¬ (e.flow = m.xFlow ∧ e.dev = m.src)) →
            Completes .resv s (fun t => t.stk.resvs = s.stk.resvs ∧ told m.src 0x13 "RESV_ACK" (exchPay m.xFlow stDenied 0 m.xRate m.xOut m.xDev) t ∧ only t))
          ∧ (m.dst = s.devId → m.xDev = m.src → (∃ e ∈ s.stk.exports, e.flow = m.xFlow ∧ e.dev = m.src) →
            Completes .resv s (fun t => t = (s0.dropResv mine).sourceReserve mine))
          ∧ (m.dst = s.devId → m.xDev ≠ m.src → s.landingOf m.src m.xFlow = none → Completes .resv s (fun t => t = s0))
          ∧ (∀ f, m.dst = s.devId → m.xDev ≠ m.src → s.landingOf m.src m.xFlow = some f → Completes .resv s (fun t =>
            t.flow f = { s.flow f with route := m.xRoute, resvRate := m.xRate } ∧ (∀ g, g ≠ f → t.flow g = s.flow g) ∧ t.stk.resvs = s.stk.resvs
              ∧ ({ t with stk := s.stk, sent := s.sent, ctr := s.ctr, flows := s.flows } : State) = s
              ∧ told m.src 0x13 "RESV_ACK" (exchPay m.xFlow stOk m.xRoute m.xRate m.xOut m.xDev) t)))
      ∧ (heard 0x13 →
        let here := s.stk.resvs.find? (fun r => decide (r.flow = m.xFlow ∧ r.dst = m.xDev ∧ r.out = m.xOut))
        (m.xStatus = stOk → Completes .resvAck s (fun t =>
            t = { s with stk := { s0.stk with exports := s.stk.exports.map (fun e => if e.flow = m.xFlow ∧ e.dev = m.src then { e with running := true, route := m.xRoute } else e) } }))
          ∧ (∀ r, m.xStatus ≠ stOk → here = some r → r.dev = s.devId → Completes .resvAck s (fun t => t = (s0.dropResv r).sourceReserve r))
          ∧ (∀ r q t1, m.xStatus ≠ stOk → here = some r → r.dev ≠ s.devId → (s0.dropResv r).reserveHop r = some (q, t1) → Completes .resvAck s (fun t => t = t1.sendResv q))
          ∧ (∀ r l, m.xStatus ≠ stOk → here = some r → r.dev ≠ s.devId → (s0.dropResv r).reserveHop r = none → r.up = some l →
            Completes .resvAck s (fun t => t.stk.resvs = s.stk.resvs.filter (fun q => !q.same r) ∧ only t
              ∧ told (s.link l).partner 0x13 "RESV_ACK" (exchPay r.flow stNoBandwidth r.route r.mbps r.out r.dst) t))
          ∧ (∀ r, m.xStatus ≠ stOk → here = some r → r.dev ≠ s.devId → (s0.dropResv r).reserveHop r = none → r.up = none → Completes .resvAck s (fun t => t = s0.dropResv r))
          ∧ (m.xStatus ≠ stOk → here = none → s.landingOf m.src m.xFlow = none → Completes .resvAck s (fun t => t = s0))
          ∧ (∀ f, m.xStatus ≠ stOk → here = none → s.landingOf m.src m.xFlow = some f →
            Completes .resvAck s (failedAs f (if m.xStatus = stDenied then stDenied else stNoBandwidth))))
      ∧ (heard 0x14 →
        let freed (dev dst : Nat) : List Resv := s.stk.resvs.filter (fun r => !decide (r.dev = dev ∧ r.flow = m.xFlow ∧ r.dst = dst))
        (m.dst = s.devId → m.xDev = m.src → Completes .release s (fun t => t.stk.exports = s.stk.exports.filter (fun e => !decide (e.flow = m.xFlow ∧ e.dev = m.src))
            ∧ t.stk.resvs = freed s.devId m.src ∧ only t ∧ told m.src 0x14 "RELEASE" (exchPay m.xFlow 0 m.xRoute m.xRate m.xOut m.src) t))
          ∧ (m.dst = s.devId → m.xDev ≠ m.src → Completes .release s (fun t => t = s0))
          ∧ (m.dst ≠ s.devId → Completes .release s (fun t => t = ({ s with stk := { s0.stk with resvs := freed m.src (m.dst % 2048) } } : State).forward m)))

/-! Salvos. -/

/-- R216, R281 to R288. That event 0x9006 comes from every participant whose master was lost is the model's choice (log 58). -/
def Obligations.Salvos : Prop :=
  (∀ (s : State) (p : Part) (x : SalvoOut),
    (∀ r, s.takeCheck 0x1000 none x.out x.out x.word true = .error r → s.entryCheck p x = .error r)
    ∧ (∀ u q, s.takeCheck 0x1000 none x.out x.out x.word true = .ok (u, q) →
        let o := s.out x.out
        let free := o.salvo = none ∧ o.grpHold = none ∧ o.pend = none
        (¬ free → s.entryCheck p x = .error stBusy)
        ∧ (free → s.groupAgrees x.out p = false → s.entryCheck p x = .error stDenied)
        ∧ (free → s.groupAgrees x.out p = true → s.entryCheck p x = .ok (u, { x with take := some { q with own := false }, pre := o.cur })))
    ∧ (∀ xs done r, s.entryCheck p x = .error r → State.entryChecks p (x :: xs) done s = .error (r, x.out))
    ∧ (∀ xs done u y, s.entryCheck p x = .ok (u, y) → State.entryChecks p (x :: xs) done s
        = State.entryChecks p xs (done ++ [y]) (u.setPart { p with phase := .preparing, outs := done ++ [y] })))
  ∧ ∀ (s : State) (m : StkMsg),
    let heard (ty : Nat) : Prop := s.stk.inbox.find? (fun q => decide (q.type = ty)) = some m
    let s0 : State := { s with stk := { s.stk with inbox := s.stk.inbox.erase m } }
    let id := byte4 m.pay 0
    let told (dst : Nat) (name : String) (pay : List Nat) (t : State) : Prop := s.hasRoute dst = true → dst ≠ s.devId →
      ∃ q, { kind := name, via := 0, dst := dst, args := q :: pay12 pay } ∈ t.sent.drop s.sent.length
        ∧ (bit (s.route dst 1) 31 = true → { kind := name, via := 1, dst := dst, args := q :: pay12 pay } ∈ t.sent.drop s.sent.length)
    let own (dst ty : Nat) (pay : List Nat) (t : State) : Prop := dst = s.devId → ∃ x ∈ t.stk.inbox, x.type = ty ∧ x.pay = pay12 pay
    let mirrored (what : String) (args : List Nat) (t : State) : Prop := if s.mirrors = true then { kind := what, via := 7, dst := 0, args := args } ∈ t.sent.drop s.sent.length else t.twin = s.twin
    let mirrorSalvo (v : Salvo) (k : Nat) (t : State) : Prop := mirrored "SALVO" ([v.id, v.issuer, v.frame, v.group, v.deadline, k] ++ v.answers.flatMap (fun a => [a.dev, a.ack])) t
    let mirrorPart (p : Part) (k : Nat) (t : State) : Prop := mirrored "PART" ([p.id, p.master, p.frame, p.group, k] ++ p.outs.flatMap (fun x => [x.out, x.word.toNat])) t
    let acked (p : Part) (code n : Nat) (t : State) : Prop := told p.master "ACK" (leNats 4 p.id ++ [code, n]) t
      ∧ ∀ h ∈ s.stk.heard, h.standby = true → h.id = p.master → s.ttime ≤ h.t + 48 * tickLen → { kind := "ACK", via := h.link, dst := p.master, args := leNats 4 p.id ++ [code, n] } ∈ t.sent.drop s.sent.length
    let sends (t : State) : Prop := ({ t with stk := s.stk, sent := s.sent, ctr := s.ctr, raised := s.raised, twin := s.twin } : State) = s
    let noted (v : Salvo) (t : State) : Prop := t.salvo v.id = some v ∧ (∀ k, k ≠ v.id → t.salvo k = s.salvo k) ∧ t.stk.parts = s.stk.parts ∧ sends t
    let isPart (p : Part) (t : State) : Prop := t.part p.id = some p ∧ ∀ k, k ≠ p.id → t.part k = s.part k
    let resumed (e st : Nat) (v : Word) (t : State) : Prop := ∀ w, (s.ce e).salvo = some w → t.ce e = { s.ce e with salvo := none } ∧ (t.unit (128 + e)).stalled = false
      ∧ (t.unit (128 + e)).status = st ∧ (t.unit (128 + e)).flags = { (s.unit (128 + e)).flags with e := decide (st ≠ 0) }
      ∧ (st = stOk → WritesV (128 + e) (BitVec.ofNat 4 w.vd) v s t) ∧ (st ≠ stOk → KeepsV (128 + e) s t)
    let engines (st : Nat) (v : Word) (t : State) : Prop := ∀ e, (e < 4 → (∀ w, (s.ce e).salvo = some w → w.id = id) → resumed e st v t)
      ∧ ((e ≥ 4 ∨ ∀ w, (s.ce e).salvo = some w → w.id ≠ id) → t.ce e = s.ce e ∧ t.unit (128 + e) = s.unit (128 + e))
    (heard 0x20 →
        (s.isMaster = true → s.salvo id = none → Completes .submit s (fun t => t = { s with stk := { s0.stk with salvos := s.stk.salvos ++ [{ id := id, issuer := m.src, frame := byte4 m.pay 4 + 2 ^ 32 * byte2 m.pay 8, group := byteAt m.pay 10, deadline := byteAt m.pay 11 }] } }))
          ∧ (s.isMaster = false ∨ (s.salvo id).isSome = true → Completes .submit s (fun t => t = s0)))
      ∧ (∀ v, s.salvo id = some v →
        (heard 0x23 → Completes .ready s (fun t => noted (v.answer m.src (fun a => { a with answer := 1 })) t ∧ t.sent = s.sent))
          ∧ (heard 0x24 → Completes .refuse s (fun t => noted (v.answer m.src (fun a => { a with answer := 2 })) t ∧ t.sent = s.sent))
          ∧ (heard 0x27 → let w := v.answer m.src (fun a => { a with ack := byteAt m.pay 4 + 1 })
            Completes .salvoAck s (fun t => noted w t ∧ mirrorSalvo w (if v.decided = some true then 2 else 1) t)))
      ∧ (s.salvo id = none → (heard 0x23 → Completes .ready s (fun t => t = s0)) ∧ (heard 0x24 → Completes .refuse s (fun t => t = s0))
        ∧ (heard 0x27 → Completes .salvoAck s (fun t => t = s0)))
      ∧ (∀ k v, s.salvo k = some v →
        let all := v.whole && v.answers.all (fun a => decide (a.answer = 1))
        let now := v.decided = none ∧ s.isMaster = true ∧ (s.group v.group).running = true ∧ v.decideAt ≤ (s.group v.group).frame
        (¬ now → Completes (.salvoDecide k) s (fun t => t = s))
          ∧ (now → all = true → Completes (.salvoDecide k) s (fun t => t.salvo k = some { v with decided := some true } ∧ (∀ j, j ≠ k → t.salvo j = s.salvo j) ∧ sends t
            ∧ t.raised = s.raised ∧ mirrorSalvo v 2 t ∧ ∀ d ∈ v.told, told d "COMMIT" (leNats 4 k ++ leNats 4 (v.frame % 2 ^ 32)) t ∧ own d 0x25 (leNats 4 k ++ leNats 4 (v.frame % 2 ^ 32)) t))
          ∧ (now → all = false → let cause := if v.answers.any (fun a => decide (a.answer = 2)) then 0 else 1
            Completes (.salvoDecide k) s (fun t => t.salvo k = none ∧ (∀ j, j ≠ k → t.salvo j = s.salvo j) ∧ sends t ∧ EventNow 0x9002 sevNotice 0 t ∧ mirrorSalvo v 0 t
            ∧ ∀ d ∈ v.told, told d "ABORT" (leNats 4 k ++ [cause]) t ∧ own d 0x26 (leNats 4 k ++ [cause]) t)))
      ∧ (∀ k v, s.salvo k = some v →
        let now := v.decided = some true ∧ (s.group v.group).running = true ∧ v.frame + 1 ≤ (s.group v.group).frame
        let done := v.answers.all (fun a => decide (a.ack = 1))
        (¬ now → Completes (.salvoCollect k) s (fun t => t = s))
          ∧ (now → Completes (.salvoCollect k) s (fun t => t.salvo k = none ∧ (∀ j, j ≠ k → t.salvo j = s.salvo j) ∧ sends t ∧ mirrorSalvo v 0 t
            ∧ (s.isMaster = false → t.raised = s.raised ∧ t.stk = { s.stk with salvos := t.stk.salvos })
            ∧ (s.isMaster = true → done = true → EventNow 0x9001 sevInfo 0 t ∧ t.stk = { s.stk with salvos := t.stk.salvos })
            ∧ (s.isMaster = true → done = false → EventNow 0x9004 sevWarn 0 t ∧ ∀ a ∈ v.answers, a.ack ≤ 1 → told a.dev "COMP" (leNats 4 k) t ∧ own a.dev 0x28 (leNats 4 k) t))))
      ∧ (heard 0x21 → Completes .prepare s (fun t => t.part id = some { id := id, master := m.src, frame := byte4 m.pay 4 + 2 ^ 32 * byte2 m.pay 8, group := byteAt m.pay 10, count := byteAt m.pay 11 }
          ∧ t.reg R.stkSalvoLast = word id ∧ (∀ q ∈ s.stk.parts, q.id ≠ id → (q.phase ≠ .released ∨ ∃ x ∈ q.outs, s.untouched x = true) → q ∈ t.stk.parts)
          ∧ (∀ a, a ≠ R.stkSalvoLast → t.reg a = s.reg a) ∧ ({ t with stk := s.stk, regs := s.regs } : State) = s))
      ∧ (heard 0x22 →
        let x : SalvoOut := { out := byteAt m.pay 6, word := word (byte4 m.pay 7) }
        (∀ v, s.salvo id = some v → v.whole = false → m.src = v.issuer →
            let es := v.entries ++ [(byte2 m.pay 4, x.out, x.word)]
            ((byteAt m.pay 11).testBit 0 = false → Completes .entry s (noted { v with entries := es }))
              ∧ ((byteAt m.pay 11).testBit 0 = true →
                let w : Salvo := { v with entries := es, whole := true, answers := ((es.map (fun e => e.1)).eraseDups).map (fun d => { dev := d }) }
                Completes .entry s (fun t => noted w t ∧ mirrorSalvo w 1 t ∧ t.raised = s.raised
                  ∧ ∀ e ∈ es, told e.1 "PREPARE" (leNats 4 id ++ leNats 6 v.frame ++ [v.group, (es.filter (fun f => decide (f.1 = e.1))).length]) t
                    ∧ own e.1 0x21 (leNats 4 id ++ leNats 6 v.frame ++ [v.group, (es.filter (fun f => decide (f.1 = e.1))).length]) t
                    ∧ ∃ last, told e.1 "ENTRY" (leNats 4 id ++ leNats 2 e.1 ++ [e.2.1] ++ leNats 4 e.2.2.toNat ++ [last]) t
                      ∧ own e.1 0x22 (leNats 4 id ++ leNats 2 e.1 ++ [e.2.1] ++ leNats 4 e.2.2.toNat ++ [last]) t)))
          ∧ ((∀ v, s.salvo id = some v → v.whole = true ∨ m.src ≠ v.issuer) → (∀ p, s.part id = some p → p.phase ≠ .gathering ∨ p.master ≠ m.src) → Completes .entry s (fun t => t = s0))
          ∧ (∀ p, (∀ v, s.salvo id = some v → v.whole = true ∨ m.src ≠ v.issuer) → s.part id = some p → p.phase = .gathering → p.master = m.src →
            let q := { p with outs := p.outs ++ [x] }
            (q.outs.length < p.count → Completes .entry s (fun t => isPart q t ∧ ({ t with stk := s.stk } : State) = s))
              ∧ (∀ st n, p.count ≤ q.outs.length → State.entryChecks q q.outs [] s0 = .error (st, n) → Completes .entry s (fun t => t.part id = none ∧ (∀ k, k ≠ id → t.part k = s.part k)
                ∧ t.reg R.stkSalvoLastResult = word (st * 256) ∧ told m.src "REFUSE" (leNats 4 id ++ [st, n]) t ∧ own m.src 0x24 (leNats 4 id ++ [st, n]) t ∧ t.outs = s.outs ∧ t.units = s.units ∧ t.mem = s.mem))
              ∧ (∀ t1 outs, p.count ≤ q.outs.length → State.entryChecks q q.outs [] s0 = .ok (t1, outs) → Completes .entry s (fun t =>
                t = (t1.setPart { q with phase := .preparing, outs := outs }).settlePart { q with phase := .preparing, outs := outs }))))
      ∧ (∀ k p, s.part k = some p →
        let ready := p.phase = .preparing ∧ ∀ x ∈ p.outs, ∃ q, x.take = some q ∧ (q.src.kind = 2 → s.landingReady q.src.dev q.src.idx = true)
        (¬ ready → s.settlePart p = s)
          ∧ (ready → let t := s.settlePart p
            let q := { p with phase := .ready, outs := p.outs.map (fun x => { x with take := x.take.map (fun y => { y with remote := false }), pre := (s.out x.out).cur }) }
            isPart q t ∧ (∀ x ∈ p.outs, t.out x.out = { s.out x.out with salvo := some p.id }) ∧ (∀ n, (∀ x ∈ p.outs, x.out ≠ n) → t.out n = s.out n)
              ∧ told p.master "READY" (leNats 4 p.id) t ∧ own p.master 0x23 (leNats 4 p.id) t ∧ t.ctrOf R.stkSalvoCnt = satAdd ctrMax (s.ctrOf R.stkSalvoCnt) 1
              ∧ mirrorPart { p with outs := q.outs } 1 t ∧ ({ t with stk := s.stk, outs := s.outs, sent := s.sent, ctr := s.ctr, twin := s.twin } : State) = s))
      ∧ (heard 0x25 → Completes .salvoCommitMsg s (fun t => engines stOk (word (byte4 m.pay 4)) t ∧ t.mem = s.mem ∧ t.outs = s.outs ∧ t.regs = s.regs ∧ t.raised = s.raised
          ∧ (∀ p, s.part id = some p → p.split = true ∨ p.phase = .ready ∧ s.latchPassed p = true → t.stk.parts = s.stk.parts ∧ t.ctrOf R.stkSalvoSplitCnt = satAdd ctrMax (s.ctrOf R.stkSalvoSplitCnt) 1)
          ∧ (∀ p, s.part id = some p → p.split = false → p.phase = .ready → s.latchPassed p = false → isPart { p with phase := .committed } t ∧ mirrorPart p 2 t ∧ t.ctr = s.ctr)
          ∧ ((∀ p, s.part id = some p → p.split = false ∧ p.phase ≠ .ready) → t.stk = s0.stk ∧ t.ctr = s.ctr ∧ t.sent = s.sent)))
      ∧ (heard 0x26 → Completes .salvoAbortMsg s (fun t => engines stAborted 0 t ∧ t.mem = s.mem
          ∧ (∀ e w, e < 4 → (s.ce e).salvo = some w → w.id = id → m.src ≠ s.devId → EventNow 0x9002 sevNotice 0 t)
          ∧ (s.part id = none → t.ctrOf R.stkSalvoAbortCnt = satAdd ctrMax (s.ctrOf R.stkSalvoAbortCnt) 1 ∧ t.stk = s0.stk ∧ t.outs = s.outs ∧ t.regs = s.regs)
          ∧ (∀ p, s.part id = some p → p.split = true ∨ p.phase = .committed ∨ p.phase = .taken ∨ p.phase = .released → t.stk = s0.stk ∧ t.ctr = s.ctr ∧ t.outs = s.outs ∧ t.regs = s.regs)
          ∧ (∀ p, s.part id = some p → p.split = false → p.phase = .gathering ∨ p.phase = .preparing ∨ p.phase = .ready → t.part id = none ∧ (∀ k, k ≠ id → t.part k = s.part k) ∧ mirrorPart p 0 t
            ∧ (∀ x ∈ p.outs, t.out x.out = if (s.out x.out).salvo = some id then { s.out x.out with salvo := none } else s.out x.out) ∧ (∀ n, (∀ x ∈ p.outs, x.out ≠ n) → t.out n = s.out n)
            ∧ t.reg R.stkSalvoLastResult = word (stAborted * 256 + 2) ∧ t.ctrOf R.stkSalvoAbortCnt = satAdd ctrMax (s.ctrOf R.stkSalvoAbortCnt) 1)))
      ∧ (∀ k p, s.part k = some p →
        let split := p.phase = .ready ∧ p.split = false ∧ s.latchPassed p = true ∧ s.isStandby = false
        let due := p.phase = .committed ∧ (s.group p.group).running = true ∧ p.frame ≤ (s.group p.group).frame
        (¬ split → Completes (.salvoSplit k) s (fun t => t = s))
          ∧ (split → Completes (.salvoSplit k) s (fun t => isPart { p with split := true, acked := true } t
            ∧ EventNow 0x9003 sevError 0 t ∧ t.ctrOf R.stkSalvoSplitCnt = satAdd ctrMax (s.ctrOf R.stkSalvoSplitCnt) 1
            ∧ t.reg R.stkSalvoLastResult = word (stAborted * 256 + 3) ∧ acked p 1 p.outs.length t ∧ own p.master 0x27 (leNats 4 k ++ [1, p.outs.length]) t
            ∧ ({ t with stk := s.stk, regs := s.regs, raised := s.raised, sent := s.sent, ctr := s.ctr } : State) = s))
          ∧ (¬ due → Completes (.salvoTakeCommit k) s (fun t => t = s))
          ∧ (due → Completes (.salvoTakeCommit k) s (fun t => isPart { p with phase := .taken } t ∧ t.reg R.stkSalvoLastResult = word (stOk * 256 + 1)
              ∧ (∀ x ∈ p.outs, s.isStandby = false → x.faulted = false → ∀ q, x.take = some q → (∀ y ∈ p.outs, y.out = x.out → y = x) →
                t.out x.out = { s.out x.out with pend := some { q with salvo := some k, commitT := s.ttime, frames := 0, late := false } })
              ∧ (∀ n, (s.isStandby = true ∨ ∀ x ∈ p.outs, x.out = n → x.faulted = true ∨ x.take = none) → t.out n = s.out n)
              ∧ t.ttime = s.ttime ∧ t.units = s.units ∧ t.mem = s.mem)))
      ∧ (heard 0x28 → ((∀ p, s.part id = some p → p.split = true ∨ p.comp = true ∨ p.phase = .gathering ∨ p.phase = .preparing ∨ p.phase = .ready) → Completes .comp s (fun t => t = s0))
        ∧ ∀ p, s.part id = some p → p.split = false → p.comp = false → p.phase = .committed ∨ p.phase = .taken ∨ p.phase = .released →
        let late := decide (p.frame + 1 < (s.group p.group).frame) || (decide ((s.group p.group).frame = p.frame + 1) && p.outs.any (fun x => (s.out x.out).swSeen))
        Completes .comp s (fun t => isPart { p with comp := true } t
          ∧ (late = true → EventNow 0x9005 sevError 0 t) ∧ (late = false → t.raised = s.raised) ∧ t.ctrOf R.stkSalvoCompLateCnt = satAdd ctrMax (s.ctrOf R.stkSalvoCompLateCnt) late.toNat
          ∧ ({ t with stk := s.stk, ctr := s.ctr, raised := s.raised } : State) = s))
      ∧ (∀ n, (∀ k, s.outPresent n = true → (s.out n).scanning = true → Completes (.switchingLine n k) s (fun t =>
            let t1 := s.switchingLine n k
            let mine (u : State) : List Part := u.stk.parts.filter (fun p => p.outs.any (fun x => decide (x.out = n)))
            let t2 := (mine t1).foldl (fun u p => u.compensate p n) t1
            t = (mine t2).foldl (fun u p => u.endHold p n) t2))
        ∧ (s.outPresent n = true → (s.out n).scanning = true → Completes (.latchLine n) s (fun t => t = (s.latchLine n).ackCommits n))
        ∧ (∀ p, s.stk.parts = [p] →
          let ack := p.phase = .committed ∧ p.acked = false ∧ s.isStandby = false ∧ (∃ x ∈ p.outs, x.out = n) ∧ p.frame ≤ (s.group p.group).frame + 1
          (¬ ack → s.ackCommits n = s) ∧ (ack → let t := s.ackCommits n
            isPart { p with acked := true } t ∧ acked p 0 p.outs.length t ∧ ({ t with stk := s.stk, sent := s.sent, ctr := s.ctr } : State) = s))
        ∧ (∀ k p x, s.part k = some p → p.outs.find? (fun y => decide (y.out = n)) = some x →
          let undoes := p.comp = true ∧ x.undone = false ∧ x.faulted = false ∧ s.untouched x = true ∧ (x.pre.kind = 2 → s.landingOf x.pre.dev x.pre.idx ≠ none) ∧ (p.phase = .taken ∨ p.phase = .released)
          (¬ undoes → s.compensate p n = s)
          ∧ (undoes → let t := s.compensate p n
            (t.out n).pend = some { src := x.pre, commitT := s.ttime, salvo := some p.id, swLeft := 1 } ∧ (∀ j, j ≠ n → t.out j = s.out j)
              ∧ isPart { p with outs := p.outs.map (fun y => if y.out = n then { y with undone := true } else y) } t
              ∧ t.ctrOf R.stkSalvoCompCnt = satAdd ctrMax (s.ctrOf R.stkSalvoCompCnt) 1 ∧ t.reg R.stkSalvoLastResult = word (stOk * 256 + 4)))
        ∧ (∀ k p, s.part k = some p →
          let holds (j : Nat) : Prop := (s.out j).salvo = some p.id
          let ends := holds n ∧ p.frame + 2 ≤ (s.group p.group).frame
          let last := ∀ x ∈ p.outs, x.out ≠ n → ¬ holds x.out
          (¬ ends → s.endHold p n = s)
          ∧ (ends → let t := s.endHold p n
            t.out n = { s.out n with salvo := none } ∧ (∀ j, j ≠ n → t.out j = s.out j) ∧ (¬ last → t.stk = s.stk ∧ t.raised = s.raised)
              ∧ (last → mirrorPart p 0 t ∧ (p.orphan = true → s.isStandby = false → EventNow 0x9006 sevError 0 t) ∧ ((p.orphan = false ∨ s.isStandby = true) → t.raised = s.raised)
                ∧ (∀ k, k ≠ p.id → t.part k = s.part k) ∧ (p.split = true → t.part p.id = none) ∧ (p.split = false → t.part p.id = some { p with phase := .released })))))
      ∧ (∀ e, let due := ∃ w, (s.ce e).salvo = some w ∧ (s.group w.group).running = true ∧ w.target ≤ (s.group w.group).frame + 1
        (¬ due → Completes (.salvoTimeout e) s (fun t => t = s))
        ∧ (due → Completes (.salvoTimeout e) s (fun t => resumed e stTimeout 0 t ∧ (∀ f, f ≠ e → t.ce f = s.ce f) ∧ (∀ u, u ≠ 128 + e → t.unit u = s.unit u)
          ∧ ({ t with ces := s.ces, units := s.units, freeCtr := s.freeCtr } : State) = s)))

/-! Twins. -/

/-- R292 to R295, R298, R302, R303. DENIED for a command outside its phase and the statuses of a failed attach are the model's choice (log 27). -/
def Obligations.TwinPairing : Prop :=
  (∀ (m : Nat) (v : Word) (s : State), m < 12 → s.twinHere = true →
    let old := s.reg R.twinCtrl
    let x := s.twin
    (s.writeGate m R.twinCtrl = .pass →
        (bit old 31 = true → bits v 25 8 ≠ bits old 25 8 → Completes (.twinEnable m v) s (WriteRejected m R.twinCtrl s))
          ∧ (bit old 31 = false → bit v 31 = true → Completes (.twinEnable m v) s (fun t => t.twin = { x with phase := .solo, standby := false }
            ∧ t.reg R.twinCtrl = maskWrite old v 0xA3FFFF00 ∧ bit (t.lkCtrl twinLink) 31 = true ∧ bit (t.lkCtrl twinLink) 30 = true ∧ bits (t.lkCtrl twinLink) 25 24 = bits v 25 24
            ∧ t.mem = s.mem ∧ t.units = s.units))
          ∧ (bit old 31 = true → bit v 31 = false → bits v 25 8 = bits old 25 8 → Completes (.twinEnable m v) s (fun t => t.twin.phase = .disabled
            ∧ t.reg R.twinCtrl = maskWrite old v 0xA3FFFF00 ∧ t.twin.standby = false ∧ t.twin.switchAt = none ∧ t.twin.planned = none ∧ bit (t.lkCtrl twinLink) 31 = false ∧ t.link twinLink = Link.reset
            ∧ t.mem = s.mem ∧ t.units = s.units))
          ∧ (bit old 31 = bit v 31 → (bit old 31 = true → bits v 25 8 = bits old 25 8) → Completes (.twinEnable m v) s (fun t => t.reg R.twinCtrl = maskWrite old v 0xA3FFFF00
            ∧ t.twin.phase = x.phase ∧ t.twin.standby = x.standby ∧ (∀ a, a ≠ R.twinCtrl → t.reg a = s.reg a) ∧ ({ t with regs := s.regs, twin := s.twin, sent := s.sent, xbar := s.xbar } : State) = s)))
      ∧ (s.writeGate m R.twinCmd = .pass →
        let frame (t : State) : Prop := ({ t with regs := s.regs, twin := s.twin, sent := s.sent, raised := s.raised, xbar := s.xbar } : State) = s
        let denied (t : State) : Prop := t.twin = x ∧ t.reg R.twinCmdResult = word stDenied ∧ t.sent = s.sent ∧ t.raised = s.raised ∧ frame t
        (x.phase = .solo → x.peerPresent = true → s.twinLinkUp = true → x.peerSolo = true → x.peerIdle = true → Completes (.attach m) s (fun t =>
            t.twin = { x with phase := .auth, source := true, standby := false, phaseT := s.ttime } ∧ t.sent = s.sent ++ [{ kind := "TWIN_AUTH", via := twinLink }] ∧ t.regs = s.regs ∧ frame t))
          ∧ (x.phase ≠ .solo ∨ x.peerPresent = false ∨ s.twinLinkUp = false ∨ x.peerSolo = false ∨ x.peerIdle = false → Completes (.attach m) s denied)
          ∧ (x.phase = .paired → Completes (.detach m) s (fun t => t.twin.phase = .solo ∧ t.twin.standby = x.standby ∧ t.twin.planned = none ∧ t.twin.switchAt = none ∧ t.reg R.twinCmdResult = word stOk
            ∧ EventNow 0xA004 sevNotice 0 t ∧ frame t))
          ∧ (x.phase ≠ .paired → Completes (.detach m) s denied)
          ∧ (x.phase = .paired → x.planned = none → Completes (.switch m) s (fun t => t.twin = { x with planned := some (s.ticksOn 8), trigger := 3 } ∧ t.regs = s.regs ∧ frame t))
          ∧ (x.phase ≠ .paired ∨ x.planned.isSome = true → Completes (.switch m) s denied)))
  ∧ (∀ (m : Nat) (v : Word) (s : State), s.twinHere = false → Completes (.twinEnable m v) s (fun t => t = s)
      ∧ (m < 12 → s.writeGate m R.twinCmd = .pass → ∀ c, c = .attach m ∨ c = .detach m ∨ c = .switch m → Completes c s (fun t => t.reg R.twinCmdResult = word stAbsent ∧ t.twin = s.twin ∧ t.sent = s.sent)))
  ∧ ∀ (s : State),
    let x := s.twin
    let failed (cause : Nat) (t : State) : Prop := t.twin.phase = .solo ∧ t.twin.standby = false ∧ t.twin.cause = cause ∧ t.twin.recopy = false ∧ EventNow 0xA002 sevWarn 0 t
      ∧ t.reg R.twinCmdResult = word (cause * 256 + if cause = 3 ∨ cause = 6 then stDenied else if cause = 7 then stTimeout else stCheckFail)
      ∧ (x.standby = true → t.flows = [] ∧ t.outs = [] ∧ t.groups = [] ∧ t.tiles = [] ∧ t.audio = {} ∧ t.mem = { s.mem with prog := [] })
      ∧ (x.standby = false → t.flows = s.flows ∧ t.outs = s.outs ∧ t.audio = s.audio ∧ t.mem = s.mem)
    (∀ p,
        let asked := x.phase = .auth ∨ (x.phase = .solo ∧ s.twinLinkUp = true ∧ s.noWork = true)
        let auth : OutMsg := { kind := "TWIN_AUTH", via := twinLink, args := (p.ownNonce ++ Config.ed25519Sign Config.identityKey (Config.sha512 (p.peerNonce ++ p.ownNonce ++ Config.sha512 s.certBytes))).map BitVec.toNat ++ [(s.slot (s.regBits R.twinCtrl 15 8)).kcv] }
        (¬ asked → Completes (.twinAuthPass p) s (fun t => t = s))
        ∧ (asked → Completes (.twinAuthPass p) s (fun t => (s.authCause p ≠ 0 → failed (s.authCause p) t ∧ t.ttime = s.ttime ∧ t.sent = s.sent ++ [auth])
            ∧ (s.authCause p = 0 → t.twin = { x with phase := .copy, standby := !x.source, phaseT := s.ttime, certSerial := leOf s.certBytes 12 4 } ∧ t.ttime = s.ttime
            ∧ (x.source = false → t.sent = s.sent ++ [auth] ∧ (∀ u, u < 128 → (t.unit u).run = .idle ∧ (t.unit u).wait = none ∧ (t.unit u).swapArmed = false)
              ∧ (∀ u, u ≥ 128 → t.unit u = s.unit u) ∧ ∀ n, n < 8 * s.nSlices → t.out n = { s.out n with muted := !bit (s.reg R.twinCtrl) 29 })
            ∧ (x.source = true → t.units = s.units ∧ t.outs = s.outs ∧ ∃ copy, t.sent = s.sent ++ auth :: copy
              ∧ (∀ q ∈ s.regs, mirroredReg q.1 = true → { kind := "REG", via := 7, args := [q.1, q.2.toNat] } ∈ copy)
              ∧ (∀ c ∈ s.mem.prog, { kind := "PROG", via := 7, args := [c.1, c.2.toNat] } ∈ copy)
              ∧ (∀ q ∈ s.flows, q.2.usable = true → ∃ e ∈ copy, e.kind = "COPY_FLOW" ∧ e.args.head? = some q.1)
              ∧ (∀ n, n ∈ s.outs.map Prod.fst → { kind := "TAKE", via := 7, args := (s.out n).frame :: n :: (s.out n).cur.args } ∈ copy ∧ ∃ e ∈ copy, e.kind = "FMT" ∧ e.args.take 2 = [(s.out n).frame, n])
              ∧ (∀ g, g < 16 → s.groupEnabled g = true → { kind := "TGRP", via := 7, args := [g, (s.group g).epoch.toNat, (s.group g).frame] } ∈ copy)
              ∧ (∀ i, i < 256 → bit (s.slot i).attr 28 = true → ∃ e ∈ copy, e.kind = "WOAD" ∧ e.args.head? = some i)
              ∧ { kind := "REF", via := 7, args := [s.madder.sel] } ∈ copy)))))
      ∧ (x.phase = .copy → Completes .twinCopyDone s (fun t => t = { s with twin := { x with phase := .sync, phaseT := s.ttime } }))
      ∧ (x.phase ≠ .copy → x.recopy = true → Completes .twinCopyDone s (fun t =>
          t = (x.copied.foldl (fun u q => u.mirrorApply q.1 q.2) (s.discardMirror true)).modTwin (fun y => { y with recopy := false, copied := [] })))
      ∧ (let d := s.discardMirror true
        d.flows = [] ∧ d.tiles = [] ∧ d.audio = {} ∧ d.groups = s.groups ∧ d.mem = { s.mem with prog := [] } ∧ d.units = s.units ∧ d.twin = s.twin
          ∧ ∀ n, (d.out n).pend = none ∧ (d.out n).convPend = none ∧ (d.out n).timPend = none ∧ (d.out n).cur = Source.black ∧ (d.out n).scanning = (s.out n).scanning ∧ (d.out n).group = (s.out n).group)
      ∧ (x.phase ≠ .copy → x.recopy = false → Completes .twinCopyDone s (fun t => t = s))
      ∧ (x.phase = .sync → x.mirrorQ = 0 → Completes .twinPaired s (fun t => t.twin = { x with phase := .paired } ∧ EventNow 0xA001 sevInfo 0 t
          ∧ (x.source = true → t.reg R.twinCmdResult = word stOk) ∧ (x.source = false → t.regs = s.regs) ∧ ({ t with twin := s.twin, regs := s.regs, raised := s.raised } : State) = s))
      ∧ (x.phase ≠ .sync ∨ x.mirrorQ ≠ 0 → Completes .twinPaired s (fun t => t = s))
      ∧ (∀ cause, let due := (x.phase = .auth ∨ x.phase = .copy ∨ x.phase = .sync) ∧ 1 ≤ cause ∧ cause ≤ 7
          (due → Completes (.twinAttachFail cause) s (fun t => failed cause t
            ∧ t.ttime = (if cause = 7 then max s.ttime (ticksAfter x.phaseT (if x.phase = .auth then 16 else 1600)) else s.ttime)))
          ∧ (¬ due → Completes (.twinAttachFail cause) s (fun t => t = s)))

/-- R10, R296 to R302, R369. The numbers of the triggers are the model's choice (log 27). -/
def Obligations.TwinSwitchover : Prop :=
  ∀ (s : State),
    let x := s.twin
    let only (t : State) : Prop := ({ t with twin := s.twin } : State) = s
    let stamped (t : State) : Prop := t.reg R.twinSwitchTtimeLo = lo32 t.ttime ∧ t.reg (R.twinSwitchTtimeLo + 4) = hi32 t.ttime ∧ t.ctrOf R.twinSwitchCnt = satAdd ctrMax (s.ctrOf R.twinSwitchCnt) 1
    let follows (t : State) : Prop := t.twin.roleDue = s.allOuts.filter (fun n => (s.out n).scanning)
    let demoted (epoch : Nat) (t : State) : Prop := t.twin.phase = .paired ∧ t.twin.standby = true ∧ t.twin.epoch = epoch ∧ t.twin.recopy = true ∧ t.twin.copied = [] ∧ t.twin.planned = none ∧ t.twin.switchAt = none
      ∧ EventNow 0xA008 sevNotice 0 t ∧ (∀ u, u < 128 → (t.unit u).run = .idle ∧ (t.unit u).wait = none) ∧ (∀ e, e < 4 → (t.ce e).exec = none ∧ (t.ce e).grp = none)
      ∧ (∀ n, (t.out n).pend = none ∧ (t.out n).convPend = none ∧ (t.out n).timPend = none) ∧ stamped t ∧ follows t
      ∧ (∀ n, n ∈ s.allOuts → (s.out n).scanning = false → (t.out n).muted = !bit (s.reg R.twinCtrl) 29)
    let promoted (t : State) : Prop := t.twin.standby = false ∧ t.twin.epoch = (x.epoch + 1) % 65536 ∧ t.twin.recopy = false ∧ t.twin.planned = none ∧ t.twin.switchAt = none ∧ EventNow 0xA003 sevWarn 0 t
      ∧ stamped t ∧ follows t ∧ t.mem = s.mem ∧ t.stk.master = lowest t.candidates ∧ (∀ n, n ∈ s.allOuts → (s.out n).scanning = false → (t.out n).muted = false)
    (∀ h, (x.phase = .disabled → Completes (.heartbeatRx h) s (fun t => t = s)) ∧ (x.phase ≠ .disabled →
        let got := { x with lastHb := some s.ttime, lossNoted := false, peerSolo := h.solo, peerIdle := h.idle, peerForce := h.force }
        let plans := h.plan ≠ 0 ∧ x.planned = none ∧ x.switchAt = none
        let noted := if plans then { got with planned := some (s.ticksOn 8), trigger := h.plan } else got
        (x.phase ≠ .paired → Completes (.heartbeatRx h) s (fun t => t.twin = got ∧ only t))
          ∧ (x.phase = .paired → x.standby = false → h.epoch ≤ x.epoch → Completes (.heartbeatRx h) s (fun t => t.twin = noted ∧ only t))
          ∧ (x.phase = .paired → x.standby = false → x.epoch < h.epoch → Completes (.heartbeatRx h) s (fun t => demoted h.epoch t ∧ t.ttime = s.ttime))
          ∧ (x.phase = .paired → x.standby = true → Completes (.heartbeatRx h) s (fun t => only t
            ∧ t.twin = (if h.fatal = true ∧ x.switchAt = none then { noted with epoch := max x.epoch h.epoch, switchAt := some s.ttime, trigger := 1 } else { noted with epoch := max x.epoch h.epoch })))))
      ∧ (∀ t0, x.lastHb = some t0 → x.phase = .paired → x.lossNoted = false → Completes .twinHbLost s (fun t => t.ttime = max s.ttime (ticksAfter t0 3)
          ∧ EventNow 0xA006 sevWarn 0 t ∧ t.ctrOf R.twinHbMissCnt = satAdd ctrMax (s.ctrOf R.twinHbMissCnt) 1
          ∧ (s.twinLinkUp = false → x.peerPresent = true → EventNow 0xA005 sevWarn 0 t)
          ∧ t.twin = (if x.standby = true ∧ (s.twinLinkUp = true ∨ x.peerPresent = false) then { x with lossNoted := true, switchAt := some t.ttime, trigger := 2 }
              else { x with lossNoted := true }) ∧ ({ t with ctr := s.ctr, raised := s.raised, twin := s.twin } : State) = s.movedTo t.ttime))
      ∧ (x.lastHb = none ∨ x.phase ≠ .paired ∨ x.lossNoted = true → Completes .twinHbLost s (fun t => t = s))
      ∧ (∀ t0, x.downSince = some t0 → x.phase = .paired → s.twinLinkUp = false → Completes .twinLinkDownTimeout s (fun t => t.ttime = max s.ttime (ticksAfter t0 16)
          ∧ t.twin.phase = .solo ∧ t.twin.standby = x.standby ∧ EventNow 0xA004 sevNotice 0 t ∧ ({ t with raised := s.raised, twin := s.twin } : State) = s.movedTo t.ttime))
      ∧ (x.downSince = none ∨ x.phase ≠ .paired ∨ s.twinLinkUp = true → Completes .twinLinkDownTimeout s (fun t => t = s))
      ∧ (∀ present held, (s.filtered 3 held = false → Completes (.twinPresentChange present held) s (fun t => t = s))
        ∧ (s.filtered 3 held = true → present = true ∨ x.phase ≠ .paired → Completes (.twinPresentChange present held) s (fun t => t.twin = { x with peerPresent := present } ∧ only t))
        ∧ (s.filtered 3 held = true → present = false → x.phase = .paired → Completes (.twinPresentChange present held) s (fun t => t.twin.phase = .solo ∧ t.twin.standby = false ∧ t.twin.peerPresent = false
          ∧ EventNow 0xA004 sevNotice 0 t ∧ t.ttime = s.ttime ∧ t.mem = s.mem ∧ (x.standby = true → promoted t)
          ∧ (x.standby = false → ({ t with twin := s.twin, raised := s.raised } : State) = s))))
      ∧ (∀ level held, (s.filtered 3 held = false → Completes (.twinForce level held) s (fun t => t = s)) ∧ (s.filtered 3 held = true →
        let rise := level = true ∧ x.force = false
        let asks := rise ∧ x.phase = .paired ∧ x.peerForce = false ∧ x.standby = true ∧ x.planned = none
        (rise → x.phase = .paired → x.peerForce = true → Completes (.twinForce level held) s (fun t => t.twin = { x with force := true } ∧ EventNow 0xA009 sevWarn 0 t ∧ ({ t with twin := s.twin, raised := s.raised } : State) = s))
          ∧ (asks → Completes (.twinForce level held) s (fun t => t.twin = { x with force := true, planned := some (s.ticksOn 8), trigger := 4 } ∧ only t))
          ∧ (¬ asks → ¬ (rise ∧ x.phase = .paired ∧ x.peerForce = true) → Completes (.twinForce level held) s (fun t => t.twin = { x with force := level } ∧ only t))))
      ∧ (x.planned.isSome = true → x.phase = .paired → Completes .mirrorDrainDone s (fun t => only t
          ∧ t.twin = { x with planned := none, mirrorQ := 0, switchAt := some (alignUp tickLen (s.ttime + 1)) }))
      ∧ (x.planned = none ∨ x.phase ≠ .paired → Completes .mirrorDrainDone s (fun t => t = s))
      ∧ (∀ lim, x.planned = some lim → Completes .mirrorDrainTimeout s (fun t => t.ttime = max s.ttime lim ∧ t.twin = { x with planned := none }
          ∧ t.reg R.twinCmdResult = word stTimeout ∧ ({ t with regs := s.regs, twin := s.twin } : State) = s.movedTo t.ttime))
      ∧ (x.planned = none → Completes .mirrorDrainTimeout s (fun t => t = s))
      ∧ (∀ t0, x.switchAt = some t0 → x.phase = .paired → Completes .twinSwitchover s (fun t => t.ttime = max s.ttime t0
          ∧ (x.standby = true → t.twin.phase = .paired ∧ promoted t) ∧ (x.standby = false → demoted ((x.epoch + 1) % 65536) t)
          ∧ (x.trigger = 3 ∨ x.trigger = 4 → t.reg R.twinCmdResult = word stOk)))
      ∧ (x.switchAt = none ∨ x.phase ≠ .paired → Completes .twinSwitchover s (fun t => t = s))
      ∧ (∀ n, n ∈ x.roleDue → Completes (.twinOutputRoleChange n) s (fun t => t.twin = { x with roleDue := x.roleDue.filter (fun k => decide (k ≠ n)) } ∧ OutOnly n s t
          ∧ (x.standby = true → t.out n = { s.out n with muted := !bit (s.reg R.twinCtrl) 29 } ∧ t.units = s.units)
          ∧ (x.standby = false → t.out n = { s.out n with muted := false } ∧ (s.unitPresent (64 + n) = true → (t.unit (64 + n)).run = .run ∧ (t.unit (64 + n)).pc = 0) ∧ ∀ u, u ≠ 64 + n → t.unit u = s.unit u)
          ∧ ({ t with twin := s.twin, outs := s.outs, units := s.units } : State) = s))
      ∧ (∀ n, n ∉ x.roleDue → Completes (.twinOutputRoleChange n) s (fun t => t = s))
      ∧ (let gathers := x.standby = true ∧ (x.phase = .copy ∨ x.phase = .sync ∨ x.phase = .paired)
        (∀ frame op, (¬ gathers → Completes (.mirrorUpdate frame op) s (fun t => t = s)) ∧ (gathers → x.recopy = true → Completes (.mirrorUpdate frame op) s (fun t => t.twin = { x with copied := x.copied ++ [(frame, op)] } ∧ only t)))
        ∧ (gathers → x.recopy = false →
        let late (n frame : Nat) : Prop := (s.out n).scanning = true ∧ x.phase ≠ .copy ∧ s.linesTo n frame = none
        let missed (n frame : Nat) : Prop := (s.out n).scanning = true ∧ x.phase ≠ .copy ∧ frame + (if (s.out n).latchSeen then 0 else 1) ≤ (s.out n).frame + 1
        let lines (n frame : Nat) : Nat := if (s.out n).scanning then (s.linesTo n frame).getD 1 else if x.phase = .copy then 1 else 2
        let told (c : Prop) (n : Nat) (t : State) : Prop := (c → EventNow 0xA007 sevNotice n t ∧ t.ctrOf R.twinMirrorLateCnt = satAdd ctrMax (s.ctrOf R.twinMirrorLateCnt) 1)
          ∧ (¬ c → t.ctrOf R.twinMirrorLateCnt = s.ctrOf R.twinMirrorLateCnt) ∧ t.mem = s.mem ∧ t.ttime = s.ttime
        (∀ frame n kind path dev idx w fin, n < 64 → Completes (.mirrorUpdate frame (.take n kind path dev idx w fin)) s (fun t => OutOnly n s t ∧ told (late n frame) n t
            ∧ ∃ p, (t.out n).pend = some p ∧ p.src = { kind := kind, path := path, dev := dev, idx := idx, w := w, fin := fin } ∧ p.swLeft = lines n frame))
          ∧ (∀ frame n, n < 64 → Completes (.mirrorUpdate frame (.fmt n)) s (fun t => told (late n frame) n t ∧ ∃ p, (t.out n).convPend = some p ∧ p.set = s.stagedConv n ∧ p.swLeft = lines n frame))
          ∧ (∀ frame n, n < 64 → (s.out n).scanning = true → Completes (.mirrorUpdate frame (.tset n)) s (fun t => OutOnly n s t ∧ told (missed n frame) n t ∧ ∃ p, (t.out n).timPend = some p ∧ p.set = s.stagedTim n ∧ p.due = some frame))
          ∧ (∀ frame n, n < 64 → (s.out n).scanning = false → Completes (.mirrorUpdate frame (.tset n)) s (fun t => OutOnly n s t ∧ told False n t ∧ t.out n = (s.out n).captureTim { set := s.stagedTim n, due := some frame, commitT := s.ttime }))
          ∧ (∀ frame n p base, n < 64 → p < 2 → Completes (.mirrorUpdate frame (.flip n p base)) s (fun t => OutOnly n s t ∧ told (missed n frame) n t ∧ ∃ q, ((t.out n).plane p).pend = some q ∧ q.set = s.stagedPlane n p base ∧ q.due = some frame))
          ∧ (∀ frame n mask, n < 64 → Completes (.mirrorUpdate frame (.anc n mask)) s (fun t => OutOnly n s t ∧ told (missed n frame) n t ∧ ∃ q, (t.out n).ancPend = some q ∧ q.set = s.stagedAnc n mask ∧ q.due = some frame))
          ∧ (∀ frame oc count kind src ref, ref = 0xFE ∨ (s.out ref).scanning = false → Completes (.mirrorUpdate frame (.amap oc count kind src ref)) s (fun t => t = s.commitAmap { oc := oc, count := count, kind := kind, src := src, ref := ref }))
          ∧ (∀ frame oc count kind src ref, ref ≠ 0xFE → (s.out ref).scanning = true → Completes (.mirrorUpdate frame (.amap oc count kind src ref)) s (fun t => told (late ref frame) ref t
            ∧ ∀ i, i < count → ∃ q, (t.oc (oc + i)).pend = some q ∧ q.src = mapCode kind src i ∧ q.ref = ref ∧ q.swLeft = lines ref frame))
          ∧ (∀ frame oc count xf, Completes (.mirrorUpdate frame (.axf oc count xf)) s (fun t => t = s.commitAxf oc count xf))
          ∧ (∀ frame f ws, Completes (.mirrorUpdate frame (.bind f ws)) s (fun t => (∀ g t1, s.bindRows ws = .ok (g, t1) → t = t1) ∧ (∀ st, s.bindRows ws = .error st → t = s)))
          ∧ (∀ frame f, Completes (.mirrorUpdate frame (.release f)) s (fun t => (∀ t1, s.release f = .ok t1 → t = t1) ∧ (∀ st, s.release f = .error st → t = s)))
          ∧ (∀ frame f w0 w1 w2, (s.flow f).usable = true → Completes (.mirrorUpdate frame (.flowFmt f w0 w1 w2)) s (fun t => t.flow f = { s.flow f with fmtPend := some (w0, w1, w2) } ∧ (∀ g, g ≠ f → t.flow g = s.flow g) ∧ ({ t with flows := s.flows } : State) = s))
          ∧ (∀ frame n data, Completes (.mirrorUpdate frame (.lut n data)) s (fun t => OutOnly n s t ∧ (t.out n).lut = (if (s.out n).lut.active = 0 then { (s.out n).lut with result := stOk, swapLeft := some 2, valid1 := true, data1 := data } else { (s.out n).lut with result := stOk, swapLeft := some 2, valid0 := true, data0 := data }) ∧ ({ t with outs := s.outs } : State) = s))
          ∧ (∀ frame a v, Completes (.mirrorUpdate frame (.reg a v)) s (fun t => t = s.setReg a v))
          ∧ (∀ frame a bs, Completes (.mirrorUpdate frame (.prog a bs)) s (fun t => t = { s with mem := { s.mem with prog := Memory.writeBytes s.mem.prog a bs } }))
          ∧ (∀ frame k pay, Completes (.mirrorUpdate frame (.record k pay)) s (fun t => t = (s.postAlt k 0 pay).nvDrain))
          ∧ (∀ frame i attr kcv wrapped pub, 1 ≤ i → i < 256 → Completes (.mirrorUpdate frame (.key i attr kcv wrapped pub)) s (fun t =>
              (∀ key, wrapped ≠ [] → Config.aesUnwrap (s.slot (s.regBits R.twinCtrl 15 8)).key wrapped = some key → t.slot i = { attr := attr, kcv := kcv, key := key, pub := pub })
              ∧ (wrapped = [] → t.slot i = { attr := attr, kcv := kcv, key := [], pub := pub })
              ∧ (wrapped ≠ [] → Config.aesUnwrap (s.slot (s.regBits R.twinCtrl 15 8)).key wrapped = none → t = s)))
          ∧ (∀ frame i, 1 ≤ i → i < 256 → Completes (.mirrorUpdate frame (.keyErase i)) s (fun t => t.slot i = {}))
          ∧ (∀ frame g epoch k, Completes (.mirrorUpdate frame (.group g epoch k)) s (fun t => t.group g = { s.group g with fixed := true, waiting := none, epoch := epoch, fixT := s.ttime, free := false, running := false, frame := k }
            ∧ (∀ h, h ≠ g → t.group h = s.group h) ∧ ({ t with groups := s.groups } : State) = s))
          ∧ (∀ frame id master fr g outs p, s.part id = some p → Completes (.mirrorUpdate frame (.part id master fr g 2 outs)) s (fun t => t.part id = some { p with phase := .committed, acked := true } ∧ (∀ k, k ≠ id → t.part k = s.part k) ∧ ({ t with stk := s.stk } : State) = s))
          ∧ (∀ frame id master fr g outs p, s.part id = some p → Completes (.mirrorUpdate frame (.part id master fr g 0 outs)) s (fun t => t.part id = none ∧ (∀ k, k ≠ id → t.part k = s.part k) ∧ ∀ y ∈ p.outs, (t.out y.out).salvo ≠ some id))
          ∧ (∀ frame id master fr g outs, s.part id = none → Completes (.mirrorUpdate frame (.part id master fr g 1 outs)) s (fun t => (∃ p, t.part id = some p ∧ p.master = master ∧ p.frame = fr ∧ p.group = g ∧ p.phase = .ready
            ∧ p.outs.map (fun y => (y.out, y.word)) = outs) ∧ ∀ y ∈ outs, (t.out y.1).salvo = some id))
          ∧ (∀ frame id issuer fr g dl st acks, Completes (.mirrorUpdate frame (.salvo id issuer fr g dl st acks)) s (fun t => (∀ k, k ≠ id → t.salvo k = s.salvo k) ∧ ({ t with stk := s.stk } : State) = s
            ∧ t.salvo id = (if st = 0 then none else some { id := id, issuer := issuer, frame := fr, group := g, deadline := dl, whole := true, answers := acks.map (fun a => { dev := a.1, answer := 1, ack := a.2 }), decided := if st = 2 then some true else none })))
          ∧ (∀ frame c, Completes (.mirrorUpdate frame (.refSelect c)) s (fun t => t.twin = { x with refSel := some c } ∧ (s.qualified c = false → only t)))))
      ∧ (bit (s.reg R.twinCtrl) 31 = true → Completes .twinBootImageRequest s (fun t =>
          t = { s with sent := s.sent ++ [{ kind := "IMAGE", via := twinLink, args := s.boot.image.map BitVec.toNat }] }))
      ∧ (bit (s.reg R.twinCtrl) 31 = false → Completes .twinBootImageRequest s (fun t => t = s))

/-! Madder. -/

/-- R305 to R310, R317, R321, R326. -/
def Obligations.ReferenceCandidates : Prop :=
  (∀ (c : Nat) (s : State), c < 10 →
    let x := s.cand c
    let only (t : State) : Prop := ({ t with ctr := s.ctr, madder := s.madder, raised := s.raised, sent := s.sent, twin := s.twin } : State) = s.movedTo t.ttime
      ∧ (s.mirrors = false → t.sent = s.sent ∧ t.twin = s.twin)
    let wrote (t : State) : Prop := ({ t with ctr := s.ctr, lastRaise := s.lastRaise, madder := s.madder, raised := s.raised, regs := s.regs, sent := s.sent, twin := s.twin, xbar := s.xbar } : State) = s
    let others (t : State) : Prop := ∀ k, k ≠ c → t.cand k = s.cand k
    let left (k : Nat) (t : State) : Prop := s.madder.sel = k → s.madder.st ≠ mFault → s.madder.st ≠ mStopped →
      (s.madder.slope = none → t.madder.sel ≠ k) ∧ (∀ y, s.madder.slope = some y → t.madder.slope = some { y with lost := true, due := some noCand })
    (x.active = false → Completes (.candActivityLost c) s (fun t => t = s))
      ∧ (x.active = true → Completes (.candActivityLost c) s (fun t => (t.cand c).active = false ∧ (t.cand c).good = none ∧ (t.cand c).announce = none ∧ (t.cand c).pulse = none ∧ others t ∧ only t
        ∧ t.ctrOf (R.madderCandActLossCnt c) = satAdd ctrMax (s.ctrOf (R.madderCandActLossCnt c)) 1
        ∧ (s.candOn c = true → (t.cand c).st = cdFailed ∧ EventNow 0x2002 sevWarn c t ∧ left c t) ∧ (s.candOn c = false → (t.cand c).st = x.st ∧ t.madder.sel = s.madder.sel)
        ∧ (c = candLocal → t.madder.localOk = false ∧ (s.madder.st ≠ mStopped → t.madder.st = mFault ∧ (s.madder.st ≠ mFault → EventNow 0x2007 sevError candLocal t)))
        ∧ t.ttime = (if 4 ≤ c ∧ c < 8 ∧ s.ptpPortOk c = false then s.ttime else match x.runsOut with | some tm => max s.ttime tm | none => s.ttime)))
      ∧ (∀ r : RefSample, r.cand = c →
        let fits := (c < 2 → s.regBits (R.madderCandCfg c) 17 16 = 0 ∨ s.regBits (R.madderCandCfg c) 17 16 = r.fmt) ∧ (4 ≤ c → c < 8 → s.ptpPortOk c = true)
        (¬ fits → Completes (.candGoodSample r) s (fun t => t = s))
          ∧ (fits → Completes (.candGoodSample r) s (fun t => (t.cand c).active = true
          ∧ (t.cand c).freq = (if c = candLocal then 0 else r.freq) ∧ (t.cand c).phase = (if c = 8 ∧ s.stkSrc = 0 then s.stk.timeOfs * 256 else r.phase) ∧ (t.cand c).fmt = r.fmt ∧ (t.cand c).pulse = r.pulse ∧ others t ∧ only t
          ∧ (x.st = cdFailed → s.candOn c = true → c ≠ candLocal → (t.cand c).st = cdUnqualified ∧ (t.cand c).qtime = s.acceptT c)
          ∧ (x.st = cdFailed → s.candOn c = true → c = candLocal → (t.cand c).st = cdQualified ∧ EventNow 0x2003 sevInfo c t)
          ∧ (x.st ≠ cdFailed → (t.cand c).st = x.st))))
      ∧ (∀ p : PtpMsg,
        let mine := 4 ≤ c ∧ c < 8 ∧ s.candOn c = true ∧ s.ptpPortOk c = true ∧ p.domain = s.regBits (R.madderCandCfg c) 14 8 ∧ p.best = true
        let ofs := if p.ofs.isSome then p.ofs else x.ofs
        let ofsT := if p.ofs.isSome then s.ttime else x.ofsT
        (¬ mine ∨ 4 < p.kind ∨ ((p.kind = 1 ∨ p.kind = 2) ∧ (p.interval < -7 ∨ 0 < p.interval)) → Completes (.ptpMessage c p) s (fun t => t = s))
          ∧ (mine → p.kind = 0 → Completes (.ptpMessage c p) s (fun t => t.cand c = { x with announce := some (s.ttime, threeIntervals p.interval) } ∧ others t ∧ only t))
          ∧ (mine → p.kind = 1 ∨ p.kind = 2 → -7 ≤ p.interval → p.interval ≤ 0 → Completes (.ptpMessage c p) s (fun t => (t.cand c).active = true ∧ (t.cand c).good = some (s.ttime, threeIntervals p.interval)
            ∧ (t.cand c).ofs = ofs ∧ (t.cand c).ofsT = ofsT ∧ (x.st = cdFailed → (t.cand c).st = cdUnqualified) ∧ (x.st ≠ cdFailed → (t.cand c).st = x.st) ∧ others t ∧ only t))
          ∧ (mine → p.kind = 3 ∨ p.kind = 4 → Completes (.ptpMessage c p) s (fun t => t.cand c = { x with ofs := ofs, ofsT := ofsT } ∧ others t ∧ only t)))
      ∧ (let t := s.tickCand c
        let f := absI x.freq
        let apart := s.madder.sel < 9 ∧ c ≠ s.madder.sel ∧ (s.cand s.madder.sel).st = cdQualified ∧ s.candRank c = s.candRank s.madder.sel ∧ 10 * s.regBits R.madderPeer 9 0 < absI (x.freq - (s.cand s.madder.sel).freq)
        let runs := s.candOn c = true ∧ x.active = true ∧ s.madder.st ≠ mFault
        (¬ runs → t = s) ∧ others t ∧ ({ t with madder := s.madder } : State) = s
          ∧ (runs → x.st = cdUnqualified ∨ x.st = cdQualifying → t.cand c = if f ≤ s.acceptLim c then { x with st := cdQualifying, qtime := x.qtime - 1 } else { x with st := cdUnqualified, qtime := s.acceptT c })
          ∧ (runs → x.st = cdQualified → t.cand c = { x with rejRun := if s.rejectLim c < f then x.rejRun + 1 else 0, apartRun := if apart then x.apartRun + 1 else 0 }))
      ∧ (let due := c < 9 ∧ x.st = cdQualifying ∧ x.qtime = 0 ∧ s.madder.st ≠ mFault
        (¬ due → Completes (.refQualified c) s (fun t => t = s))
        ∧ (due → Completes (.refQualified c) s (fun t => (t.cand c).st = cdQualified ∧ others t ∧ only t ∧ t.ttime = s.ttime
          ∧ EventNow 0x2003 sevInfo c t ∧ (s.madder.sel = noCand → s.madder.st ≠ mStopped → t.qualified t.madder.sel = true))))
      ∧ (let due := c < 9 ∧ x.st = cdQualified ∧ s.rejectT c ≤ x.rejRun ∧ s.madder.st ≠ mFault
        (¬ due → Completes (.refLost c) s (fun t => t = s))
        ∧ (due → Completes (.refLost c) s (fun t => (t.cand c).st = cdUnqualified
          ∧ (t.cand c).qtime = s.acceptT c ∧ others t ∧ only t ∧ t.ttime = s.ttime ∧ EventNow 0x2002 sevWarn c t ∧ t.ctrOf (R.madderCandRejectCnt c) = satAdd ctrMax (s.ctrOf (R.madderCandRejectCnt c)) 1 ∧ left c t)))
      ∧ (let sel := s.madder.sel
        let due := c < 9 ∧ sel < 9 ∧ c ≠ sel ∧ x.st = cdQualified ∧ (s.cand sel).st = cdQualified ∧ s.candRank c = s.candRank sel ∧ s.rejectT c ≤ x.apartRun ∧ s.madder.disagree = none
        let d := if absI x.freq < absI (s.cand sel).freq then sel else c
        (¬ due → Completes (.refDisagree c) s (fun t => t = s))
        ∧ (due → s.madder.localOk = false ∨ s.madder.st = mFault → Completes (.refDisagree c) s (fun t => t.madder = { s.madder with disagree := some (sel, c, noCand), backRun := 0 } ∧ only t ∧ t.ttime = s.ttime
          ∧ EventNow 0x2004 sevWarn c t ∧ t.ctrOf R.madderDisagreeCnt = satAdd ctrMax (s.ctrOf R.madderDisagreeCnt) 1))
        ∧ (due → s.madder.localOk = true → s.madder.st ≠ mFault → Completes (.refDisagree c) s (fun t => t.madder.disagree = some (sel, c, d) ∧ (t.cand d).st = cdDemoted ∧ (∀ k, k ≠ d → t.cand k = s.cand k) ∧ only t
          ∧ t.ttime = s.ttime ∧ EventNow 0x2004 sevWarn c t ∧ EventNow 0x200E sevNotice d t ∧ t.ctrOf R.madderDisagreeCnt = satAdd ctrMax (s.ctrOf R.madderDisagreeCnt) 1
          ∧ t.ctrOf (R.madderCandDemoteCnt d) = satAdd ctrMax (s.ctrOf (R.madderCandDemoteCnt d)) 1 ∧ left d t)))
      ∧ (∀ m reg v, m < 12 → reg < 3 →
        let a := if reg = 0 then R.madderCandCfg c else if reg = 1 then R.madderCandLimits c else R.madderCandTimes c
        let mask := if reg = 0 then 0x8F3FFF00 else if reg = 1 then 0x03FF03FF else 0xFFFFFFFF
        s.writeGate m a = .pass →
          (candRegOk c reg v = false → Completes (.candCfgWrite m c reg v) s (WriteRejected m a s))
            ∧ (candRegOk c reg v = true → Completes (.candCfgWrite m c reg v) s (fun t => wrote t ∧ t.reg a = maskWrite (s.reg a) v mask ∧ (∀ r, r ≠ a → t.reg r = s.reg r) ∧ others t
                ∧ (s.madder.st = mStopped ∨ (s.candOn c = false ∧ t.candOn c = false) → t.madder = s.madder)
                ∧ (s.madder.st ≠ mStopped → s.candOn c = true → t.candOn c = false → (t.cand c).st = cdDisabled)
                ∧ (s.madder.st ≠ mStopped → t.candOn c = true → (t.cand c).st = (if x.active = false then cdFailed else if c = candLocal then cdQualified else cdUnqualified)
                  ∧ (x.active = true → c ≠ candLocal → (t.cand c).qtime = t.acceptT c))))))
  ∧ (∀ (s : State) (a c d : Nat), s.madder.disagree = some (a, c, d) →
      let k := if d = noCand then c else d
      (s.madder.backRun < s.acceptT k → Completes .disagreeClear s (fun t => t = s))
      ∧ (s.acceptT k ≤ s.madder.backRun → Completes .disagreeClear s (fun t => t.madder.disagree = none ∧ ({ t with madder := s.madder } : State) = s ∧ (∀ j, j ≠ d → t.cand j = s.cand j)
        ∧ t.cand d = (if (s.cand d).st = cdDemoted then { s.cand d with st := cdUnqualified, qtime := s.acceptT d } else s.cand d))))
  ∧ (∀ (s : State), s.madder.disagree = none → Completes .disagreeClear s (fun t => t = s))

/-- R311 to R317, R321 to R323. -/
def Obligations.ReferenceLoop : Prop :=
  ∀ (s : State),
    let M := s.madder
    let only (t : State) : Prop := ({ t with ctr := s.ctr, madder := s.madder, raised := s.raised, sent := s.sent, twin := s.twin } : State) = s.movedTo t.ttime
      ∧ (s.mirrors = false → t.sent = s.sent ∧ t.twin = s.twin)
    let wrote (t : State) : Prop := ({ t with ctr := s.ctr, lastRaise := s.lastRaise, madder := s.madder, raised := s.raised, regs := s.regs, sent := s.sent, twin := s.twin, xbar := s.xbar } : State) = s
    let free : Prop := M.st ≠ mSoftloop ∧ M.st ≠ mFault ∧ M.st ≠ mStopped
    let moved (c : Nat) (t : State) : Prop := t.madder.sel = c ∧ (c ≠ noCand → c ≠ M.sel → t.ctrOf R.madderSwitchCnt = satAdd ctrMax (s.ctrOf R.madderSwitchCnt) 1)
      ∧ (c = candLocal → t.madder.st = mFreerun ∧ t.madder.fcw = 0)
      ∧ (c ≠ candLocal → c ≠ noCand → M.st = mFreerun ∨ M.st = mHoldover ∨ M.st = mAcquire → t.madder.st = mAcquire ∧ t.madder.acqT = t.ttime)
      ∧ (c ≠ candLocal → c ≠ noCand → M.st = mLocked ∨ M.st = mSlew → if s.refError c = 0 then t.madder.st = mLocked ∧ t.madder.slope = none ∧ EventNow 0x200A sevInfo c t
          else t.madder.st = mSlew ∧ ∃ y, t.madder.slope = some y ∧ y.e = s.refError c ∧ y.start = t.ttime ∧ y.stop = t.ttime + slopeTime (absI y.e) y.rate ∧ y.rate = s.regBits R.madderSlope 13 0)
      ∧ (M.st = mLocked → c ≠ noCand → EventNow 0x2001 sevNotice c t)
    let held (hist : List Int) (t : State) : Prop :=
      (M.histValid = true → t.madder.st = mHoldover ∧ t.madder.hold = meanWord hist ∧ t.madder.fcw = meanWord hist ∧ EventNow 0x2005 sevWarn noCand t
          ∧ t.ctrOf R.madderHoldoverCnt = satAdd ctrMax (s.ctrOf R.madderHoldoverCnt) 1)
        ∧ (M.histValid = false → t.madder.st = mFreerun ∧ t.madder.fcw = 0 ∧ EventNow 0x2006 sevWarn noCand t)
    let shifted (y : Slope) (t : State) : Prop := ∀ c, t.cand c = { s.cand c with ofs := (s.cand c).ofs.map (moveOffset (y.remain y.stop - y.remain (max y.start (s.cand c).ofsT))), ofsT := (t.cand c).ofsT }
    (s.switchDue = none → Completes .refSwitch s (fun t => t = s))
      ∧ (∀ c, s.switchDue = some c → free → (M.slope = none → Completes .refSwitch s (fun t => moved c t ∧ only t ∧ t.ttime = s.ttime))
          ∧ (∀ x, M.slope = some x → Completes .refSwitch s (fun t => t = { s with madder := { M with slope := some { x with due := some c } } })))
      ∧ (M.wtrAt = none → Completes .wtrExpiry s (fun t => t = s))
      ∧ (∀ t0, M.wtrAt = some t0 → (s.qualified M.pend = true → free → M.slope = none → Completes .wtrExpiry s (fun t => moved M.pend t ∧ t.ttime = max s.ttime t0
            ∧ t.madder.wtrAt = none ∧ only t))
          ∧ (∀ x, s.qualified M.pend = true → free → M.slope = some x → Completes .wtrExpiry s (fun t => t.madder = { M with wtrAt := none, slope := some { x with due := some M.pend } } ∧ t.ttime = max s.ttime t0 ∧ only t))
          ∧ (s.qualified M.pend = false → Completes .wtrExpiry s (fun t => t.madder = { M with wtrAt := none, pend := noCand } ∧ t.ttime = max s.ttime t0 ∧ only t)))
      ∧ (let near := absI (M.fcw - (s.cand M.sel).freq * ppbUnits) ≤ 1000000
        (M.st ≠ mAcquire ∨ ¬ near → Completes .acquireLock s (fun t => t = s))
        ∧ (M.st = mAcquire → near → M.captured = false → Completes .acquireLock s (fun t => t = { s with madder := { M with st := mLocked, captured := true, lockOfs := s.phaseFrom M.sel 0, okTicks := 0 } }))
          ∧ (M.st = mAcquire → near → M.captured = true → Completes .acquireLock s (fun t => t.madder.st = (if s.refError M.sel = 0 then mLocked else mSlew) ∧ t.madder.lockOfs = M.lockOfs ∧ only t
            ∧ t.ttime = s.ttime ∧ (s.refError M.sel ≠ 0 → ∃ x, t.madder.slope = some x ∧ x.e = s.refError M.sel ∧ x.start = s.ttime ∧ x.stop = s.ttime + slopeTime (absI x.e) x.rate))))
      ∧ (M.st ≠ mAcquire → Completes .acqFail s (fun t => t = s))
      ∧ (M.st = mAcquire → Completes .acqFail s (fun t => t.ttime = max s.ttime (ticksAfter M.acqT 96000) ∧ (t.cand M.sel).st = cdUnqualified ∧ (t.cand M.sel).qtime = s.acceptT M.sel
          ∧ EventNow 0x200B sevWarn M.sel t ∧ only t ∧ (M.slope = none → t.madder.sel ≠ M.sel)))
      ∧ (M.slope = none → Completes .slopeComplete s (fun t => t = s))
      ∧ (∀ x, M.slope = some x →
        let c := match x.due with | some d => if s.qualified d then d else s.bestCand | none => noCand
        let moves := x.due ≠ none ∧ M.st = mSlew ∧ (c ≠ M.sel ∨ x.lost = true)
        (¬ moves → Completes .slopeComplete s (fun t => t.madder = { M with slope := none, okTicks := 0, cands := t.madder.cands } ∧ shifted x t ∧ t.ttime = max s.ttime x.stop ∧ only t))
          ∧ (moves → Completes .slopeComplete s (fun t => t.madder.sel = c ∧ shifted x t ∧ t.ttime = max s.ttime x.stop ∧ only t ∧ (c = noCand → held M.hist t)
            ∧ (c ≠ noCand → c ≠ candLocal → t.madder.st = if s.refError c = 0 then mLocked else mSlew) ∧ (c = candLocal → t.madder.st = mFreerun))))
      ∧ (let done := M.st = mSlew ∧ M.slope = none ∧ 16 ≤ M.okTicks
        (¬ done → Completes .slewDone s (fun t => t = s))
        ∧ (done → Completes .slewDone s (fun t => t.madder = { M with st := mLocked, okTicks := 0 } ∧ EventNow 0x200A sevInfo M.sel t ∧ ({ t with madder := s.madder, raised := s.raised } : State) = s)))
      ∧ (let holds := s.qualified M.sel = false ∧ s.bestCand = noCand ∧ M.slope = none ∧ (M.st = mAcquire ∨ M.st = mLocked ∨ M.st = mSlew)
        (¬ holds → Completes .holdover s (fun t => t = s))
        ∧ (holds → Completes .holdover s (fun t => t.madder.sel = noCand ∧ held (if M.st = mLocked then M.hist.drop 16 else M.hist) t ∧ only t ∧ t.ttime = s.ttime)))
      ∧ (960000 ≤ M.hist.length → Completes .histValid s (fun t => t = { s with madder := { M with histValid := true } }))
      ∧ (M.hist.length < 960000 → Completes .histValid s (fun t => t = s))
      ∧ (∀ m v, m < 12 → s.writeGate m R.madderCtrl = .pass →
        let bad := 9 < bits v 27 24 ∨ 12 < bits v 19 16 ∨ (bit v 23 = true ∧ s.candOn (bits v 27 24) = false) ∨ (bit v 31 = true ∧ (M.st = mSlew ∨ M.st = mAcquire)) ∨ (bit v 29 = true ∧ s.timeInUse = true)
        let w := maskWrite (s.reg R.madderCtrl) v 0xCF8F0000
        let best := (s.setReg R.madderCtrl w).bestCand
        (bad → Completes (.soft m v) s (WriteRejected m R.madderCtrl s))
          ∧ (¬ bad → Completes (.soft m v) s (fun t => wrote t ∧ t.reg R.madderCtrl = w ∧ (∀ a, a ≠ R.madderCtrl → t.reg a = s.reg a)
            ∧ (bit v 29 = true → t.madder.captured = false)
            ∧ (bit v 31 = true → M.st = mFreerun ∨ M.st = mLocked ∨ M.st = mHoldover → t.madder.st = mSoftloop ∧ t.madder.fcwT = s.ttime ∧ t.madder.fcw = M.fcw ∧ t.madder.slope = none)
            ∧ (bit v 31 = false → M.st = mSoftloop → best = noCand → t.madder.sel = noCand ∧ held M.hist t)
            ∧ (bit v 31 = false → M.st = mSoftloop → best ≠ noCand → t.madder.sel = best ∧ t.madder.st = (if best = candLocal then mFreerun else mAcquire))
            ∧ (bit v 31 = false → bit v 23 = true → s.isStandby = false → s.qualified (bits v 27 24) = true → free → M.slope = none → t.madder.sel = bits v 27 24)))
          ∧ (bit v 31 = false → bit v 23 = false → bits v 27 24 ≤ 9 → bits v 19 16 ≤ 12 → s.timeInUse = false → Completes (.recapture m v) s (fun t => t.madder.captured = false ∧ wrote t ∧ t.reg R.madderCtrl = maskWrite (s.reg R.madderCtrl) v 0xCF8F0000))
          ∧ (s.timeInUse = true → Completes (.recapture m v) s (WriteRejected m R.madderCtrl s)))
      ∧ (∀ m v, m < 12 → s.writeGate m R.madderFcw = .pass →
        let y := s.clampFcw (sInt v)
        let again := M.st = mHoldover ∧ M.afterSoft = true ∧ bit (s.reg R.madderCtrl) 31 = true
        Completes (.fcwWrite m v) s (fun t => t.reg R.madderFcw = wordI y ∧ (∀ a, a ≠ R.madderFcw → t.reg a = s.reg a) ∧ wrote t
          ∧ (M.st = mSoftloop → t.madder = { M with fcwNext := some y, fcwT := s.ttime })
          ∧ (again → t.madder.st = mSoftloop ∧ t.madder.fcwNext = some y ∧ t.madder.fcwT = s.ttime)
          ∧ (M.st ≠ mSoftloop → ¬ again → t.madder = M)
          ∧ t.ctrOf R.madderSoftClampCnt = (if y = sInt v then s.ctrOf R.madderSoftClampCnt else satAdd ctrMax (s.ctrOf R.madderSoftClampCnt) 1)))
      ∧ (M.st ≠ mSoftloop → Completes .softTimeout s (fun t => t = s))
      ∧ (M.st = mSoftloop → Completes .softTimeout s (fun t => t.ttime = max s.ttime (ticksAfter M.fcwT 8) ∧ t.madder = { M with st := mHoldover, fcw := M.fcwNext.getD M.fcw, hold := M.fcwNext.getD M.fcw, fcwNext := none, afterSoft := true }
          ∧ EventNow 0x2008 sevWarn M.sel t ∧ only t ∧ t.ctrOf R.madderHoldoverCnt = satAdd ctrMax (s.ctrOf R.madderHoldoverCnt) 1 ∧ t.ctrOf R.madderSoftTimeoutCnt = satAdd ctrMax (s.ctrOf R.madderSoftTimeoutCnt) 1))
      ∧ (M.st ≠ mFault → M.st ≠ mStopped → Completes .madderFault s (fun t => t.madder.st = mFault ∧ t.madder.localOk = false ∧ (t.cand candLocal).active = false
          ∧ EventNow 0x2007 sevError candLocal t ∧ only t ∧ (M.slope = none → (s.cand candLocal).active = false → t.madder.sel = M.sel)))
      ∧ (M.st ≠ mFault ∨ M.localOk = false → Completes .faultRecover s (fun t => t = s))
      ∧ (M.st = mFault → M.localOk = true → Completes .faultRecover s (fun t => t.ttime = max s.ttime (ticksAfter M.localT 16000) ∧ only t
          ∧ (∀ x, M.slope = some x → t.madder.st = mSlew ∧ t.madder.sel = M.sel)
          ∧ (M.slope = none → s.bestCand = noCand → t.madder.sel = noCand ∧ held M.hist t)
          ∧ (M.slope = none → s.bestCand ≠ noCand → t.madder.sel = s.bestCand ∧ t.madder.st = (if s.bestCand = candLocal then mFreerun else mAcquire))))

/-- R36, R114, R308, R319, R320, R324. -/
def Obligations.FramePulses : Prop :=
  (∀ (i seen held : Nat) (s : State), (i ≥ 2 ∨ s.filtered 1 held = false → Completes (.fpInPulse i seen held) s (fun t => t = s)) ∧ (i < 2 → s.filtered 1 held = true →
    let x := s.fpIn i
    let p := seen - 80 * s.regBits (R.globalFilt 1) 6 0
    let ok : Prop := ∃ a b, x.last = some a ∧ x.prev = some b ∧ absI ((p : Int) - (2 * (a : Int) - (b : Int))) ≤ 1600
    Completes (.fpInPulse i seen held) s (fun t => t.ttime = max s.ttime seen ∧ (t.fpIn i).last = some p ∧ (t.fpIn i).prev = x.last
      ∧ ((t.fpIn i).accepted = true ↔ ok) ∧ (∀ k, k ≠ i → t.fpIn k = s.fpIn k)
      ∧ (ok → ∀ j, j < 4 → s.fpOn j = true → s.fpAlign j = i + 1 → chainOk (rateNum (s.fpRate j)) (t.fpPeriod i) = true → (s.fpOut j).since.isSome = true → (s.fpOut j).free = false →
          (t.fpOut j).epoch = some p ∧ (t.fpOut j).flywheel = (if (s.fpOut j).epoch = none then (s.fpOut j).flywheel else false))
      ∧ (ok → ∀ g, g < 16 → (s.group g).waiting.isSome = true → s.groupSource g = i + 2 → t.sourceCompat g = true →
          t.group g = { s.group g with fixed := true, waiting := none, epoch := (p : Int) + s.phaseOfs g, fixT := t.ttime, free := false, running := false })
      ∧ (∀ g, (¬ ok ∨ (s.group g).waiting = none ∨ s.groupSource g ≠ i + 2) → t.group g = s.group g)
      ∧ (ok → s.stkSrc = i + 1 → (t.cand 8).active = true ∧ (t.cand 8).phase = (p : Int) * 256 ∧ (t.cand 8).pulse = some p)
      ∧ (¬ ok → x.last.isSome = true → x.prev.isSome = true → ∀ j, j < 4 → s.fpOn j = true → s.fpAlign j = i + 1 → (s.fpOut j).epoch.isSome = true → (s.fpOut j).free = false →
          (t.fpOut j).epoch = some p ∧ (t.fpOut j).flywheel = false ∧ t.ctrOf (R.madderFpRephaseCnt j) = satAdd ctrMax (s.ctrOf (R.madderFpRephaseCnt j)) 1 ∧ EventNow 0x200C sevNotice j t)
      ∧ ({ t with ctr := s.ctr, groups := s.groups, madder := s.madder, raised := s.raised } : State) = s.movedTo t.ttime)))
  ∧ (∀ (i : Nat) (s : State), (i ≥ 4 ∨ s.fpNext i = none → Completes (.fpOutPulse i) s (fun t => t = s)) ∧ ∀ t0, i < 4 → s.fpNext i = some t0 → Completes (.fpOutPulse i) s (fun t => t.ttime = max s.ttime t0
      ∧ t.sent = s.sent ++ [{ kind := "FP_OUT", via := i, args := [t0, s.regBits (R.madderFpCtrl i) 15 0, s.regBits (R.madderFpCtrl i) 30 30] }]
      ∧ t.fpOut i = { s.fpOut i with last := some t0, ofs := sInt (s.reg (R.madderFpOffset i)) } ∧ (∀ k, k ≠ i → t.fpOut k = s.fpOut k)
      ∧ ({ t with madder := s.madder, sent := s.sent } : State) = s.movedTo t.ttime))
  ∧ (∀ (i : Nat) (s : State), ((s.fpOut i).since = none ∨ (s.fpOut i).epoch.isSome = true → Completes (.fpOutFree i) s (fun t => t = s)) ∧ ∀ t0, (s.fpOut i).since = some t0 → (s.fpOut i).epoch = none → Completes (.fpOutFree i) s (fun t =>
      t.ttime = max s.ttime (ticksAfter t0 8) ∧ t.fpOut i = { s.fpOut i with epoch := some (alignUp tickLen t.ttime), fixT := alignUp tickLen t.ttime, free := true }
        ∧ (∀ k, k ≠ i → t.fpOut k = s.fpOut k) ∧ ({ t with madder := s.madder } : State) = s.movedTo t.ttime))
  ∧ (∀ (i : Nat) (s : State), ((s.fpOut i).epoch = none ∨ (s.fpOut i).free = true → Completes (.flywheel i) s (fun t => t = s)) ∧ ((s.fpOut i).epoch.isSome = true → (s.fpOut i).free = false → Completes (.flywheel i) s (fun t =>
      t.fpOut i = { s.fpOut i with flywheel := true } ∧ (∀ k, k ≠ i → t.fpOut k = s.fpOut k)
        ∧ (s.fpAlign i ≠ 0 → (t.fpIn (s.fpAlign i - 1)).accepted = false) ∧ ({ t with madder := s.madder } : State) = s)))
  ∧ (∀ (n : Nat) (s : State),
      let rest (t : State) : Prop := ({ t with ports := s.ports, raised := s.raised, sent := s.sent, ser := s.ser, syns := s.syns } : State) = s ∧ ∀ k, k ≠ n → t.port k = s.port k
      let here := n < 64 ∧ s.portPresent n = true
      (¬ here → Completes (.synthShort n) s (fun t => t = s))
        ∧ (here → (s.port n).synWait = false → s.takeSyns n (s.portFamilies n) = none → Completes (.synthShort n) s (fun t => t.port n = { s.port n with synWait := true } ∧ t.syns = s.syns ∧ EventNow 0x200D sevWarn n t ∧ rest t))
        ∧ (∀ t1, here → s.takeSyns n (s.portFamilies n) = some t1 → Completes (.synthShort n) s (fun t => t.port n = { s.port n with synWait := false } ∧ t.syns = t1.syns ∧ t.raised = s.raised ∧ rest t))
        ∧ (here → (s.port n).synWait = true → s.takeSyns n (s.portFamilies n) = none → Completes (.synthShort n) s (fun t => t = s)))

/-! CXL frame memory. -/

/-- R189, R331, R337 to R340. That lost contents read as memory nothing has written is the model's choice (log 59). -/
def Obligations.CxlPorts : Prop :=
  (∀ (x : Nat) (s : State), s.cxlPresent x = true →
    let P := s.cxPort x
    let others (t : State) : Prop := ∀ y, y ≠ x → t.cxPort y = s.cxPort y
    let counted (a : Nat) (t : State) : Prop := t.ctrOf a = satAdd ctrMax (s.ctrOf a) 1
    (∀ up width rate64 type3 cap ideOk, s.boot.stage = 10 → P.checked = false →
        let c := s.reg (R.cxlPortCtrl x)
        let keyOk := s.slotUsable (bits c 7 0) 18 [1]
        let cause := if up = false then 1 else if width ≠ 16 ∨ rate64 = false then 2 else if type3 = false ∨ cap < 1 then 3
          else if bit c 31 = true ∧ (ideOk = false ∨ keyOk = false) then 4 else 0
        Completes (.cxlPortTrain x up width rate64 type3 cap ideOk) s (fun t => others t
          ∧ t.cxPort x = { link := if up = false then cxDown else if cause = 0 then cxUp else cxExcluded, cause := cause, ide := bit c 31 && decide (cause = 0), width := width % 64, cap := cap, checked := true }
          ∧ (bit c 31 = true → keyOk = false → EventNow 0x6007 sevWarn (bits c 7 0) t ∧ counted R.woadRefuseCnt t)
          ∧ (cause = 0 → t.inSet x = true ∧ (512 < cap → EventNow 0x5004 sevNotice x t) ∧ (bit c 31 = true → Tbl.get [] t.woad.ideKeys x = (s.slot (bits c 7 0)).key))
          ∧ (cause ≠ 0 → t.cxlSet = s.cxlSet ∧ t.woad = s.woad ∧ EventNow 0x5003 sevWarn x t)
          ∧ (∀ y, y ≠ x → t.inSet y = s.inSet y)
          ∧ ({ t with ctr := s.ctr, cx := s.cx, cxlSet := s.cxlSet, raised := s.raised, woad := s.woad } : State) = s))
      ∧ (∀ up width rate64 type3 cap ideOk, s.boot.stage ≠ 10 ∨ P.checked = true → Completes (.cxlPortTrain x up width rate64 type3 cap ideOk) s (fun t => t = s))
      ∧ Completes (.cxlCrcRetry x) s (fun t => counted (R.cxlCrcRetryCnt x) t ∧ (∀ a, a ≠ R.cxlCrcRetryCnt x → t.ctrOf a = s.ctrOf a)
          ∧ ({ t with ctr := s.ctr } : State) = s)
      ∧ (∀ cto, let a := if cto = true then R.cxlCtoCnt x else R.cxlReadErrCnt x
        let limited (code key sev index : Nat) (t : State) : Prop := match Tbl.find s.lastRaise (code * 2 ^ 20 + key) with
          | none => EventNow code sev index t ∧ Tbl.find t.lastRaise (code * 2 ^ 20 + key) = some (s.ttime + 1)
          | some u => if s.ttime + 1 < u + 1600 * tickLen then Tbl.find t.lastRaise (code * 2 ^ 20 + key) = some u else EventNow code sev index t ∧ Tbl.find t.lastRaise (code * 2 ^ 20 + key) = some (s.ttime + 1)
        let told (t : State) : Prop := counted a t ∧ limited 0x5006 x sevNotice x t
        (∀ n p, n < 64 → Completes (.cxlReadErr x cto (.pair n p)) s (fun t => told t ∧ t.out n = { s.out n with badReads := p :: (s.out n).badReads } ∧ OutOnly n s t
              ∧ ({ t with ctr := s.ctr, lastRaise := s.lastRaise, outs := s.outs, raised := s.raised } : State) = s))
          ∧ (∀ n, n < 64 → Completes (.cxlReadErr x cto (.plane n)) s (fun t => told t ∧ counted (R.outPlaneUnderflowCnt n) t ∧ limited 0x4030 n sevNotice n t
              ∧ ({ t with ctr := s.ctr, lastRaise := s.lastRaise, raised := s.raised } : State) = s))
          ∧ (∀ c, Completes (.cxlReadErr x cto (.delay c)) s (fun t => told t ∧ EventNow 0x4058 sevError c t
              ∧ t.oc c = { s.oc c with tapBack := none, tapFail := some (if (s.oc c).tapBack.isSome then s.sampleAfter s.ttime else (s.oc c).tapFail.getD (s.sampleAfter s.ttime)) }
              ∧ (∀ k, k ≠ c → t.oc k = s.oc k) ∧ ({ t with audio := s.audio, ctr := s.ctr, lastRaise := s.lastRaise, raised := s.raised } : State) = s))
          ∧ (∀ n, n < 64 → (s.out n).lut.loading.isSome = true → Completes (.cxlReadErr x cto (.lut n)) s (fun t => told t ∧ (t.out n).lut = { (s.out n).lut with loading := none, result := stCheckFail }
              ∧ counted (R.outLutFailCnt n) t ∧ EventNow 0x4023 sevWarn n t ∧ OutOnly n s t
              ∧ ({ t with ctr := s.ctr, lastRaise := s.lastRaise, outs := s.outs, raised := s.raised } : State) = s))
          ∧ (∀ n, (s.out n).lut.loading = none → Completes (.cxlReadErr x cto (.lut n)) s (fun t => told t ∧ ({ t with ctr := s.ctr, lastRaise := s.lastRaise, raised := s.raised } : State) = s))
          ∧ (∀ j units, (s.ob j).started = none → Completes (.cxlReadErr x cto (.bulk j units)) s (fun t => told t ∧ ({ t with ctr := s.ctr, lastRaise := s.lastRaise, raised := s.raised } : State) = s))
          ∧ (∀ j, j < 8 → (s.ob j).started.isSome = true → s.obTail j = ringNext (s.obSize j) (s.obHead j) → s.bulkIn (s.obDescAt j) 32 = true →
              Completes (.cxlReadErr x cto (.bulk j 0)) s (fun t => told t ∧ (t.ob j).started = none ∧ counted (R.ochreObJobCnt j) t ∧ (∀ k, k ≠ j → t.ob k = s.ob k)))
          ∧ (∀ m, Completes (.cxlReadErr x cto (.aperture m)) s (fun t => told t ∧ t.sent = s.sent ++ [{ kind := "READ", via := m, args := [0xFFFFFFFF] }]
              ∧ ({ t with ctr := s.ctr, lastRaise := s.lastRaise, raised := s.raised, sent := s.sent } : State) = s)))
      ∧ (∀ cto, let a := if cto = true then R.cxlCtoCnt x else R.cxlWriteErrCnt x
        (∀ f, (s.flow f).usable = true → Completes (.cxlWriteErr x cto (.encoder f)) s (fun t => counted a t ∧ t.flow f = { s.flow f with overflowed := true }
            ∧ (∀ g, g ≠ f → t.flow g = s.flow g) ∧ ({ t with ctr := s.ctr, flows := s.flows } : State) = s))
          ∧ (∀ f, (s.flow f).usable = false → Completes (.cxlWriteErr x cto (.encoder f)) s (fun t => counted a t ∧ ({ t with ctr := s.ctr } : State) = s))
          ∧ (∀ j units, (s.ob j).started = none → Completes (.cxlWriteErr x cto (.bulk j units)) s (fun t => counted a t ∧ EventNow 0x5007 sevWarn x t ∧ ({ t with ctr := s.ctr, raised := s.raised } : State) = s))
          ∧ (∀ j, j < 8 → (s.ob j).started.isSome = true → s.obTail j = ringNext (s.obSize j) (s.obHead j) → s.bulkIn (s.obDescAt j) 32 = true →
              Completes (.cxlWriteErr x cto (.bulk j 0)) s (fun t => counted a t ∧ EventNow 0x5007 sevWarn x t ∧ (t.ob j).started = none ∧ counted (R.ochreObJobCnt j) t ∧ (∀ k, k ≠ j → t.ob k = s.ob k)))
          ∧ (∀ b n, Completes (.cxlWriteErr x cto (.bytes b n)) s (fun t => counted a t ∧ EventNow 0x5007 sevWarn x t
            ∧ (∀ q, q < b ∨ b + n ≤ q → Memory.read t.mem.cxl q = Memory.read s.mem.cxl q)
            ∧ ({ t with mem := { t.mem with cxl := s.mem.cxl }, ctr := s.ctr, freeCtr := s.freeCtr, raised := s.raised } : State) = s)))
      ∧ (P.link = cxUp → Completes (.cxlLinkDown x) s (fun t => t.cxPort x = { P with link := cxRecovery, downT := some s.ttime } ∧ others t
          ∧ counted (R.cxlLinkDownCnt x) t ∧ ({ t with ctr := s.ctr, cx := s.cx } : State) = s))
      ∧ (P.link ≠ cxUp → Completes (.cxlLinkDown x) s (fun t => t = s))
      ∧ (P.link ≠ cxRecovery ∨ P.downT = none → Completes (.cxlRecovered x) s (fun t => t = s))
      ∧ (∀ t0, P.link = cxRecovery → P.downT = some t0 → (s.ttime ≤ ticksAfter t0 32 → Completes (.cxlRecovered x) s (fun t =>
            t.cxPort x = { P with link := cxUp, downT := none } ∧ others t ∧ EventNow 0x500A sevNotice x t ∧ ({ t with cx := s.cx, raised := s.raised } : State) = s))
          ∧ (ticksAfter t0 32 < s.ttime → Completes (.cxlRecovered x) s (fun t => t = s)))
      ∧ (P.link ≠ cxUp → P.link ≠ cxRecovery → Completes (.cxlPortLost x) s (fun t => t = s))
      ∧ (P.link = cxUp ∨ P.link = cxRecovery → s.inSet x = false → Completes (.cxlPortLost x) s (fun t => t.cxPort x = { P with link := cxLost, downT := none } ∧ others t ∧ EventNow 0x5008 sevFatal x t
          ∧ ({ t with cx := s.cx, raised := s.raised } : State) = s))
      ∧ (P.link = cxUp ∨ P.link = cxRecovery → s.inSet x = true → Completes (.cxlPortLost x) s (fun t => t.cxPort x = { P with link := cxLost, downT := none } ∧ others t ∧ EventNow 0x5008 sevFatal x t
          ∧ t.inSet x = false ∧ t.cxlRebuild = true ∧ (∀ y, y ≠ x → t.inSet y = s.inSet y) ∧ t.mem.cxl = [] ∧ t.mem.nv = s.mem.nv ∧ t.mem.sram = s.mem.sram ∧ t.units = s.units
          ∧ (s.attaching = true → t.twin.phase = .solo ∧ t.twin.cause = 6 ∧ EventNow 0xA002 sevWarn 0 t)
          ∧ (s.attaching = false → t.twin = s.twin ∧ t.regs = s.regs
            ∧ (∀ n, (t.out n).cur = (s.out n).cur.emptied ∧ ((t.out n).cur.kind = 5 → (t.out n).cur.gone = true))
            ∧ (∀ f, t.flow f = { s.flow f with slots := (t.flow f).slots, mrg := {}, ready := false } ∧ (t.flow f).slots.length = (s.flow f).slots.length ∧ ∀ q ∈ (t.flow f).slots, q = {})
            ∧ (∀ c, c ∈ s.delayed → (t.oc c).tapFail.isSome = true ∧ (t.oc c).tapBack = none ∧ EventNow 0x4058 sevError c t)
            ∧ (∀ c, c ∉ s.delayed → t.oc c = s.oc c)
            ∧ ({ t with audio := s.audio, cx := s.cx, cxlRebuild := s.cxlRebuild, cxlSet := s.cxlSet, flows := s.flows, mem := s.mem, outs := s.outs, raised := s.raised } : State) = s))))
  ∧ (∀ (f : Nat) (s : State), (s.flow f).usable = true → (s.flow f).storeEn = true → Completes (.memWrOverflow f) s (fun t =>
      t.flow f = { s.flow f with overflowed := true } ∧ (∀ g, g ≠ f → t.flow g = s.flow g) ∧ t.ctrOf R.cxlWrOverflowCnt = satAdd ctrMax (s.ctrOf R.cxlWrOverflowCnt) 1
        ∧ (Tbl.find s.lastRaise (0x500B * 2 ^ 20) = none → EventNow 0x500B sevWarn f t)
        ∧ ({ t with ctr := s.ctr, flows := s.flows, lastRaise := s.lastRaise, raised := s.raised } : State) = s))
  ∧ (∀ (f : Nat) (s : State), (s.flow f).usable = false ∨ (s.flow f).storeEn = false → Completes (.memWrOverflow f) s (fun t => t = s))
  ∧ (∀ (x : Nat) (ok : Bool) (s : State), Tbl.find s.woad.ideNext x = none → Completes (.ideKeyExchange x ok) s (fun t => t = s))
  ∧ (∀ (x : Nat) (s : State), s.cxlPresent x = false → (∀ up width rate64 type3 cap ideOk, Completes (.cxlPortTrain x up width rate64 type3 cap ideOk) s (fun t => t = s))
      ∧ Completes (.cxlCrcRetry x) s (fun t => t = s) ∧ (∀ cto u, Completes (.cxlReadErr x cto u) s (fun t => t = s)) ∧ (∀ cto u, Completes (.cxlWriteErr x cto u) s (fun t => t = s)))
  ∧ (∀ (x : Nat) (ok : Bool) (s : State) (k : List Byte), Tbl.find s.woad.ideNext x = some k → Completes (.ideKeyExchange x ok) s (fun t =>
      (ok = true → Tbl.get [] t.woad.ideKeys x = k ∧ (∀ y, y ≠ x → Tbl.get [] t.woad.ideKeys y = Tbl.get [] s.woad.ideKeys y) ∧ t.raised = s.raised) ∧ Tbl.get [] t.woad.ideNext x = []
        ∧ (ok = false → t.woad.ideKeys = s.woad.ideKeys ∧ EventNow 0x5009 sevError x t)
        ∧ ({ t with raised := s.raised, woad := { t.woad with ideNext := s.woad.ideNext, ideKeys := s.woad.ideKeys } } : State) = s))

/-- R332 to R334, R340. -/
def Obligations.CxlHeap : Prop :=
  (∀ (m : Nat) (v : Word) (s : State), m < 12 →
    let wrote (t : State) : Prop := ({ t with heap := s.heap, regs := s.regs, sent := s.sent, twin := s.twin, xbar := s.xbar } : State) = s
    let onlyRegs (t : State) : Prop := ∀ r, r ≠ R.cxlHallocResultLo → r ≠ R.cxlHallocResultHi → t.reg r = s.reg r
    (s.writeGate m R.cxlHallocSize = .pass →
        (v.toNat < 1 ∨ 0x01FFFFFF < v.toNat → Completes (.hallocSize m v) s (WriteRejected m R.cxlHallocSize s))
          ∧ (1 ≤ v.toNat → v.toNat ≤ 0x01FFFFFF → s.popGib = 0 ∨ heapFit (v.toNat * 65536) (popBytes s) heapStart s.heap = none →
            Completes (.hallocSize m v) s (fun t => t.reg R.cxlHallocResultLo = word stOverrun ∧ t.reg R.cxlHallocResultHi = 0 ∧ t.heap = s.heap ∧ onlyRegs t ∧ wrote t))
          ∧ (∀ b, 1 ≤ v.toNat → v.toNat ≤ 0x01FFFFFF → s.popGib ≠ 0 → heapFit (v.toNat * 65536) (popBytes s) heapStart s.heap = some b → b < 2 ^ 64 →
            Completes (.hallocSize m v) s (fun t => (t.reg R.cxlHallocResultHi).toNat * 2 ^ 32 + (t.reg R.cxlHallocResultLo).toNat = b / 65536 * 65536 + stOk
              ∧ t.heap = heapInsert (b, v.toNat * 65536, true) s.heap ∧ onlyRegs t ∧ wrote t)))
      ∧ (s.writeGate m R.cxlHfree = .pass →
        ((∀ e ∈ s.heap, e.1 ≠ v.toNat * 65536 ∨ e.2.2 = false) → Completes (.hfree m v) s (WriteRejected m R.cxlHfree s))
          ∧ ((∃ e ∈ s.heap, e.1 = v.toNat * 65536 ∧ e.2.2 = true) → Completes (.hfree m v) s (fun t =>
            (∀ e, e ∈ t.heap ↔ e ∈ s.heap ∧ e.1 ≠ v.toNat * 65536) ∧ t.regs = s.regs ∧ wrote t))))
  ∧ (∀ (size top lo : Nat) (h : List (Nat × Nat × Bool)) (b : Nat), heapFit size top lo h = some b → h.Pairwise (fun x y => x.1 + roundAlloc x.2.1 ≤ y.1) →
      (∀ e ∈ h, e.1 ≤ top) →
      lo ≤ b ∧ b + size ≤ top ∧ (∀ e ∈ h, b + size ≤ e.1 ∨ e.1 + roundAlloc e.2.1 ≤ b)
        ∧ ∀ c, lo ≤ c → c + size ≤ top → (∀ e ∈ h, c + size ≤ e.1 ∨ e.1 + roundAlloc e.2.1 ≤ c) → b ≤ c)
  ∧ (∀ (s : State), s.cxlRebuild = false → Completes .memRelayout s (fun t => t = s))
  ∧ (∀ (s : State), s.cxlRebuild = true → (∀ n ∈ Tbl.keys s.outs, n < 64) → Completes .memRelayout s (fun t => t.cxlRebuild = false ∧ t.popGib = s.population ∧ t.cxlSet = s.cxlSet
      ∧ (∀ e ∈ t.heap, e.2.2 = false) ∧ EventNow 0x500C sevWarn 0 t ∧ t.ctrOf R.cxlRelayoutCnt = satAdd ctrMax (s.ctrOf R.cxlRelayoutCnt) 1
      ∧ (∀ n k, n ∈ Tbl.keys s.outs → k < 2 → ((t.out n).plane k).pend = none ∧ (((t.out n).plane k).cur.enabled = true → (s.out n).scanning = true ∧ ∃ q, ((t.out n).plane k).cap = some q ∧ q.set.enabled = false))
      ∧ (∀ n, (s.out n).lut.loading.isSome = true → (t.out n).lut.loading = none ∧ (t.out n).lut.result = stCheckFail)
      ∧ (s.population < 32 → t.memDead = true ∧ EventNow 0x5002 sevError 0 t ∧ t.flows = [] ∧ ∀ n, n ∈ Tbl.keys s.outs → (t.out n).cur = Source.black ∧ (t.out n).pend = none ∧ (t.out n).takeStatus = stDenied)
      ∧ (32 ≤ s.population → t.memDead = s.memDead)))

/-! Power entry, power-up, power failure, shutdown. -/

/-- R36, R343 to R350, R353, R359 to R361, R382, R391, R420. The bytes of the boot and counter records are the model's choice (log 25). -/
def Obligations.PowerSequences : Prop :=
  ∀ (s : State),
    let P := s.pwr
    let onlyPwr (t : State) : Prop := ({ t with pwr := s.pwr } : State) = s
    let onlyAon (t : State) : Prop := ({ t with pwr := s.pwr, ctr := s.ctr, raised := s.raised, aonEvents := s.aonEvents, aonTime := s.aonTime, freeCtr := s.freeCtr } : State) = s
    let ready : Prop := P.state = 4 ∧ P.heldCold = false ∧ P.upStep = none ∧ (P.acOk = true ∨ P.dcOk = true) ∧ P.shut = none
    let up (p : Pwr) : Pwr := { p with upStep := some 2, state := 8, railFault := 0, needEdge := false, needCool := false }
    let startsIf (p : Pwr) (go : Prop) (t : State) : Prop := (go → ready → t.pwr = up p) ∧ (¬ (go ∧ ready) → t.pwr = p) ∧ onlyPwr t
    (∀ (dc : Bool) (cycles strap : Nat) (v33 : Bool),
        let has := (if dc then P.dcOk else P.acOk) = true
        let src := if P.source = 0 then (if dc then 2 else 1) else P.source
        let p1 : Pwr := if dc then { P with dcOk := true, source := src } else { P with acOk := true, source := src }
        (has ∨ cycles < 328 → Completes (.inputOk dc cycles strap v33) s (fun t => t = s))
        ∧ (¬ has → 328 ≤ cycles → Completes (.inputOk dc cycles strap v33) s (fun t => (P.state ≠ 0 → t.pwr = p1 ∧ onlyPwr t)
          ∧ (P.state = 0 → t.pwr = { p1 with state := 4, vhost33 := v33, rails := 1 } ∧ t.reg R.globalResetCause = 1 ∧ t.ctrOf R.globalBootFailCnt = 0
            ∧ t.xbar = { s.xbar with smbAddr := 0x40 + strap % 16 } ∧ (∀ r, r ≠ R.globalResetCause → t.reg r = s.reg r)
            ∧ (∀ a, a ≠ R.globalBootFailCnt → t.ctrOf a = s.ctrOf a) ∧ ({ t with pwr := s.pwr, ctr := s.ctr, regs := s.regs, xbar := s.xbar } : State) = s))))
      ∧ (∀ dc : Bool,
        let has := (if dc then P.dcOk else P.acOk) = true
        let lost : Nat := if dc then 2 else 1
        let p1 : Pwr := if dc then { P with dcOk := false } else { P with acOk := false }
        (¬ has → Completes (.inputLost dc) s (fun t => t = s))
          ∧ (has → (p1.acOk = true ∨ p1.dcOk = true) → Completes (.inputLost dc) s (fun t => AonTold 0x1005 sevWarn 0 s t ∧ onlyAon t
            ∧ (P.source ≠ lost → t.pwr = p1 ∧ t.ctr = s.ctr)
            ∧ (P.source = lost → t.pwr = { p1 with source := 3 - lost } ∧ AonTold 0x1004 sevNotice 0 s t
              ∧ t.ctrOf R.pwrInputSwitchCnt = satAdd ctrMax (s.ctrOf R.pwrInputSwitchCnt) 1)))
          ∧ (has → p1.acOk = false → p1.dcOk = false → Completes (.inputLost dc) s (fun t => onlyPwr t
            ∧ t.pwr = (if P.state = 4 then { p1 with source := 0, state := 0, rails := 0, pwrEn := false } else { p1 with source := 0 }))))
      ∧ (∀ cycles, (P.dcOk = true → P.source = 1 → 328 ≤ cycles → Completes (.inputSwitch cycles) s (fun t => t.pwr = { P with source := 2 } ∧ AonTold 0x1004 sevNotice 0 s t ∧ onlyAon t
          ∧ t.ctrOf R.pwrInputSwitchCnt = satAdd ctrMax (s.ctrOf R.pwrInputSwitchCnt) 1))
        ∧ (P.dcOk = false ∨ P.source ≠ 1 ∨ cycles < 328 → Completes (.inputSwitch cycles) s (fun t => t = s)))
      ∧ (∀ cool held, (P.pwrEn = false → s.filtered 3 held = true → Completes (.pwrEnRise cool held) s (startsIf { P with pwrEn := true } (P.needCool = false ∨ cool = true)))
          ∧ (P.pwrEn = true ∨ s.filtered 3 held = false → Completes (.pwrEnRise cool held) s (fun t => t = s)))
      ∧ (∀ cycles, Completes (.powerRestart cycles) s (startsIf P (P.pwrEn = true ∧ P.cause = 1 ∧ P.needEdge = false ∧ 3277 ≤ cycles)))
      ∧ (∀ held, (P.pwrEn = false ∨ s.filtered 3 held = false → Completes (.pwrEnFall held) s (fun t => t = s)) ∧ (P.pwrEn = true → s.filtered 3 held = true →
        let p1 : Pwr := { P with pwrEn := false, needEdge := false }
        (P.shut.isSome = true ∨ (P.ride = false ∧ P.upStep = none ∧ s.powered = false) → Completes (.pwrEnFall held) s (fun t => t.pwr = p1 ∧ onlyPwr t))
          ∧ (P.shut = none → P.ride = true → Completes (.pwrEnFall held) s (ShutBegun p1 P.cause s))
          ∧ (P.shut = none → P.ride = false → P.upStep.isSome = true → Completes (.pwrEnFall held) s (fun t => RailsDown s t ∧ t.pwr.pwrEn = false))
          ∧ (P.shut = none → P.ride = false → P.upStep = none → s.powered = true → Completes (.pwrEnFall held) s (ShutBegun p1 2 s))))
      ∧ (P.upStep = none → Completes .powerUpStep s (fun t => t = s) ∧ ∀ rail, Completes (.powerUpOverrun rail) s (fun t => t = s))
      ∧ (∀ k, P.upStep = some k → 2 ≤ k → k ≤ 5 → Completes .powerUpStep s (fun t => onlyPwr t
          ∧ t.pwr = { P with upStep := if k < 5 then some (k + 1) else none, rails := t.pwr.rails, ioGood := P.ioGood || decide (k = 3), pwrGood := P.pwrGood || decide (k = 5), state := if k = 5 then 3 else P.state, domOn := if k = 5 then s.standbyDoms else P.domOn }
          ∧ (∀ r, t.pwr.rails.testBit r = (P.rails.testBit r || decide (r ∈ s.stepRails k)))))
      ∧ (∀ rail, P.upStep.isSome = true → Completes (.powerUpOverrun rail) s (fun t => RailsDown s t ∧ t.pwr.needEdge = true
          ∧ (rail < 11 → t.pwr.railFault.testBit rail = true) ∧ ∃ e ∈ t.aonEvents, e.code = 0x1007 ∧ e.sev = sevFatal ∧ e.index = rail))
      ∧ (∀ r, let falls := s.powered = true ∧ P.rails.testBit r = true ∧ r < 11
        let p1 : Pwr := { P with rails := clearBit P.rails r, railFault := setBit P.railFault r, ioGood := P.ioGood && decide (r ≠ 1 ∧ r ≠ 2) }
        (¬ falls → Completes (.railFault r) s (fun t => t = s))
          ∧ (falls → P.shut = none → Completes (.railFault r) s (fun t => EventNow 0x1007 sevFatal r t ∧ ShutBegun p1 (if P.ride = true then P.cause else 6) s t))
          ∧ (falls → P.shut.isSome = true → Completes (.railFault r) s (fun t => EventNow 0x1007 sevFatal r t ∧ t.pwr = p1 ∧ ({ t with pwr := s.pwr, raised := s.raised } : State) = s)))
      ∧ (let early := P.acOk = false ∧ P.dcOk = false ∧ P.ride = false ∧ P.shut = none
        (¬ early ∨ (P.upStep = none ∧ s.powered = false) → Completes .pwrFailEarly s (fun t => t = s))
          ∧ (early → P.upStep.isSome = true → Completes .pwrFailEarly s (fun t => RailsDown s t ∧ t.pwr.cause = 1))
          ∧ (early → P.upStep = none → s.powered = true → Completes .pwrFailEarly s (fun t => t.pwr = { P with ride := true, failT := s.ttime, cause := 1 }
            ∧ EventNow 0x1001 sevWarn 0 t ∧ t.ctrOf R.pwrPfeCnt = satAdd ctrMax (s.ctrOf R.pwrPfeCnt) 1
            ∧ ({ t with ctr := s.ctr, pwr := s.pwr, raised := s.raised } : State) = s)))
      ∧ (∀ (dc : Bool) (held busV : Nat),
        let back := P.ride = true ∧ s.ttime < P.failT + 3200000 ∧ (if dc then 160000 else 1600000) ≤ held ∧ 3600 < busV
        (back → Completes (.pwrRide dc held busV) s (fun t => t.pwr = { P with ride := false, cause := 0 } ∧ EventNow 0x1002 sevInfo 0 t
            ∧ t.ctrOf R.pwrRideCnt = satAdd ctrMax (s.ctrOf R.pwrRideCnt) 1 ∧ ({ t with ctr := s.ctr, pwr := s.pwr, raised := s.raised } : State) = s))
          ∧ (¬ back → Completes (.pwrRide dc held busV) s (fun t => t = s)))
      ∧ (P.ride = true → Completes .pwrShutdown s (fun t => ShutBegun P P.cause s t ∧ t.ttime = max s.ttime (P.failT + 3200000)))
      ∧ (P.ride = false → Completes .pwrShutdown s (fun t => t = s))
      ∧ (P.shut = none → Completes .shutdownStage s (fun t => t = s))
      ∧ (∀ k, P.shut = some k → k < 6 → Completes .shutdownStage s (fun t => k < 5 → t.ttime = max s.ttime (P.shutT + [0, 0, 800000, 3200000, 4000000, 4800000].getD k 0) ∧ t.pwr.shut = some (k + 1)))
      ∧ (P.shut = some 1 → Completes .shutdownStage s (fun t => t.pwr = { P with shut := some 2 } ∧ (∀ q ∈ t.units, q.2.run = .idle ∧ q.2.wait = none ∧ q.2.swapArmed = false)
          ∧ (bit (s.reg R.pwrCtrl) 8 = true → ∀ n, t.out n = { s.out n with muted := (t.out n).muted } ∧ ∀ q ∈ t.outs, q.2.muted = true)
          ∧ (bit (s.reg R.pwrCtrl) 8 = false → ∀ q ∈ t.outs, q.2.safe = some .black ∧ q.2.p0.cur.enabled = false ∧ q.2.p1.cur.enabled = false ∧ q.2.pend = none ∧ q.2.convPend = none ∧ q.2.timPend = none
            ∧ q.2.p0.pend = none ∧ q.2.p0.cap = none ∧ q.2.p1.pend = none ∧ q.2.p1.cap = none)
          ∧ (bit (s.reg R.pwrCtrl) 8 = false → ∀ n, (t.out n).tim = (s.out n).tim ∧ (t.out n).scanning = (s.out n).scanning ∧ (t.out n).frameT = (s.out n).frameT)
          ∧ (∀ q ∈ t.flows, ∀ y ∈ q.2.slots, y.writing = false) ∧ ({ t with flows := s.flows, outs := s.outs, pwr := s.pwr, units := s.units } : State) = s.movedTo t.ttime))
      ∧ (P.shut = some 2 → s.saff.state = 0 → Completes .shutdownStage s (fun t => t.pwr = { P with shut := some 3 } ∧ ({ t with pwr := s.pwr } : State) = s.movedTo t.ttime))
      ∧ (P.shut = some 2 → s.saff.state ≠ 0 → Completes .shutdownStage s (fun t => t.pwr = { P with shut := some 3 } ∧ t.saff.state = 4 ∧ t.woad.saved = true ∧ t.saff.prevSeal = none
          ∧ ({ t with ctr := s.ctr, faultQ := s.faultQ, mem := s.mem, pwr := s.pwr, raised := s.raised, regs := s.regs, saff := s.saff, woad := s.woad } : State) = s.movedTo t.ttime))
      ∧ (P.shut = some 3 → Completes .shutdownStage s (fun t => t.pwr = { P with shut := some 4 } ∧ t.woad = { s.woad with vaultShut := true, shadow := none, rslKey := [], ideKeys := [], ideNext := [] }
          ∧ ({ t with pwr := s.pwr, woad := s.woad } : State) = s.movedTo t.ttime))
      ∧ (P.shut = some 4 → Completes .shutdownStage s (fun t => t.pwr = { P with domOn := 0, shut := some 5 } ∧ ({ t with pwr := s.pwr } : State) = s.movedTo t.ttime))
      ∧ (P.shut = some 5 → Completes .shutdownStage s (RailsDown s))
      ∧ (P.overT = none ∨ s.powered = false → Completes .overloadTimeout s (fun t => t = s))
      ∧ (∀ t0, P.overT = some t0 → s.powered = true → P.shut = none → P.upStep = none → Completes .overloadTimeout s (fun t =>
          ShutBegun P (if P.ride = true then P.cause else 7) s t ∧ t.ttime = max s.ttime (ticksAfter t0 3200)))
      ∧ (∀ t0, P.overT = some t0 → s.powered = true → P.shut.isSome = true → Completes .overloadTimeout s (fun t => t = s.movedTo (max s.ttime (ticksAfter t0 3200))))
      ∧ (∀ mon, mon ≥ 32 ∨ P.state = 0 ∨ P.state = 4 → Completes (.thermalTrip mon) s (fun t => t = s))
      ∧ (∀ mon, mon < 32 → P.state ≠ 0 → P.state ≠ 4 →
        let p1 : Pwr := { P with needEdge := true, needCool := true }
        let told (t : State) : Prop := EventNow 0x1009 sevFatal mon t ∧ t.ctrOf R.hlthLifeTrips = satAdd ctrMax (s.ctrOf R.hlthLifeTrips) 1
        (P.shut = none → P.ride = true ∨ P.upStep = none → Completes (.thermalTrip mon) s (fun t => told t
            ∧ ShutBegun p1 (if P.ride = true then P.cause else 5) { s with ctr := t.ctr } t))
          ∧ (P.shut.isSome = true → P.needCool = false → Completes (.thermalTrip mon) s (fun t => told t ∧ t.pwr = p1 ∧ ({ t with ctr := s.ctr, pwr := s.pwr, raised := s.raised } : State) = s))
          ∧ (P.shut.isSome = true → P.needCool = true → Completes (.thermalTrip mon) s (fun t => t.pwr = p1 ∧ onlyPwr t))
          ∧ (P.shut = none → P.ride = false → P.upStep.isSome = true → Completes (.thermalTrip mon) s (fun t => RailsDown s t ∧ t.pwr.needCool = true ∧ t.pwr.cause = 5)))

/-! Power states and domains. -/

/-- R351, R352, R355 to R357. The order of a change's steps, and its outputs that reach no frame start: log entries 26 and 60. -/
def Obligations.PowerStatesAndDomains : Prop :=
  ∀ (s : State),
    let P := s.pwr
    let wrote (t : State) : Prop := ({ t with pwr := s.pwr, regs := s.regs, sent := s.sent, twin := s.twin, xbar := s.xbar } : State) = s
    (∀ m v, m < 12 → s.writeGate m R.pwrCtrl = .pass →
        let target := bits v 3 0
        let reach : Prop := s.powered = true ∧ 1 ≤ target ∧ target ≤ 4 ∧ (P.target = 0 ∨ target = 4 ∨ target = P.target)
        let stored (t : State) : Prop := t.reg R.pwrCtrl = maskWrite (s.reg R.pwrCtrl) v 0x10F ∧ ∀ r, r ≠ R.pwrCtrl → t.reg r = s.reg r
        let noted (t : State) : State := { s with regs := t.regs, sent := t.sent, twin := t.twin, xbar := t.xbar }
        (¬ reach → Completes (.stateReq m v) s (WriteRejected m R.pwrCtrl s))
          ∧ (reach → target ≠ 4 → target = P.state ∨ target = P.target ∨ s.boot.ready = false → Completes (.stateReq m v) s (fun t => stored t ∧ t.pwr = P ∧ wrote t))
          ∧ (reach → target < 3 → target ≠ P.state → target ≠ P.target → s.boot.ready = true → Completes (.stateReq m v) s (fun t => stored t
            ∧ t.pwr = { P with target := target } ∧ wrote t))
          ∧ (reach → target = 3 → target ≠ P.state → target ≠ P.target → s.boot.ready = true → Completes (.stateReq m v) s (fun t => t.pwr.target = 3 ∧ t.pwr.state = P.state
            ∧ t.pwr.domOn = P.domOn ∧ (∀ q ∈ t.units, q.2.run ≠ .run ∧ q.2.run ≠ .wait) ∧ (∀ e, e < 4 → (t.ce e).exec = none)
            ∧ (∀ q ∈ s.outs, q.2.scanning = true → q.1 ∈ t.pwr.stopOuts ∧ q.1 ∈ t.pwr.keptScan) ∧ (∀ n, (t.out n).scanning = (s.out n).scanning)
            ∧ t.pwr.stopBy = s.ticksOn 5 ∧ t.saff = s.saff ∧ t.woad = s.woad ∧ t.ttime = s.ttime))
          ∧ (reach → target = 4 → P.shut.isSome = true → Completes (.stateReq m v) s (fun t => stored t ∧ t.pwr = P ∧ wrote t))
          ∧ (reach → target = 4 → P.shut = none → P.ride = true → Completes (.stateReq m v) s (fun t => ShutBegun P P.cause (noted t) t))
          ∧ (reach → target = 4 → P.shut = none → P.ride = false → P.upStep.isSome = true → Completes (.stateReq m v) s (fun t => RailsDown s t))
          ∧ (reach → target = 4 → P.shut = none → P.ride = false → P.upStep = none → Completes (.stateReq m v) s (fun t => ShutBegun P 4 (noted t) t)))
      ∧ ((s.powered = false ∨ s.boot.ready = false → s.switchTick = s)
        ∧ (s.powered = true → s.boot.ready = true →
          let t := s.switchTick
          let hold : Prop := P.target = 3 ∧ P.stopOuts ≠ [] ∧ s.ttime < P.stopBy
          let changes := (List.range 96).filter (fun d => t.domIsOn d != s.domIsOn d)
          (P.target ≠ 0 → P.target ≠ 2 → ¬ hold → ∀ d, d < 96 → t.domIsOn d ≠ s.domIsOn d → t.domIsOn d = (s.domsFor P.target).testBit d)
            ∧ (P.target = 0 → P.state ≠ 2 → ∀ d, d < 96 → t.domIsOn d ≠ s.domIsOn d → t.domIsOn d = (s.domsFor P.state).testBit d)
            ∧ (P.target = 0 → P.state = 2 → ∀ d, t.domIsOn d = true → s.domIsOn d = true)
            ∧ changes.length ≤ 8 ∧ (P.switched.1 = s.tick → changes.length ≤ 8 - P.switched.2)
            ∧ ((∃ d, d < 96 ∧ t.domIsOn d = true ∧ s.domIsOn d = false) → ∀ e, e < 96 → t.domIsOn e = true → s.domGoal.testBit e = true)
            ∧ (hold → t.pwr.target = 3 ∧ t.pwr.state = P.state ∧ t.pwr.stopOuts = P.stopOuts)
            ∧ (P.target = 3 → ¬ hold → ∀ n ∈ P.stopOuts, (t.out n).scanning = false)
            ∧ (P.target ≠ 0 → P.target ≠ 3 → P.domOn = s.domGoal → t.pwr.state = P.target ∧ t.pwr.target = 0 ∧ t.pwr.idleT = [] ∧ t.pwr.domOn = P.domOn
              ∧ (P.state = 3 → t.pwr.kept = [] ∧ t.pwr.keptScan = [] ∧ (∀ n ∈ P.keptScan, (t.out n).scanning = true ∧ (t.out n).resume = true)
                ∧ (∀ q ∈ P.kept, (t.unit q.1).start = some { restart := true, limit := s.ticksOn 8 }) ∧ t.mem = s.mem)
              ∧ (P.state ≠ 3 → ({ t with pwr := s.pwr } : State) = s))
            ∧ (P.target = 3 → P.stopOuts = [] → P.domOn = s.standbyDoms → t.pwr.state = 3 ∧ t.pwr.target = 0 ∧ t.pwr.domOn = P.domOn ∧ ({ t with pwr := s.pwr } : State) = s)))
      ∧ (∀ d, d < 96 → s.activeDoms.testBit d = s.domMay d ∧ s.standbyDoms.testBit d = (s.domMay d && decide (88 ≤ d ∧ d ≠ 93))
        ∧ s.trimDoms.testBit d = (s.domMay d && (s.domInUse d || (List.range 96).any (fun e => s.domMay e && s.domInUse e && decide (d ∈ domNeeds e)))))
      ∧ (∀ m w v, m < 12 → w < 3 →
        (s.writeGate m (R.pwrPdReq w) = .pass →
          let off (d : Nat) : Prop := d / 32 = w ∧ s.domPresent d = true ∧ s.domAllowed d = true ∧ bit v (d % 32) = false
          let on (d : Nat) : Prop := d / 32 = w ∧ s.domPresent d = true ∧ s.domAllowed d = false ∧ bit v (d % 32) = true
          ((∃ d, d < 96 ∧ off d ∧ (88 ≤ d ∨ (s.domInUse d = true ∧ ¬ (80 ≤ d ∧ d < 88)))) → Completes (.pdReqWrite m w v) s (WriteRejected m (R.pwrPdReq w) s))
            ∧ ((∀ d, d < 96 → off d → d < 88 ∧ (s.domInUse d = true → 80 ≤ d)) → Completes (.pdReqWrite m w v) s (fun t => t.reg (R.pwrPdReq w) = v
              ∧ (∀ r, r ≠ R.pwrPdReq w → t.reg r = s.reg r) ∧ t.pwr = P
              ∧ (∀ k, k < 8 → t.poolShed.testBit k = (if off (80 + k) then true else if on (80 + k) ∧ P.domShed.testBit (80 + k) = false then false else s.poolShed.testBit k))
              ∧ (∀ n, n < 64 → off (80 + n / 8) → (s.out n).pool = .granted → (t.out n).pool = .queued ∧ (t.out n).victims = [])
              ∧ (∀ n, n < 64 → ¬ off (80 + n / 8) → ¬ on (80 + n / 8) → t.out n = s.out n)
              ∧ ({ t with outs := s.outs, poolShed := s.poolShed, regs := s.regs, sent := s.sent, twin := s.twin, xbar := s.xbar } : State) = s)))
          ∧ (s.writeGate m (R.pwrPdFault w) = .pass → Completes (.pdFaultClear m w v) s (fun t => t.reg (R.pwrPdFault w) = s.reg (R.pwrPdFault w) &&& ~~~v
            ∧ (∀ r, r ≠ R.pwrPdFault w → t.reg r = s.reg r) ∧ t.pwr = s.pwr ∧ wrote t)))
      ∧ (∀ m w v, 3 ≤ w → Completes (.pdReqWrite m w v) s (fun t => t = s) ∧ Completes (.pdFaultClear m w v) s (fun t => t = s))
      ∧ (∀ d,
        let lacking := (domNeeds d).filter (fun e => s.domMay e && !s.domIsOn e)
        let comesUp : Prop := P.state = 2 ∧ d < 96 ∧ s.domMay d = true ∧ s.domInUse d = true ∧ s.domIsOn d = false ∧ lacking.length < s.switchRoom
        (comesUp → Completes (.domainOnUse d) s (fun t => t.domIsOn d = true
            ∧ (∀ e ∈ domNeeds d, s.domMay e = true → t.domIsOn e = true) ∧ (∀ e, e ≠ d → e ∉ domNeeds d → t.domIsOn e = s.domIsOn e)
            ∧ t.switchRoom = s.switchRoom - (lacking.length + 1)
            ∧ ({ t with pwr := { t.pwr with domOn := P.domOn, idleT := P.idleT, switched := P.switched } } : State) = s))
          ∧ (¬ comesUp → Completes (.domainOnUse d) s (fun t => t = s))
          ∧ (∀ t0, Tbl.find P.idleT d = some t0 →
            let at16 := s.movedTo (max s.ttime (ticksAfter (t0 - 1) 16))
            let goesOff : Prop := P.state = 2 ∧ s.domInUse d = false ∧ s.domIsOn d = true ∧ 0 < at16.switchRoom
            (goesOff → Completes (.domainIdleOff d) s (fun t => t.domIsOn d = false ∧ (∀ e, e ≠ d → t.domIsOn e = s.domIsOn e) ∧ t.switchRoom = at16.switchRoom - 1
                ∧ ({ t with pwr := { t.pwr with domOn := P.domOn, idleT := P.idleT, switched := P.switched } } : State) = at16))
              ∧ (¬ goesOff → Completes (.domainIdleOff d) s (fun t => t = s)))
          ∧ (Tbl.find P.idleT d = none → Completes (.domainIdleOff d) s (fun t => t = s))
          ∧ (96 ≤ d ∨ s.domPresent d = false ∨ s.domFault d = true ∨ s.powered = false → Completes (.pdFault d) s (fun t => t = s))
          ∧ (s.domPresent d = true → s.domFault d = false → s.powered = true → Completes (.pdFault d) s (fun t => t.domFault d = true ∧ t.domIsOn d = false
            ∧ EventNow 0x1008 sevError d t ∧ (∀ e, e < 96 → e ≠ d → t.domFault e = s.domFault e ∧ t.domIsOn e = s.domIsOn e)
            ∧ (d < 64 → ∀ k, k < 4 → t.lane (32 + 4 * d + k) = { Lane.reset with injPending := (s.lane (32 + 4 * d + k)).injPending } ∧ t.link (32 + 4 * d + k) = Link.reset)
            ∧ (64 ≤ d → d < 72 → ∀ k, k < 4 → t.lane (4 * (d - 64) + k) = { Lane.reset with injPending := (s.lane (4 * (d - 64) + k)).injPending })
            ∧ (80 ≤ d → d < 88 → t.poolLost.testBit (d - 80) = true ∧ ∀ n ∈ sliceOuts (d - 80), (t.out n).pool = .none ∧ (t.out n).inUse = (s.out n).inUse)
            ∧ (88 ≤ d → d < 92 → s.inSet (d - 88) = true → EventNow 0x5008 sevFatal (d - 88) t ∧ t.cxlRebuild = true ∧ t.inSet (d - 88) = false)
            ∧ (88 ≤ d → d < 92 → s.inSet (d - 88) = false → ({ t with pwr := s.pwr, raised := s.raised, regs := s.regs } : State) = s)
            ∧ (72 ≤ d → d < 80 ∨ 92 ≤ d → ({ t with pwr := s.pwr, raised := s.raised, regs := s.regs } : State) = s))))

/-! Resets, boot, attestation. -/

/-- R367, R12, R375. -/
def Obligations.Resets : Prop :=
  ∀ (s : State),
    let gone (warm : Bool) (cause : Nat) (t : State) : Prop := t.reg R.globalResetCause = word cause ∧ t.boot.stage = 1 ∧ t.boot.ready = false
      ∧ t.boot.fuses = s.boot.fuses ∧ t.boot.revoked = s.boot.revoked ∧ t.flows = [] ∧ t.outs = [] ∧ t.units = [] ∧ t.ports = [] ∧ t.heap = [] ∧ t.cxlSet = 0
      ∧ t.mem = { nv := s.mem.nv, nvOld := s.mem.nvOld } ∧ t.woad.slots = s.woad.slots ∧ t.woad.shadow = none ∧ t.tamper.latched = s.tamper.latched ∧ t.tamperLock = false
      ∧ t.saff.pieces = [] ∧ t.pending = s.pending ∧ t.variant = s.variant ∧ t.devId = s.devId
      ∧ (s.powered = true → t.pwr.state = 3 ∧ t.pwr.domOn = t.standbyDoms) ∧ (s.powered = false → s.pwr.state = 0 ∨ s.pwr.state = 4 → t.pwr.state = s.pwr.state ∧ t.pwr.domOn = 0)
      ∧ (∀ r, r ≠ R.globalResetCause → t.reg r = if aonAddr r = true ∨ (warm = true ∧ warmAddr r = true) then s.reg r else regReset r)
      ∧ (∀ a, a ≠ R.xbarUartDropCnt → t.ctrOf a = if aonAddr a = true ∨ (warm = true ∧ warmAddr a = true) then s.ctrOf a else 0)
      ∧ (warm = true → t.madder = s.madder ∧ t.stk.loaded = s.stk.loaded) ∧ (warm = false → t.madder = State.reset.madder ∧ t.stk.loaded = false)
    (∀ cause held,
        let taken : Prop := 1 ≤ cause ∧ cause ≤ 3 ∧ (cause = 2 → s.filtered 0 held = true)
        (taken → Completes (.coldReset cause held) s (fun t => gone false cause t ∧ t.ttime = 0)) ∧ (¬ taken → Completes (.coldReset cause held) s (fun t => t = s)))
      ∧ Completes .warmReset s (fun t => gone true 5 t ∧ t.ttime = s.ttime)
      ∧ (s.powered = true → 6 ≤ s.boot.stage → Completes .watchdogExpiry s (fun t => gone true 4 t ∧ t.ttime = max s.ttime (ticksAfter s.boot.lastService 16)))
      ∧ (s.powered = false ∨ s.boot.stage < 6 → Completes .watchdogExpiry s (fun t => t = s))

/-- R368 to R374. -/
def Obligations.BootToReady : Prop :=
  ∀ (s : State),
    let B := s.boot
    let onlyBoot (t : State) : Prop := ({ t with boot := s.boot, ctr := s.ctr, freeCtr := s.freeCtr, raised := s.raised, sent := s.sent, xbar := s.xbar } : State) = s.movedTo t.ttime
    let wrote (t : State) : Prop := ({ t with sent := s.sent, twin := s.twin, xbar := s.xbar } : State) = s
    let straps (c : Instr) (a b : Nat × Nat × Nat) (floats : Bool) : Prop :=
      (floats = true → Completes c s (fun t => t.boot = { B with strapBad := true, strapFloat := true } ∧ EventNow 0x6047 sevError 0 t
          ∧ t.reg R.globalFiltStatus = 0x100 ∧ ({ t with boot := s.boot, raised := s.raised, regs := s.regs } : State) = s))
        ∧ (floats = false → a ≠ b → Completes c s (fun t => t.boot = { B with strapBad := true, strapFloat := false } ∧ ({ t with boot := s.boot } : State) = s))
        ∧ (floats = false → a = b → Completes c s (fun t => t.boot = { B with strapBad := false, strapFloat := false, bootSel := a.2.2 % 4, stage := 2 }
          ∧ t.devId = a.2.1 % 2048 ∧ t.stk = { s.stk with role := a.1 % 4 } ∧ (B.strapBad = true → EventNow 0x6041 sevWarn 0 t)
          ∧ ({ t with boot := s.boot, ctr := s.ctr, devId := s.devId, freeCtr := s.freeCtr, raised := s.raised, sent := s.sent, stk := s.stk, xbar := s.xbar } : State) = s))
    let failed (err : Nat) (t : State) : Prop := t.boot.lastErr = err ∧ t.ctrOf R.globalBootFailCnt = satAdd ctrMax (s.ctrOf R.globalBootFailCnt) 1
      ∧ EventNow 0x6040 sevError 0 t
    let next (t : State) : Prop := match B.rest with
      | [] => t.boot.stage = 14 ∧ t.boot.pushT = none ∧ EventNow 0x6043 sevFatal 0 t
      | (src, b) :: rest => t.boot.stage = 5 ∧ t.boot.src = src ∧ t.boot.slotB = b ∧ t.boot.rest = rest ∧ t.boot.pushT = some (t.ttime + sourceLimit src)
          ∧ EventNow 0x6042 sevWarn 0 t
    let started (img : List Byte) (t : State) : Prop := t.boot.stage = 6 ∧ t.boot.image = img.take (256 + leOf img 0x0C 4) ∧ t.boot.rollback = leOf img 0x08 2
      ∧ t.boot.keyIndex = leOf img 0x14 4 ∧ t.boot.build = leOf img 0x18 8 ∧ t.boot.pushT = none ∧ t.raised = s.raised ∧ t.ctrOf R.globalBootFailCnt = s.ctrOf R.globalBootFailCnt
    let checks (img : List Byte) : Prop :=
      let len := leOf img 0x0C 4
      let fits : Bool := decide (leOf img 0x0A 2 = 0 ∧ leOf img 0x14 4 < 4 ∧ leOf img 0xC0 64 = 0 ∧ 1 ≤ len ∧ len ≤ 0x01FFFF00 ∧ leOf img 0x10 4 % 4 = 0 ∧ leOf img 0x10 4 < len ∧ 256 + len ≤ img.length)
      let key : Bool := decide (Config.sha512 ((img.drop 0x20).take 32) = Config.rootKeyHash (leOf img 0x14 4)) && !B.revoked.testBit (leOf img 0x14 4)
      let signed : Bool := Config.ed25519Verify ((img.drop 0x20).take 32) (Config.sha512 (img.take 0x80)) ((img.drop 0x80).take 64)
      let fresh : Bool := decide (max (fuseCount B.fuses) B.rbRecord ≤ leOf img 0x08 2)
      let whole : Bool := decide (Config.sha512 ((img.drop 256).take len) = (img.drop 0x40).take 64)
      s.imageErr img = if leOf img 0 4 ≠ 0x31465954 ∨ leOf img 4 4 ≠ 1 then 1 else if !fits then 2 else if !key then 3 else if !signed then 4 else if !fresh then 6 else if !whole then 5 else 0
    let goes (k : Nat) (P : State → Prop) : Prop := Completes .startupStep s (fun t => t.boot.stage = k ∧ t.ttime = s.ttime ∧ t.mem = s.mem ∧ P t)
    (∀ img, checks img)
      ∧ (∀ a b floats, (¬ (B.stage = 1 ∧ B.strapBad = false) → Completes (.strapSample a b floats) s (fun t => t = s))
        ∧ (¬ (B.stage = 1 ∧ B.strapBad = true) → Completes (.strapRetry a b floats) s (fun t => t = s)))
      ∧ (∀ a b floats, B.stage = 1 → (B.strapBad = false → straps (.strapSample a b floats) a b floats) ∧ (B.strapBad = true → straps (.strapRetry a b floats) a b floats))
      ∧ (B.stage = 5 → B.src ≠ 1 →
        (∀ img, Completes (.bootImageCheck img) s (fun t => (s.imageErr img = 0 → started img t) ∧ (s.imageErr img ≠ 0 → failed (s.imageErr img) t ∧ next t)
            ∧ t.ttime = s.ttime ∧ onlyBoot t))
          ∧ Completes .bootSourceTimeout s (fun t => failed 7 t ∧ next t ∧ t.ttime = max s.ttime (B.pushT.getD 0) ∧ onlyBoot t))
      ∧ (B.stage ≠ 5 ∨ B.src = 1 → (∀ img, Completes (.bootImageCheck img) s (fun t => t = s)) ∧ Completes .bootSourceTimeout s (fun t => t = s))
      ∧ (∀ m v, m < 12 → s.writeGate m R.globalBootPush = .pass →
        let wait : Prop := (B.stage = 5 ∧ B.src = 1) ∨ B.stage = 14
        let img := Memory.readBytes s.mem.sram stageBase v.toNat
        (v.toNat < 257 ∨ 0x02000000 < v.toNat ∨ ¬ wait → Completes (.bootPush m v) s (WriteRejected m R.globalBootPush s))
          ∧ (257 ≤ v.toNat → v.toNat ≤ 0x02000000 → wait → Completes (.bootPush m v) s (fun t => (s.imageErr img = 0 → started img t)
            ∧ (s.imageErr img ≠ 0 → failed (s.imageErr img) t ∧ (B.stage = 14 → t.boot.stage = 14) ∧ (B.stage = 5 → next t)) ∧ t.ttime = s.ttime
            ∧ (s.imageErr img = 0 → t.boot.src = 1)
            ∧ ({ t with boot := s.boot, ctr := s.ctr, freeCtr := s.freeCtr, raised := s.raised, sent := s.sent, twin := s.twin, xbar := s.xbar } : State) = s)))
      ∧ (∀ t0, B.pushT = some t0 → B.stage = 5 → B.src = 1 → Completes .bootPushTimeout s (fun t => t.boot = { B with pushT := none, pushAlarm := true }
          ∧ t.ttime = max s.ttime t0 ∧ EventNow 0x6044 sevWarn 0 t ∧ ({ t with boot := s.boot, raised := s.raised } : State) = s.movedTo t.ttime))
      ∧ (B.pushT = none ∨ B.stage ≠ 5 ∨ B.src ≠ 1 → Completes .bootPushTimeout s (fun t => t = s))
      ∧ (B.stage = 2 → s.tamper.latched = false → goes 3 (fun t => onlyBoot t))
      ∧ (B.stage = 2 → s.tamper.latched = true → goes 15 (fun t => t.tamperLock = true ∧ EventNow 0x6045 sevFatal 0 t))
      ∧ (B.stage = 4 → goes 5 (fun t => ∃ b, bootSources (B.bootSel) t.boot.pref = (t.boot.src, b) :: t.boot.rest ∧ t.boot.slotB = b
          ∧ t.reg R.globalBootPref = word t.boot.pref))
      ∧ (B.stage = 6 → goes 7 (fun t => t.aonEvents = [] ∧ ∀ e ∈ s.aonEvents, e ∈ t.raised))
      ∧ (B.stage = 7 → goes 8 (fun t => t.flows = s.flows ∧ t.outs = s.outs ∧ t.regs = s.regs ∧ t.woad = s.restoreSlots.woad))
      ∧ (B.stage = 8 → goes 9 (fun t => t.woad.slots = s.woad.slots ∧ t.regs = ((List.range' 0x10 7).foldl State.applyConfig s).regs))
      ∧ (B.stage = 9 → goes 10 (fun t => t.regs = s.regs ∧ t.woad = s.woad ∧ (s.madder.st = mStopped → t.madder.st = mFreerun)
          ∧ (s.madder.st ≠ mStopped → t.madder = s.madder)))
      ∧ (B.stage = 10 → (∀ x, x < 4 → s.cxlPresent x = true → (s.cxPort x).checked = true) → goes 11 (fun t => t.popGib = s.population ∧ t.heap = []
          ∧ (s.population < 32 → EventNow 0x5002 sevError 0 t)))
      ∧ (B.stage = 10 → (∃ x, x < 4 ∧ s.cxlPresent x = true ∧ (s.cxPort x).checked = false) → Completes .startupStep s (fun t => t = s))
      ∧ (B.stage = 11 → goes 12 (fun t => t.regs = s.regs ∧ ∀ l, l < 288 → s.lkEnabled l = true → ∀ L ∈ s.linkLanes l, (t.lane L).state ≠ .disabled))
      ∧ (B.stage = 12 → goes 13 (fun t => t.woad = s.woad ∧ t.pwr = s.pwr
        ∧ (bit (s.reg R.twinCtrl) 31 = true → s.twinHere = true → t.twin.phase = .solo) ∧ (bit (s.reg R.twinCtrl) 31 = false ∨ s.twinHere = false → t.twin = s.twin)))
      ∧ (B.stage ∉ [2, 4, 6, 7, 8, 9, 10, 11, 12] → Completes .startupStep s (fun t => t = s))
      ∧ (B.stage ≠ 13 ∨ B.ready = true → Completes .bootReady s (fun t => t = s))
      ∧ (B.stage = 13 → B.ready = false → Completes .bootReady s (fun t => t.boot = { B with ready := true, lastService := s.ttime } ∧ EventNow 0x6048 sevInfo 0 t
          ∧ (s.pwr.state = 3 → t.pwr = { s.pwr with state := 2 }) ∧ (s.pwr.state ≠ 3 → t.pwr = s.pwr)
          ∧ ({ t with boot := s.boot, pwr := s.pwr, raised := s.raised } : State) = s))
      ∧ (∀ m v, m < 12 → s.writeGate m R.globalRbCommit = .pass →
        let rb (t : State) : Prop := t.boot.rbRecord = (if bit v 0 = true then max B.rbRecord B.rollback else B.rbRecord)
          ∧ t.boot.fuses = (if bit v 1 = true then B.fuses ||| (2 ^ min B.rollback 128 - 1) else B.fuses)
          ∧ (bit v 0 = false ∨ B.rollback ≤ B.rbRecord → wrote { t with boot := s.boot })
        (bit v 0 = true → Completes (.rbCommitSaffron m v) s rb) ∧ (bit v 1 = true → Completes (.rbCommitFuses m v) s rb))
      ∧ (∀ m v, (bit v 0 = false → Completes (.rbCommitSaffron m v) s (fun t => t = s)) ∧ (bit v 1 = false → Completes (.rbCommitFuses m v) s (fun t => t = s)))

/-- R376. -/
def Obligations.Attestation : Prop :=
  ∀ (s : State),
    let B := s.boot
    (∀ m v, m < 12 → s.writeGate m R.globalAttestCtrl = .pass →
        let wrote (t : State) : Prop := ({ t with boot := s.boot, sent := s.sent, twin := s.twin, xbar := s.xbar } : State) = s
        (bit v 0 = true → B.attest = none → Completes (.attestReq m v) s (fun t => wrote t
            ∧ t.boot = { B with reportOk := false, attestStatus := stOk, attest := some (s.ttime, 0), attProg := s.mem.prog, attNv := s.mem.nv, attBanks := s.banks }))
          ∧ (bit v 0 = true → B.attest.isSome = true → Completes (.attestReq m v) s (fun t => wrote t ∧ t.boot = { B with attestStatus := stBusy }))
          ∧ (bit v 0 = false → Completes (.attestReq m v) s (fun t => wrote t ∧ t.boot = B)))
      ∧ (∀ t0 n, B.attest = some (t0, n) →
        let same : Prop := B.attProg = s.mem.prog ∧ B.attNv = s.mem.nv ∧ B.attBanks = s.banks
        let ended (status : Nat) (ok : Bool) : Boot := { B with attest := none, attProg := [], attNv := [], attBanks := [], attestStatus := status, reportOk := ok }
        (same → Completes .attestDone s (fun t => t.boot = ended stOk true ∧ EventNow 0x6049 sevInfo 0 t ∧ t.regBytes (R.globalAttestReport 0) 128 = s.report t0
            ∧ (s.report t0).length = 512 ∧ (∀ r, r < R.globalAttestReport 0 ∨ R.globalAttestReport 0 + 512 ≤ r → t.reg r = s.reg r)
            ∧ ({ t with boot := s.boot, raised := s.raised, regs := s.regs } : State) = s))
          ∧ (¬ same → n < 3 → Completes .attestDone s (fun t => t = { s with boot := { B with attest := some (s.ttime, n + 1), attProg := s.mem.prog, attNv := s.mem.nv, attBanks := s.banks } }))
          ∧ (¬ same → 3 ≤ n → Completes .attestDone s (fun t => t = { s with boot := ended stBusy false })))
      ∧ (B.attest = none → Completes .attestDone s (fun t => t = s))

/-! The key vault, tamper supervision and unlock. -/

/-- R381, R382, R384 to R389. -/
def Obligations.VaultCommands : Prop :=
  ∀ (s : State),
    let W := s.woad
    let outside (t : State) : Prop := ({ t with ctr := s.ctr, freeCtr := s.freeCtr, raised := s.raised, regs := s.regs, saff := s.saff, sent := s.sent, twin := s.twin, woad := s.woad, xbar := s.xbar } : State) = s
    let onlyRegs (t : State) : Prop := ∀ r, r ≠ R.woadCmdResult → (r < R.woadKeyIn 0 ∨ R.woadKeyIn 0 + 72 ≤ r) → (r < R.woadSigOut 0 ∨ R.woadSigOut 0 + 64 ≤ r) → t.reg r = s.reg r
    let ended (st kcv : Nat) (t : State) : Prop := t.reg R.woadCmdResult = word (st * 2 ^ 24 + kcv) ∧ (∀ k, k < 18 → t.reg (R.woadKeyIn 0 + 4 * k) = 0)
      ∧ t.ctrOf R.woadCmdCnt = satAdd ctrMax (s.ctrOf R.woadCmdCnt) 1 ∧ (st ≠ stOk → t.ctrOf R.woadCmdErrCnt = satAdd ctrMax (s.ctrOf R.woadCmdErrCnt) 1) ∧ onlyRegs t
    let others (i : Nat) (t : State) : Prop := ∀ k, k ≠ i → t.slot k = s.slot k
    let busy : Option Nat := if s.tamperLock = true then some stTamper else if W.vaultShut = true ∨ s.pwr.shut.isSome = true then some stAborted else if W.op.isSome = true then some stBusy else none
    let typ := s.regBits R.woadArg1 31 29
    let src := s.regBits R.woadArg0 30 28
    let attr := s.reg R.woadArg1
    (∀ m v, m < 12 → s.writeGate m R.woadCmd = .pass →
        let i := bits v 7 0
        let form (op : Nat) : Prop := (m < 4 ∨ m = 8) ∧ bits v 31 28 = op ∧ bits v 27 8 = 0 ∧ i ≠ 0 ∧ (op = 1 → src < 4)
        let shared : Prop := s.isStandby = true ∧ bit (s.slot i).attr 28 = true
        let checks (op : Nat) (c : Instr) : Prop := (¬ form op → Completes c s (WriteRejected m R.woadCmd s))
          ∧ (form op → (∀ e, busy = some e → Completes c s (fun t => ended e 0 t ∧ t.woad = W ∧ outside t))
            ∧ (busy = none → W.shadow = none ∨ op ≠ 1 → shared → Completes c s (fun t => ended stDenied 0 t ∧ t.woad = W ∧ outside t)))
        let runs (op : Nat) : Prop := form op ∧ busy = none ∧ ¬ shared ∧ (op = 1 → W.shadow = none)
        let posts (op : Nat) (x : Slot17) (t : State) : Prop := t.woad.op = some { op := op, slot := i, new := x, limit := s.ticksOn 16 } ∧ t.woad.shadow = W.shadow ∧ outside t
        (typ = 0 ∨ 4 < typ → Completes (.stage m v) s (WriteRejected m R.woadCmd s)) ∧ (1 ≤ typ → typ ≤ 4 → checks 1 (.stage m v))
          ∧ (1 ≤ typ → typ ≤ 4 → form 1 → busy = none → W.shadow.isSome = true → Completes (.stage m v) s (fun t => ended stBusy 0 t ∧ t.woad = W ∧ outside t))
          ∧ checks 2 (.woadVerify m v) ∧ checks 3 (.keyCommitted m v) ∧ checks 4 (.keyAborted m v) ∧ checks 5 (.keyErased m v) ∧ checks 6 (.attr m v)
          ∧ checks 7 (.sign m v) ∧ checks 8 (.mac m v)
          ∧ (runs 1 → 1 ≤ typ → typ ≤ 4 →
            let wrap := s.regBits R.woadArg0 15 8
            let input := s.regBytes (R.woadKeyIn 0) 18
            (s.stageDenied attr src wrap = true → Completes (.stage m v) s (fun t => ended stDenied 0 t ∧ t.woad = W ∧ outside t))
              ∧ (s.stageDenied attr src wrap = false → src = 0 ∨ src = 3 → (typ = 3 ↔ src = 0) → Completes (.stage m v) s (fun t => ended stCheckFail 0 t ∧ t.woad = W ∧ outside t))
              ∧ (s.stageDenied attr src wrap = false → src = 1 ∨ (src = 3 ∧ typ = 3) → Completes (.stage m v) s (fun t => ended stOk 0 t ∧ EventNow 0x6001 sevInfo i t ∧ outside t
                ∧ (∃ x, t.woad.shadow = some x ∧ x.slot = i ∧ x.attr = attr ∧ x.key = (if typ = 3 then [] else input.take (keyLen typ)) ∧ (typ = 3 → x.pub = input.take 32)
                  ∧ x.expect = s.regBits R.woadArg2 23 0 ∧ x.verified = false ∧ x.expires = s.ticksOn 16000) ∧ t.woad.slots = W.slots ∧ t.woad.op = W.op))
              ∧ (s.stageDenied attr src wrap = false → src = 0 → typ ≠ 3 → Completes (.stage m v) s (fun t => ended stOk 0 t ∧ EventNow 0x6001 sevInfo i t ∧ outside t
                ∧ (∃ x, t.woad.shadow = some x ∧ x.slot = i ∧ x.attr = attr ∧ x.key.length = keyLen typ ∧ x.expect = keyCheck typ x.key x.pub ∧ x.verified = false) ∧ t.woad.slots = W.slots)))
          ∧ (runs 1 → 1 ≤ typ → typ ≤ 4 → src = 2 → s.stageDenied attr src (s.regBits R.woadArg0 15 8) = false →
            let wrap := s.regBits R.woadArg0 15 8
            Completes (.stage m v) s (fun t => outside t ∧ t.woad.op.isSome = (t.woad.shadow.isSome && decide (((s.slot wrap).uses + 1) % 4096 = 0))
              ∧ match Config.aesUnwrap (s.slot wrap).key ((s.regBytes (R.woadKeyIn 0) 18).take (keyLen typ + 8)) with
                | some k => if k.length = keyLen typ ∧ typ ≠ 3 then ended stOk 0 t ∧ EventNow 0x6001 sevInfo i t ∧ (t.slot wrap).uses = (s.slot wrap).uses + 1
                    ∧ t.woad.shadow = some { slot := i, attr := attr, key := k, pub := if typ = 2 then Config.ed25519Pub k else [], expect := s.regBits R.woadArg2 23 0, expires := s.ticksOn 16000 }
                  else ended stCheckFail 0 t ∧ t.woad = W
                | none => ended stCheckFail 0 t ∧ t.woad = W))
          ∧ (runs 2 → (W.shadow = none → Completes (.woadVerify m v) s (fun t => ended stDenied 0 t ∧ t.woad = W ∧ outside t))
            ∧ (∀ x, W.shadow = some x → x.slot = i →
              let k := keyCheck (bits x.attr 31 29) x.key x.pub
              let good : Prop := k = x.expect ∧ selfTest (bits x.attr 31 29) x.key x.pub = true
              Completes (.woadVerify m v) s (fun t => (good → ended stOk k t ∧ t.woad = { W with shadow := some { x with verified := true } })
                ∧ (¬ good → ended stCheckFail k t ∧ t.woad = { W with shadow := none }) ∧ outside t)))
          ∧ (runs 3 → ((∀ x, W.shadow = some x → x.slot ≠ i ∨ x.verified = false) → Completes (.keyCommitted m v) s (fun t => ended stDenied 0 t ∧ t.woad = W ∧ outside t))
            ∧ (∀ x, W.shadow = some x → x.slot = i → x.verified = true → Completes (.keyCommitted m v) s (fun t => t.woad.slots = W.slots
              ∧ posts 3 { attr := x.attr, kcv := keyCheck (bits x.attr 31 29) x.key x.pub, key := x.key, pub := x.pub } t)))
          ∧ (runs 4 → Completes (.keyAborted m v) s (fun t => ended stOk 0 t ∧ outside t
            ∧ (∀ x, W.shadow = some x → (x.slot = i → t.woad = { W with shadow := none } ∧ EventNow 0x6003 sevNotice i t) ∧ (x.slot ≠ i → t.woad = W)) ∧ (W.shadow = none → t.woad = W)))
          ∧ (runs 5 → let force := bit (s.reg R.woadArg0) 31
            (s.slotBound i = true → force = false → Completes (.keyErased m v) s (fun t => ended stBusy 0 t ∧ t.woad = W ∧ outside t))
              ∧ (s.slotBound i = false → force = false → Completes (.keyErased m v) s (fun t => t.woad.slots = W.slots ∧ posts 5 {} t))
              ∧ (force = true → Completes (.keyErased m v) s (fun t => (t.slot i).key = [] ∧ others i t
                ∧ t.woad.op = some { op := 5, slot := i, new := {}, limit := s.ticksOn 16 }
                ∧ ∀ x, x < 4 → (s.cxPort x).ide = true → s.regBits (R.cxlPortCtrl x) 7 0 = i → (t.cxPort x).link = cxLost)))
          ∧ (runs 6 → let a := s.reg R.woadArg1
            (narrows (s.slot i).attr a = false → Completes (.attr m v) s (fun t => ended stDenied 0 t ∧ t.woad = W ∧ outside t))
              ∧ (narrows (s.slot i).attr a = true → Completes (.attr m v) s (fun t => t.woad.slots = W.slots ∧ posts 6 { s.slot i with attr := a } t)))
          ∧ (let made (op typ : Nat) (c : Instr) : Prop := runs op →
              (s.slotUsable i 21 [typ] = false → Completes c s (fun t => ended stDenied 0 t ∧ others i t ∧ (t.slot i).uses = (s.slot i).uses ∧ outside t))
                ∧ (s.slotUsable i 21 [typ] = true → Completes c s (fun t => ended stOk 0 t ∧ outside t ∧ others i t ∧ (t.slot i).uses = (s.slot i).uses + 1
                  ∧ (t.slot i).key = (s.slot i).key ∧ ∀ k, k < 16 → t.reg (R.woadSigOut 0 + 4 * k)
                    = (bytesWords (if typ = 2 then Config.ed25519Sign (s.slot i).key (s.regBytes (R.woadDigestIn 0) 16)
                        else Config.hmacSha512 (s.slot i).key (s.regBytes (R.woadDigestIn 0) 16)) 16).getD k 0))
            made 7 2 (.sign m v) ∧ made 8 4 (.mac m v)))
      ∧ (∀ m v, m < 12 → s.writeGate m R.woadProvClose = .pass →
        let bad : Prop := ¬ (m < 4 ∨ m = 8) ∨ v.toNat / 2 ≠ 0 ∨ s.tamperLock = true
        (bad → Completes (.provClose m v) s (WriteRejected m R.woadProvClose s))
          ∧ (¬ bad → Completes (.provClose m v) s (fun t => t.woad = { W with prov := W.prov || bit v 0 } ∧ t.regs = s.regs ∧ outside t)))
      ∧ (∀ x, W.op = some x →
        let t := s.woadTick
        (x.op = 0 ∨ s.ttime ≤ x.limit → t = s)
          ∧ (x.op ≠ 0 → x.limit < s.ttime → x.copyA = false → ended stTimeout 0 t ∧ t.woad = { W with op := none }
            ∧ t.saff.pieces = s.saff.pieces.filter (fun p => decide (p.fin ≠ .woadA x.slot ∧ p.fin ≠ .woadB x.slot)))
          ∧ (x.op ≠ 0 → x.limit < s.ttime → x.copyA = true → ended stTimeout (if x.op = 5 then 0 else x.new.kcv) t ∧ t.slot x.slot = x.new ∧ t.woad.op = none ∧ others x.slot t))
      ∧ (W.shadow = none ∨ W.op.isSome = true → Completes .stageExpired s (fun t => t = s))
      ∧ (∀ x, W.shadow = some x → W.op = none → Completes .stageExpired s (fun t => t.woad = { W with shadow := none } ∧ t.ttime = max s.ttime x.expires
          ∧ EventNow 0x6005 sevWarn x.slot t ∧ ({ t with raised := s.raised, woad := s.woad } : State) = s.movedTo t.ttime))
      ∧ (∀ e i, ¬ (16 ≤ e ∧ e ≤ 22 ∧ i < 256) → Completes (.keyBusRequest e i) s (fun t => t = s))
      ∧ (∀ e i, 16 ≤ e → e ≤ 22 → i < 256 →
        let kept (t : State) : Prop := others i t ∧ (t.slot i).key = (s.slot i).key ∧ (t.slot i).attr = (s.slot i).attr
          ∧ ({ t with ctr := s.ctr, raised := s.raised, saff := s.saff, woad := s.woad } : State) = s
        (s.slotUsable i e (engineTypes e) = true → Completes (.keyBusRequest e i) s (fun t => (t.slot i).uses = (s.slot i).uses + 1 ∧ t.ctr = s.ctr ∧ kept t))
          ∧ (s.slotUsable i e (engineTypes e) = false → Completes (.keyBusRequest e i) s (fun t => (t.slot i).uses = (s.slot i).uses
            ∧ t.ctrOf R.woadRefuseCnt = satAdd ctrMax (s.ctrOf R.woadRefuseCnt) 1 ∧ EventNow 0x6007 sevWarn i t ∧ kept t)))

/-- R392 to R398. The event of an alarm that the always-on domain holds, and CURRENT of a source not armed: log entry 28. -/
def Obligations.TamperAndUnlock : Prop :=
  ∀ (s : State),
    let T := s.tamper
    let kept (code sev index : Nat) (t : State) : Prop := ∃ e ∈ t.aonEvents, e.code = code ∧ e.sev = sev ∧ e.index = index ∧ e.aon = true
    (∀ src held,
        let met : Prop := src ≤ 6 ∧ [33, 50, 2, 25000, 0, 0, 25000].getD src 0 ≤ held ∧ (src = 3 → s.pwr.state = 0)
        (¬ met → Completes (.tamper src held) s (fun t => t = s))
        ∧ (met → s.armed src = false → Completes (.tamper src held) s (fun t => t = { s with tamper := { T with current := setBit T.current src } }))
        ∧ (met → s.armed src = true →
          let answered (t : State) : Prop := t.woad.tamperKek = [] ∧ t.woad.shadow = none ∧ t.tamper.latched = true ∧ t.tamper.current.testBit src = true
            ∧ bit (t.reg R.tamperLatch) 31 = true ∧ bit (t.reg R.tamperLatch) src = true
          let erased (t : State) : Prop := (∀ i, bit (t.slot i).attr 27 = true → (t.slot i).key = [])
            ∧ (s.woad.op = none → ∀ i, (t.slot i) = if bit (s.slot i).attr 27 = true then { s.slot i with key := [] } else s.slot i)
          (s.tamperLock = true → Completes (.tamper src held) s (fun t => answered t ∧ erased t ∧ t.tamperLock = true ∧ t.boot = s.boot ∧ t.ttime = s.ttime))
            ∧ (s.starting = true → Completes (.tamper src held) s (fun t => answered t ∧ t.tamperLock = true ∧ t.boot.stage = 15 ∧ EventNow 0x6045 sevFatal 0 t ∧ t.ttime = s.ttime))
            ∧ (s.tamperLock = false → s.boot.ready = true → s.pwr.state ≠ 3 →
              (bit (s.reg R.tamperCtrl) 0 = true → Completes (.tamper src held) s (fun t => answered t ∧ erased t ∧ EventNow 0x6020 sevFatal src t ∧ t.boot = s.boot
                  ∧ t.ctrOf R.tamperAlarmCnt = satAdd ctrMax (s.ctrOf R.tamperAlarmCnt) 1 ∧ t.ttime = s.ttime))
                ∧ (bit (s.reg R.tamperCtrl) 0 = false → Completes (.tamper src held) s (fun t => answered t ∧ erased t ∧ kept 0x6020 sevFatal src t ∧ t.ttime = 0
                  ∧ t.boot.stage = 1 ∧ t.reg R.globalResetCause = 3 ∧ t.flows = [] ∧ t.units = [])))
            ∧ (s.tamperLock = false → s.starting = false → s.boot.ready = false ∨ s.pwr.state = 3 → Completes (.tamper src held) s (fun t => answered t ∧ erased t
              ∧ kept 0x6020 sevFatal src t ∧ t.boot = s.boot ∧ t.ttime = s.ttime))))
      ∧ (∀ m, m < 12 → s.writeGate m R.tamperUnlockCtrl = .pass →
        let wrote (t : State) : Prop := ({ t with freeCtr := s.freeCtr, regs := s.regs, sent := s.sent, tamper := s.tamper, twin := s.twin, xbar := s.xbar } : State) = s
        (s.ttime < T.chalFrom → Completes (.chalReq m) s (fun t => t.tamper = { T with status := stBusy } ∧ t.regs = s.regs ∧ wrote t))
          ∧ (T.chalFrom ≤ s.ttime → Completes (.chalReq m) s (fun t => wrote t ∧ (∃ c, c.length = 32 ∧ t.regBytes (R.tamperUnlockChal 0) 8 = c
            ∧ t.tamper = { T with chal := some (c, s.ticksOn 16000), status := stOk })
            ∧ ∀ r, r < R.tamperUnlockChal 0 ∨ R.tamperUnlockChal 0 + 32 ≤ r → t.reg r = s.reg r))
          ∧ (∀ still, Completes (.unlockSubmit m still) s (fun t =>
            (s.unlockOk = false → t.tamper = { T with chal := none, current := still % 128, status := stCheckFail, chalFrom := s.ticksOn 1600 }
                ∧ t.ctrOf R.tamperUnlockFailCnt = satAdd ctrMax (s.ctrOf R.tamperUnlockFailCnt) 1 ∧ EventNow 0x6023 sevWarn 0 t ∧ t.regs = s.regs ∧ t.boot = s.boot)
              ∧ (s.unlockOk = true → still % 128 ≠ 0 → t.tamper = { T with chal := none, current := still % 128, status := stTamper }
                ∧ t.ctrOf R.tamperUnlockFailCnt = satAdd ctrMax (s.ctrOf R.tamperUnlockFailCnt) 1 ∧ t.raised = s.raised ∧ t.regs = s.regs ∧ t.boot = s.boot)
              ∧ (s.unlockOk = true → still % 128 = 0 → t.tamper.latched = false ∧ t.tamper.chal = none ∧ t.reg R.tamperLatch = 0 ∧ bit (t.reg R.tamperCtrl) 31 = false
                ∧ bit (t.reg R.tamperCtrl) 0 = bit (s.reg R.tamperCtrl) 0 ∧ kept 0x6022 sevNotice 0 t ∧ t.boot.stage = 1 ∧ t.reg R.globalResetCause = 3 ∧ t.ttime = 0)
              ∧ (T.chal = none → s.unlockOk = false))))
      ∧ (∀ c t0, T.chal = some (c, t0) → Completes (.challengeExpired false) s (fun t => t = { s.movedTo (max s.ttime t0) with tamper := { T with chal := none } }))
      ∧ (T.chal = none → Completes (.challengeExpired false) s (fun t => t = s)) ∧ (s.saff.chal = none → Completes (.challengeExpired true) s (fun t => t = s))
      ∧ (s.pwr.state ≠ 0 → Completes .vbatLoss s (fun t => t = s))
      ∧ (∀ c t0, s.saff.chal = some (c, t0) → Completes (.challengeExpired true) s (fun t => t = { s.movedTo (max s.ttime t0) with saff := { s.saff with chal := none } }))
      ∧ (s.pwr.state = 0 → Completes .vbatLoss s (fun t => t.woad = { s.woad with tamperKek := [], kekLost := true } ∧ t.pwr = { s.pwr with vbatOk := false } ∧ t.tamper = {}
          ∧ t.aonEvents = [] ∧ (∀ r, t.reg r = if aonAddr r = true then regReset r else s.reg r)
          ∧ ({ t with aonEvents := s.aonEvents, aonTime := s.aonTime, ctr := s.ctr, pwr := s.pwr, regs := s.regs, snap := s.snap, tamper := s.tamper, woad := s.woad } : State) = s))

/-! The non-volatile store. -/

/-- R404 to R412, R414, R417 to R421. -/
def Obligations.SaffronStore : Prop :=
  ∀ (s : State),
    let F := s.saff
    let byte (x : State) (a : Nat) : Byte := Memory.read x.mem.nv a
    let inside (t : State) : Prop := ({ t with ctr := s.ctr, lastRaise := s.lastRaise, mem := s.mem, raised := s.raised, regs := s.regs, saff := s.saff, woad := s.woad } : State) = s
    let wrote (t : State) : Prop := ({ t with freeCtr := s.freeCtr, regs := s.regs, saff := s.saff, sent := s.sent, twin := s.twin, xbar := s.xbar } : State) = s
    let mayWrite (m : Nat) : Prop := (m < 4 ∨ m = 8) ∧ s.tamperLock = false ∧ F.state = 1
    (F.pieces = [] → ∀ bad, Completes (.saffronCommit bad) s (fun t => t = s))
      ∧ (∀ p ps bad, F.pieces = p :: ps → p.fin = .plain → Completes (.saffronCommit bad) s (fun t => t.saff.pieces = ps ∧ t.mem.nvOld = s.mem.nv ∧ t.woad = s.woad
          ∧ t.saff.older = some { map := F.map, spares := F.spares, bp := F.bp } ∧ (∀ a, (∀ q ∈ p.pages, a < 256 * q.1 ∨ 256 * q.1 + 256 ≤ a) → byte t a = byte s a)
          ∧ t.reg R.saffronCommitResult = word (stOk * 256 + p.pages.length % 32)
          ∧ t.ctrOf R.saffronCommitCnt = satAdd ctrMax (s.ctrOf R.saffronCommitCnt) 1 ∧ inside t))
      ∧ (∀ q img ps w, F.pieces = { pages := [(q, img)], worn := w } :: ps → F.spares ≠ [] → Completes (.saffronCommit 0) s (fun t =>
          (∀ k, k < 256 → k < img.length → byte t (256 * q + k) = img.getD k 0) ∧ t.saff.pieces = ps ∧ F.spares.contains (t.saff.phys q) = true))
      ∧ (∀ q img ps w bad, F.pieces = { pages := [(q, img)], worn := w } :: ps → bad < F.spares.length → F.spares.Nodup → Completes (.saffronCommit bad) s (fun t =>
          let gone := if F.worn (F.phys q) < 1000000 then 0 else 1
          t.saff.retired = F.retired + bad + gone ∧ t.ctrOf R.saffronRetiredCnt = t.saff.retired ∧ t.saff.spares.length + bad + gone = F.spares.length
            ∧ t.saff.worn (t.saff.phys q) = F.worn (t.saff.phys q) + 1 ∧ (t.saff.spares.length < 24 → F.spareNoted = false → EventNow 0x7008 sevError 0 t)))
      ∧ (∀ p ps bad, F.pieces = p :: ps → p.pages = [] →
        (∀ t0 i b, p.fin = .record t0 i b → Completes (.saffronCommit bad) s (fun t => (t0, i) ∉ t.saff.ties ∧ (t0, i) ∉ t.saff.lost ∧ t.mem.nv = s.mem.nv
            ∧ bits (t.reg R.saffronRecResult) 31 24 = stOk ∧ bits (t.reg R.saffronRecResult) 17 16 = (if b = true then 2 else 1) ∧ t.woad = s.woad))
          ∧ (∀ i x, s.woad.op = some x → p.fin = .woadA i → Completes (.saffronCommit bad) s (fun t => t.woad.slots = s.woad.slots
            ∧ t.woad.op = (if x.slot = i then some { x with copyA := true } else some x)))
          ∧ (∀ i x, s.woad.op = some x → p.fin = .woadB i → (x.slot ≠ i → Completes (.saffronCommit bad) s (fun t => t.woad = s.woad))
            ∧ (x.slot = i → Completes (.saffronCommit bad) s (fun t => t.slot i = x.new ∧ t.woad.op = none ∧ (∀ k, k ≠ i → t.slot k = s.slot k)
              ∧ (x.op ≠ 0 → t.reg R.woadCmdResult = word (stOk * 2 ^ 24 + if x.op = 5 then 0 else x.new.kcv))
              ∧ (x.op = 3 → EventNow 0x6002 sevNotice i t ∧ t.woad.shadow = none) ∧ (x.op = 5 → EventNow 0x6004 sevNotice i t) ∧ (x.op ≠ 3 → t.woad.shadow = s.woad.shadow))))
          ∧ (∀ v, p.fin = .bp v → Completes (.saffronCommit bad) s (fun t => t.saff.bp = v ∧ EventNow 0x7009 sevNotice 0 t ∧ t.woad = s.woad))
          ∧ (p.fin = .reseal → Completes (.saffronCommit bad) s (fun t => t.saff.prevSeal = none ∧ t.woad = s.woad)))
      ∧ (∀ m v, m < 12 → s.writeGate m R.saffronWrData = .pass →
        let a := (s.reg R.saffronWrAddr).toNat
        let p := a / 256
        let bad : Prop := ¬ mayWrite m ∨ p < 1024 ∨ 2048 ≤ p ∨ bpProtects F.bp p = true
        (bad → Completes (.wrData m v) s (WriteRejected m R.saffronWrData s))
          ∧ (¬ bad → F.spares.length < 24 → Completes (.wrData m v) s (fun t => t.reg R.saffronCommitResult = word (stOverrun * 256) ∧ t.saff = F ∧ wrote t))
          ∧ (¬ bad → 24 ≤ F.spares.length → Completes (.wrData m v) s (fun t =>
            let u := s.nvDrain
            let w := if Tbl.find u.saff.images p = none ∧ u.pieceLimit ≤ u.saff.images.length then u.postGather.nvDrain else u
            let img := (Tbl.find w.saff.images p).getD (w.nvPage p)
            Tbl.get [] t.saff.images p = img.take (a % 256) ++ leBytes 4 v.toNat ++ img.drop (a % 256 + 4) ∧ (∀ q, q ≠ p → Tbl.get [] t.saff.images q = Tbl.get [] w.saff.images q)
              ∧ t.saff.pieces = [] ∧ t.reg R.saffronWrAddr = word (a + 4) ∧ (∀ r, r ≠ R.saffronWrAddr → t.reg r = w.reg r) ∧ t.mem = w.mem ∧ t.woad = w.woad)))
      ∧ (∀ m corrected, m < 12 →
        let a := (s.reg R.saffronRdAddr).toNat % 0x80000
        (s.readGate m R.saffronRdData = .pass → Completes (.rdDataRead m corrected) s (fun t =>
            t.sent = s.sent ++ [{ kind := "READ", via := m, dst := R.saffronRdData, args := [Memory.readLe s.mem.nv a 4] }]
              ∧ t.reg R.saffronRdAddr = word ((a + 4) % 0x80000) ∧ t.reg R.saffronRdStatus = word (if F.bad.contains (a / 64) = true then stCheckFail else stOk)
              ∧ (F.bad.contains (a / 64) = true → EventNow 0x7006 sevError 0 t ∧ t.ctrOf R.saffronEccUncorrCnt = satAdd ctrMax (s.ctrOf R.saffronEccUncorrCnt) 1)
              ∧ (F.bad.contains (a / 64) = false → corrected = true → t.ctrOf R.saffronEccCorrCnt = satAdd ctrMax (s.ctrOf R.saffronEccCorrCnt) 1)
              ∧ ({ t with ctr := s.ctr, lastRaise := s.lastRaise, raised := s.raised, regs := s.regs, sent := s.sent, xbar := s.xbar } : State) = s))
          ∧ (s.readGate m R.saffronRdData = .decode → Completes (.rdDataRead m corrected) s (fun t =>
            t.sent = s.sent ++ [{ kind := "READ_ERR", via := m, dst := R.saffronRdData, args := [0xFFFFFFFF] }] ∧ t.reg R.saffronRdAddr = s.reg R.saffronRdAddr ∧ t.saff = F)))
      ∧ (∀ m v, m < 12 → s.writeGate m R.saffronRecCmd = .pass →
        let typ := bits v 15 0
        let i := bits v 23 16
        let n := (s.reg R.saffronRecLen).toNat
        let form (op : Nat) : Prop := mayWrite m ∧ bits v 31 28 = op ∧ bits v 27 24 = 0
        let ends (st : Nat) (c : Instr) : Prop := Completes c s (fun t => t.reg R.saffronRecResult = word (st * 2 ^ 24) ∧ (∀ r, r ≠ R.saffronRecResult → t.reg r = s.reg r) ∧ t.saff = F ∧ wrote t)
        (¬ form 1 → Completes (.recCmdWrite m v) s (WriteRejected m R.saffronRecCmd s)) ∧ (¬ form 2 → Completes (.recCmdRead m v) s (WriteRejected m R.saffronRecCmd s))
          ∧ (form 1 → (typ < 0x100 ∨ 0x13F < typ ∨ i ≠ 0 ∨ s.isStandby = true → ends stDenied (.recCmdWrite m v))
            ∧ (0x100 ≤ typ → typ ≤ 0x13F → i = 0 → s.isStandby = false → (240 < n → ends stRange (.recCmdWrite m v))
              ∧ (n ≤ 240 → F.spares.length < 24 → ends stOverrun (.recCmdWrite m v))
              ∧ (n ≤ 240 → 24 ≤ F.spares.length → F.bp = 3 → ends stDenied (.recCmdWrite m v))
              ∧ (n ≤ 240 → 24 ≤ F.spares.length → F.bp ≠ 3 → F.pieces ≠ [] → ends stBusy (.recCmdWrite m v))
              ∧ (n ≤ 240 → 24 ≤ F.spares.length → F.bp ≠ 3 → F.pieces = [] → Completes (.recCmdWrite m v) s (fun t => t.saff.images = [] ∧ t.regs = s.regs ∧ wrote t
                ∧ ∃ q ∈ t.saff.pieces, ∃ toB, q.fin = .record typ 0 toB))))
          ∧ (form 2 → (F.pieces ≠ [] → ends stBusy (.recCmdRead m v))
            ∧ (F.pieces = [] → Completes (.recCmdRead m v) s (fun t => (∀ copy pay seq x, s.selectRecord typ i = (copy, pay, seq, x) →
              (copy = 0 → t.reg R.saffronRecResult = word (stCheckFail * 2 ^ 24))
                ∧ (copy ≠ 0 → t.reg R.saffronRecSeq = word seq ∧ (∀ k, k < 256 → t.reg (R.saffronRecBuf 0 + 4 * k) = (bytesWords (pay.take 1024) 256).getD k 0)
                  ∧ t.reg R.saffronRecResult = word (stOk * 2 ^ 24 + (x.saff.ties.contains (typ, i)).toNat * 2 ^ 18 + copy * 2 ^ 16 + pay.length % 1024))) ∧ t.mem = s.mem))))
      ∧ (∀ m v, m < 12 → s.writeGate m R.saffronCommit = .pass →
        (¬ mayWrite m → Completes (.registerWrite m R.saffronCommit v) s (WriteRejected m R.saffronCommit s))
          ∧ (mayWrite m → bit v 0 = true → s.nvDrain.saff.images = [] → Completes (.registerWrite m R.saffronCommit v) s (fun t => t.reg R.saffronCommitResult = word (stOk * 256)
            ∧ t.saff = s.nvDrain.saff ∧ t.mem = s.nvDrain.mem))
          ∧ (mayWrite m → bit v 0 = true → s.nvDrain.saff.images ≠ [] → Completes (.registerWrite m R.saffronCommit v) s (fun t => t.saff.images = []
            ∧ t.saff.pieces = [{ pages := s.nvDrain.saff.images }] ∧ t.mem = s.nvDrain.mem)))
      ∧ (∀ m, m < 12 → s.writeGate m R.saffronBpCtrl = .pass →
        (¬ mayWrite m → Completes (.bpChalReq m) s (WriteRejected m R.saffronBpCtrl s) ∧ Completes (.bpSubmit m) s (WriteRejected m R.saffronBpCtrl s))
          ∧ (mayWrite m → s.ttime < F.chalFrom → Completes (.bpChalReq m) s (fun t => t.reg R.saffronBpStatus = word (stBusy * 256) ∧ t.saff = F ∧ wrote t))
          ∧ (mayWrite m → F.chalFrom ≤ s.ttime → Completes (.bpChalReq m) s (fun t => wrote t
            ∧ ∃ c, c.length = 32 ∧ t.saff = { F with chal := some (c, s.ticksOn 16000) } ∧ t.regBytes (R.saffronBpChal 0) 8 = c))
          ∧ (mayWrite m → F.chal.all (fun q => decide (q.2 ≤ s.ttime)) = true ∨ 4 ≤ leOf (s.regBytes (R.saffronBpMsg 0) 40) 0x30 4 → Completes (.bpSubmit m) s (fun t => t.reg R.saffronBpStatus = word (stCheckFail * 256)
            ∧ t.saff = { F with chal := none, chalFrom := s.ticksOn 1600 } ∧ EventNow 0x700A sevWarn 0 t ∧ t.mem = s.mem))
          ∧ (mayWrite m → ∀ c t0, F.chal = some (c, t0) → s.ttime < t0 →
            let msg := s.regBytes (R.saffronBpMsg 0) 40
            let v := leOf msg 0x30 4
            v < 4 → Completes (.bpSubmit m) s (fun t => t.saff.chal = none ∧ (s.ownerMessageOk msg 0x31425054 c v = true → t.saff.bp = v ∧ t.saff.pieces = []
              ∧ t.reg R.saffronBpStatus = word (stOk * 256) ∧ t.saff.images = [] ∧ EventNow 0x7009 sevNotice 0 t ∧ ∀ a, byte t a = byte s.nvDrain.postGather.nvDrain a)
              ∧ (s.ownerMessageOk msg 0x31425054 c v = false → t.saff.bp = F.bp ∧ t.reg R.saffronBpStatus = word (stCheckFail * 256) ∧ t.mem = s.mem))))
      ∧ (F.state ≠ 1 → (∀ corrected bad, Completes (.nvScrub corrected bad) s (fun t => t = s)) ∧ Completes .nvWearLevel s (fun t => t = s) ∧ Completes .sealingKeyReseal s (fun t => t = s))
      ∧ (F.prevSeal = none → Completes .sealingKeyReseal s (fun t => t = s))
      ∧ (let u := s.nvDrain
        let G := u.saff
        let contents (t : State) : Prop := (∀ a, byte t a = byte u a) ∧ ({ t.mem with nv := u.mem.nv, nvOld := u.mem.nvOld } : Mems) = u.mem
        let inside (t : State) : Prop := ({ t with ctr := u.ctr, lastRaise := u.lastRaise, mem := u.mem, raised := u.raised, regs := u.regs, saff := u.saff } : State) = u
        let es := u.faultQ.take 112
        let n := (es.length + 6) / 7
        (F.state = 1 → ∀ corrected bad, Completes (.nvScrub corrected bad) s (fun t => contents t ∧ inside t ∧ t.saff.pieces = []
            ∧ (∀ k ∈ bad, EventNow 0x7006 sevError 0 t ∧ ((∀ c ∈ corrected, c / 4 ≠ k / 4) → t.saff.bad.contains k = true))
            ∧ (corrected ≠ [] → t.ctrOf R.saffronEccCorrCnt = satAdd ctrMax (u.ctrOf R.saffronEccCorrCnt) corrected.length)))
          ∧ (F.state = 1 → F.wearMax ≤ F.wearMin + 10000 → Completes .nvWearLevel s (fun t => t = s))
          ∧ (F.state = 1 → F.wearMin + 10000 < F.wearMax → G.spares ≠ [] → Completes .nvWearLevel s (fun t => contents t ∧ inside t ∧ t.saff.pieces = []
            ∧ G.spares.contains (t.saff.phys G.coldest) = true ∧ t.ctrOf R.saffronCommitCnt = satAdd ctrMax (u.ctrOf R.saffronCommitCnt) 1))
          ∧ (es = [] ∨ G.state = 0 ∨ G.state = 4 → Completes .faultLogCommit s (fun t => t = u))
          ∧ (es ≠ [] → G.state ≠ 0 → G.state ≠ 4 → n ≤ G.spares.length → G.spares.Nodup → Completes .faultLogCommit s (fun t => t.faultQ = u.faultQ.drop 112
            ∧ t.saff.logHead = (G.logHead + n) % 232 ∧ t.saff.logSeq = G.logSeq + n ∧ t.saff.pieces = []
            ∧ (∀ a, (∀ j, j < n → a < 256 * (768 + (G.logHead + j) % 232) ∨ 256 * (768 + (G.logHead + j) % 232) + 256 ≤ a) → byte t a = byte u a)
            ∧ ∀ j, j < n → ∀ k, k < 256 → byte t (256 * (768 + (G.logHead + j) % 232) + k) = (logPage (G.logSeq + j + 1) ((es.drop (7 * j)).take 7)).getD k 0))
          ∧ (∀ k, F.state = 1 → F.prevSeal = some k → Completes .sealingKeyReseal s (fun t => t.saff.prevSeal = none ∧ t.saff.pieces = [] ∧ inside t
            ∧ ∀ a, a < 2048 ∨ 16384 ≤ a → a < 180224 ∨ 184320 ≤ a → byte t a = byte u a)))
      ∧ (∀ bad, F.state ≠ 0 → Completes (.nvReplay bad) s (fun t => t = s))
      ∧ (∀ bad, F.state = 0 → Completes (.nvReplay bad) s (fun t => t.saff.state = 1 ∧ t.saff.pieces = [] ∧ t.saff.images = [] ∧ t.saff.torn = false
          ∧ (F.torn = true → EventNow 0x7004 sevNotice 0 t) ∧ t.boot = { s.boot with stage := if s.boot.stage = 3 then 4 else s.boot.stage }
          ∧ (∀ i, i < 232 → t.logPageSeq (768 + i) ≤ t.saff.logSeq) ∧ (t.saff.logSeq = 0 → t.saff.logHead = 0)
          ∧ (t.saff.logSeq ≠ 0 → ∃ i, i < 232 ∧ t.logPageSeq (768 + i) = t.saff.logSeq ∧ t.saff.logHead = (i + 1) % 232)
          ∧ (bad = false ∨ F.older = none → t.mem = s.mem ∧ t.saff.map = F.map ∧ t.saff.spares = F.spares ∧ t.saff.bp = F.bp)
          ∧ (∀ o, bad = true → F.older = some o → t.mem = { s.mem with nv := s.mem.nvOld } ∧ t.saff.map = o.map ∧ t.saff.spares = o.spares ∧ t.saff.bp = o.bp)))

/-! The control crossbar's ends and the host's ways in. -/

/-- R428 to R433, R437 to R441. Whether the host lets the function master the bus is a free value (log entry 15). -/
def Obligations.HostWaysIn : Prop :=
  ∀ (s : State),
    let X := s.xbar
    let none_ : XbarXact := { addr := 0 }
    let counted (a : Nat) (t : State) : Prop := t.ctrOf a = satAdd ctrMax (s.ctrOf a) 1
    let erred (resp m a : Nat) (write : Bool) (t : State) : Prop := counted (R.xbarMasterErrCnt m) t ∧ t.reg R.xbarErrAddr = word a
      ∧ t.reg R.xbarErrInfo = word (resp * 2 ^ 28 + m * 2 ^ 16 + targetOf a * 256 + flag write 0)
    let gone (m : Nat) (t : State) : Prop := Tbl.get Xact.none t.xbar.xacts m = Xact.none ∧ counted (R.xbarMasterResetCnt m) t ∧ EventNow 0x8030 sevNotice 0 t
    let waiting (k : Nat) (q : Nat × Xact) : Prop := q.2.target = k ∧ q.2.granted = false
    let alone (m k : Nat) : Prop := ∀ q ∈ X.xacts, q.1 ≠ m → ¬ waiting k q
    let onlyXbar (t : State) : Prop := ({ t with ctr := s.ctr, lastRaise := s.lastRaise, raised := s.raised, regs := s.regs, xbar := s.xbar } : State) = s
    (∀ m x, m < 12 → Tbl.find X.xacts m = some x →
        (m < 4 ∨ 8 ≤ m → alone m x.target → Completes (.xbarTimeout m none_) s (fun t => gone m t ∧ erred 3 m x.addr x.write t ∧ onlyXbar t))
          ∧ (4 ≤ m → m ≤ 7 → alone m x.target → Completes (.xbarTimeout m none_) s (fun t => gone m t ∧ erred 3 m x.addr x.write t
            ∧ t.ttime = max s.ttime (x.issued + (if x.write = true ∧ x.target = 5 then 512000 else 32000)) ∧ t.mem = s.mem
            ∧ (t.unit (124 + m)).stalled = false ∧ (t.unit (124 + m)).status = stTimeout ∧ ∀ w, w ≠ 124 + m → t.unit w = s.unit w))
          ∧ (m < 4 ∨ 8 ≤ m → alone m x.target → Completes (.xbarMasterReset m none_) s (fun t => gone m t ∧ t.xbar.inReset.testBit m = true ∧ Tbl.get 0 t.capT m = 0
            ∧ (∀ p ∈ t.xbar.parked, p.2 ≠ m ∨ m = 0) ∧ t.mem = s.mem ∧ t.regs = s.regs))
          ∧ (∀ w y, m < 4 ∨ 8 ≤ m → 4 ≤ w → w ≤ 7 → Tbl.find X.xacts w = some y → waiting x.target (w, y) → s.xbarBusy x.target = x.granted → (∀ q ∈ X.xacts, q.1 ≠ m → q.2.target = x.target → q.1 = w) →
            Completes (.xbarTimeout m none_) s (fun t => Tbl.find t.xbar.xacts w = none ∧ Tbl.find t.xbar.xacts m = none ∧ (t.unit (124 + w)).stalled = false)
              ∧ Completes (.xbarMasterReset m none_) s (fun t => Tbl.find t.xbar.xacts w = none ∧ Tbl.find t.xbar.xacts m = none ∧ (t.unit (124 + w)).stalled = false)))
      ∧ (∀ m, m < 12 → Tbl.find X.xacts m = none →
        Completes (.xbarTimeout m none_) s (fun t => t = s)
          ∧ (m < 4 ∨ 8 ≤ m → Completes (.xbarMasterReset m none_) s (fun t => t.xbar.inReset.testBit m = true ∧ t.xbar.xacts = X.xacts ∧ Tbl.get 0 t.capT m = 0
            ∧ (∀ p ∈ t.frozen, p.1 / 2 ^ 32 ≠ m) ∧ ({ t with capT := s.capT, frozen := s.frozen, xbar := s.xbar } : State) = s))
          ∧ (∀ x : XbarXact, m < 4 ∨ 8 ≤ m → x.writes ≠ [] ∨ x.readBeats ≠ 0 → alone m (targetOf x.addr) →
            let taken := (x.writes.take x.delivered).flatten
            let kept (c : Instr) (extra : State → Prop) : Prop :=
              (x.granted = false ∨ x.writes = [] ∨ x.delivered = 0 → Completes c s (fun t => gone m t ∧ extra t ∧ t.mem = s.mem ∧ t.units = s.units ∧ t.outs = s.outs ∧ t.flows = s.flows))
                ∧ (x.granted = true → targetOf x.addr = 22 → (∀ q ∈ taken, targetOf q.1 = 22 ∧ sramReserved q.1 = false) → Completes c s (fun t => gone m t ∧ extra t
                  ∧ t.mem = { s.mem with sram := taken.foldl (fun b q => Memory.write b (q.1 - 0x08000000) q.2) s.mem.sram } ∧ t.units = s.units))
                ∧ (∀ bs rest, x.granted = true → memTarget (targetOf x.addr) = false → x.writes = bs :: rest → 0 < x.delivered → x.addr = R.globalScratch 1 → s.writeGate m x.addr = .pass →
                  Completes c s (fun t => gone m t ∧ extra t ∧ t.reg x.addr = word (ofLeBytes (bs.map Prod.snd)) ∧ t.mem = s.mem))
            kept (.xbarTimeout m x) (erred 3 m x.addr (x.writes ≠ [])) ∧ kept (.xbarMasterReset m x) (fun t => t.xbar.inReset.testBit m = true ∧ Tbl.get 0 t.capT m = 0)))
      ∧ (∀ m x, 12 ≤ m → Completes (.xbarTimeout m x) s (fun t => t = s) ∧ Completes (.xbarMasterReset m x) s (fun t => t = s))
      ∧ (∀ k, (s.xbarBusy k = true → s.xbarArbitrate k = s) ∧ (alone 12 k → s.xbarNext k = none)
        ∧ (∀ w, Tbl.wf Xact.none X.xacts = true → s.xbarNext k = some w → ∃ q ∈ X.xacts, q.1 = w ∧ waiting k q
          ∧ (∀ r ∈ X.xacts, waiting k r → r.2.classAt s.ttime ≤ q.2.classAt s.ttime)
          ∧ (∀ r ∈ X.xacts, waiting k r → r.2.classAt s.ttime = q.2.classAt s.ttime →
            if Tbl.get 0 X.parked k < w then ¬ (Tbl.get 0 X.parked k < r.1 ∧ r.1 < w) else r.1 ≤ Tbl.get 0 X.parked k ∧ w ≤ r.1)))
      ∧ (∀ x : Xact, x.classAt s.ttime = if x.issued + 4096 ≤ s.ttime then 3 else x.cls)
      ∧ (∀ m, 4 ≤ m → m ≤ 7 → (s.unit (124 + m)).run ≠ .run → (s.unit (124 + m)).run ≠ .wait → Completes (.xbarMasterReset m none_) s (fun t => t = s))
      ∧ (∀ m, 4 ≤ m → m ≤ 7 → (s.unit (124 + m)).run = .run ∨ (s.unit (124 + m)).run = .wait → (s.ce (m - 4)).exec.isSome = true →
          Completes (.xbarMasterReset m none_) s (fun t => (t.ce (m - 4)).exec = none ∧ (t.unit (124 + m)).run = .idle ∧ t.ttime = s.ttime))
      ∧ (∀ m a write badSize, m < 12 → a < 2 ^ 32 →
        let g := if write then s.writeGate m a else s.readGate m a
        (g = .decode ∨ (badSize = true ∧ (g = .pass ∨ g = .reject)) → Completes (.xbarDecode m a write badSize) s (fun t => erred 2 m a write t
            ∧ (Tbl.find s.lastRaise (0x8032 * 2 ^ 20 + m) = none → EventNow 0x8032 sevNotice m t) ∧ (∀ r, r ≠ R.xbarErrAddr → r ≠ R.xbarErrInfo → t.reg r = s.reg r)
            ∧ ({ t with ctr := s.ctr, lastRaise := s.lastRaise, raised := s.raised, regs := s.regs } : State) = s))
          ∧ (g = .denied ∨ g = .ignored ∨ (badSize = false ∧ g ≠ .decode) → Completes (.xbarDecode m a write badSize) s (fun t => t = s)))
      ∧ (∀ m a write badSize, 12 ≤ m ∨ 2 ^ 32 ≤ a → Completes (.xbarDecode m a write badSize) s (fun t => t = s))
      ∧ (∀ l : PcieLink,
        let held : Prop := l.perst.all (s.filtered 0) = true
        (¬ held → Completes (.pcieReset none_ l) s (fun t => t = s))
          ∧ (∀ x, held → Tbl.find X.xacts 8 = some x → alone 8 x.target → Completes (.pcieReset none_ l) s (fun t => Tbl.find t.xbar.xacts 8 = none ∧ counted (R.xbarMasterResetCnt 8) t
            ∧ EventNow 0x8030 sevNotice 0 t ∧ t.reg R.xbarBar0Win = 1 ∧ Tbl.get 0 t.capT 8 = 0 ∧ t.mem = s.mem))
          ∧ (held → Tbl.find X.xacts 8 = none → Completes (.pcieReset none_ l) s (fun t => t.reg R.xbarBar0Win = 1 ∧ (∀ v, v < 64 → t.reg (R.msixTab (4 * v + 3)) = 1)
          ∧ t.xbar.pcieUp = l.up ∧ t.xbar.pcieWidth = (if l.up = true then l.width % 16 else 0) ∧ t.xbar.pcieRate = (if l.up = true then l.rate % 16 else 0)
          ∧ t.xbar.inReset.testBit 8 = !l.up ∧ Tbl.get 0 t.capT 8 = 0 ∧ counted R.xbarPcieResetCnt t ∧ t.mem = s.mem
          ∧ ({ t with capT := s.capT, ctr := s.ctr, frozen := s.frozen, regs := s.regs, xbar := s.xbar } : State) = s)))
      ∧ (∀ v, 64 ≤ v → Completes (.msixUnmask v) s (fun t => t = s))
      ∧ (∀ v, v < 64 → s.writeGate 8 (R.msixTab (4 * v + 3)) ≠ .pass → Completes (.msixUnmask v) s (fun t => t.msixMasked v = s.msixMasked v ∧ t.msixPending v = s.msixPending v ∧ t.sent = s.sent))
      ∧ (∀ v, v < 64 → s.writeGate 8 (R.msixTab (4 * v + 3)) = .pass → s.msixMasked v = true → Completes (.msixUnmask v) s (fun t => t.msixMasked v = false
          ∧ (s.msixPending v = true → s.busMaster = true → t.msixPending v = false ∧ t.sent = s.sent ++ [{ kind := "MSIX", via := v }])
          ∧ (s.msixPending v = false ∨ s.busMaster = false → t.sent = s.sent ∧ t.msixPending v = s.msixPending v)
          ∧ ({ t with regs := s.regs, sent := s.sent, xbar := s.xbar } : State) = s))
      ∧ (∀ f : SmbFrame,
        let wrong : Prop := f.badPec = true ∨ f.badForm = true
        let sends (t : State) (kind : String) (code : Nat) (bs : List Nat) : Prop := t.sent = s.sent ++ [{ kind := kind, via := code, dst := X.smbAddr, args := bs }]
        let smb (code : Nat) (c : Instr) : Prop := (s.pwr.state = 0 → Completes c s (fun t => t = s))
          ∧ (s.pwr.state ≠ 0 → wrong → Completes c s (fun t => sends t "SMB_NACK" code [] ∧ counted R.xbarSmbErrCnt t ∧ ({ t with ctr := s.ctr, sent := s.sent } : State) = s))
        let reads (code : Nat) (c : Instr) (bs : List Nat) : Prop := smb code c ∧ (s.pwr.state ≠ 0 → ¬ wrong → Completes c s (fun t => sends t "SMB" code bs ∧ ({ t with sent := s.sent } : State) = s))
        let nack (code : Nat) (c : Instr) : Prop := Completes c s (fun t => sends t "SMB_NACK" code [] ∧ ({ t with sent := s.sent } : State) = s)
        reads 0x01 (.ident f) (leNats 4 (0x54590020 + s.variant) ++ leNats 4 (s.globalStatus 0x100))
          ∧ reads 0x02 (.smbState f) (leNats 2 s.smbStateWord) ∧ reads 0x03 (.tempMax f) (leNats 2 s.smbTemp)
          ∧ reads 0x04 (.inputW f) (leNats 2 (if s.pwr.state = 4 then 0xFFFF else s.regBits R.pwrInputW 15 0))
          ∧ (s.pwr.state ≠ 4 → reads 0x05 (.health f) (leNats 2 s.smbHealth)) ∧ (s.pwr.state = 4 → ¬ wrong → nack 0x05 (.health f))
          ∧ smb 0x10 (.smbArm f) ∧ smb 0x11 (.powerOff f) ∧ smb 0x12 (.wake f)
          ∧ (s.pwr.state ≠ 0 → ¬ wrong →
            (f.data = 0x5A → Completes (.smbArm f) s (fun t => sends t "SMB" 0x10 [] ∧ t.xbar = { X with smbArm := some s.ttime } ∧ ({ t with sent := s.sent, xbar := s.xbar } : State) = s))
              ∧ (f.data ≠ 0x5A → nack 0x10 (.smbArm f))
              ∧ (∀ t0, X.smbArm = some t0 → s.ttime ≤ t0 + 160000000 → f.data = 0xA5 → s.powered = true → s.pwr.shut = none → s.pwr.ride = false → s.pwr.upStep = none →
                Completes (.powerOff f) s (fun t => sends t "SMB" 0x11 [] ∧ t.xbar = { X with smbArm := none }
                  ∧ ShutBegun s.pwr 3 { s with sent := t.sent, xbar := t.xbar } t))
              ∧ (X.smbArm.all (fun t0 => decide (t0 + 160000000 < s.ttime)) = true ∨ f.data ≠ 0xA5 ∨ s.powered = false → nack 0x11 (.powerOff f))
              ∧ (∀ t0, X.smbArm = some t0 → s.ttime ≤ t0 + 160000000 → f.data = 0xA5 → s.powered = true →
                (s.pwr.shut.isSome = true → Completes (.powerOff f) s (fun t => sends t "SMB" 0x11 [] ∧ ({ t with sent := s.sent, xbar := s.xbar } : State) = s))
                  ∧ (s.pwr.shut = none → s.pwr.ride = true → Completes (.powerOff f) s (fun t => ShutBegun s.pwr s.pwr.cause { s with sent := t.sent, xbar := t.xbar } t))
                  ∧ (s.pwr.shut = none → s.pwr.ride = false → s.pwr.upStep.isSome = true → Completes (.powerOff f) s (RailsDown s)))
              ∧ (f.data = 0xA5 → s.pwr.state = 4 → Completes (.wake f) s (fun t => sends t "SMB" 0x12 [] ∧ ({ t with pwr := s.pwr, sent := s.sent } : State) = s
                ∧ (s.pwr.needEdge = true → t.pwr = s.pwr)
                ∧ (s.pwr.needEdge = false → s.pwr.heldCold = false → s.pwr.upStep = none → s.pwr.acOk = true ∨ s.pwr.dcOk = true → s.pwr.shut = none →
                  t.pwr.upStep = some 2 ∧ t.pwr.state = 8)))
              ∧ (f.data ≠ 0xA5 ∨ s.pwr.state ≠ 4 → nack 0x12 (.wake f))))
      ∧ (s.pwr.state = 0 → Completes .smbClockLowTimeout s (fun t => t = s))
      ∧ (s.pwr.state ≠ 0 → Completes .smbClockLowTimeout s (fun t => t.xbar = { X with smbArm := none } ∧ counted R.xbarSmbTimeoutCnt t ∧ ({ t with ctr := s.ctr, xbar := s.xbar } : State) = s))
      ∧ (∀ len errs reply, (∀ a : Option Nat, 255 < len ∨ s.boot.stage < 6 ∨ 13 < s.boot.stage → Completes (.uartLineRx len errs reply a) s (fun t =>
            t.ctrOf R.xbarUartErrCnt = satAdd ctrMax (s.ctrOf R.xbarUartErrCnt) errs ∧ ({ t with ctr := s.ctr } : State) = s))
          ∧ (len ≤ 255 → 6 ≤ s.boot.stage → s.boot.stage ≤ 13 →
            let fits := min reply (4096 - s.uartHeld)
            Completes (.uartLineRx len errs reply none) s (fun t => t.ctrOf R.xbarUartErrCnt = satAdd ctrMax (s.ctrOf R.xbarUartErrCnt) errs
              ∧ (∀ w, w ≠ R.xbarUartErrCnt → w ≠ R.xbarUartDropCnt → t.ctrOf w = s.ctrOf w)
              ∧ t.ctrOf R.xbarUartDropCnt = satAdd ctrMax (s.ctrOf R.xbarUartDropCnt) (reply - fits)
              ∧ t.xbar = { X with uartEnd := max X.uartEnd (s.ttime * 115200) + fits * (10 * clkHz) } ∧ ({ t with ctr := s.ctr, xbar := s.xbar } : State) = s))
          ∧ (∀ a, len ≤ 255 → 6 ≤ s.boot.stage → s.boot.stage ≤ 13 → s.readGate 0 a = .decode → Completes (.uartLineRx len errs reply (some a)) s (fun t =>
              t.sent = s.sent ++ [{ kind := "READ_ERR", via := 0, dst := a, args := [0xFFFFFFFF] }] ∧ erred 2 0 a false t ∧ t.mem = s.mem)))
      ∧ (∀ code rstLow write a v,
        let listed : Prop := code = 1 ∨ code = 2 ∨ code = 0x20 ∨ (3 ≤ code ∧ code ≤ 5 ∧ rstLow = true)
        (code = 1 → Completes (.tapXbarAccess code rstLow write a v) s (fun t => t.sent = s.sent ++ [{ kind := "TDO", via := 1, args := [0x254593CD] }] ∧ ({ t with sent := s.sent } : State) = s))
          ∧ ((¬ listed ∨ (2 ≤ code ∧ code ≤ 5)) ∨ (code = 0x20 ∧ 2 ^ 32 ≤ a) → Completes (.tapXbarAccess code rstLow write a v) s (fun t => t = s))
          ∧ (code = 0x20 → a < 2 ^ 32 →
            (s.tamperLock = true ∨ bit (s.reg R.xbarTapCtrl) 1 = false → Completes (.tapXbarAccess code rstLow true a v) s (fun t => erred 2 11 a true t ∧ t.mem = s.mem ∧ t.units = s.units))
              ∧ (s.tamperLock = true ∨ bit (s.reg R.xbarTapCtrl) 0 = false → Completes (.tapXbarAccess code rstLow false a v) s (fun t => erred 2 11 a false t ∧ t.mem = s.mem
                ∧ t.sent = s.sent ++ [{ kind := "READ_ERR", via := 11, dst := a, args := [0xFFFFFFFF] }]))
              ∧ exec (.tapXbarAccess code rstLow true a v) s = exec (.registerWrite 11 a v) s))

/-! Health, events and derating. -/

/-- R449 to R451, R490; the bit of a stack group in PD_SHED and the wait for a rising domain: log entry 62. -/
def Obligations.SheddingAndHolds : Prop :=
  ∀ (s : State),
    let H := s.health
    let from_ := s.shedFrom
    let due := match H.lastStep with | some t => ticksAfter t 16 | none => tickAfter s.ttime
    let at_ := s.movedTo (max s.ttime due)
    let runs : Prop := s.shedCause = true ∧ s.powered = true ∧ s.pwr.shut = none ∧ s.pwr.ride = false ∧ H.exhausted = false
    (¬ runs → Completes .shed s (fun t => t = s))
      ∧ (runs →
        (s.nextShed (128 - from_) from_ = none → Completes .shed s (fun t => t.health = { H with exhausted := true }
            ∧ EventNow 0xB012 sevError 0 t ∧ ({ t with health := s.health, raised := s.raised } : State) = at_))
          ∧ (∀ i, s.nextShed (128 - from_) from_ = some i →
            let w := s.reg (R.hlthShed i)
            let u := bits w 6 0
            let rising : Prop := (bits w 15 12 = 1 ∨ bits w 15 12 = 3) ∧ at_.domGoal.testBit (shedDomain (bits w 15 12) u) = true ∧ s.domIsOn (shedDomain (bits w 15 12) u) = false
            (rising → Completes .shed s (fun t => t = at_))
            ∧ (¬ rising → Completes .shed s (fun t => t.ttime = at_.ttime ∧ t.health = { H with applied := i :: H.applied, lastStep := some due, calmT := none } ∧ EventNow 0xB010 sevWarn i t
              ∧ t.ctrOf R.hlthShedCnt = satAdd ctrMax (s.ctrOf R.hlthShedCnt) 1 ∧ (bits w 15 12 ≠ 4 → t.mem = s.mem) ∧ t.shedBits.testBit (shedDomain (bits w 15 12) u) = true
              ∧ (bits w 15 12 ≠ 2 → t.pwr.domShed.testBit (shedDomain (bits w 15 12) u) = true ∧ t.domIsOn (shedDomain (bits w 15 12) u) = false)
              ∧ (bits w 15 12 = 1 → t.poolShed.testBit u = true ∧ ∀ n ∈ sliceOuts u, (t.out n).pool ≠ .granted)
              ∧ (bits w 15 12 = 2 → t.pwr = s.pwr ∧ ∀ k, k < 4 → t.rateCap (4 * u + k) = s.rateCap (4 * u + k) - 1)
              ∧ (bits w 15 12 = 3 → (t.port u).shedHold = true ∧ (t.port u).txOff = true ∧ (∀ n, (t.out n).scanning = (s.out n).scanning)
                ∧ (∀ f ∈ s.flowsOn u, (t.flow f).refOk = false) ∧ ∀ k, k < 4 → t.link (32 + 4 * u + k) = Link.reset)
              ∧ (bits w 15 12 = 4 → t.inSet u = false ∧ t.cxlRebuild = true ∧ (t.cxPort u).link = cxDown)))))
      ∧ (∀ m v, s.monHere m = true → s.pwr.upStep = none →
        let x := s.mon m
        let t := s.monSample m v
        (sampleOk m v = true → (t.mon m).samples = (v :: x.samples).take 8 ∧ (t.mon m).discards = 0 ∧ (x.failed = false → (t.mon m).failed = false)
            ∧ (x.failed = true → (t.mon m).failed = decide (x.accepts + 1 < 8)))
          ∧ (sampleOk m v = false → (t.mon m).samples = x.samples ∧ t.ctrOf (R.hlthMonDiscardCnt m) = satAdd ctrMax (s.ctrOf (R.hlthMonDiscardCnt m)) 1
            ∧ (t.mon m).failed = (x.failed || decide (7 ≤ x.discards)) ∧ (x.failed = false → 7 ≤ x.discards → EventNow 0xB005 sevError m t)))
      ∧ (s.monHere 30 = true → (s.deratingTick).health.ceiling = (if (s.mon 30).failed = true ∧ (s.mon 31).failed = true then 200
          else match s.baseplate with | some x => ceilingAt x | none => H.ceiling))
      ∧ (∀ i fuel, i + fuel ≤ 128 → s.nextShed fuel i = none ∨ ∃ k, s.nextShed fuel i = some k ∧ i ≤ k ∧ s.canShed (s.reg (R.hlthShed k)) = true
          ∧ ∀ j, i ≤ j → j < k → bits (s.reg (R.hlthShed j)) 15 12 ≠ 0 ∧ s.canShed (s.reg (R.hlthShed j)) = false)
      ∧ (∀ i rest t0, H.applied = i :: rest → H.calmT = some t0 → s.shedRuns = true →
        let w := s.reg (R.hlthShed i)
        let u := bits w 6 0
        Completes .shedRestore s (fun t => t.ttime = max s.ttime (ticksAfter t0 1600) ∧ t.health = { H with applied := rest, calmT := some t.ttime, lastStep := none }
          ∧ EventNow 0xB011 sevNotice i t ∧ t.mem = s.mem
          ∧ (bits w 15 12 = 1 → s.domAllowed (80 + u) = true → t.poolShed.testBit u = false)
          ∧ (bits w 15 12 = 1 ∨ bits w 15 12 = 3 → t.pwr.domShed.testBit (shedDomain (bits w 15 12) u) = false)
          ∧ (bits w 15 12 = 2 → ∀ k, k < 4 → t.rateCap (4 * u + k) = min 3 (s.rateCap (4 * u + k) + 1))
          ∧ (bits w 15 12 = 3 → (t.port u).shedHold = false)
          ∧ (bits w 15 12 = 4 → t.pwr = s.pwr ∧ t.cxlSet = s.cxlSet)))
      ∧ (H.applied = [] ∨ H.calmT = none ∨ s.shedRuns = false → Completes .shedRestore s (fun t => t = s))
      ∧ (H.mountT = none → Completes .mountGradient s (fun t => t = s))
      ∧ (∀ t30 t31 : Int, s.pwr.state ≠ 4 ∨ s.pwr.upStep.isSome = true → Completes (.baseplateHold t30 t31) s (fun t => t = s))
      ∧ (∀ t0, H.mountT = some t0 → Completes .mountGradient s (fun t => t.ttime = max s.ttime (ticksAfter t0 1600) ∧ t.health = { H with mountNoted := true }
          ∧ (H.mountNoted = false → EventNow 0xB014 sevWarn 0 t) ∧ ({ t with health := s.health, raised := s.raised } : State) = s.movedTo t.ttime))
      ∧ (∀ t30 t31 : Int, s.pwr.state = 4 → s.pwr.upStep = none →
        let x := max t30 t31
        (x < -440 ∨ 1000 < x → Completes (.baseplateHold t30 t31) s (fun t => t.pwr = { s.pwr with heldCold := true }
            ∧ (s.pwr.heldCold = false → AonTold 0xB015 sevNotice 0 s t) ∧ (s.pwr.heldCold = true → t = s)
            ∧ ({ t with aonEvents := s.aonEvents, aonTime := s.aonTime, freeCtr := s.freeCtr, pwr := s.pwr, raised := s.raised } : State) = s))
          ∧ (-440 ≤ x → x ≤ 1000 → Completes (.baseplateHold t30 t31) s (fun t => t.pwr.heldCold = false ∧ ({ t with pwr := s.pwr } : State) = s
            ∧ (s.pwr.pwrEn = false ∨ s.pwr.needEdge = true → t.pwr = { s.pwr with heldCold := false })
            ∧ (s.pwr.pwrEn = true → s.pwr.needEdge = false → s.pwr.acOk = true ∨ s.pwr.dcOk = true → s.pwr.shut = none → t.pwr.upStep = some 2 ∧ t.pwr.state = 8))))

/-- R452 to R454. -/
def Obligations.EventLog : Prop :=
  ∀ (s : State),
    let L := s.evlog
    let head := (s.reg R.eventLogHead).toNat
    let tail := (s.reg R.eventLogTail).toNat
    (s.raised = [] → Completes .eventRaised s (fun t => t = s))
      ∧ (∀ e es, s.raised = e :: es → e.code / 0x1000 < 16 →
        let full : Prop := (tail + 8192 - head) % 8192 = 4096
        let c := e.code / 0x1000
        let r := s.reg (R.eventRoute c)
        let hits (f : Nat) : Prop := f ≤ 4 ∧ f ≤ e.sev
        Completes .eventRaised s (fun t => t.ttime = max s.ttime ((e.stamp / 2 + 1) * 2) ∧ Tbl.get [] t.evlog.ring (tail % 4096) = e.words (L.seq + 1) ∧ t.evlog.seq = L.seq + 1
          ∧ (∀ k, k ≠ tail % 4096 → Tbl.get [] t.evlog.ring k = Tbl.get [] L.ring k) ∧ (t.reg R.eventLogTail).toNat = (tail + 1) % 8192
          ∧ (t.reg R.eventLogHead).toNat = (if full then (head + 1) % 8192 else head)
          ∧ (full → t.ctrOf R.eventOverwriteCnt = satAdd ctrMax (s.ctrOf R.eventOverwriteCnt) 1)
          ∧ (e.sev < sevError → t.faultQ = s.faultQ) ∧ (sevError ≤ e.sev → s.faultQ.length < 112 → t.faultQ = s.faultQ ++ [e.words (L.seq + 1)])
          ∧ (sevError ≤ e.sev → 112 ≤ s.faultQ.length → EventNow 0x700B sevWarn 0 t ∧ t.faultQ = s.faultQ)
          ∧ (¬ full → e.sev < sevError → t.raised = es)
          ∧ t.reg R.eventMsixPend = (if hits (bits r 26 24) then s.reg R.eventMsixPend ||| word (2 ^ c) else s.reg R.eventMsixPend)
          ∧ t.reg R.eventAlarmPend = (if hits (bits r 10 8) then s.reg R.eventAlarmPend ||| word (2 ^ c) else s.reg R.eventAlarmPend)
          ∧ t.evlog.held = (if hits (bits r 14 12) ∧ bit (s.reg R.eventGpioCtrl) (bits r 4 0) = true then setBit L.held (bits r 4 0) else L.held)
          ∧ (hits (bits r 26 24) → bit (s.reg R.eventMsixPend) c = false → s.msixMasked (bits r 21 16) = false → s.busMaster = true →
            t.sent = s.sent ++ [{ kind := "MSIX", via := bits r 21 16 }])
          ∧ (¬ hits (bits r 26 24) ∨ bit (s.reg R.eventMsixPend) c = true → t.sent = s.sent)
          ∧ ({ t with ctr := s.ctr, evlog := s.evlog, faultQ := s.faultQ, lastRaise := s.lastRaise, raised := s.raised, regs := s.regs, sent := s.sent } : State) = s.movedTo t.ttime))
      ∧ (∀ m v, m < 12 →
        let u := s.logDue s.ttime
        let uhead := (u.reg R.eventLogHead).toNat
        let utail := (u.reg R.eventLogTail).toNat
        let wrote (v : State) (t : State) : Prop := ({ t with regs := v.regs, sent := v.sent, twin := v.twin, xbar := v.xbar } : State) = v
        let only (v : State) (a : Nat) (t : State) : Prop := ∀ r, r ≠ a → t.reg r = v.reg r
        let now (f : EvLog → Nat) : Nat := if L.setCycle = s.ttime / 2 then f L else 0
        (s.writeGate m R.eventLogRead = .pass → Completes (.logRead m v) s (fun t => t.reg R.eventLogRead = word (bits v 11 0)
            ∧ (∀ k, k < 8 → t.reg (R.eventEntry k) = (Tbl.get [] u.evlog.ring (bits v 11 0)).getD k 0) ∧ wrote u t))
          ∧ (s.writeGate m R.eventLogHead = .pass →
            let past : Prop := (utail + 8192 - uhead) % 8192 < (bits v 12 0 + 8192 - uhead) % 8192
            (past → Completes (.logHeadWrite m v) s (WriteRejected m R.eventLogHead s))
              ∧ (¬ past → Completes (.logHeadWrite m v) s (fun t => t.reg R.eventLogHead = word (bits v 12 0) ∧ only u R.eventLogHead t ∧ wrote u t)))
          ∧ (s.writeGate m R.eventMsixPend = .pass → Completes (.msixPendClear m v) s (fun t => t.reg R.eventMsixPend = s.reg R.eventMsixPend &&& (~~~v ||| word (now EvLog.setMsix))
            ∧ only s R.eventMsixPend t ∧ wrote s t))
          ∧ (s.writeGate m R.eventAlarmPend = .pass → Completes (.alarmPendClear m v) s (fun t => t.reg R.eventAlarmPend = s.reg R.eventAlarmPend &&& (~~~v ||| word (now EvLog.setAlarm))
            ∧ only s R.eventAlarmPend t ∧ wrote s t))
          ∧ (s.writeGate m R.eventGpioClr = .pass → Completes (.gpioClr m v) s (fun t => t.regs = s.regs
            ∧ (∀ p, p < 32 → t.evlog.held.testBit p = (L.held.testBit p && !(bit v p && bit (s.reg R.eventGpioCtrl) p && !(now EvLog.setGpio).testBit p)))
            ∧ ({ t with evlog := s.evlog, sent := s.sent, twin := s.twin, xbar := s.xbar } : State) = s)))
end

