-- ==== Sys2Proof/Laws/Tbl.lean ====
section
/-! SUPPORT. Tables and memories: a read after a write, reads elsewhere, and the canonical form, which every write keeps. -/

namespace Sys2Proof.Machine

theorem Tbl.find_insert_self {α : Type} (t : Tbl α) (i : Nat) (v : α) (h : ∀ p ∈ t, p.1 ≠ i) : Tbl.find (Tbl.insert t i v) i = some v := by
  induction t with
  | nil => simp [Tbl.insert, Tbl.find]
  | cons p t ih =>
    have hp : p.1 ≠ i := h p (by simp)
    have ht : ∀ q ∈ t, q.1 ≠ i := fun q hq => h q (by simp [hq])
    unfold Tbl.insert
    split
    · simp [Tbl.find]
    · simp only [Tbl.find]
      rw [if_neg (fun e => hp e.symm)]
      exact ih ht

theorem Tbl.find_insert_ne {α : Type} (t : Tbl α) (i j : Nat) (v : α) (h : j ≠ i) : Tbl.find (Tbl.insert t i v) j = Tbl.find t j := by
  induction t with
  | nil => simp [Tbl.insert, Tbl.find, h]
  | cons p t ih =>
    unfold Tbl.insert
    split
    · simp [Tbl.find, h]
    · simp only [Tbl.find, ih]

theorem Tbl.find_others_self {α : Type} (t : Tbl α) (i : Nat) : Tbl.find (t.filter (fun (p : Nat × α) => decide (p.1 ≠ i))) i = none := by
  induction t with
  | nil => rfl
  | cons p t ih =>
    rw [List.filter_cons]
    split
    · next hp =>
      simp only [Tbl.find]
      rw [if_neg (fun e => of_decide_eq_true hp e.symm)]
      exact ih
    · exact ih

theorem Tbl.find_others_ne {α : Type} (t : Tbl α) (i j : Nat) (h : j ≠ i) :
    Tbl.find (t.filter (fun (p : Nat × α) => decide (p.1 ≠ i))) j = Tbl.find t j := by
  induction t with
  | nil => rfl
  | cons p t ih =>
    rw [List.filter_cons]
    split
    · simp only [Tbl.find, ih]
    · next hp =>
      have e : p.1 = i := by simpa using hp
      simp only [Tbl.find]
      rw [ih, if_neg (fun q => h (q.trans e))]

theorem Tbl.find_set_self {α : Type} [DecidableEq α] (d : α) (t : Tbl α) (i : Nat) (v : α) :
    Tbl.find (Tbl.set d t i v) i = if v = d then none else some v := by
  unfold Tbl.set
  dsimp only
  split
  · exact Tbl.find_others_self t i
  · exact Tbl.find_insert_self _ i v (fun p hp => by simpa using (List.mem_filter.mp hp).2)

theorem Tbl.find_set_ne {α : Type} [DecidableEq α] (d : α) (t : Tbl α) (i j : Nat) (v : α) (h : j ≠ i) :
    Tbl.find (Tbl.set d t i v) j = Tbl.find t j := by
  unfold Tbl.set
  dsimp only
  split
  · exact Tbl.find_others_ne t i j h
  · rw [Tbl.find_insert_ne _ i j v h, Tbl.find_others_ne t i j h]

/-- A read of the entry that a write set. -/
@[simp] theorem Tbl.get_set_self {α : Type} [DecidableEq α] (d : α) (t : Tbl α) (i : Nat) (v : α) : Tbl.get d (Tbl.set d t i v) i = v := by
  unfold Tbl.get
  rw [Tbl.find_set_self]
  split
  · next h => simp [h]
  · rfl

/-- A read of another entry. -/
@[simp] theorem Tbl.get_set_ne {α : Type} [DecidableEq α] (d e : α) (t : Tbl α) (i j : Nat) (v : α) (h : j ≠ i) :
    Tbl.get d (Tbl.set e t i v) j = Tbl.get d t j := by
  unfold Tbl.get
  rw [Tbl.find_set_ne _ _ _ _ _ h]

theorem Tbl.wfFrom_mono {α : Type} [DecidableEq α] (d : α) (t : Tbl α) {a b : Nat} (h : a ≤ b) (w : Tbl.wfFrom d b t = true) :
    Tbl.wfFrom d a t = true := by
  cases t with
  | nil => rfl
  | cons p t =>
    simp only [Tbl.wfFrom, Bool.and_eq_true, decide_eq_true_eq] at w ⊢
    exact ⟨⟨by omega, w.1.2⟩, w.2⟩

theorem Tbl.filter_wfFrom {α : Type} [DecidableEq α] (d : α) (t : Tbl α) (f : Nat × α → Bool) (a : Nat) (w : Tbl.wfFrom d a t = true) :
    Tbl.wfFrom d a (t.filter f) = true := by
  induction t generalizing a with
  | nil => rfl
  | cons p t ih =>
    simp only [Tbl.wfFrom, Bool.and_eq_true, decide_eq_true_eq] at w
    obtain ⟨⟨w1, w2⟩, w3⟩ := w
    rw [List.filter_cons]
    split
    · simp only [Tbl.wfFrom, Bool.and_eq_true, decide_eq_true_eq]
      exact ⟨⟨w1, w2⟩, ih _ w3⟩
    · exact Tbl.wfFrom_mono d _ (by omega) (ih _ w3)

theorem Tbl.insert_wfFrom {α : Type} [DecidableEq α] (d : α) (t : Tbl α) (i : Nat) (v : α) (a : Nat) (h : a ≤ i) (hv : v ≠ d)
    (hn : ∀ p ∈ t, p.1 ≠ i) (w : Tbl.wfFrom d a t = true) : Tbl.wfFrom d a (Tbl.insert t i v) = true := by
  induction t generalizing a with
  | nil => simp [Tbl.insert, Tbl.wfFrom, h, hv]
  | cons p t ih =>
    have hp : p.1 ≠ i := hn p (by simp)
    have ht : ∀ q ∈ t, q.1 ≠ i := fun q hq => hn q (by simp [hq])
    simp only [Tbl.wfFrom, Bool.and_eq_true, decide_eq_true_eq] at w
    obtain ⟨⟨w1, w2⟩, w3⟩ := w
    unfold Tbl.insert
    split
    · simp only [Tbl.wfFrom, Bool.and_eq_true, decide_eq_true_eq]
      exact ⟨⟨h, hv⟩, ⟨by omega, w2⟩, w3⟩
    · simp only [Tbl.wfFrom, Bool.and_eq_true, decide_eq_true_eq]
      exact ⟨⟨w1, w2⟩, ih _ (by omega) ht w3⟩

/-- A write keeps the canonical form. -/
theorem Tbl.set_wf {α : Type} [DecidableEq α] (d : α) (t : Tbl α) (i : Nat) (v : α) (w : Tbl.wf d t = true) : Tbl.wf d (Tbl.set d t i v) = true := by
  unfold Tbl.set
  dsimp only
  split
  · exact Tbl.filter_wfFrom _ _ _ _ w
  · next h =>
    exact Tbl.insert_wfFrom d _ i v 0 (Nat.zero_le _) h (fun p hp => by simpa using (List.mem_filter.mp hp).2) (Tbl.filter_wfFrom _ _ _ _ w)

@[simp] theorem Memory.read_write_self (m : Memory) (a : Nat) (b : Byte) : (m.write a b).read a = b := Tbl.get_set_self ..
@[simp] theorem Memory.read_write_ne (m : Memory) (a c : Nat) (b : Byte) (h : c ≠ a) : (m.write a b).read c = m.read c := Tbl.get_set_ne _ _ _ _ _ _ h

/-- Bytes outside those written read as before. -/
theorem Memory.read_writeBytes_ne (m : Memory) (a c : Nat) (bs : List Byte) (h : c < a ∨ a + bs.length ≤ c) :
    (m.writeBytes a bs).read c = m.read c := by
  induction bs generalizing m a with
  | nil => rfl
  | cons b bs ih =>
    simp only [List.length_cons] at h
    exact (ih _ _ (by omega)).trans (Memory.read_write_ne m a c b (by omega))

/-- Bytes written read as written. -/
theorem Memory.read_writeBytes (m : Memory) (a i : Nat) (bs : List Byte) (h : i < bs.length) : (m.writeBytes a bs).read (a + i) = bs[i] := by
  induction bs generalizing m a i with
  | nil => simp at h
  | cons b bs ih =>
    cases i with
    | zero =>
      simp only [Memory.writeBytes, Nat.add_zero, List.getElem_cons_zero]
      exact (Memory.read_writeBytes_ne _ _ _ _ (by omega)).trans (Memory.read_write_self ..)
    | succ k =>
      simp only [List.length_cons] at h
      have := ih (m.write a b) (a + 1) k (by omega)
      rw [List.getElem_cons_succ, ← this]
      simp only [Memory.writeBytes]
      congr 1
      omega

theorem Memory.write_wf (m : Memory) (a : Nat) (b : Byte) (w : m.wf = true) : (m.write a b).wf = true := Tbl.set_wf _ m a b w

theorem Memory.writeBytes_wf (m : Memory) (a : Nat) (bs : List Byte) (w : m.wf = true) : (m.writeBytes a bs).wf = true := by
  induction bs generalizing m a with
  | nil => exact w
  | cons b bs ih => exact ih _ _ (Memory.write_wf m a b w)

theorem Memory.scatter_wf (ps : List (Nat × Byte)) (m : Memory) (w : m.wf = true) :
    (ps.foldl (fun (m : Memory) (p : Nat × Byte) => Memory.write m p.1 p.2) m).wf = true := by
  induction ps generalizing m with
  | nil => exact w
  | cons p ps ih => exact ih _ (Memory.write_wf m p.1 p.2 w)

theorem Memory.filter_wf (m : Memory) (f : Nat × Byte → Bool) (w : m.wf = true) : Memory.wf (m.filter f) = true :=
  Tbl.filter_wfFrom _ m f 0 w

theorem Memory.nil_wf : Memory.wf [] = true := rfl

end Sys2Proof.Machine
end

