-- ==== Sys2Proof/Laws/State.lean ====
section
/-! SUPPORT. The state under its updates: what each update leaves alone, what a read gives after it; the parts of the state that the frames of Laws/Hold and Laws/Kept speak of. -/

namespace Sys2Proof.Machine

/-! The updates: every field but the one updated. -/

@[simp] theorem State.setOc_others (s : State) (c : Nat) (x : Oc) :
    (s.setOc c x).pending = s.pending ∧ (s.setOc c x).ttime = s.ttime ∧ (s.setOc c x).ticks = s.ticks ∧ (s.setOc c x).rejLast = s.rejLast ∧ (s.setOc c x).freeCtr = s.freeCtr ∧ (s.setOc c x).variant = s.variant ∧ (s.setOc c x).devId = s.devId ∧ (s.setOc c x).regs = s.regs ∧ (s.setOc c x).ctr = s.ctr ∧ (s.setOc c x).snap = s.snap ∧ (s.setOc c x).frozen = s.frozen ∧ (s.setOc c x).capT = s.capT ∧ (s.setOc c x).raised = s.raised ∧ (s.setOc c x).lastRaise = s.lastRaise ∧ (s.setOc c x).units = s.units ∧ (s.setOc c x).ces = s.ces ∧ (s.setOc c x).mem = s.mem ∧ (s.setOc c x).heap = s.heap ∧ (s.setOc c x).cxlSet = s.cxlSet ∧ (s.setOc c x).popGib = s.popGib ∧ (s.setOc c x).ports = s.ports ∧ (s.setOc c x).flows = s.flows ∧ (s.setOc c x).outs = s.outs ∧ (s.setOc c x).groups = s.groups ∧ (s.setOc c x).tiles = s.tiles ∧ (s.setOc c x).poolShed = s.poolShed ∧ (s.setOc c x).poolLost = s.poolLost ∧ (s.setOc c x).stk = s.stk ∧ (s.setOc c x).twin = s.twin ∧ (s.setOc c x).syns = s.syns ∧ (s.setOc c x).ser = s.ser ∧ (s.setOc c x).obs = s.obs ∧ (s.setOc c x).saff = s.saff ∧ (s.setOc c x).woad = s.woad ∧ (s.setOc c x).tamper = s.tamper ∧ (s.setOc c x).pwr = s.pwr ∧ (s.setOc c x).boot = s.boot ∧ (s.setOc c x).cx = s.cx ∧ (s.setOc c x).cxlRebuild = s.cxlRebuild ∧ (s.setOc c x).memDead = s.memDead ∧ (s.setOc c x).madder = s.madder ∧ (s.setOc c x).health = s.health ∧ (s.setOc c x).aonTime = s.aonTime ∧ (s.setOc c x).aonEvents = s.aonEvents ∧ (s.setOc c x).evlog = s.evlog ∧ (s.setOc c x).xbar = s.xbar ∧ (s.setOc c x).faultQ = s.faultQ ∧ (s.setOc c x).tamperLock = s.tamperLock ∧ (s.setOc c x).sent = s.sent := by
  and_intros <;> rfl

@[simp] theorem State.setIc_others (s : State) (c : Nat) (x : Ic) :
    (s.setIc c x).pending = s.pending ∧ (s.setIc c x).ttime = s.ttime ∧ (s.setIc c x).ticks = s.ticks ∧ (s.setIc c x).rejLast = s.rejLast ∧ (s.setIc c x).freeCtr = s.freeCtr ∧ (s.setIc c x).variant = s.variant ∧ (s.setIc c x).devId = s.devId ∧ (s.setIc c x).regs = s.regs ∧ (s.setIc c x).ctr = s.ctr ∧ (s.setIc c x).snap = s.snap ∧ (s.setIc c x).frozen = s.frozen ∧ (s.setIc c x).capT = s.capT ∧ (s.setIc c x).raised = s.raised ∧ (s.setIc c x).lastRaise = s.lastRaise ∧ (s.setIc c x).units = s.units ∧ (s.setIc c x).ces = s.ces ∧ (s.setIc c x).mem = s.mem ∧ (s.setIc c x).heap = s.heap ∧ (s.setIc c x).cxlSet = s.cxlSet ∧ (s.setIc c x).popGib = s.popGib ∧ (s.setIc c x).ports = s.ports ∧ (s.setIc c x).flows = s.flows ∧ (s.setIc c x).outs = s.outs ∧ (s.setIc c x).groups = s.groups ∧ (s.setIc c x).tiles = s.tiles ∧ (s.setIc c x).poolShed = s.poolShed ∧ (s.setIc c x).poolLost = s.poolLost ∧ (s.setIc c x).stk = s.stk ∧ (s.setIc c x).twin = s.twin ∧ (s.setIc c x).syns = s.syns ∧ (s.setIc c x).ser = s.ser ∧ (s.setIc c x).obs = s.obs ∧ (s.setIc c x).saff = s.saff ∧ (s.setIc c x).woad = s.woad ∧ (s.setIc c x).tamper = s.tamper ∧ (s.setIc c x).pwr = s.pwr ∧ (s.setIc c x).boot = s.boot ∧ (s.setIc c x).cx = s.cx ∧ (s.setIc c x).cxlRebuild = s.cxlRebuild ∧ (s.setIc c x).memDead = s.memDead ∧ (s.setIc c x).madder = s.madder ∧ (s.setIc c x).health = s.health ∧ (s.setIc c x).aonTime = s.aonTime ∧ (s.setIc c x).aonEvents = s.aonEvents ∧ (s.setIc c x).evlog = s.evlog ∧ (s.setIc c x).xbar = s.xbar ∧ (s.setIc c x).faultQ = s.faultQ ∧ (s.setIc c x).tamperLock = s.tamperLock ∧ (s.setIc c x).sent = s.sent := by
  and_intros <;> rfl

@[simp] theorem State.setBoot_others (s : State) (x : Boot) :
    (s.setBoot x).pending = s.pending ∧ (s.setBoot x).ttime = s.ttime ∧ (s.setBoot x).ticks = s.ticks ∧ (s.setBoot x).rejLast = s.rejLast ∧ (s.setBoot x).freeCtr = s.freeCtr ∧ (s.setBoot x).variant = s.variant ∧ (s.setBoot x).devId = s.devId ∧ (s.setBoot x).regs = s.regs ∧ (s.setBoot x).ctr = s.ctr ∧ (s.setBoot x).snap = s.snap ∧ (s.setBoot x).frozen = s.frozen ∧ (s.setBoot x).capT = s.capT ∧ (s.setBoot x).raised = s.raised ∧ (s.setBoot x).lastRaise = s.lastRaise ∧ (s.setBoot x).units = s.units ∧ (s.setBoot x).ces = s.ces ∧ (s.setBoot x).mem = s.mem ∧ (s.setBoot x).heap = s.heap ∧ (s.setBoot x).cxlSet = s.cxlSet ∧ (s.setBoot x).popGib = s.popGib ∧ (s.setBoot x).ports = s.ports ∧ (s.setBoot x).flows = s.flows ∧ (s.setBoot x).outs = s.outs ∧ (s.setBoot x).groups = s.groups ∧ (s.setBoot x).tiles = s.tiles ∧ (s.setBoot x).poolShed = s.poolShed ∧ (s.setBoot x).poolLost = s.poolLost ∧ (s.setBoot x).audio = s.audio ∧ (s.setBoot x).stk = s.stk ∧ (s.setBoot x).twin = s.twin ∧ (s.setBoot x).syns = s.syns ∧ (s.setBoot x).ser = s.ser ∧ (s.setBoot x).obs = s.obs ∧ (s.setBoot x).saff = s.saff ∧ (s.setBoot x).woad = s.woad ∧ (s.setBoot x).tamper = s.tamper ∧ (s.setBoot x).pwr = s.pwr ∧ (s.setBoot x).cx = s.cx ∧ (s.setBoot x).cxlRebuild = s.cxlRebuild ∧ (s.setBoot x).memDead = s.memDead ∧ (s.setBoot x).madder = s.madder ∧ (s.setBoot x).health = s.health ∧ (s.setBoot x).aonTime = s.aonTime ∧ (s.setBoot x).aonEvents = s.aonEvents ∧ (s.setBoot x).evlog = s.evlog ∧ (s.setBoot x).xbar = s.xbar ∧ (s.setBoot x).faultQ = s.faultQ ∧ (s.setBoot x).tamperLock = s.tamperLock ∧ (s.setBoot x).sent = s.sent := by
  and_intros <;> rfl

@[simp] theorem State.setOb_others (s : State) (j : Nat) (x : Ob) :
    (s.setOb j x).pending = s.pending ∧ (s.setOb j x).ttime = s.ttime ∧ (s.setOb j x).ticks = s.ticks ∧ (s.setOb j x).rejLast = s.rejLast ∧ (s.setOb j x).freeCtr = s.freeCtr ∧ (s.setOb j x).variant = s.variant ∧ (s.setOb j x).devId = s.devId ∧ (s.setOb j x).regs = s.regs ∧ (s.setOb j x).ctr = s.ctr ∧ (s.setOb j x).snap = s.snap ∧ (s.setOb j x).frozen = s.frozen ∧ (s.setOb j x).capT = s.capT ∧ (s.setOb j x).raised = s.raised ∧ (s.setOb j x).lastRaise = s.lastRaise ∧ (s.setOb j x).units = s.units ∧ (s.setOb j x).ces = s.ces ∧ (s.setOb j x).mem = s.mem ∧ (s.setOb j x).heap = s.heap ∧ (s.setOb j x).cxlSet = s.cxlSet ∧ (s.setOb j x).popGib = s.popGib ∧ (s.setOb j x).ports = s.ports ∧ (s.setOb j x).flows = s.flows ∧ (s.setOb j x).outs = s.outs ∧ (s.setOb j x).groups = s.groups ∧ (s.setOb j x).tiles = s.tiles ∧ (s.setOb j x).poolShed = s.poolShed ∧ (s.setOb j x).poolLost = s.poolLost ∧ (s.setOb j x).audio = s.audio ∧ (s.setOb j x).stk = s.stk ∧ (s.setOb j x).twin = s.twin ∧ (s.setOb j x).syns = s.syns ∧ (s.setOb j x).ser = s.ser ∧ (s.setOb j x).saff = s.saff ∧ (s.setOb j x).woad = s.woad ∧ (s.setOb j x).tamper = s.tamper ∧ (s.setOb j x).pwr = s.pwr ∧ (s.setOb j x).boot = s.boot ∧ (s.setOb j x).cx = s.cx ∧ (s.setOb j x).cxlRebuild = s.cxlRebuild ∧ (s.setOb j x).memDead = s.memDead ∧ (s.setOb j x).madder = s.madder ∧ (s.setOb j x).health = s.health ∧ (s.setOb j x).aonTime = s.aonTime ∧ (s.setOb j x).aonEvents = s.aonEvents ∧ (s.setOb j x).evlog = s.evlog ∧ (s.setOb j x).xbar = s.xbar ∧ (s.setOb j x).faultQ = s.faultQ ∧ (s.setOb j x).tamperLock = s.tamperLock ∧ (s.setOb j x).sent = s.sent := by
  and_intros <;> rfl

@[simp] theorem State.setCx_others (s : State) (x : Nat) (p : CxPort) :
    (s.setCx x p).pending = s.pending ∧ (s.setCx x p).ttime = s.ttime ∧ (s.setCx x p).ticks = s.ticks ∧ (s.setCx x p).rejLast = s.rejLast ∧ (s.setCx x p).freeCtr = s.freeCtr ∧ (s.setCx x p).variant = s.variant ∧ (s.setCx x p).devId = s.devId ∧ (s.setCx x p).regs = s.regs ∧ (s.setCx x p).ctr = s.ctr ∧ (s.setCx x p).snap = s.snap ∧ (s.setCx x p).frozen = s.frozen ∧ (s.setCx x p).capT = s.capT ∧ (s.setCx x p).raised = s.raised ∧ (s.setCx x p).lastRaise = s.lastRaise ∧ (s.setCx x p).units = s.units ∧ (s.setCx x p).ces = s.ces ∧ (s.setCx x p).mem = s.mem ∧ (s.setCx x p).heap = s.heap ∧ (s.setCx x p).cxlSet = s.cxlSet ∧ (s.setCx x p).popGib = s.popGib ∧ (s.setCx x p).ports = s.ports ∧ (s.setCx x p).flows = s.flows ∧ (s.setCx x p).outs = s.outs ∧ (s.setCx x p).groups = s.groups ∧ (s.setCx x p).tiles = s.tiles ∧ (s.setCx x p).poolShed = s.poolShed ∧ (s.setCx x p).poolLost = s.poolLost ∧ (s.setCx x p).audio = s.audio ∧ (s.setCx x p).stk = s.stk ∧ (s.setCx x p).twin = s.twin ∧ (s.setCx x p).syns = s.syns ∧ (s.setCx x p).ser = s.ser ∧ (s.setCx x p).obs = s.obs ∧ (s.setCx x p).saff = s.saff ∧ (s.setCx x p).woad = s.woad ∧ (s.setCx x p).tamper = s.tamper ∧ (s.setCx x p).pwr = s.pwr ∧ (s.setCx x p).boot = s.boot ∧ (s.setCx x p).cxlRebuild = s.cxlRebuild ∧ (s.setCx x p).memDead = s.memDead ∧ (s.setCx x p).madder = s.madder ∧ (s.setCx x p).health = s.health ∧ (s.setCx x p).aonTime = s.aonTime ∧ (s.setCx x p).aonEvents = s.aonEvents ∧ (s.setCx x p).evlog = s.evlog ∧ (s.setCx x p).xbar = s.xbar ∧ (s.setCx x p).faultQ = s.faultQ ∧ (s.setCx x p).tamperLock = s.tamperLock ∧ (s.setCx x p).sent = s.sent := by
  and_intros <;> rfl

@[simp] theorem State.modHealth_others (s : State) (f : Health → Health) :
    (s.modHealth f).pending = s.pending ∧ (s.modHealth f).ttime = s.ttime ∧ (s.modHealth f).ticks = s.ticks ∧ (s.modHealth f).rejLast = s.rejLast ∧ (s.modHealth f).freeCtr = s.freeCtr ∧ (s.modHealth f).variant = s.variant ∧ (s.modHealth f).devId = s.devId ∧ (s.modHealth f).regs = s.regs ∧ (s.modHealth f).ctr = s.ctr ∧ (s.modHealth f).snap = s.snap ∧ (s.modHealth f).frozen = s.frozen ∧ (s.modHealth f).capT = s.capT ∧ (s.modHealth f).raised = s.raised ∧ (s.modHealth f).lastRaise = s.lastRaise ∧ (s.modHealth f).units = s.units ∧ (s.modHealth f).ces = s.ces ∧ (s.modHealth f).mem = s.mem ∧ (s.modHealth f).heap = s.heap ∧ (s.modHealth f).cxlSet = s.cxlSet ∧ (s.modHealth f).popGib = s.popGib ∧ (s.modHealth f).ports = s.ports ∧ (s.modHealth f).flows = s.flows ∧ (s.modHealth f).outs = s.outs ∧ (s.modHealth f).groups = s.groups ∧ (s.modHealth f).tiles = s.tiles ∧ (s.modHealth f).poolShed = s.poolShed ∧ (s.modHealth f).poolLost = s.poolLost ∧ (s.modHealth f).audio = s.audio ∧ (s.modHealth f).stk = s.stk ∧ (s.modHealth f).twin = s.twin ∧ (s.modHealth f).syns = s.syns ∧ (s.modHealth f).ser = s.ser ∧ (s.modHealth f).obs = s.obs ∧ (s.modHealth f).saff = s.saff ∧ (s.modHealth f).woad = s.woad ∧ (s.modHealth f).tamper = s.tamper ∧ (s.modHealth f).pwr = s.pwr ∧ (s.modHealth f).boot = s.boot ∧ (s.modHealth f).cx = s.cx ∧ (s.modHealth f).cxlRebuild = s.cxlRebuild ∧ (s.modHealth f).memDead = s.memDead ∧ (s.modHealth f).madder = s.madder ∧ (s.modHealth f).aonTime = s.aonTime ∧ (s.modHealth f).aonEvents = s.aonEvents ∧ (s.modHealth f).evlog = s.evlog ∧ (s.modHealth f).xbar = s.xbar ∧ (s.modHealth f).faultQ = s.faultQ ∧ (s.modHealth f).tamperLock = s.tamperLock ∧ (s.modHealth f).sent = s.sent := by
  and_intros <;> rfl

@[simp] theorem State.setLane_others (s : State) (L : Nat) (x : Lane) :
    (s.setLane L x).pending = s.pending ∧ (s.setLane L x).ttime = s.ttime ∧ (s.setLane L x).ticks = s.ticks ∧ (s.setLane L x).rejLast = s.rejLast ∧ (s.setLane L x).freeCtr = s.freeCtr ∧ (s.setLane L x).variant = s.variant ∧ (s.setLane L x).devId = s.devId ∧ (s.setLane L x).regs = s.regs ∧ (s.setLane L x).ctr = s.ctr ∧ (s.setLane L x).snap = s.snap ∧ (s.setLane L x).frozen = s.frozen ∧ (s.setLane L x).capT = s.capT ∧ (s.setLane L x).raised = s.raised ∧ (s.setLane L x).lastRaise = s.lastRaise ∧ (s.setLane L x).units = s.units ∧ (s.setLane L x).ces = s.ces ∧ (s.setLane L x).mem = s.mem ∧ (s.setLane L x).heap = s.heap ∧ (s.setLane L x).cxlSet = s.cxlSet ∧ (s.setLane L x).popGib = s.popGib ∧ (s.setLane L x).ports = s.ports ∧ (s.setLane L x).flows = s.flows ∧ (s.setLane L x).outs = s.outs ∧ (s.setLane L x).groups = s.groups ∧ (s.setLane L x).tiles = s.tiles ∧ (s.setLane L x).poolShed = s.poolShed ∧ (s.setLane L x).poolLost = s.poolLost ∧ (s.setLane L x).audio = s.audio ∧ (s.setLane L x).stk = s.stk ∧ (s.setLane L x).twin = s.twin ∧ (s.setLane L x).syns = s.syns ∧ (s.setLane L x).obs = s.obs ∧ (s.setLane L x).saff = s.saff ∧ (s.setLane L x).woad = s.woad ∧ (s.setLane L x).tamper = s.tamper ∧ (s.setLane L x).pwr = s.pwr ∧ (s.setLane L x).boot = s.boot ∧ (s.setLane L x).cx = s.cx ∧ (s.setLane L x).cxlRebuild = s.cxlRebuild ∧ (s.setLane L x).memDead = s.memDead ∧ (s.setLane L x).madder = s.madder ∧ (s.setLane L x).health = s.health ∧ (s.setLane L x).aonTime = s.aonTime ∧ (s.setLane L x).aonEvents = s.aonEvents ∧ (s.setLane L x).evlog = s.evlog ∧ (s.setLane L x).xbar = s.xbar ∧ (s.setLane L x).faultQ = s.faultQ ∧ (s.setLane L x).tamperLock = s.tamperLock ∧ (s.setLane L x).sent = s.sent := by
  and_intros <;> rfl

@[simp] theorem State.setLink_others (s : State) (l : Nat) (x : Link) :
    (s.setLink l x).pending = s.pending ∧ (s.setLink l x).ttime = s.ttime ∧ (s.setLink l x).ticks = s.ticks ∧ (s.setLink l x).rejLast = s.rejLast ∧ (s.setLink l x).freeCtr = s.freeCtr ∧ (s.setLink l x).variant = s.variant ∧ (s.setLink l x).devId = s.devId ∧ (s.setLink l x).regs = s.regs ∧ (s.setLink l x).ctr = s.ctr ∧ (s.setLink l x).snap = s.snap ∧ (s.setLink l x).frozen = s.frozen ∧ (s.setLink l x).capT = s.capT ∧ (s.setLink l x).raised = s.raised ∧ (s.setLink l x).lastRaise = s.lastRaise ∧ (s.setLink l x).units = s.units ∧ (s.setLink l x).ces = s.ces ∧ (s.setLink l x).mem = s.mem ∧ (s.setLink l x).heap = s.heap ∧ (s.setLink l x).cxlSet = s.cxlSet ∧ (s.setLink l x).popGib = s.popGib ∧ (s.setLink l x).ports = s.ports ∧ (s.setLink l x).flows = s.flows ∧ (s.setLink l x).outs = s.outs ∧ (s.setLink l x).groups = s.groups ∧ (s.setLink l x).tiles = s.tiles ∧ (s.setLink l x).poolShed = s.poolShed ∧ (s.setLink l x).poolLost = s.poolLost ∧ (s.setLink l x).audio = s.audio ∧ (s.setLink l x).stk = s.stk ∧ (s.setLink l x).twin = s.twin ∧ (s.setLink l x).syns = s.syns ∧ (s.setLink l x).obs = s.obs ∧ (s.setLink l x).saff = s.saff ∧ (s.setLink l x).woad = s.woad ∧ (s.setLink l x).tamper = s.tamper ∧ (s.setLink l x).pwr = s.pwr ∧ (s.setLink l x).boot = s.boot ∧ (s.setLink l x).cx = s.cx ∧ (s.setLink l x).cxlRebuild = s.cxlRebuild ∧ (s.setLink l x).memDead = s.memDead ∧ (s.setLink l x).madder = s.madder ∧ (s.setLink l x).health = s.health ∧ (s.setLink l x).aonTime = s.aonTime ∧ (s.setLink l x).aonEvents = s.aonEvents ∧ (s.setLink l x).evlog = s.evlog ∧ (s.setLink l x).xbar = s.xbar ∧ (s.setLink l x).faultQ = s.faultQ ∧ (s.setLink l x).tamperLock = s.tamperLock ∧ (s.setLink l x).sent = s.sent := by
  and_intros <;> rfl

@[simp] theorem State.setSaff_others (s : State) (x : Saffron) :
    (s.setSaff x).pending = s.pending ∧ (s.setSaff x).ttime = s.ttime ∧ (s.setSaff x).ticks = s.ticks ∧ (s.setSaff x).rejLast = s.rejLast ∧ (s.setSaff x).freeCtr = s.freeCtr ∧ (s.setSaff x).variant = s.variant ∧ (s.setSaff x).devId = s.devId ∧ (s.setSaff x).regs = s.regs ∧ (s.setSaff x).ctr = s.ctr ∧ (s.setSaff x).snap = s.snap ∧ (s.setSaff x).frozen = s.frozen ∧ (s.setSaff x).capT = s.capT ∧ (s.setSaff x).raised = s.raised ∧ (s.setSaff x).lastRaise = s.lastRaise ∧ (s.setSaff x).units = s.units ∧ (s.setSaff x).ces = s.ces ∧ (s.setSaff x).mem = s.mem ∧ (s.setSaff x).heap = s.heap ∧ (s.setSaff x).cxlSet = s.cxlSet ∧ (s.setSaff x).popGib = s.popGib ∧ (s.setSaff x).ports = s.ports ∧ (s.setSaff x).flows = s.flows ∧ (s.setSaff x).outs = s.outs ∧ (s.setSaff x).groups = s.groups ∧ (s.setSaff x).tiles = s.tiles ∧ (s.setSaff x).poolShed = s.poolShed ∧ (s.setSaff x).poolLost = s.poolLost ∧ (s.setSaff x).audio = s.audio ∧ (s.setSaff x).stk = s.stk ∧ (s.setSaff x).twin = s.twin ∧ (s.setSaff x).syns = s.syns ∧ (s.setSaff x).ser = s.ser ∧ (s.setSaff x).obs = s.obs ∧ (s.setSaff x).woad = s.woad ∧ (s.setSaff x).tamper = s.tamper ∧ (s.setSaff x).pwr = s.pwr ∧ (s.setSaff x).boot = s.boot ∧ (s.setSaff x).cx = s.cx ∧ (s.setSaff x).cxlRebuild = s.cxlRebuild ∧ (s.setSaff x).memDead = s.memDead ∧ (s.setSaff x).madder = s.madder ∧ (s.setSaff x).health = s.health ∧ (s.setSaff x).aonTime = s.aonTime ∧ (s.setSaff x).aonEvents = s.aonEvents ∧ (s.setSaff x).evlog = s.evlog ∧ (s.setSaff x).xbar = s.xbar ∧ (s.setSaff x).faultQ = s.faultQ ∧ (s.setSaff x).tamperLock = s.tamperLock ∧ (s.setSaff x).sent = s.sent := by
  and_intros <;> rfl

@[simp] theorem State.progPut_others (s : State) (a : Nat) (bs : List Byte) :
    (s.progPut a bs).pending = s.pending ∧ (s.progPut a bs).ttime = s.ttime ∧ (s.progPut a bs).ticks = s.ticks ∧ (s.progPut a bs).rejLast = s.rejLast ∧ (s.progPut a bs).freeCtr = s.freeCtr ∧ (s.progPut a bs).variant = s.variant ∧ (s.progPut a bs).devId = s.devId ∧ (s.progPut a bs).regs = s.regs ∧ (s.progPut a bs).ctr = s.ctr ∧ (s.progPut a bs).snap = s.snap ∧ (s.progPut a bs).frozen = s.frozen ∧ (s.progPut a bs).capT = s.capT ∧ (s.progPut a bs).raised = s.raised ∧ (s.progPut a bs).lastRaise = s.lastRaise ∧ (s.progPut a bs).units = s.units ∧ (s.progPut a bs).ces = s.ces ∧ (s.progPut a bs).heap = s.heap ∧ (s.progPut a bs).cxlSet = s.cxlSet ∧ (s.progPut a bs).popGib = s.popGib ∧ (s.progPut a bs).ports = s.ports ∧ (s.progPut a bs).flows = s.flows ∧ (s.progPut a bs).outs = s.outs ∧ (s.progPut a bs).groups = s.groups ∧ (s.progPut a bs).tiles = s.tiles ∧ (s.progPut a bs).poolShed = s.poolShed ∧ (s.progPut a bs).poolLost = s.poolLost ∧ (s.progPut a bs).audio = s.audio ∧ (s.progPut a bs).stk = s.stk ∧ (s.progPut a bs).twin = s.twin ∧ (s.progPut a bs).syns = s.syns ∧ (s.progPut a bs).ser = s.ser ∧ (s.progPut a bs).obs = s.obs ∧ (s.progPut a bs).saff = s.saff ∧ (s.progPut a bs).woad = s.woad ∧ (s.progPut a bs).tamper = s.tamper ∧ (s.progPut a bs).pwr = s.pwr ∧ (s.progPut a bs).boot = s.boot ∧ (s.progPut a bs).cx = s.cx ∧ (s.progPut a bs).cxlRebuild = s.cxlRebuild ∧ (s.progPut a bs).memDead = s.memDead ∧ (s.progPut a bs).madder = s.madder ∧ (s.progPut a bs).health = s.health ∧ (s.progPut a bs).aonTime = s.aonTime ∧ (s.progPut a bs).aonEvents = s.aonEvents ∧ (s.progPut a bs).evlog = s.evlog ∧ (s.progPut a bs).xbar = s.xbar ∧ (s.progPut a bs).faultQ = s.faultQ ∧ (s.progPut a bs).tamperLock = s.tamperLock ∧ (s.progPut a bs).sent = s.sent := by
  and_intros <;> rfl

@[simp] theorem State.sramPut_others (s : State) (a : Nat) (bs : List Byte) :
    (s.sramPut a bs).pending = s.pending ∧ (s.sramPut a bs).ttime = s.ttime ∧ (s.sramPut a bs).ticks = s.ticks ∧ (s.sramPut a bs).rejLast = s.rejLast ∧ (s.sramPut a bs).freeCtr = s.freeCtr ∧ (s.sramPut a bs).variant = s.variant ∧ (s.sramPut a bs).devId = s.devId ∧ (s.sramPut a bs).regs = s.regs ∧ (s.sramPut a bs).ctr = s.ctr ∧ (s.sramPut a bs).snap = s.snap ∧ (s.sramPut a bs).frozen = s.frozen ∧ (s.sramPut a bs).capT = s.capT ∧ (s.sramPut a bs).raised = s.raised ∧ (s.sramPut a bs).lastRaise = s.lastRaise ∧ (s.sramPut a bs).units = s.units ∧ (s.sramPut a bs).ces = s.ces ∧ (s.sramPut a bs).heap = s.heap ∧ (s.sramPut a bs).cxlSet = s.cxlSet ∧ (s.sramPut a bs).popGib = s.popGib ∧ (s.sramPut a bs).ports = s.ports ∧ (s.sramPut a bs).flows = s.flows ∧ (s.sramPut a bs).outs = s.outs ∧ (s.sramPut a bs).groups = s.groups ∧ (s.sramPut a bs).tiles = s.tiles ∧ (s.sramPut a bs).poolShed = s.poolShed ∧ (s.sramPut a bs).poolLost = s.poolLost ∧ (s.sramPut a bs).audio = s.audio ∧ (s.sramPut a bs).stk = s.stk ∧ (s.sramPut a bs).twin = s.twin ∧ (s.sramPut a bs).syns = s.syns ∧ (s.sramPut a bs).ser = s.ser ∧ (s.sramPut a bs).obs = s.obs ∧ (s.sramPut a bs).saff = s.saff ∧ (s.sramPut a bs).woad = s.woad ∧ (s.sramPut a bs).tamper = s.tamper ∧ (s.sramPut a bs).pwr = s.pwr ∧ (s.sramPut a bs).boot = s.boot ∧ (s.sramPut a bs).cx = s.cx ∧ (s.sramPut a bs).cxlRebuild = s.cxlRebuild ∧ (s.sramPut a bs).memDead = s.memDead ∧ (s.sramPut a bs).madder = s.madder ∧ (s.sramPut a bs).health = s.health ∧ (s.sramPut a bs).aonTime = s.aonTime ∧ (s.sramPut a bs).aonEvents = s.aonEvents ∧ (s.sramPut a bs).evlog = s.evlog ∧ (s.sramPut a bs).xbar = s.xbar ∧ (s.sramPut a bs).faultQ = s.faultQ ∧ (s.sramPut a bs).tamperLock = s.tamperLock ∧ (s.sramPut a bs).sent = s.sent := by
  and_intros <;> rfl

@[simp] theorem State.cxlPut_others (s : State) (a : Nat) (bs : List Byte) :
    (s.cxlPut a bs).pending = s.pending ∧ (s.cxlPut a bs).ttime = s.ttime ∧ (s.cxlPut a bs).ticks = s.ticks ∧ (s.cxlPut a bs).rejLast = s.rejLast ∧ (s.cxlPut a bs).freeCtr = s.freeCtr ∧ (s.cxlPut a bs).variant = s.variant ∧ (s.cxlPut a bs).devId = s.devId ∧ (s.cxlPut a bs).regs = s.regs ∧ (s.cxlPut a bs).ctr = s.ctr ∧ (s.cxlPut a bs).snap = s.snap ∧ (s.cxlPut a bs).frozen = s.frozen ∧ (s.cxlPut a bs).capT = s.capT ∧ (s.cxlPut a bs).raised = s.raised ∧ (s.cxlPut a bs).lastRaise = s.lastRaise ∧ (s.cxlPut a bs).units = s.units ∧ (s.cxlPut a bs).ces = s.ces ∧ (s.cxlPut a bs).heap = s.heap ∧ (s.cxlPut a bs).cxlSet = s.cxlSet ∧ (s.cxlPut a bs).popGib = s.popGib ∧ (s.cxlPut a bs).ports = s.ports ∧ (s.cxlPut a bs).flows = s.flows ∧ (s.cxlPut a bs).outs = s.outs ∧ (s.cxlPut a bs).groups = s.groups ∧ (s.cxlPut a bs).tiles = s.tiles ∧ (s.cxlPut a bs).poolShed = s.poolShed ∧ (s.cxlPut a bs).poolLost = s.poolLost ∧ (s.cxlPut a bs).audio = s.audio ∧ (s.cxlPut a bs).stk = s.stk ∧ (s.cxlPut a bs).twin = s.twin ∧ (s.cxlPut a bs).syns = s.syns ∧ (s.cxlPut a bs).ser = s.ser ∧ (s.cxlPut a bs).obs = s.obs ∧ (s.cxlPut a bs).saff = s.saff ∧ (s.cxlPut a bs).woad = s.woad ∧ (s.cxlPut a bs).tamper = s.tamper ∧ (s.cxlPut a bs).pwr = s.pwr ∧ (s.cxlPut a bs).boot = s.boot ∧ (s.cxlPut a bs).cx = s.cx ∧ (s.cxlPut a bs).cxlRebuild = s.cxlRebuild ∧ (s.cxlPut a bs).memDead = s.memDead ∧ (s.cxlPut a bs).madder = s.madder ∧ (s.cxlPut a bs).health = s.health ∧ (s.cxlPut a bs).aonTime = s.aonTime ∧ (s.cxlPut a bs).aonEvents = s.aonEvents ∧ (s.cxlPut a bs).evlog = s.evlog ∧ (s.cxlPut a bs).xbar = s.xbar ∧ (s.cxlPut a bs).faultQ = s.faultQ ∧ (s.cxlPut a bs).tamperLock = s.tamperLock ∧ (s.cxlPut a bs).sent = s.sent := by
  and_intros <;> rfl

@[simp] theorem State.nvPut_others (s : State) (a : Nat) (bs : List Byte) :
    (s.nvPut a bs).pending = s.pending ∧ (s.nvPut a bs).ttime = s.ttime ∧ (s.nvPut a bs).ticks = s.ticks ∧ (s.nvPut a bs).rejLast = s.rejLast ∧ (s.nvPut a bs).freeCtr = s.freeCtr ∧ (s.nvPut a bs).variant = s.variant ∧ (s.nvPut a bs).devId = s.devId ∧ (s.nvPut a bs).regs = s.regs ∧ (s.nvPut a bs).ctr = s.ctr ∧ (s.nvPut a bs).snap = s.snap ∧ (s.nvPut a bs).frozen = s.frozen ∧ (s.nvPut a bs).capT = s.capT ∧ (s.nvPut a bs).raised = s.raised ∧ (s.nvPut a bs).lastRaise = s.lastRaise ∧ (s.nvPut a bs).units = s.units ∧ (s.nvPut a bs).ces = s.ces ∧ (s.nvPut a bs).heap = s.heap ∧ (s.nvPut a bs).cxlSet = s.cxlSet ∧ (s.nvPut a bs).popGib = s.popGib ∧ (s.nvPut a bs).ports = s.ports ∧ (s.nvPut a bs).flows = s.flows ∧ (s.nvPut a bs).outs = s.outs ∧ (s.nvPut a bs).groups = s.groups ∧ (s.nvPut a bs).tiles = s.tiles ∧ (s.nvPut a bs).poolShed = s.poolShed ∧ (s.nvPut a bs).poolLost = s.poolLost ∧ (s.nvPut a bs).audio = s.audio ∧ (s.nvPut a bs).stk = s.stk ∧ (s.nvPut a bs).twin = s.twin ∧ (s.nvPut a bs).syns = s.syns ∧ (s.nvPut a bs).ser = s.ser ∧ (s.nvPut a bs).obs = s.obs ∧ (s.nvPut a bs).saff = s.saff ∧ (s.nvPut a bs).woad = s.woad ∧ (s.nvPut a bs).tamper = s.tamper ∧ (s.nvPut a bs).pwr = s.pwr ∧ (s.nvPut a bs).boot = s.boot ∧ (s.nvPut a bs).cx = s.cx ∧ (s.nvPut a bs).cxlRebuild = s.cxlRebuild ∧ (s.nvPut a bs).memDead = s.memDead ∧ (s.nvPut a bs).madder = s.madder ∧ (s.nvPut a bs).health = s.health ∧ (s.nvPut a bs).aonTime = s.aonTime ∧ (s.nvPut a bs).aonEvents = s.aonEvents ∧ (s.nvPut a bs).evlog = s.evlog ∧ (s.nvPut a bs).xbar = s.xbar ∧ (s.nvPut a bs).faultQ = s.faultQ ∧ (s.nvPut a bs).tamperLock = s.tamperLock ∧ (s.nvPut a bs).sent = s.sent := by
  and_intros <;> rfl

@[simp] theorem State.setReg_others (s : State) (a : Nat) (w : Word) :
    (s.setReg a w).pending = s.pending ∧ (s.setReg a w).ttime = s.ttime ∧ (s.setReg a w).ticks = s.ticks ∧ (s.setReg a w).rejLast = s.rejLast ∧ (s.setReg a w).freeCtr = s.freeCtr ∧ (s.setReg a w).variant = s.variant ∧ (s.setReg a w).devId = s.devId ∧ (s.setReg a w).ctr = s.ctr ∧ (s.setReg a w).snap = s.snap ∧ (s.setReg a w).frozen = s.frozen ∧ (s.setReg a w).capT = s.capT ∧ (s.setReg a w).raised = s.raised ∧ (s.setReg a w).lastRaise = s.lastRaise ∧ (s.setReg a w).units = s.units ∧ (s.setReg a w).ces = s.ces ∧ (s.setReg a w).mem = s.mem ∧ (s.setReg a w).heap = s.heap ∧ (s.setReg a w).cxlSet = s.cxlSet ∧ (s.setReg a w).popGib = s.popGib ∧ (s.setReg a w).ports = s.ports ∧ (s.setReg a w).flows = s.flows ∧ (s.setReg a w).outs = s.outs ∧ (s.setReg a w).groups = s.groups ∧ (s.setReg a w).tiles = s.tiles ∧ (s.setReg a w).poolShed = s.poolShed ∧ (s.setReg a w).poolLost = s.poolLost ∧ (s.setReg a w).audio = s.audio ∧ (s.setReg a w).stk = s.stk ∧ (s.setReg a w).twin = s.twin ∧ (s.setReg a w).syns = s.syns ∧ (s.setReg a w).ser = s.ser ∧ (s.setReg a w).obs = s.obs ∧ (s.setReg a w).saff = s.saff ∧ (s.setReg a w).woad = s.woad ∧ (s.setReg a w).tamper = s.tamper ∧ (s.setReg a w).pwr = s.pwr ∧ (s.setReg a w).boot = s.boot ∧ (s.setReg a w).cx = s.cx ∧ (s.setReg a w).cxlRebuild = s.cxlRebuild ∧ (s.setReg a w).memDead = s.memDead ∧ (s.setReg a w).madder = s.madder ∧ (s.setReg a w).health = s.health ∧ (s.setReg a w).aonTime = s.aonTime ∧ (s.setReg a w).aonEvents = s.aonEvents ∧ (s.setReg a w).evlog = s.evlog ∧ (s.setReg a w).xbar = s.xbar ∧ (s.setReg a w).faultQ = s.faultQ ∧ (s.setReg a w).tamperLock = s.tamperLock ∧ (s.setReg a w).sent = s.sent := by
  and_intros <;> rfl

@[simp] theorem State.setCtr_others (s : State) (a n : Nat) :
    (s.setCtr a n).pending = s.pending ∧ (s.setCtr a n).ttime = s.ttime ∧ (s.setCtr a n).ticks = s.ticks ∧ (s.setCtr a n).rejLast = s.rejLast ∧ (s.setCtr a n).freeCtr = s.freeCtr ∧ (s.setCtr a n).variant = s.variant ∧ (s.setCtr a n).devId = s.devId ∧ (s.setCtr a n).regs = s.regs ∧ (s.setCtr a n).snap = s.snap ∧ (s.setCtr a n).frozen = s.frozen ∧ (s.setCtr a n).capT = s.capT ∧ (s.setCtr a n).raised = s.raised ∧ (s.setCtr a n).lastRaise = s.lastRaise ∧ (s.setCtr a n).units = s.units ∧ (s.setCtr a n).ces = s.ces ∧ (s.setCtr a n).mem = s.mem ∧ (s.setCtr a n).heap = s.heap ∧ (s.setCtr a n).cxlSet = s.cxlSet ∧ (s.setCtr a n).popGib = s.popGib ∧ (s.setCtr a n).ports = s.ports ∧ (s.setCtr a n).flows = s.flows ∧ (s.setCtr a n).outs = s.outs ∧ (s.setCtr a n).groups = s.groups ∧ (s.setCtr a n).tiles = s.tiles ∧ (s.setCtr a n).poolShed = s.poolShed ∧ (s.setCtr a n).poolLost = s.poolLost ∧ (s.setCtr a n).audio = s.audio ∧ (s.setCtr a n).stk = s.stk ∧ (s.setCtr a n).twin = s.twin ∧ (s.setCtr a n).syns = s.syns ∧ (s.setCtr a n).ser = s.ser ∧ (s.setCtr a n).obs = s.obs ∧ (s.setCtr a n).saff = s.saff ∧ (s.setCtr a n).woad = s.woad ∧ (s.setCtr a n).tamper = s.tamper ∧ (s.setCtr a n).pwr = s.pwr ∧ (s.setCtr a n).boot = s.boot ∧ (s.setCtr a n).cx = s.cx ∧ (s.setCtr a n).cxlRebuild = s.cxlRebuild ∧ (s.setCtr a n).memDead = s.memDead ∧ (s.setCtr a n).madder = s.madder ∧ (s.setCtr a n).health = s.health ∧ (s.setCtr a n).aonTime = s.aonTime ∧ (s.setCtr a n).aonEvents = s.aonEvents ∧ (s.setCtr a n).evlog = s.evlog ∧ (s.setCtr a n).xbar = s.xbar ∧ (s.setCtr a n).faultQ = s.faultQ ∧ (s.setCtr a n).tamperLock = s.tamperLock ∧ (s.setCtr a n).sent = s.sent := by
  and_intros <;> rfl

@[simp] theorem State.emit_others (s : State) (kind : String) (via dst : Nat) (args : List Nat) :
    (s.emit kind via dst args).pending = s.pending ∧ (s.emit kind via dst args).ttime = s.ttime ∧ (s.emit kind via dst args).ticks = s.ticks ∧ (s.emit kind via dst args).rejLast = s.rejLast ∧ (s.emit kind via dst args).freeCtr = s.freeCtr ∧ (s.emit kind via dst args).variant = s.variant ∧ (s.emit kind via dst args).devId = s.devId ∧ (s.emit kind via dst args).regs = s.regs ∧ (s.emit kind via dst args).ctr = s.ctr ∧ (s.emit kind via dst args).snap = s.snap ∧ (s.emit kind via dst args).frozen = s.frozen ∧ (s.emit kind via dst args).capT = s.capT ∧ (s.emit kind via dst args).raised = s.raised ∧ (s.emit kind via dst args).lastRaise = s.lastRaise ∧ (s.emit kind via dst args).units = s.units ∧ (s.emit kind via dst args).ces = s.ces ∧ (s.emit kind via dst args).mem = s.mem ∧ (s.emit kind via dst args).heap = s.heap ∧ (s.emit kind via dst args).cxlSet = s.cxlSet ∧ (s.emit kind via dst args).popGib = s.popGib ∧ (s.emit kind via dst args).ports = s.ports ∧ (s.emit kind via dst args).flows = s.flows ∧ (s.emit kind via dst args).outs = s.outs ∧ (s.emit kind via dst args).groups = s.groups ∧ (s.emit kind via dst args).tiles = s.tiles ∧ (s.emit kind via dst args).poolShed = s.poolShed ∧ (s.emit kind via dst args).poolLost = s.poolLost ∧ (s.emit kind via dst args).audio = s.audio ∧ (s.emit kind via dst args).stk = s.stk ∧ (s.emit kind via dst args).twin = s.twin ∧ (s.emit kind via dst args).syns = s.syns ∧ (s.emit kind via dst args).ser = s.ser ∧ (s.emit kind via dst args).obs = s.obs ∧ (s.emit kind via dst args).saff = s.saff ∧ (s.emit kind via dst args).woad = s.woad ∧ (s.emit kind via dst args).tamper = s.tamper ∧ (s.emit kind via dst args).pwr = s.pwr ∧ (s.emit kind via dst args).boot = s.boot ∧ (s.emit kind via dst args).cx = s.cx ∧ (s.emit kind via dst args).cxlRebuild = s.cxlRebuild ∧ (s.emit kind via dst args).memDead = s.memDead ∧ (s.emit kind via dst args).madder = s.madder ∧ (s.emit kind via dst args).health = s.health ∧ (s.emit kind via dst args).aonTime = s.aonTime ∧ (s.emit kind via dst args).aonEvents = s.aonEvents ∧ (s.emit kind via dst args).evlog = s.evlog ∧ (s.emit kind via dst args).xbar = s.xbar ∧ (s.emit kind via dst args).faultQ = s.faultQ ∧ (s.emit kind via dst args).tamperLock = s.tamperLock := by
  and_intros <;> rfl

@[simp] theorem State.setUnit_others (s : State) (u : Nat) (x : UnitState) :
    (s.setUnit u x).pending = s.pending ∧ (s.setUnit u x).ttime = s.ttime ∧ (s.setUnit u x).ticks = s.ticks ∧ (s.setUnit u x).rejLast = s.rejLast ∧ (s.setUnit u x).freeCtr = s.freeCtr ∧ (s.setUnit u x).variant = s.variant ∧ (s.setUnit u x).devId = s.devId ∧ (s.setUnit u x).regs = s.regs ∧ (s.setUnit u x).ctr = s.ctr ∧ (s.setUnit u x).snap = s.snap ∧ (s.setUnit u x).frozen = s.frozen ∧ (s.setUnit u x).capT = s.capT ∧ (s.setUnit u x).raised = s.raised ∧ (s.setUnit u x).lastRaise = s.lastRaise ∧ (s.setUnit u x).ces = s.ces ∧ (s.setUnit u x).mem = s.mem ∧ (s.setUnit u x).heap = s.heap ∧ (s.setUnit u x).cxlSet = s.cxlSet ∧ (s.setUnit u x).popGib = s.popGib ∧ (s.setUnit u x).ports = s.ports ∧ (s.setUnit u x).flows = s.flows ∧ (s.setUnit u x).outs = s.outs ∧ (s.setUnit u x).groups = s.groups ∧ (s.setUnit u x).tiles = s.tiles ∧ (s.setUnit u x).poolShed = s.poolShed ∧ (s.setUnit u x).poolLost = s.poolLost ∧ (s.setUnit u x).audio = s.audio ∧ (s.setUnit u x).stk = s.stk ∧ (s.setUnit u x).twin = s.twin ∧ (s.setUnit u x).syns = s.syns ∧ (s.setUnit u x).ser = s.ser ∧ (s.setUnit u x).obs = s.obs ∧ (s.setUnit u x).saff = s.saff ∧ (s.setUnit u x).woad = s.woad ∧ (s.setUnit u x).tamper = s.tamper ∧ (s.setUnit u x).pwr = s.pwr ∧ (s.setUnit u x).boot = s.boot ∧ (s.setUnit u x).cx = s.cx ∧ (s.setUnit u x).cxlRebuild = s.cxlRebuild ∧ (s.setUnit u x).memDead = s.memDead ∧ (s.setUnit u x).madder = s.madder ∧ (s.setUnit u x).health = s.health ∧ (s.setUnit u x).aonTime = s.aonTime ∧ (s.setUnit u x).aonEvents = s.aonEvents ∧ (s.setUnit u x).evlog = s.evlog ∧ (s.setUnit u x).xbar = s.xbar ∧ (s.setUnit u x).faultQ = s.faultQ ∧ (s.setUnit u x).tamperLock = s.tamperLock ∧ (s.setUnit u x).sent = s.sent := by
  and_intros <;> rfl

@[simp] theorem State.setCe_others (s : State) (e : Nat) (x : Ce) :
    (s.setCe e x).pending = s.pending ∧ (s.setCe e x).ttime = s.ttime ∧ (s.setCe e x).ticks = s.ticks ∧ (s.setCe e x).rejLast = s.rejLast ∧ (s.setCe e x).freeCtr = s.freeCtr ∧ (s.setCe e x).variant = s.variant ∧ (s.setCe e x).devId = s.devId ∧ (s.setCe e x).regs = s.regs ∧ (s.setCe e x).ctr = s.ctr ∧ (s.setCe e x).snap = s.snap ∧ (s.setCe e x).frozen = s.frozen ∧ (s.setCe e x).capT = s.capT ∧ (s.setCe e x).raised = s.raised ∧ (s.setCe e x).lastRaise = s.lastRaise ∧ (s.setCe e x).units = s.units ∧ (s.setCe e x).mem = s.mem ∧ (s.setCe e x).heap = s.heap ∧ (s.setCe e x).cxlSet = s.cxlSet ∧ (s.setCe e x).popGib = s.popGib ∧ (s.setCe e x).ports = s.ports ∧ (s.setCe e x).flows = s.flows ∧ (s.setCe e x).outs = s.outs ∧ (s.setCe e x).groups = s.groups ∧ (s.setCe e x).tiles = s.tiles ∧ (s.setCe e x).poolShed = s.poolShed ∧ (s.setCe e x).poolLost = s.poolLost ∧ (s.setCe e x).audio = s.audio ∧ (s.setCe e x).stk = s.stk ∧ (s.setCe e x).twin = s.twin ∧ (s.setCe e x).syns = s.syns ∧ (s.setCe e x).ser = s.ser ∧ (s.setCe e x).obs = s.obs ∧ (s.setCe e x).saff = s.saff ∧ (s.setCe e x).woad = s.woad ∧ (s.setCe e x).tamper = s.tamper ∧ (s.setCe e x).pwr = s.pwr ∧ (s.setCe e x).boot = s.boot ∧ (s.setCe e x).cx = s.cx ∧ (s.setCe e x).cxlRebuild = s.cxlRebuild ∧ (s.setCe e x).memDead = s.memDead ∧ (s.setCe e x).madder = s.madder ∧ (s.setCe e x).health = s.health ∧ (s.setCe e x).aonTime = s.aonTime ∧ (s.setCe e x).aonEvents = s.aonEvents ∧ (s.setCe e x).evlog = s.evlog ∧ (s.setCe e x).xbar = s.xbar ∧ (s.setCe e x).faultQ = s.faultQ ∧ (s.setCe e x).tamperLock = s.tamperLock ∧ (s.setCe e x).sent = s.sent := by
  and_intros <;> rfl

@[simp] theorem State.setFlow_others (s : State) (f : Nat) (x : Flow) :
    (s.setFlow f x).pending = s.pending ∧ (s.setFlow f x).ttime = s.ttime ∧ (s.setFlow f x).ticks = s.ticks ∧ (s.setFlow f x).rejLast = s.rejLast ∧ (s.setFlow f x).freeCtr = s.freeCtr ∧ (s.setFlow f x).variant = s.variant ∧ (s.setFlow f x).devId = s.devId ∧ (s.setFlow f x).regs = s.regs ∧ (s.setFlow f x).ctr = s.ctr ∧ (s.setFlow f x).snap = s.snap ∧ (s.setFlow f x).frozen = s.frozen ∧ (s.setFlow f x).capT = s.capT ∧ (s.setFlow f x).raised = s.raised ∧ (s.setFlow f x).lastRaise = s.lastRaise ∧ (s.setFlow f x).units = s.units ∧ (s.setFlow f x).ces = s.ces ∧ (s.setFlow f x).mem = s.mem ∧ (s.setFlow f x).heap = s.heap ∧ (s.setFlow f x).cxlSet = s.cxlSet ∧ (s.setFlow f x).popGib = s.popGib ∧ (s.setFlow f x).ports = s.ports ∧ (s.setFlow f x).outs = s.outs ∧ (s.setFlow f x).groups = s.groups ∧ (s.setFlow f x).tiles = s.tiles ∧ (s.setFlow f x).poolShed = s.poolShed ∧ (s.setFlow f x).poolLost = s.poolLost ∧ (s.setFlow f x).audio = s.audio ∧ (s.setFlow f x).stk = s.stk ∧ (s.setFlow f x).twin = s.twin ∧ (s.setFlow f x).syns = s.syns ∧ (s.setFlow f x).ser = s.ser ∧ (s.setFlow f x).obs = s.obs ∧ (s.setFlow f x).saff = s.saff ∧ (s.setFlow f x).woad = s.woad ∧ (s.setFlow f x).tamper = s.tamper ∧ (s.setFlow f x).pwr = s.pwr ∧ (s.setFlow f x).boot = s.boot ∧ (s.setFlow f x).cx = s.cx ∧ (s.setFlow f x).cxlRebuild = s.cxlRebuild ∧ (s.setFlow f x).memDead = s.memDead ∧ (s.setFlow f x).madder = s.madder ∧ (s.setFlow f x).health = s.health ∧ (s.setFlow f x).aonTime = s.aonTime ∧ (s.setFlow f x).aonEvents = s.aonEvents ∧ (s.setFlow f x).evlog = s.evlog ∧ (s.setFlow f x).xbar = s.xbar ∧ (s.setFlow f x).faultQ = s.faultQ ∧ (s.setFlow f x).tamperLock = s.tamperLock ∧ (s.setFlow f x).sent = s.sent := by
  and_intros <;> rfl

@[simp] theorem State.setOut_others (s : State) (n : Nat) (x : Out) :
    (s.setOut n x).pending = s.pending ∧ (s.setOut n x).ttime = s.ttime ∧ (s.setOut n x).ticks = s.ticks ∧ (s.setOut n x).rejLast = s.rejLast ∧ (s.setOut n x).freeCtr = s.freeCtr ∧ (s.setOut n x).variant = s.variant ∧ (s.setOut n x).devId = s.devId ∧ (s.setOut n x).regs = s.regs ∧ (s.setOut n x).ctr = s.ctr ∧ (s.setOut n x).snap = s.snap ∧ (s.setOut n x).frozen = s.frozen ∧ (s.setOut n x).capT = s.capT ∧ (s.setOut n x).raised = s.raised ∧ (s.setOut n x).lastRaise = s.lastRaise ∧ (s.setOut n x).units = s.units ∧ (s.setOut n x).ces = s.ces ∧ (s.setOut n x).mem = s.mem ∧ (s.setOut n x).heap = s.heap ∧ (s.setOut n x).cxlSet = s.cxlSet ∧ (s.setOut n x).popGib = s.popGib ∧ (s.setOut n x).ports = s.ports ∧ (s.setOut n x).flows = s.flows ∧ (s.setOut n x).groups = s.groups ∧ (s.setOut n x).tiles = s.tiles ∧ (s.setOut n x).poolShed = s.poolShed ∧ (s.setOut n x).poolLost = s.poolLost ∧ (s.setOut n x).audio = s.audio ∧ (s.setOut n x).stk = s.stk ∧ (s.setOut n x).twin = s.twin ∧ (s.setOut n x).syns = s.syns ∧ (s.setOut n x).ser = s.ser ∧ (s.setOut n x).obs = s.obs ∧ (s.setOut n x).saff = s.saff ∧ (s.setOut n x).woad = s.woad ∧ (s.setOut n x).tamper = s.tamper ∧ (s.setOut n x).pwr = s.pwr ∧ (s.setOut n x).boot = s.boot ∧ (s.setOut n x).cx = s.cx ∧ (s.setOut n x).cxlRebuild = s.cxlRebuild ∧ (s.setOut n x).memDead = s.memDead ∧ (s.setOut n x).madder = s.madder ∧ (s.setOut n x).health = s.health ∧ (s.setOut n x).aonTime = s.aonTime ∧ (s.setOut n x).aonEvents = s.aonEvents ∧ (s.setOut n x).evlog = s.evlog ∧ (s.setOut n x).xbar = s.xbar ∧ (s.setOut n x).faultQ = s.faultQ ∧ (s.setOut n x).tamperLock = s.tamperLock ∧ (s.setOut n x).sent = s.sent := by
  and_intros <;> rfl

@[simp] theorem State.setGroup_others (s : State) (g : Nat) (x : TGroup) :
    (s.setGroup g x).pending = s.pending ∧ (s.setGroup g x).ttime = s.ttime ∧ (s.setGroup g x).ticks = s.ticks ∧ (s.setGroup g x).rejLast = s.rejLast ∧ (s.setGroup g x).freeCtr = s.freeCtr ∧ (s.setGroup g x).variant = s.variant ∧ (s.setGroup g x).devId = s.devId ∧ (s.setGroup g x).regs = s.regs ∧ (s.setGroup g x).ctr = s.ctr ∧ (s.setGroup g x).snap = s.snap ∧ (s.setGroup g x).frozen = s.frozen ∧ (s.setGroup g x).capT = s.capT ∧ (s.setGroup g x).raised = s.raised ∧ (s.setGroup g x).lastRaise = s.lastRaise ∧ (s.setGroup g x).units = s.units ∧ (s.setGroup g x).ces = s.ces ∧ (s.setGroup g x).mem = s.mem ∧ (s.setGroup g x).heap = s.heap ∧ (s.setGroup g x).cxlSet = s.cxlSet ∧ (s.setGroup g x).popGib = s.popGib ∧ (s.setGroup g x).ports = s.ports ∧ (s.setGroup g x).flows = s.flows ∧ (s.setGroup g x).outs = s.outs ∧ (s.setGroup g x).tiles = s.tiles ∧ (s.setGroup g x).poolShed = s.poolShed ∧ (s.setGroup g x).poolLost = s.poolLost ∧ (s.setGroup g x).audio = s.audio ∧ (s.setGroup g x).stk = s.stk ∧ (s.setGroup g x).twin = s.twin ∧ (s.setGroup g x).syns = s.syns ∧ (s.setGroup g x).ser = s.ser ∧ (s.setGroup g x).obs = s.obs ∧ (s.setGroup g x).saff = s.saff ∧ (s.setGroup g x).woad = s.woad ∧ (s.setGroup g x).tamper = s.tamper ∧ (s.setGroup g x).pwr = s.pwr ∧ (s.setGroup g x).boot = s.boot ∧ (s.setGroup g x).cx = s.cx ∧ (s.setGroup g x).cxlRebuild = s.cxlRebuild ∧ (s.setGroup g x).memDead = s.memDead ∧ (s.setGroup g x).madder = s.madder ∧ (s.setGroup g x).health = s.health ∧ (s.setGroup g x).aonTime = s.aonTime ∧ (s.setGroup g x).aonEvents = s.aonEvents ∧ (s.setGroup g x).evlog = s.evlog ∧ (s.setGroup g x).xbar = s.xbar ∧ (s.setGroup g x).faultQ = s.faultQ ∧ (s.setGroup g x).tamperLock = s.tamperLock ∧ (s.setGroup g x).sent = s.sent := by
  and_intros <;> rfl

@[simp] theorem State.setTile_others (s : State) (t : Nat) (x : Tile) :
    (s.setTile t x).pending = s.pending ∧ (s.setTile t x).ttime = s.ttime ∧ (s.setTile t x).ticks = s.ticks ∧ (s.setTile t x).rejLast = s.rejLast ∧ (s.setTile t x).freeCtr = s.freeCtr ∧ (s.setTile t x).variant = s.variant ∧ (s.setTile t x).devId = s.devId ∧ (s.setTile t x).regs = s.regs ∧ (s.setTile t x).ctr = s.ctr ∧ (s.setTile t x).snap = s.snap ∧ (s.setTile t x).frozen = s.frozen ∧ (s.setTile t x).capT = s.capT ∧ (s.setTile t x).raised = s.raised ∧ (s.setTile t x).lastRaise = s.lastRaise ∧ (s.setTile t x).units = s.units ∧ (s.setTile t x).ces = s.ces ∧ (s.setTile t x).mem = s.mem ∧ (s.setTile t x).heap = s.heap ∧ (s.setTile t x).cxlSet = s.cxlSet ∧ (s.setTile t x).popGib = s.popGib ∧ (s.setTile t x).ports = s.ports ∧ (s.setTile t x).flows = s.flows ∧ (s.setTile t x).outs = s.outs ∧ (s.setTile t x).groups = s.groups ∧ (s.setTile t x).poolShed = s.poolShed ∧ (s.setTile t x).poolLost = s.poolLost ∧ (s.setTile t x).audio = s.audio ∧ (s.setTile t x).stk = s.stk ∧ (s.setTile t x).twin = s.twin ∧ (s.setTile t x).syns = s.syns ∧ (s.setTile t x).ser = s.ser ∧ (s.setTile t x).obs = s.obs ∧ (s.setTile t x).saff = s.saff ∧ (s.setTile t x).woad = s.woad ∧ (s.setTile t x).tamper = s.tamper ∧ (s.setTile t x).pwr = s.pwr ∧ (s.setTile t x).boot = s.boot ∧ (s.setTile t x).cx = s.cx ∧ (s.setTile t x).cxlRebuild = s.cxlRebuild ∧ (s.setTile t x).memDead = s.memDead ∧ (s.setTile t x).madder = s.madder ∧ (s.setTile t x).health = s.health ∧ (s.setTile t x).aonTime = s.aonTime ∧ (s.setTile t x).aonEvents = s.aonEvents ∧ (s.setTile t x).evlog = s.evlog ∧ (s.setTile t x).xbar = s.xbar ∧ (s.setTile t x).faultQ = s.faultQ ∧ (s.setTile t x).tamperLock = s.tamperLock ∧ (s.setTile t x).sent = s.sent := by
  and_intros <;> rfl

@[simp] theorem State.setPort_others (s : State) (n : Nat) (x : Port) :
    (s.setPort n x).pending = s.pending ∧ (s.setPort n x).ttime = s.ttime ∧ (s.setPort n x).ticks = s.ticks ∧ (s.setPort n x).rejLast = s.rejLast ∧ (s.setPort n x).freeCtr = s.freeCtr ∧ (s.setPort n x).variant = s.variant ∧ (s.setPort n x).devId = s.devId ∧ (s.setPort n x).regs = s.regs ∧ (s.setPort n x).ctr = s.ctr ∧ (s.setPort n x).snap = s.snap ∧ (s.setPort n x).frozen = s.frozen ∧ (s.setPort n x).capT = s.capT ∧ (s.setPort n x).raised = s.raised ∧ (s.setPort n x).lastRaise = s.lastRaise ∧ (s.setPort n x).units = s.units ∧ (s.setPort n x).ces = s.ces ∧ (s.setPort n x).mem = s.mem ∧ (s.setPort n x).heap = s.heap ∧ (s.setPort n x).cxlSet = s.cxlSet ∧ (s.setPort n x).popGib = s.popGib ∧ (s.setPort n x).flows = s.flows ∧ (s.setPort n x).outs = s.outs ∧ (s.setPort n x).groups = s.groups ∧ (s.setPort n x).tiles = s.tiles ∧ (s.setPort n x).poolShed = s.poolShed ∧ (s.setPort n x).poolLost = s.poolLost ∧ (s.setPort n x).audio = s.audio ∧ (s.setPort n x).stk = s.stk ∧ (s.setPort n x).twin = s.twin ∧ (s.setPort n x).syns = s.syns ∧ (s.setPort n x).ser = s.ser ∧ (s.setPort n x).obs = s.obs ∧ (s.setPort n x).saff = s.saff ∧ (s.setPort n x).woad = s.woad ∧ (s.setPort n x).tamper = s.tamper ∧ (s.setPort n x).pwr = s.pwr ∧ (s.setPort n x).boot = s.boot ∧ (s.setPort n x).cx = s.cx ∧ (s.setPort n x).cxlRebuild = s.cxlRebuild ∧ (s.setPort n x).memDead = s.memDead ∧ (s.setPort n x).madder = s.madder ∧ (s.setPort n x).health = s.health ∧ (s.setPort n x).aonTime = s.aonTime ∧ (s.setPort n x).aonEvents = s.aonEvents ∧ (s.setPort n x).evlog = s.evlog ∧ (s.setPort n x).xbar = s.xbar ∧ (s.setPort n x).faultQ = s.faultQ ∧ (s.setPort n x).tamperLock = s.tamperLock ∧ (s.setPort n x).sent = s.sent := by
  and_intros <;> rfl

@[simp] theorem State.setPwr_others (s : State) (x : Pwr) :
    (s.setPwr x).pending = s.pending ∧ (s.setPwr x).ttime = s.ttime ∧ (s.setPwr x).ticks = s.ticks ∧ (s.setPwr x).rejLast = s.rejLast ∧ (s.setPwr x).freeCtr = s.freeCtr ∧ (s.setPwr x).variant = s.variant ∧ (s.setPwr x).devId = s.devId ∧ (s.setPwr x).regs = s.regs ∧ (s.setPwr x).ctr = s.ctr ∧ (s.setPwr x).snap = s.snap ∧ (s.setPwr x).frozen = s.frozen ∧ (s.setPwr x).capT = s.capT ∧ (s.setPwr x).raised = s.raised ∧ (s.setPwr x).lastRaise = s.lastRaise ∧ (s.setPwr x).units = s.units ∧ (s.setPwr x).ces = s.ces ∧ (s.setPwr x).mem = s.mem ∧ (s.setPwr x).heap = s.heap ∧ (s.setPwr x).cxlSet = s.cxlSet ∧ (s.setPwr x).popGib = s.popGib ∧ (s.setPwr x).ports = s.ports ∧ (s.setPwr x).flows = s.flows ∧ (s.setPwr x).outs = s.outs ∧ (s.setPwr x).groups = s.groups ∧ (s.setPwr x).tiles = s.tiles ∧ (s.setPwr x).poolShed = s.poolShed ∧ (s.setPwr x).poolLost = s.poolLost ∧ (s.setPwr x).audio = s.audio ∧ (s.setPwr x).stk = s.stk ∧ (s.setPwr x).twin = s.twin ∧ (s.setPwr x).syns = s.syns ∧ (s.setPwr x).ser = s.ser ∧ (s.setPwr x).obs = s.obs ∧ (s.setPwr x).saff = s.saff ∧ (s.setPwr x).woad = s.woad ∧ (s.setPwr x).tamper = s.tamper ∧ (s.setPwr x).boot = s.boot ∧ (s.setPwr x).cx = s.cx ∧ (s.setPwr x).cxlRebuild = s.cxlRebuild ∧ (s.setPwr x).memDead = s.memDead ∧ (s.setPwr x).madder = s.madder ∧ (s.setPwr x).health = s.health ∧ (s.setPwr x).aonTime = s.aonTime ∧ (s.setPwr x).aonEvents = s.aonEvents ∧ (s.setPwr x).evlog = s.evlog ∧ (s.setPwr x).xbar = s.xbar ∧ (s.setPwr x).faultQ = s.faultQ ∧ (s.setPwr x).tamperLock = s.tamperLock ∧ (s.setPwr x).sent = s.sent := by
  and_intros <;> rfl

@[simp] theorem State.modMadder_others (s : State) (f : Madder → Madder) :
    (s.modMadder f).pending = s.pending ∧ (s.modMadder f).ttime = s.ttime ∧ (s.modMadder f).ticks = s.ticks ∧ (s.modMadder f).rejLast = s.rejLast ∧ (s.modMadder f).freeCtr = s.freeCtr ∧ (s.modMadder f).variant = s.variant ∧ (s.modMadder f).devId = s.devId ∧ (s.modMadder f).regs = s.regs ∧ (s.modMadder f).ctr = s.ctr ∧ (s.modMadder f).snap = s.snap ∧ (s.modMadder f).frozen = s.frozen ∧ (s.modMadder f).capT = s.capT ∧ (s.modMadder f).raised = s.raised ∧ (s.modMadder f).lastRaise = s.lastRaise ∧ (s.modMadder f).units = s.units ∧ (s.modMadder f).ces = s.ces ∧ (s.modMadder f).mem = s.mem ∧ (s.modMadder f).heap = s.heap ∧ (s.modMadder f).cxlSet = s.cxlSet ∧ (s.modMadder f).popGib = s.popGib ∧ (s.modMadder f).ports = s.ports ∧ (s.modMadder f).flows = s.flows ∧ (s.modMadder f).outs = s.outs ∧ (s.modMadder f).groups = s.groups ∧ (s.modMadder f).tiles = s.tiles ∧ (s.modMadder f).poolShed = s.poolShed ∧ (s.modMadder f).poolLost = s.poolLost ∧ (s.modMadder f).audio = s.audio ∧ (s.modMadder f).stk = s.stk ∧ (s.modMadder f).twin = s.twin ∧ (s.modMadder f).syns = s.syns ∧ (s.modMadder f).ser = s.ser ∧ (s.modMadder f).obs = s.obs ∧ (s.modMadder f).saff = s.saff ∧ (s.modMadder f).woad = s.woad ∧ (s.modMadder f).tamper = s.tamper ∧ (s.modMadder f).pwr = s.pwr ∧ (s.modMadder f).boot = s.boot ∧ (s.modMadder f).cx = s.cx ∧ (s.modMadder f).cxlRebuild = s.cxlRebuild ∧ (s.modMadder f).memDead = s.memDead ∧ (s.modMadder f).health = s.health ∧ (s.modMadder f).aonTime = s.aonTime ∧ (s.modMadder f).aonEvents = s.aonEvents ∧ (s.modMadder f).evlog = s.evlog ∧ (s.modMadder f).xbar = s.xbar ∧ (s.modMadder f).faultQ = s.faultQ ∧ (s.modMadder f).tamperLock = s.tamperLock ∧ (s.modMadder f).sent = s.sent := by
  and_intros <;> rfl

@[simp] theorem State.setSalvo_others (s : State) (v : Salvo) :
    (s.setSalvo v).pending = s.pending ∧ (s.setSalvo v).ttime = s.ttime ∧ (s.setSalvo v).ticks = s.ticks ∧ (s.setSalvo v).rejLast = s.rejLast ∧ (s.setSalvo v).freeCtr = s.freeCtr ∧ (s.setSalvo v).variant = s.variant ∧ (s.setSalvo v).devId = s.devId ∧ (s.setSalvo v).regs = s.regs ∧ (s.setSalvo v).ctr = s.ctr ∧ (s.setSalvo v).snap = s.snap ∧ (s.setSalvo v).frozen = s.frozen ∧ (s.setSalvo v).capT = s.capT ∧ (s.setSalvo v).raised = s.raised ∧ (s.setSalvo v).lastRaise = s.lastRaise ∧ (s.setSalvo v).units = s.units ∧ (s.setSalvo v).ces = s.ces ∧ (s.setSalvo v).mem = s.mem ∧ (s.setSalvo v).heap = s.heap ∧ (s.setSalvo v).cxlSet = s.cxlSet ∧ (s.setSalvo v).popGib = s.popGib ∧ (s.setSalvo v).ports = s.ports ∧ (s.setSalvo v).flows = s.flows ∧ (s.setSalvo v).outs = s.outs ∧ (s.setSalvo v).groups = s.groups ∧ (s.setSalvo v).tiles = s.tiles ∧ (s.setSalvo v).poolShed = s.poolShed ∧ (s.setSalvo v).poolLost = s.poolLost ∧ (s.setSalvo v).audio = s.audio ∧ (s.setSalvo v).twin = s.twin ∧ (s.setSalvo v).syns = s.syns ∧ (s.setSalvo v).ser = s.ser ∧ (s.setSalvo v).obs = s.obs ∧ (s.setSalvo v).saff = s.saff ∧ (s.setSalvo v).woad = s.woad ∧ (s.setSalvo v).tamper = s.tamper ∧ (s.setSalvo v).pwr = s.pwr ∧ (s.setSalvo v).boot = s.boot ∧ (s.setSalvo v).cx = s.cx ∧ (s.setSalvo v).cxlRebuild = s.cxlRebuild ∧ (s.setSalvo v).memDead = s.memDead ∧ (s.setSalvo v).madder = s.madder ∧ (s.setSalvo v).health = s.health ∧ (s.setSalvo v).aonTime = s.aonTime ∧ (s.setSalvo v).aonEvents = s.aonEvents ∧ (s.setSalvo v).evlog = s.evlog ∧ (s.setSalvo v).xbar = s.xbar ∧ (s.setSalvo v).faultQ = s.faultQ ∧ (s.setSalvo v).tamperLock = s.tamperLock ∧ (s.setSalvo v).sent = s.sent := by
  and_intros <;> rfl

@[simp] theorem State.setPart_others (s : State) (p : Part) :
    (s.setPart p).pending = s.pending ∧ (s.setPart p).ttime = s.ttime ∧ (s.setPart p).ticks = s.ticks ∧ (s.setPart p).rejLast = s.rejLast ∧ (s.setPart p).freeCtr = s.freeCtr ∧ (s.setPart p).variant = s.variant ∧ (s.setPart p).devId = s.devId ∧ (s.setPart p).regs = s.regs ∧ (s.setPart p).ctr = s.ctr ∧ (s.setPart p).snap = s.snap ∧ (s.setPart p).frozen = s.frozen ∧ (s.setPart p).capT = s.capT ∧ (s.setPart p).raised = s.raised ∧ (s.setPart p).lastRaise = s.lastRaise ∧ (s.setPart p).units = s.units ∧ (s.setPart p).ces = s.ces ∧ (s.setPart p).mem = s.mem ∧ (s.setPart p).heap = s.heap ∧ (s.setPart p).cxlSet = s.cxlSet ∧ (s.setPart p).popGib = s.popGib ∧ (s.setPart p).ports = s.ports ∧ (s.setPart p).flows = s.flows ∧ (s.setPart p).outs = s.outs ∧ (s.setPart p).groups = s.groups ∧ (s.setPart p).tiles = s.tiles ∧ (s.setPart p).poolShed = s.poolShed ∧ (s.setPart p).poolLost = s.poolLost ∧ (s.setPart p).audio = s.audio ∧ (s.setPart p).twin = s.twin ∧ (s.setPart p).syns = s.syns ∧ (s.setPart p).ser = s.ser ∧ (s.setPart p).obs = s.obs ∧ (s.setPart p).saff = s.saff ∧ (s.setPart p).woad = s.woad ∧ (s.setPart p).tamper = s.tamper ∧ (s.setPart p).pwr = s.pwr ∧ (s.setPart p).boot = s.boot ∧ (s.setPart p).cx = s.cx ∧ (s.setPart p).cxlRebuild = s.cxlRebuild ∧ (s.setPart p).memDead = s.memDead ∧ (s.setPart p).madder = s.madder ∧ (s.setPart p).health = s.health ∧ (s.setPart p).aonTime = s.aonTime ∧ (s.setPart p).aonEvents = s.aonEvents ∧ (s.setPart p).evlog = s.evlog ∧ (s.setPart p).xbar = s.xbar ∧ (s.setPart p).faultQ = s.faultQ ∧ (s.setPart p).tamperLock = s.tamperLock ∧ (s.setPart p).sent = s.sent := by
  and_intros <;> rfl

@[simp] theorem State.modTamper_others (s : State) (f : Tamper → Tamper) :
    (s.modTamper f).pending = s.pending ∧ (s.modTamper f).ttime = s.ttime ∧ (s.modTamper f).ticks = s.ticks ∧ (s.modTamper f).rejLast = s.rejLast ∧ (s.modTamper f).freeCtr = s.freeCtr ∧ (s.modTamper f).variant = s.variant ∧ (s.modTamper f).devId = s.devId ∧ (s.modTamper f).regs = s.regs ∧ (s.modTamper f).ctr = s.ctr ∧ (s.modTamper f).snap = s.snap ∧ (s.modTamper f).frozen = s.frozen ∧ (s.modTamper f).capT = s.capT ∧ (s.modTamper f).raised = s.raised ∧ (s.modTamper f).lastRaise = s.lastRaise ∧ (s.modTamper f).units = s.units ∧ (s.modTamper f).ces = s.ces ∧ (s.modTamper f).mem = s.mem ∧ (s.modTamper f).heap = s.heap ∧ (s.modTamper f).cxlSet = s.cxlSet ∧ (s.modTamper f).popGib = s.popGib ∧ (s.modTamper f).ports = s.ports ∧ (s.modTamper f).flows = s.flows ∧ (s.modTamper f).outs = s.outs ∧ (s.modTamper f).groups = s.groups ∧ (s.modTamper f).tiles = s.tiles ∧ (s.modTamper f).poolShed = s.poolShed ∧ (s.modTamper f).poolLost = s.poolLost ∧ (s.modTamper f).audio = s.audio ∧ (s.modTamper f).stk = s.stk ∧ (s.modTamper f).twin = s.twin ∧ (s.modTamper f).syns = s.syns ∧ (s.modTamper f).ser = s.ser ∧ (s.modTamper f).obs = s.obs ∧ (s.modTamper f).saff = s.saff ∧ (s.modTamper f).woad = s.woad ∧ (s.modTamper f).pwr = s.pwr ∧ (s.modTamper f).boot = s.boot ∧ (s.modTamper f).cx = s.cx ∧ (s.modTamper f).cxlRebuild = s.cxlRebuild ∧ (s.modTamper f).memDead = s.memDead ∧ (s.modTamper f).madder = s.madder ∧ (s.modTamper f).health = s.health ∧ (s.modTamper f).aonTime = s.aonTime ∧ (s.modTamper f).aonEvents = s.aonEvents ∧ (s.modTamper f).evlog = s.evlog ∧ (s.modTamper f).xbar = s.xbar ∧ (s.modTamper f).faultQ = s.faultQ ∧ (s.modTamper f).tamperLock = s.tamperLock ∧ (s.modTamper f).sent = s.sent := by
  and_intros <;> rfl

@[simp] theorem State.setTwin_others (s : State) (x : Twin) :
    (s.setTwin x).pending = s.pending ∧ (s.setTwin x).ttime = s.ttime ∧ (s.setTwin x).ticks = s.ticks ∧ (s.setTwin x).rejLast = s.rejLast ∧ (s.setTwin x).freeCtr = s.freeCtr ∧ (s.setTwin x).variant = s.variant ∧ (s.setTwin x).devId = s.devId ∧ (s.setTwin x).regs = s.regs ∧ (s.setTwin x).ctr = s.ctr ∧ (s.setTwin x).snap = s.snap ∧ (s.setTwin x).frozen = s.frozen ∧ (s.setTwin x).capT = s.capT ∧ (s.setTwin x).raised = s.raised ∧ (s.setTwin x).lastRaise = s.lastRaise ∧ (s.setTwin x).units = s.units ∧ (s.setTwin x).ces = s.ces ∧ (s.setTwin x).mem = s.mem ∧ (s.setTwin x).heap = s.heap ∧ (s.setTwin x).cxlSet = s.cxlSet ∧ (s.setTwin x).popGib = s.popGib ∧ (s.setTwin x).ports = s.ports ∧ (s.setTwin x).flows = s.flows ∧ (s.setTwin x).outs = s.outs ∧ (s.setTwin x).groups = s.groups ∧ (s.setTwin x).tiles = s.tiles ∧ (s.setTwin x).poolShed = s.poolShed ∧ (s.setTwin x).poolLost = s.poolLost ∧ (s.setTwin x).audio = s.audio ∧ (s.setTwin x).stk = s.stk ∧ (s.setTwin x).syns = s.syns ∧ (s.setTwin x).ser = s.ser ∧ (s.setTwin x).obs = s.obs ∧ (s.setTwin x).saff = s.saff ∧ (s.setTwin x).woad = s.woad ∧ (s.setTwin x).tamper = s.tamper ∧ (s.setTwin x).pwr = s.pwr ∧ (s.setTwin x).boot = s.boot ∧ (s.setTwin x).cx = s.cx ∧ (s.setTwin x).cxlRebuild = s.cxlRebuild ∧ (s.setTwin x).memDead = s.memDead ∧ (s.setTwin x).madder = s.madder ∧ (s.setTwin x).health = s.health ∧ (s.setTwin x).aonTime = s.aonTime ∧ (s.setTwin x).aonEvents = s.aonEvents ∧ (s.setTwin x).evlog = s.evlog ∧ (s.setTwin x).xbar = s.xbar ∧ (s.setTwin x).faultQ = s.faultQ ∧ (s.setTwin x).tamperLock = s.tamperLock ∧ (s.setTwin x).sent = s.sent := by
  and_intros <;> rfl

@[simp] theorem State.setSlot_others (s : State) (i : Nat) (x : Slot17) :
    (s.setSlot i x).pending = s.pending ∧ (s.setSlot i x).ttime = s.ttime ∧ (s.setSlot i x).ticks = s.ticks ∧ (s.setSlot i x).rejLast = s.rejLast ∧ (s.setSlot i x).freeCtr = s.freeCtr ∧ (s.setSlot i x).variant = s.variant ∧ (s.setSlot i x).devId = s.devId ∧ (s.setSlot i x).regs = s.regs ∧ (s.setSlot i x).ctr = s.ctr ∧ (s.setSlot i x).snap = s.snap ∧ (s.setSlot i x).frozen = s.frozen ∧ (s.setSlot i x).capT = s.capT ∧ (s.setSlot i x).raised = s.raised ∧ (s.setSlot i x).lastRaise = s.lastRaise ∧ (s.setSlot i x).units = s.units ∧ (s.setSlot i x).ces = s.ces ∧ (s.setSlot i x).mem = s.mem ∧ (s.setSlot i x).heap = s.heap ∧ (s.setSlot i x).cxlSet = s.cxlSet ∧ (s.setSlot i x).popGib = s.popGib ∧ (s.setSlot i x).ports = s.ports ∧ (s.setSlot i x).flows = s.flows ∧ (s.setSlot i x).outs = s.outs ∧ (s.setSlot i x).groups = s.groups ∧ (s.setSlot i x).tiles = s.tiles ∧ (s.setSlot i x).poolShed = s.poolShed ∧ (s.setSlot i x).poolLost = s.poolLost ∧ (s.setSlot i x).audio = s.audio ∧ (s.setSlot i x).stk = s.stk ∧ (s.setSlot i x).twin = s.twin ∧ (s.setSlot i x).syns = s.syns ∧ (s.setSlot i x).ser = s.ser ∧ (s.setSlot i x).obs = s.obs ∧ (s.setSlot i x).saff = s.saff ∧ (s.setSlot i x).tamper = s.tamper ∧ (s.setSlot i x).pwr = s.pwr ∧ (s.setSlot i x).boot = s.boot ∧ (s.setSlot i x).cx = s.cx ∧ (s.setSlot i x).cxlRebuild = s.cxlRebuild ∧ (s.setSlot i x).memDead = s.memDead ∧ (s.setSlot i x).madder = s.madder ∧ (s.setSlot i x).health = s.health ∧ (s.setSlot i x).aonTime = s.aonTime ∧ (s.setSlot i x).aonEvents = s.aonEvents ∧ (s.setSlot i x).evlog = s.evlog ∧ (s.setSlot i x).xbar = s.xbar ∧ (s.setSlot i x).faultQ = s.faultQ ∧ (s.setSlot i x).tamperLock = s.tamperLock ∧ (s.setSlot i x).sent = s.sent := by
  and_intros <;> rfl

@[simp] theorem State.modOc_others (s : State) (c : Nat) (f : Oc → Oc) :
    (s.modOc c f).pending = s.pending ∧ (s.modOc c f).ttime = s.ttime ∧ (s.modOc c f).ticks = s.ticks ∧ (s.modOc c f).rejLast = s.rejLast ∧ (s.modOc c f).freeCtr = s.freeCtr ∧ (s.modOc c f).variant = s.variant ∧ (s.modOc c f).devId = s.devId ∧ (s.modOc c f).regs = s.regs ∧ (s.modOc c f).ctr = s.ctr ∧ (s.modOc c f).snap = s.snap ∧ (s.modOc c f).frozen = s.frozen ∧ (s.modOc c f).capT = s.capT ∧ (s.modOc c f).raised = s.raised ∧ (s.modOc c f).lastRaise = s.lastRaise ∧ (s.modOc c f).units = s.units ∧ (s.modOc c f).ces = s.ces ∧ (s.modOc c f).mem = s.mem ∧ (s.modOc c f).heap = s.heap ∧ (s.modOc c f).cxlSet = s.cxlSet ∧ (s.modOc c f).popGib = s.popGib ∧ (s.modOc c f).ports = s.ports ∧ (s.modOc c f).flows = s.flows ∧ (s.modOc c f).outs = s.outs ∧ (s.modOc c f).groups = s.groups ∧ (s.modOc c f).tiles = s.tiles ∧ (s.modOc c f).poolShed = s.poolShed ∧ (s.modOc c f).poolLost = s.poolLost ∧ (s.modOc c f).stk = s.stk ∧ (s.modOc c f).twin = s.twin ∧ (s.modOc c f).syns = s.syns ∧ (s.modOc c f).ser = s.ser ∧ (s.modOc c f).obs = s.obs ∧ (s.modOc c f).saff = s.saff ∧ (s.modOc c f).woad = s.woad ∧ (s.modOc c f).tamper = s.tamper ∧ (s.modOc c f).pwr = s.pwr ∧ (s.modOc c f).boot = s.boot ∧ (s.modOc c f).cx = s.cx ∧ (s.modOc c f).cxlRebuild = s.cxlRebuild ∧ (s.modOc c f).memDead = s.memDead ∧ (s.modOc c f).madder = s.madder ∧ (s.modOc c f).health = s.health ∧ (s.modOc c f).aonTime = s.aonTime ∧ (s.modOc c f).aonEvents = s.aonEvents ∧ (s.modOc c f).evlog = s.evlog ∧ (s.modOc c f).xbar = s.xbar ∧ (s.modOc c f).faultQ = s.faultQ ∧ (s.modOc c f).tamperLock = s.tamperLock ∧ (s.modOc c f).sent = s.sent := by
  and_intros <;> rfl

@[simp] theorem State.modBoot_others (s : State) (f : Boot → Boot) :
    (s.modBoot f).pending = s.pending ∧ (s.modBoot f).ttime = s.ttime ∧ (s.modBoot f).ticks = s.ticks ∧ (s.modBoot f).rejLast = s.rejLast ∧ (s.modBoot f).freeCtr = s.freeCtr ∧ (s.modBoot f).variant = s.variant ∧ (s.modBoot f).devId = s.devId ∧ (s.modBoot f).regs = s.regs ∧ (s.modBoot f).ctr = s.ctr ∧ (s.modBoot f).snap = s.snap ∧ (s.modBoot f).frozen = s.frozen ∧ (s.modBoot f).capT = s.capT ∧ (s.modBoot f).raised = s.raised ∧ (s.modBoot f).lastRaise = s.lastRaise ∧ (s.modBoot f).units = s.units ∧ (s.modBoot f).ces = s.ces ∧ (s.modBoot f).mem = s.mem ∧ (s.modBoot f).heap = s.heap ∧ (s.modBoot f).cxlSet = s.cxlSet ∧ (s.modBoot f).popGib = s.popGib ∧ (s.modBoot f).ports = s.ports ∧ (s.modBoot f).flows = s.flows ∧ (s.modBoot f).outs = s.outs ∧ (s.modBoot f).groups = s.groups ∧ (s.modBoot f).tiles = s.tiles ∧ (s.modBoot f).poolShed = s.poolShed ∧ (s.modBoot f).poolLost = s.poolLost ∧ (s.modBoot f).audio = s.audio ∧ (s.modBoot f).stk = s.stk ∧ (s.modBoot f).twin = s.twin ∧ (s.modBoot f).syns = s.syns ∧ (s.modBoot f).ser = s.ser ∧ (s.modBoot f).obs = s.obs ∧ (s.modBoot f).saff = s.saff ∧ (s.modBoot f).woad = s.woad ∧ (s.modBoot f).tamper = s.tamper ∧ (s.modBoot f).pwr = s.pwr ∧ (s.modBoot f).cx = s.cx ∧ (s.modBoot f).cxlRebuild = s.cxlRebuild ∧ (s.modBoot f).memDead = s.memDead ∧ (s.modBoot f).madder = s.madder ∧ (s.modBoot f).health = s.health ∧ (s.modBoot f).aonTime = s.aonTime ∧ (s.modBoot f).aonEvents = s.aonEvents ∧ (s.modBoot f).evlog = s.evlog ∧ (s.modBoot f).xbar = s.xbar ∧ (s.modBoot f).faultQ = s.faultQ ∧ (s.modBoot f).tamperLock = s.tamperLock ∧ (s.modBoot f).sent = s.sent := by
  and_intros <;> rfl

@[simp] theorem State.modLane_others (s : State) (L : Nat) (f : Lane → Lane) :
    (s.modLane L f).pending = s.pending ∧ (s.modLane L f).ttime = s.ttime ∧ (s.modLane L f).ticks = s.ticks ∧ (s.modLane L f).rejLast = s.rejLast ∧ (s.modLane L f).freeCtr = s.freeCtr ∧ (s.modLane L f).variant = s.variant ∧ (s.modLane L f).devId = s.devId ∧ (s.modLane L f).regs = s.regs ∧ (s.modLane L f).ctr = s.ctr ∧ (s.modLane L f).snap = s.snap ∧ (s.modLane L f).frozen = s.frozen ∧ (s.modLane L f).capT = s.capT ∧ (s.modLane L f).raised = s.raised ∧ (s.modLane L f).lastRaise = s.lastRaise ∧ (s.modLane L f).units = s.units ∧ (s.modLane L f).ces = s.ces ∧ (s.modLane L f).mem = s.mem ∧ (s.modLane L f).heap = s.heap ∧ (s.modLane L f).cxlSet = s.cxlSet ∧ (s.modLane L f).popGib = s.popGib ∧ (s.modLane L f).ports = s.ports ∧ (s.modLane L f).flows = s.flows ∧ (s.modLane L f).outs = s.outs ∧ (s.modLane L f).groups = s.groups ∧ (s.modLane L f).tiles = s.tiles ∧ (s.modLane L f).poolShed = s.poolShed ∧ (s.modLane L f).poolLost = s.poolLost ∧ (s.modLane L f).audio = s.audio ∧ (s.modLane L f).stk = s.stk ∧ (s.modLane L f).twin = s.twin ∧ (s.modLane L f).syns = s.syns ∧ (s.modLane L f).obs = s.obs ∧ (s.modLane L f).saff = s.saff ∧ (s.modLane L f).woad = s.woad ∧ (s.modLane L f).tamper = s.tamper ∧ (s.modLane L f).pwr = s.pwr ∧ (s.modLane L f).boot = s.boot ∧ (s.modLane L f).cx = s.cx ∧ (s.modLane L f).cxlRebuild = s.cxlRebuild ∧ (s.modLane L f).memDead = s.memDead ∧ (s.modLane L f).madder = s.madder ∧ (s.modLane L f).health = s.health ∧ (s.modLane L f).aonTime = s.aonTime ∧ (s.modLane L f).aonEvents = s.aonEvents ∧ (s.modLane L f).evlog = s.evlog ∧ (s.modLane L f).xbar = s.xbar ∧ (s.modLane L f).faultQ = s.faultQ ∧ (s.modLane L f).tamperLock = s.tamperLock ∧ (s.modLane L f).sent = s.sent := by
  and_intros <;> rfl

@[simp] theorem State.modLink_others (s : State) (l : Nat) (f : Link → Link) :
    (s.modLink l f).pending = s.pending ∧ (s.modLink l f).ttime = s.ttime ∧ (s.modLink l f).ticks = s.ticks ∧ (s.modLink l f).rejLast = s.rejLast ∧ (s.modLink l f).freeCtr = s.freeCtr ∧ (s.modLink l f).variant = s.variant ∧ (s.modLink l f).devId = s.devId ∧ (s.modLink l f).regs = s.regs ∧ (s.modLink l f).ctr = s.ctr ∧ (s.modLink l f).snap = s.snap ∧ (s.modLink l f).frozen = s.frozen ∧ (s.modLink l f).capT = s.capT ∧ (s.modLink l f).raised = s.raised ∧ (s.modLink l f).lastRaise = s.lastRaise ∧ (s.modLink l f).units = s.units ∧ (s.modLink l f).ces = s.ces ∧ (s.modLink l f).mem = s.mem ∧ (s.modLink l f).heap = s.heap ∧ (s.modLink l f).cxlSet = s.cxlSet ∧ (s.modLink l f).popGib = s.popGib ∧ (s.modLink l f).ports = s.ports ∧ (s.modLink l f).flows = s.flows ∧ (s.modLink l f).outs = s.outs ∧ (s.modLink l f).groups = s.groups ∧ (s.modLink l f).tiles = s.tiles ∧ (s.modLink l f).poolShed = s.poolShed ∧ (s.modLink l f).poolLost = s.poolLost ∧ (s.modLink l f).audio = s.audio ∧ (s.modLink l f).stk = s.stk ∧ (s.modLink l f).twin = s.twin ∧ (s.modLink l f).syns = s.syns ∧ (s.modLink l f).obs = s.obs ∧ (s.modLink l f).saff = s.saff ∧ (s.modLink l f).woad = s.woad ∧ (s.modLink l f).tamper = s.tamper ∧ (s.modLink l f).pwr = s.pwr ∧ (s.modLink l f).boot = s.boot ∧ (s.modLink l f).cx = s.cx ∧ (s.modLink l f).cxlRebuild = s.cxlRebuild ∧ (s.modLink l f).memDead = s.memDead ∧ (s.modLink l f).madder = s.madder ∧ (s.modLink l f).health = s.health ∧ (s.modLink l f).aonTime = s.aonTime ∧ (s.modLink l f).aonEvents = s.aonEvents ∧ (s.modLink l f).evlog = s.evlog ∧ (s.modLink l f).xbar = s.xbar ∧ (s.modLink l f).faultQ = s.faultQ ∧ (s.modLink l f).tamperLock = s.tamperLock ∧ (s.modLink l f).sent = s.sent := by
  and_intros <;> rfl

@[simp] theorem State.modSaff_others (s : State) (f : Saffron → Saffron) :
    (s.modSaff f).pending = s.pending ∧ (s.modSaff f).ttime = s.ttime ∧ (s.modSaff f).ticks = s.ticks ∧ (s.modSaff f).rejLast = s.rejLast ∧ (s.modSaff f).freeCtr = s.freeCtr ∧ (s.modSaff f).variant = s.variant ∧ (s.modSaff f).devId = s.devId ∧ (s.modSaff f).regs = s.regs ∧ (s.modSaff f).ctr = s.ctr ∧ (s.modSaff f).snap = s.snap ∧ (s.modSaff f).frozen = s.frozen ∧ (s.modSaff f).capT = s.capT ∧ (s.modSaff f).raised = s.raised ∧ (s.modSaff f).lastRaise = s.lastRaise ∧ (s.modSaff f).units = s.units ∧ (s.modSaff f).ces = s.ces ∧ (s.modSaff f).mem = s.mem ∧ (s.modSaff f).heap = s.heap ∧ (s.modSaff f).cxlSet = s.cxlSet ∧ (s.modSaff f).popGib = s.popGib ∧ (s.modSaff f).ports = s.ports ∧ (s.modSaff f).flows = s.flows ∧ (s.modSaff f).outs = s.outs ∧ (s.modSaff f).groups = s.groups ∧ (s.modSaff f).tiles = s.tiles ∧ (s.modSaff f).poolShed = s.poolShed ∧ (s.modSaff f).poolLost = s.poolLost ∧ (s.modSaff f).audio = s.audio ∧ (s.modSaff f).stk = s.stk ∧ (s.modSaff f).twin = s.twin ∧ (s.modSaff f).syns = s.syns ∧ (s.modSaff f).ser = s.ser ∧ (s.modSaff f).obs = s.obs ∧ (s.modSaff f).woad = s.woad ∧ (s.modSaff f).tamper = s.tamper ∧ (s.modSaff f).pwr = s.pwr ∧ (s.modSaff f).boot = s.boot ∧ (s.modSaff f).cx = s.cx ∧ (s.modSaff f).cxlRebuild = s.cxlRebuild ∧ (s.modSaff f).memDead = s.memDead ∧ (s.modSaff f).madder = s.madder ∧ (s.modSaff f).health = s.health ∧ (s.modSaff f).aonTime = s.aonTime ∧ (s.modSaff f).aonEvents = s.aonEvents ∧ (s.modSaff f).evlog = s.evlog ∧ (s.modSaff f).xbar = s.xbar ∧ (s.modSaff f).faultQ = s.faultQ ∧ (s.modSaff f).tamperLock = s.tamperLock ∧ (s.modSaff f).sent = s.sent := by
  and_intros <;> rfl

@[simp] theorem State.modUnit_others (s : State) (u : Nat) (f : UnitState → UnitState) :
    (s.modUnit u f).pending = s.pending ∧ (s.modUnit u f).ttime = s.ttime ∧ (s.modUnit u f).ticks = s.ticks ∧ (s.modUnit u f).rejLast = s.rejLast ∧ (s.modUnit u f).freeCtr = s.freeCtr ∧ (s.modUnit u f).variant = s.variant ∧ (s.modUnit u f).devId = s.devId ∧ (s.modUnit u f).regs = s.regs ∧ (s.modUnit u f).ctr = s.ctr ∧ (s.modUnit u f).snap = s.snap ∧ (s.modUnit u f).frozen = s.frozen ∧ (s.modUnit u f).capT = s.capT ∧ (s.modUnit u f).raised = s.raised ∧ (s.modUnit u f).lastRaise = s.lastRaise ∧ (s.modUnit u f).ces = s.ces ∧ (s.modUnit u f).mem = s.mem ∧ (s.modUnit u f).heap = s.heap ∧ (s.modUnit u f).cxlSet = s.cxlSet ∧ (s.modUnit u f).popGib = s.popGib ∧ (s.modUnit u f).ports = s.ports ∧ (s.modUnit u f).flows = s.flows ∧ (s.modUnit u f).outs = s.outs ∧ (s.modUnit u f).groups = s.groups ∧ (s.modUnit u f).tiles = s.tiles ∧ (s.modUnit u f).poolShed = s.poolShed ∧ (s.modUnit u f).poolLost = s.poolLost ∧ (s.modUnit u f).audio = s.audio ∧ (s.modUnit u f).stk = s.stk ∧ (s.modUnit u f).twin = s.twin ∧ (s.modUnit u f).syns = s.syns ∧ (s.modUnit u f).ser = s.ser ∧ (s.modUnit u f).obs = s.obs ∧ (s.modUnit u f).saff = s.saff ∧ (s.modUnit u f).woad = s.woad ∧ (s.modUnit u f).tamper = s.tamper ∧ (s.modUnit u f).pwr = s.pwr ∧ (s.modUnit u f).boot = s.boot ∧ (s.modUnit u f).cx = s.cx ∧ (s.modUnit u f).cxlRebuild = s.cxlRebuild ∧ (s.modUnit u f).memDead = s.memDead ∧ (s.modUnit u f).madder = s.madder ∧ (s.modUnit u f).health = s.health ∧ (s.modUnit u f).aonTime = s.aonTime ∧ (s.modUnit u f).aonEvents = s.aonEvents ∧ (s.modUnit u f).evlog = s.evlog ∧ (s.modUnit u f).xbar = s.xbar ∧ (s.modUnit u f).faultQ = s.faultQ ∧ (s.modUnit u f).tamperLock = s.tamperLock ∧ (s.modUnit u f).sent = s.sent := by
  and_intros <;> rfl

@[simp] theorem State.modCe_others (s : State) (e : Nat) (f : Ce → Ce) :
    (s.modCe e f).pending = s.pending ∧ (s.modCe e f).ttime = s.ttime ∧ (s.modCe e f).ticks = s.ticks ∧ (s.modCe e f).rejLast = s.rejLast ∧ (s.modCe e f).freeCtr = s.freeCtr ∧ (s.modCe e f).variant = s.variant ∧ (s.modCe e f).devId = s.devId ∧ (s.modCe e f).regs = s.regs ∧ (s.modCe e f).ctr = s.ctr ∧ (s.modCe e f).snap = s.snap ∧ (s.modCe e f).frozen = s.frozen ∧ (s.modCe e f).capT = s.capT ∧ (s.modCe e f).raised = s.raised ∧ (s.modCe e f).lastRaise = s.lastRaise ∧ (s.modCe e f).units = s.units ∧ (s.modCe e f).mem = s.mem ∧ (s.modCe e f).heap = s.heap ∧ (s.modCe e f).cxlSet = s.cxlSet ∧ (s.modCe e f).popGib = s.popGib ∧ (s.modCe e f).ports = s.ports ∧ (s.modCe e f).flows = s.flows ∧ (s.modCe e f).outs = s.outs ∧ (s.modCe e f).groups = s.groups ∧ (s.modCe e f).tiles = s.tiles ∧ (s.modCe e f).poolShed = s.poolShed ∧ (s.modCe e f).poolLost = s.poolLost ∧ (s.modCe e f).audio = s.audio ∧ (s.modCe e f).stk = s.stk ∧ (s.modCe e f).twin = s.twin ∧ (s.modCe e f).syns = s.syns ∧ (s.modCe e f).ser = s.ser ∧ (s.modCe e f).obs = s.obs ∧ (s.modCe e f).saff = s.saff ∧ (s.modCe e f).woad = s.woad ∧ (s.modCe e f).tamper = s.tamper ∧ (s.modCe e f).pwr = s.pwr ∧ (s.modCe e f).boot = s.boot ∧ (s.modCe e f).cx = s.cx ∧ (s.modCe e f).cxlRebuild = s.cxlRebuild ∧ (s.modCe e f).memDead = s.memDead ∧ (s.modCe e f).madder = s.madder ∧ (s.modCe e f).health = s.health ∧ (s.modCe e f).aonTime = s.aonTime ∧ (s.modCe e f).aonEvents = s.aonEvents ∧ (s.modCe e f).evlog = s.evlog ∧ (s.modCe e f).xbar = s.xbar ∧ (s.modCe e f).faultQ = s.faultQ ∧ (s.modCe e f).tamperLock = s.tamperLock ∧ (s.modCe e f).sent = s.sent := by
  and_intros <;> rfl

@[simp] theorem State.modFlow_others (s : State) (f : Nat) (g : Flow → Flow) :
    (s.modFlow f g).pending = s.pending ∧ (s.modFlow f g).ttime = s.ttime ∧ (s.modFlow f g).ticks = s.ticks ∧ (s.modFlow f g).rejLast = s.rejLast ∧ (s.modFlow f g).freeCtr = s.freeCtr ∧ (s.modFlow f g).variant = s.variant ∧ (s.modFlow f g).devId = s.devId ∧ (s.modFlow f g).regs = s.regs ∧ (s.modFlow f g).ctr = s.ctr ∧ (s.modFlow f g).snap = s.snap ∧ (s.modFlow f g).frozen = s.frozen ∧ (s.modFlow f g).capT = s.capT ∧ (s.modFlow f g).raised = s.raised ∧ (s.modFlow f g).lastRaise = s.lastRaise ∧ (s.modFlow f g).units = s.units ∧ (s.modFlow f g).ces = s.ces ∧ (s.modFlow f g).mem = s.mem ∧ (s.modFlow f g).heap = s.heap ∧ (s.modFlow f g).cxlSet = s.cxlSet ∧ (s.modFlow f g).popGib = s.popGib ∧ (s.modFlow f g).ports = s.ports ∧ (s.modFlow f g).outs = s.outs ∧ (s.modFlow f g).groups = s.groups ∧ (s.modFlow f g).tiles = s.tiles ∧ (s.modFlow f g).poolShed = s.poolShed ∧ (s.modFlow f g).poolLost = s.poolLost ∧ (s.modFlow f g).audio = s.audio ∧ (s.modFlow f g).stk = s.stk ∧ (s.modFlow f g).twin = s.twin ∧ (s.modFlow f g).syns = s.syns ∧ (s.modFlow f g).ser = s.ser ∧ (s.modFlow f g).obs = s.obs ∧ (s.modFlow f g).saff = s.saff ∧ (s.modFlow f g).woad = s.woad ∧ (s.modFlow f g).tamper = s.tamper ∧ (s.modFlow f g).pwr = s.pwr ∧ (s.modFlow f g).boot = s.boot ∧ (s.modFlow f g).cx = s.cx ∧ (s.modFlow f g).cxlRebuild = s.cxlRebuild ∧ (s.modFlow f g).memDead = s.memDead ∧ (s.modFlow f g).madder = s.madder ∧ (s.modFlow f g).health = s.health ∧ (s.modFlow f g).aonTime = s.aonTime ∧ (s.modFlow f g).aonEvents = s.aonEvents ∧ (s.modFlow f g).evlog = s.evlog ∧ (s.modFlow f g).xbar = s.xbar ∧ (s.modFlow f g).faultQ = s.faultQ ∧ (s.modFlow f g).tamperLock = s.tamperLock ∧ (s.modFlow f g).sent = s.sent := by
  and_intros <;> rfl

@[simp] theorem State.modOut_others (s : State) (n : Nat) (g : Out → Out) :
    (s.modOut n g).pending = s.pending ∧ (s.modOut n g).ttime = s.ttime ∧ (s.modOut n g).ticks = s.ticks ∧ (s.modOut n g).rejLast = s.rejLast ∧ (s.modOut n g).freeCtr = s.freeCtr ∧ (s.modOut n g).variant = s.variant ∧ (s.modOut n g).devId = s.devId ∧ (s.modOut n g).regs = s.regs ∧ (s.modOut n g).ctr = s.ctr ∧ (s.modOut n g).snap = s.snap ∧ (s.modOut n g).frozen = s.frozen ∧ (s.modOut n g).capT = s.capT ∧ (s.modOut n g).raised = s.raised ∧ (s.modOut n g).lastRaise = s.lastRaise ∧ (s.modOut n g).units = s.units ∧ (s.modOut n g).ces = s.ces ∧ (s.modOut n g).mem = s.mem ∧ (s.modOut n g).heap = s.heap ∧ (s.modOut n g).cxlSet = s.cxlSet ∧ (s.modOut n g).popGib = s.popGib ∧ (s.modOut n g).ports = s.ports ∧ (s.modOut n g).flows = s.flows ∧ (s.modOut n g).groups = s.groups ∧ (s.modOut n g).tiles = s.tiles ∧ (s.modOut n g).poolShed = s.poolShed ∧ (s.modOut n g).poolLost = s.poolLost ∧ (s.modOut n g).audio = s.audio ∧ (s.modOut n g).stk = s.stk ∧ (s.modOut n g).twin = s.twin ∧ (s.modOut n g).syns = s.syns ∧ (s.modOut n g).ser = s.ser ∧ (s.modOut n g).obs = s.obs ∧ (s.modOut n g).saff = s.saff ∧ (s.modOut n g).woad = s.woad ∧ (s.modOut n g).tamper = s.tamper ∧ (s.modOut n g).pwr = s.pwr ∧ (s.modOut n g).boot = s.boot ∧ (s.modOut n g).cx = s.cx ∧ (s.modOut n g).cxlRebuild = s.cxlRebuild ∧ (s.modOut n g).memDead = s.memDead ∧ (s.modOut n g).madder = s.madder ∧ (s.modOut n g).health = s.health ∧ (s.modOut n g).aonTime = s.aonTime ∧ (s.modOut n g).aonEvents = s.aonEvents ∧ (s.modOut n g).evlog = s.evlog ∧ (s.modOut n g).xbar = s.xbar ∧ (s.modOut n g).faultQ = s.faultQ ∧ (s.modOut n g).tamperLock = s.tamperLock ∧ (s.modOut n g).sent = s.sent := by
  and_intros <;> rfl

@[simp] theorem State.modPort_others (s : State) (n : Nat) (g : Port → Port) :
    (s.modPort n g).pending = s.pending ∧ (s.modPort n g).ttime = s.ttime ∧ (s.modPort n g).ticks = s.ticks ∧ (s.modPort n g).rejLast = s.rejLast ∧ (s.modPort n g).freeCtr = s.freeCtr ∧ (s.modPort n g).variant = s.variant ∧ (s.modPort n g).devId = s.devId ∧ (s.modPort n g).regs = s.regs ∧ (s.modPort n g).ctr = s.ctr ∧ (s.modPort n g).snap = s.snap ∧ (s.modPort n g).frozen = s.frozen ∧ (s.modPort n g).capT = s.capT ∧ (s.modPort n g).raised = s.raised ∧ (s.modPort n g).lastRaise = s.lastRaise ∧ (s.modPort n g).units = s.units ∧ (s.modPort n g).ces = s.ces ∧ (s.modPort n g).mem = s.mem ∧ (s.modPort n g).heap = s.heap ∧ (s.modPort n g).cxlSet = s.cxlSet ∧ (s.modPort n g).popGib = s.popGib ∧ (s.modPort n g).flows = s.flows ∧ (s.modPort n g).outs = s.outs ∧ (s.modPort n g).groups = s.groups ∧ (s.modPort n g).tiles = s.tiles ∧ (s.modPort n g).poolShed = s.poolShed ∧ (s.modPort n g).poolLost = s.poolLost ∧ (s.modPort n g).audio = s.audio ∧ (s.modPort n g).stk = s.stk ∧ (s.modPort n g).twin = s.twin ∧ (s.modPort n g).syns = s.syns ∧ (s.modPort n g).ser = s.ser ∧ (s.modPort n g).obs = s.obs ∧ (s.modPort n g).saff = s.saff ∧ (s.modPort n g).woad = s.woad ∧ (s.modPort n g).tamper = s.tamper ∧ (s.modPort n g).pwr = s.pwr ∧ (s.modPort n g).boot = s.boot ∧ (s.modPort n g).cx = s.cx ∧ (s.modPort n g).cxlRebuild = s.cxlRebuild ∧ (s.modPort n g).memDead = s.memDead ∧ (s.modPort n g).madder = s.madder ∧ (s.modPort n g).health = s.health ∧ (s.modPort n g).aonTime = s.aonTime ∧ (s.modPort n g).aonEvents = s.aonEvents ∧ (s.modPort n g).evlog = s.evlog ∧ (s.modPort n g).xbar = s.xbar ∧ (s.modPort n g).faultQ = s.faultQ ∧ (s.modPort n g).tamperLock = s.tamperLock ∧ (s.modPort n g).sent = s.sent := by
  and_intros <;> rfl

@[simp] theorem State.modPwr_others (s : State) (f : Pwr → Pwr) :
    (s.modPwr f).pending = s.pending ∧ (s.modPwr f).ttime = s.ttime ∧ (s.modPwr f).ticks = s.ticks ∧ (s.modPwr f).rejLast = s.rejLast ∧ (s.modPwr f).freeCtr = s.freeCtr ∧ (s.modPwr f).variant = s.variant ∧ (s.modPwr f).devId = s.devId ∧ (s.modPwr f).regs = s.regs ∧ (s.modPwr f).ctr = s.ctr ∧ (s.modPwr f).snap = s.snap ∧ (s.modPwr f).frozen = s.frozen ∧ (s.modPwr f).capT = s.capT ∧ (s.modPwr f).raised = s.raised ∧ (s.modPwr f).lastRaise = s.lastRaise ∧ (s.modPwr f).units = s.units ∧ (s.modPwr f).ces = s.ces ∧ (s.modPwr f).mem = s.mem ∧ (s.modPwr f).heap = s.heap ∧ (s.modPwr f).cxlSet = s.cxlSet ∧ (s.modPwr f).popGib = s.popGib ∧ (s.modPwr f).ports = s.ports ∧ (s.modPwr f).flows = s.flows ∧ (s.modPwr f).outs = s.outs ∧ (s.modPwr f).groups = s.groups ∧ (s.modPwr f).tiles = s.tiles ∧ (s.modPwr f).poolShed = s.poolShed ∧ (s.modPwr f).poolLost = s.poolLost ∧ (s.modPwr f).audio = s.audio ∧ (s.modPwr f).stk = s.stk ∧ (s.modPwr f).twin = s.twin ∧ (s.modPwr f).syns = s.syns ∧ (s.modPwr f).ser = s.ser ∧ (s.modPwr f).obs = s.obs ∧ (s.modPwr f).saff = s.saff ∧ (s.modPwr f).woad = s.woad ∧ (s.modPwr f).tamper = s.tamper ∧ (s.modPwr f).boot = s.boot ∧ (s.modPwr f).cx = s.cx ∧ (s.modPwr f).cxlRebuild = s.cxlRebuild ∧ (s.modPwr f).memDead = s.memDead ∧ (s.modPwr f).madder = s.madder ∧ (s.modPwr f).health = s.health ∧ (s.modPwr f).aonTime = s.aonTime ∧ (s.modPwr f).aonEvents = s.aonEvents ∧ (s.modPwr f).evlog = s.evlog ∧ (s.modPwr f).xbar = s.xbar ∧ (s.modPwr f).faultQ = s.faultQ ∧ (s.modPwr f).tamperLock = s.tamperLock ∧ (s.modPwr f).sent = s.sent := by
  and_intros <;> rfl

@[simp] theorem State.modTwin_others (s : State) (f : Twin → Twin) :
    (s.modTwin f).pending = s.pending ∧ (s.modTwin f).ttime = s.ttime ∧ (s.modTwin f).ticks = s.ticks ∧ (s.modTwin f).rejLast = s.rejLast ∧ (s.modTwin f).freeCtr = s.freeCtr ∧ (s.modTwin f).variant = s.variant ∧ (s.modTwin f).devId = s.devId ∧ (s.modTwin f).regs = s.regs ∧ (s.modTwin f).ctr = s.ctr ∧ (s.modTwin f).snap = s.snap ∧ (s.modTwin f).frozen = s.frozen ∧ (s.modTwin f).capT = s.capT ∧ (s.modTwin f).raised = s.raised ∧ (s.modTwin f).lastRaise = s.lastRaise ∧ (s.modTwin f).units = s.units ∧ (s.modTwin f).ces = s.ces ∧ (s.modTwin f).mem = s.mem ∧ (s.modTwin f).heap = s.heap ∧ (s.modTwin f).cxlSet = s.cxlSet ∧ (s.modTwin f).popGib = s.popGib ∧ (s.modTwin f).ports = s.ports ∧ (s.modTwin f).flows = s.flows ∧ (s.modTwin f).outs = s.outs ∧ (s.modTwin f).groups = s.groups ∧ (s.modTwin f).tiles = s.tiles ∧ (s.modTwin f).poolShed = s.poolShed ∧ (s.modTwin f).poolLost = s.poolLost ∧ (s.modTwin f).audio = s.audio ∧ (s.modTwin f).stk = s.stk ∧ (s.modTwin f).syns = s.syns ∧ (s.modTwin f).ser = s.ser ∧ (s.modTwin f).obs = s.obs ∧ (s.modTwin f).saff = s.saff ∧ (s.modTwin f).woad = s.woad ∧ (s.modTwin f).tamper = s.tamper ∧ (s.modTwin f).pwr = s.pwr ∧ (s.modTwin f).boot = s.boot ∧ (s.modTwin f).cx = s.cx ∧ (s.modTwin f).cxlRebuild = s.cxlRebuild ∧ (s.modTwin f).memDead = s.memDead ∧ (s.modTwin f).madder = s.madder ∧ (s.modTwin f).health = s.health ∧ (s.modTwin f).aonTime = s.aonTime ∧ (s.modTwin f).aonEvents = s.aonEvents ∧ (s.modTwin f).evlog = s.evlog ∧ (s.modTwin f).xbar = s.xbar ∧ (s.modTwin f).faultQ = s.faultQ ∧ (s.modTwin f).tamperLock = s.tamperLock ∧ (s.modTwin f).sent = s.sent := by
  and_intros <;> rfl

/-! A read after an update. -/

@[simp] theorem State.reg_setReg (s : State) (a : Nat) (w : Word) : (s.setReg a w).reg a = w := by
  unfold State.reg State.setReg
  rw [Tbl.find_set_self]
  split
  · next h => simp [h]
  · rfl

@[simp] theorem State.reg_setReg_ne (s : State) (a b : Nat) (w : Word) (h : b ≠ a) : (s.setReg a w).reg b = s.reg b := by
  unfold State.reg State.setReg
  rw [Tbl.find_set_ne _ _ _ _ _ h]

@[simp] theorem State.unit_setUnit (s : State) (u : Nat) (x : UnitState) : (s.setUnit u x).unit u = x := Tbl.get_set_self ..
@[simp] theorem State.unit_setUnit_ne (s : State) (u v : Nat) (x : UnitState) (h : v ≠ u) : (s.setUnit u x).unit v = s.unit v := Tbl.get_set_ne _ _ _ _ _ _ h
@[simp] theorem State.ce_setCe (s : State) (e : Nat) (x : Ce) : (s.setCe e x).ce e = x := Tbl.get_set_self ..
@[simp] theorem State.ce_setCe_ne (s : State) (e d : Nat) (x : Ce) (h : d ≠ e) : (s.setCe e x).ce d = s.ce d := Tbl.get_set_ne _ _ _ _ _ _ h
@[simp] theorem State.flow_setFlow (s : State) (f : Nat) (x : Flow) : (s.setFlow f x).flow f = x := Tbl.get_set_self ..
@[simp] theorem State.flow_setFlow_ne (s : State) (f g : Nat) (x : Flow) (h : g ≠ f) : (s.setFlow f x).flow g = s.flow g := Tbl.get_set_ne _ _ _ _ _ _ h
@[simp] theorem State.out_setOut (s : State) (n : Nat) (x : Out) : (s.setOut n x).out n = x := Tbl.get_set_self ..
@[simp] theorem State.out_setOut_ne (s : State) (n m : Nat) (x : Out) (h : m ≠ n) : (s.setOut n x).out m = s.out m := Tbl.get_set_ne _ _ _ _ _ _ h
@[simp] theorem State.group_setGroup (s : State) (g : Nat) (x : TGroup) : (s.setGroup g x).group g = x := Tbl.get_set_self ..
@[simp] theorem State.group_setGroup_ne (s : State) (g h : Nat) (x : TGroup) (e : h ≠ g) : (s.setGroup g x).group h = s.group h := Tbl.get_set_ne _ _ _ _ _ _ e
@[simp] theorem State.lane_setLane (s : State) (L : Nat) (x : Lane) : (s.setLane L x).lane L = x := Tbl.get_set_self ..
@[simp] theorem State.lane_setLane_ne (s : State) (L K : Nat) (x : Lane) (h : K ≠ L) : (s.setLane L x).lane K = s.lane K := Tbl.get_set_ne _ _ _ _ _ _ h
@[simp] theorem State.link_setLink (s : State) (l : Nat) (x : Link) : (s.setLink l x).link l = x := Tbl.get_set_self ..
@[simp] theorem State.link_setLink_ne (s : State) (l k : Nat) (x : Link) (h : k ≠ l) : (s.setLink l x).link k = s.link k := Tbl.get_set_ne _ _ _ _ _ _ h

/-! What every operation but a few leaves alone. -/

/-- The memories, the queue and the ordering code. -/
def State.hold (s : State) : Mems × List Instr × Nat := (s.mem, s.pending, s.variant)

/-- The queue and the ordering code. -/
def State.que (s : State) : List Instr × Nat := (s.pending, s.variant)

/-- From s to t the queue and the ordering code stay, and memories in their canonical form stay in it. -/
def Kept (s t : State) : Prop := t.que = s.que ∧ (s.mem.wf = true → t.mem.wf = true)

theorem hold_mk {pending} {ttime} {ticks} {rejLast} {freeCtr} {variant} {devId} {regs} {ctr} {snap} {frozen} {capT} {raised} {lastRaise} {units} {ces} {mem} {heap} {cxlSet} {popGib} {ports} {flows} {outs} {groups} {tiles} {poolShed} {poolLost} {audio} {stk} {twin} {syns} {ser} {obs} {saff} {woad} {tamper} {pwr} {boot} {cx} {cxlRebuild} {memDead} {madder} {health} {aonTime} {aonEvents} {evlog} {xbar} {faultQ} {tamperLock} {sent} :
    (State.mk pending ttime ticks rejLast freeCtr variant devId regs ctr snap frozen capT raised lastRaise units ces mem heap cxlSet popGib ports flows outs groups tiles poolShed poolLost audio stk twin syns ser obs saff woad tamper pwr boot cx cxlRebuild memDead madder health aonTime aonEvents evlog xbar faultQ tamperLock sent).hold = (mem, pending, variant) := rfl

theorem hold_eta (s : State) : (s.mem, s.pending, s.variant) = s.hold := rfl

theorem forEach_hold {α : Type} (s : State) (xs : List α) (f : State → α → State) (h : ∀ s x, (f s x).hold = s.hold) : (s.forEach xs f).hold = s.hold := by
  unfold State.forEach
  induction xs generalizing s with
  | nil => rfl
  | cons x xs ih => simpa [List.foldl] using (ih (f s x)).trans (h s x)

theorem apply_ite_hold {c : Prop} [Decidable c] {x y : Nat × State} {z : Mems × List Instr × Nat} (hx : x.2.hold = z) (hy : y.2.hold = z) : (if c then x else y).2.hold = z := by split <;> assumption

theorem foldl_hold {α : Type} (s : State) (xs : List α) (f : State → α → State) (h : ∀ s x, (f s x).hold = s.hold) : (xs.foldl f s).hold = s.hold := forEach_hold s xs f h

theorem stk_hold (s : State) (x : Stk) : ({ s with stk := x } : State).hold = s.hold := rfl

theorem map_hold {α : Type} {s : State} {c : Except Nat α} {g : α → State × Member} {z : State × Member} (h : c.map g = .ok z) (hg : ∀ a, (g a).1.hold = s.hold) : z.1.hold = s.hold := by
  cases c with
  | error => cases h
  | ok a => cases h; exact hg a

theorem Kept.refl (s : State) : Kept s s := ⟨rfl, id⟩

theorem Kept.trans {s t u : State} (h : Kept s t) (h' : Kept t u) : Kept s u := ⟨h'.1.trans h.1, h'.2 ∘ h.2⟩

theorem hold_kept {s t : State} (h : t.hold = s.hold) : Kept s t := by
  simp only [State.hold, Prod.mk.injEq] at h
  obtain ⟨h1, h2, h3⟩ := h
  exact ⟨by simp [State.que, h2, h3], by rw [h1]; exact id⟩

theorem kept_ite {c : Prop} [Decidable c] {s x y : State} (hx : Kept s x) (hy : Kept s y) : Kept s (if c then x else y) := by split <;> assumption

theorem forEach_kept {α : Type} (s : State) (xs : List α) (f : State → α → State) (h : ∀ s x, Kept s (f s x)) : Kept s (s.forEach xs f) := by
  unfold State.forEach
  induction xs generalizing s with
  | nil => exact Kept.refl s
  | cons x xs ih => exact (h s x).trans (ih _)

theorem foldl_kept {α : Type} (s : State) (xs : List α) (f : State → α → State) (h : ∀ s x, Kept s (f s x)) : Kept s (xs.foldl f s) := forEach_kept s xs f h

theorem apply_ite_kept {α : Type} {c : Prop} [Decidable c] {s : State} {x y : State × α} (hx : Kept s x.1) (hy : Kept s y.1) : Kept s (if c then x else y).1 := by split <;> assumption

end Sys2Proof.Machine
end

