-- ==== Sys2Proof/Laws/Hold1.lean ====
section
/-! SUPPORT. What the operations leave alone, in the order in which they call each other (1 of 5): the memories, the queue and the ordering code. -/

namespace Sys2Proof.Machine

theorem State.setCtr_hold (s : State) (a : Nat) (n : Nat) : (State.setCtr s a n).hold = s.hold := by grind [State.setCtr, State.hold]

theorem State.bumpBy_hold (s : State) (a : Nat) (n : Nat) : (State.bumpBy s a n).hold = s.hold := by grind [State.bumpBy, State.hold, State.setCtr_hold]

theorem State.bump_hold (s : State) (a : Nat) : (State.bump s a).hold = s.hold := by grind [State.bump, State.hold, State.bumpBy_hold]

theorem State.emit_hold (s : State) (kind : String) (via : Nat) (dst : Nat) (args : List Nat) : (State.emit s kind via dst args).hold = s.hold := by
  grind [State.emit, State.hold]

theorem State.mirror_hold (s : State) (what : String) (args : List Nat) : (State.mirror s what args).hold = s.hold := by
  grind [State.mirror, State.hold, State.emit_hold]

theorem State.freeAt_hold (s : State) (b : Nat) : (State.freeAt s b).hold = s.hold := by grind [State.freeAt, State.hold]

theorem State.freeChannels_hold (s : State) (base : Nat) (count : Nat) : (State.freeChannels s base count).hold = s.hold := by
  grind [State.freeChannels, State.hold]

theorem State.sendMsg_hold (s : State) (dst : Nat) (kind : String) (args : List Nat) : (State.sendMsg s dst kind args).hold = s.hold := by
  grind [State.sendMsg, State.hold, State.bump_hold, State.emit_hold]

theorem State.stkSend_hold (s : State) (dst : Nat) (type : Nat) (name : String) (pay : List Nat) : (State.stkSend s dst type name pay).hold = s.hold := by
  grind [State.stkSend, State.hold, State.sendMsg_hold]

theorem State.dropLanding_hold (s : State) (f : Nat) : (State.dropLanding s f).hold = s.hold := by
  grind [State.dropLanding, State.hold, State.freeAt_hold, State.freeChannels_hold, State.stkSend_hold]

theorem State.gcLandings_hold (s : State) : (State.gcLandings s).hold = s.hold := by
  unfold State.gcLandings
  refine foldl_hold _ _ _ (fun s p => ?_)
  grind [State.hold, State.dropLanding_hold]

theorem State.setOut_hold (s : State) (n : Nat) (x : Out) : (State.setOut s n x).hold = s.hold := by grind [State.setOut, State.hold]

theorem State.commitTake_hold (s : State) (n : Nat) (p : PendTake) : (State.commitTake s n p).hold = s.hold := by
  grind [State.commitTake, State.hold, State.bump_hold, State.mirror_hold, State.gcLandings_hold, State.setOut_hold]

theorem State.modOut_hold (s : State) (n : Nat) (g : Out → Out) : (State.modOut s n g).hold = s.hold := by
  grind [State.modOut, State.hold, State.setOut_hold]

theorem State.raiseAt_hold (s : State) (t : Nat) (code : Nat) (sev : Nat) (kind : Nat) (index : Nat) (a0 : Nat) (a1 : Nat) (a2 : Nat) : (State.raiseAt s t code sev kind index a0 a1 a2).hold = s.hold := by
  grind [State.raiseAt, State.hold]

theorem State.raise_hold (s : State) (code : Nat) (sev : Nat) (kind : Nat) (index : Nat) (a0 : Nat) (a1 : Nat) (a2 : Nat) : (State.raise s code sev kind index a0 a1 a2).hold = s.hold := by
  grind [State.raise, State.hold, State.raiseAt_hold]

theorem State.staleFlip_hold (s : State) (n : Nat) (p : Nat) (base : Nat) : (State.staleFlip s n p base).hold = s.hold := by
  grind [State.staleFlip, State.hold, State.modOut_hold, State.raise_hold, State.bump_hold]

theorem State.commitFlip_hold (s : State) (n : Nat) (p : Nat) (f : PendFlip) : (State.commitFlip s n p f).hold = s.hold := by
  grind [State.commitFlip, State.hold, State.staleFlip_hold, State.modOut_hold, State.mirror_hold]

theorem State.takeSyn_hold (s : State) (n : Nat) (fam : Nat) (user : Nat) (sz : State) (hz : (State.takeSyn s n fam user) = some sz) : sz.hold = s.hold := by
  grind [State.takeSyn, State.hold]

theorem State.takeSyns_hold (s : State) (n : Nat) (a2 : List (Nat × Nat)) (sz : State) (hz : (State.takeSyns s n a2) = some sz) : sz.hold = s.hold := by
  induction a2 generalizing s with
  | nil => grind [State.takeSyns]
  | cons p r ih =>
    obtain ⟨fam, u⟩ := p
    simp only [State.takeSyns] at hz
    split at hz
    · next h => exact (ih _ hz).trans (State.takeSyn_hold _ _ _ _ _ h)
    · cases hz

theorem State.setPort_hold (s : State) (n : Nat) (x : Port) : (State.setPort s n x).hold = s.hold := by grind [State.setPort, State.hold]

theorem State.modPort_hold (s : State) (n : Nat) (g : Port → Port) : (State.modPort s n g).hold = s.hold := by
  grind [State.modPort, State.hold, State.setPort_hold]

theorem State.setLane_hold (s : State) (L : Nat) (x : Lane) : (State.setLane s L x).hold = s.hold := by grind [State.setLane, State.hold]

theorem State.modLane_hold (s : State) (L : Nat) (f : Lane → Lane) : (State.modLane s L f).hold = s.hold := by
  grind [State.modLane, State.hold, State.setLane_hold]

theorem State.fireInjection_hold (s : State) (L : Nat) : (State.fireInjection s L).hold = s.hold := by
  grind [State.fireInjection, State.hold, State.emit_hold, State.modLane_hold]

theorem State.startLane_hold (s : State) (L : Nat) : (State.startLane s L).hold = s.hold := by
  grind [State.startLane, State.hold, State.fireInjection_hold, State.setLane_hold]

theorem State.powerLink_hold (s : State) (l : Nat) : (State.powerLink s l).hold = s.hold := by
  grind [State.powerLink, State.hold, State.startLane_hold, forEach_hold]

theorem State.retryPort_hold (s : State) (n : Nat) : (State.retryPort s n).hold = s.hold := by
  grind [State.retryPort, State.hold, State.takeSyns_hold, State.modPort_hold, State.powerLink_hold, forEach_hold]

theorem State.dropSyn_hold (s : State) (user : Nat) : (State.dropSyn s user).hold = s.hold := by
  grind [State.dropSyn, State.hold, State.retryPort_hold, forEach_hold]

theorem State.commitTset_hold (s : State) (n : Nat) (p : PendTim) : (State.commitTset s n p).hold = s.hold := by
  have hg : ∀ (s : State) (a b c : Nat), ((s.takeSyn a b c).getD s).hold = s.hold := by
    intro s a b c
    cases h : s.takeSyn a b c with
    | none => rfl
    | some t => exact State.takeSyn_hold _ _ _ _ _ h
  grind [State.commitTset, State.hold, State.dropSyn_hold, State.setOut_hold, State.mirror_hold]

theorem State.poolRequest_hold (s : State) (n : Nat) (units : Nat) (prio : Nat) : (State.poolRequest s n units prio).hold = s.hold := by
  grind [State.poolRequest, State.hold, State.setOut_hold, State.raise_hold, State.modOut_hold, forEach_hold]

theorem State.poolWithdraw_hold (s : State) (n : Nat) : (State.poolWithdraw s n).hold = s.hold := by
  grind [State.poolWithdraw, State.hold, State.setOut_hold]

theorem State.commitFmt_hold (s : State) (n : Nat) (p : PendConv) : (State.commitFmt s n p).hold = s.hold := by
  grind [State.commitFmt, State.hold, State.modOut_hold, State.poolRequest_hold, State.poolWithdraw_hold, State.mirror_hold]

theorem State.setOc_hold (s : State) (c : Nat) (x : Oc) : (State.setOc s c x).hold = s.hold := by grind [State.setOc, State.hold]

theorem State.modOc_hold (s : State) (c : Nat) (f : Oc → Oc) : (State.modOc s c f).hold = s.hold := by grind [State.modOc, State.hold, State.setOc_hold]

theorem State.commitAmap_hold (s : State) (r : AmapReq) : (State.commitAmap s r).hold = s.hold := by
  grind [State.commitAmap, State.hold, State.modOc_hold, State.mirror_hold, forEach_hold]

theorem State.setReg_hold (s : State) (a : Nat) (w : Word) : (State.setReg s a w).hold = s.hold := by grind [State.setReg, State.hold]

theorem State.commitAxf_hold (s : State) (oc : Nat) (count : Nat) (xf : Word) : (State.commitAxf s oc count xf).hold = s.hold := by
  grind [State.commitAxf, State.hold, State.mirror_hold, State.setReg_hold, forEach_hold]

theorem State.commitAnc_hold (s : State) (n : Nat) (p : PendAnc) : (State.commitAnc s n p).hold = s.hold := by
  grind [State.commitAnc, State.hold, State.mirror_hold, State.modOut_hold]

theorem State.setFlow_hold (s : State) (f : Nat) (x : Flow) : (State.setFlow s f x).hold = s.hold := by grind [State.setFlow, State.hold]

theorem State.modFlow_hold (s : State) (f : Nat) (g : Flow → Flow) : (State.modFlow s f g).hold = s.hold := by
  grind [State.modFlow, State.hold, State.setFlow_hold]

theorem State.commitMember_hold (s : State) (a1 : Member) : (State.commitMember s a1).hold = s.hold := by
  unfold State.commitMember
  (repeat' split) <;> grind [State.hold, State.commitTake_hold, State.commitFlip_hold, State.commitTset_hold, State.commitFmt_hold, State.commitAmap_hold, State.commitAxf_hold, State.commitAnc_hold, State.mirror_hold, State.modFlow_hold]

theorem State.setCe_hold (s : State) (e : Nat) (x : Ce) : (State.setCe s e x).hold = s.hold := by grind [State.setCe, State.hold]

theorem State.modCe_hold (s : State) (e : Nat) (f : Ce → Ce) : (State.modCe s e f).hold = s.hold := by grind [State.modCe, State.hold, State.setCe_hold]

theorem State.addMember_hold (s : State) (e : Nat) (m : Member) : (State.addMember s e m).hold = s.hold := by
  grind [State.addMember, State.hold, State.modCe_hold]

theorem State.absorb_hold (s : State) (e : Option Nat) (m : Member) : (State.absorb s e m).hold = s.hold := by
  unfold State.absorb
  (repeat' split) <;> grind [State.hold, State.commitMember_hold, State.addMember_hold, State.modOut_hold, forEach_hold]

theorem State.ackSalvo_hold (s : State) (p : Part) (code : Nat) (outs : Nat) : (State.ackSalvo s p code outs).hold = s.hold := by
  grind [State.ackSalvo, State.hold, State.stkSend_hold, State.bump_hold, State.emit_hold, forEach_hold]

theorem State.setPart_hold (s : State) (p : Part) : (State.setPart s p).hold = s.hold := by grind [State.setPart, State.hold]

theorem State.ackCommits_hold (s : State) (n : Nat) : (State.ackCommits s n).hold = s.hold := by
  unfold State.ackCommits
  simp [foldl_hold, apply_ite State.hold, State.ackSalvo_hold, State.setPart_hold]

theorem State.setRegN_hold (s : State) (a : Nat) (n : Nat) : (State.setRegN s a n).hold = s.hold := by grind [State.setRegN, State.hold, State.setReg_hold]

theorem State.raiseLim_hold (s : State) (key : Nat) (code : Nat) (sev : Nat) (kind : Nat) (index : Nat) (a0 : Nat) (a1 : Nat) (a2 : Nat) : (State.raiseLim s key code sev kind index a0 a1 a2).hold = s.hold := by
  unfold State.raiseLim
  extract_lets k
  split
  · split
    · rfl
    · exact State.raise_hold s code sev kind index a0 a1 a2
  · exact State.raise_hold s code sev kind index a0 a1 a2

theorem State.pairFails_hold (s : State) (n : Nat) (fails : List (Nat × Nat × Bool)) : (State.pairFails s n fails).hold = s.hold := by
  unfold State.pairFails
  simp [foldl_hold, apply_ite State.hold, State.setRegN_hold, State.bump_hold, State.raiseLim_hold, State.modOut_hold]

theorem State.modMadder_hold (s : State) (f : Madder → Madder) : (State.modMadder s f).hold = s.hold := by grind [State.modMadder, State.hold]

theorem State.setCand_hold (s : State) (c : Nat) (x : Cand) : (State.setCand s c x).hold = s.hold := by
  grind [State.setCand, State.hold, State.modMadder_hold]

theorem State.modCand_hold (s : State) (c : Nat) (f : Cand → Cand) : (State.modCand s c f).hold = s.hold := by
  grind [State.modCand, State.hold, State.setCand_hold]

theorem State.leaveLocked_hold (s : State) : (State.leaveLocked s).hold = s.hold := by grind [State.leaveLocked, State.hold, State.modMadder_hold]

theorem State.raiseRef_hold (s : State) (code : Nat) (sev : Nat) (c : Nat) : (State.raiseRef s code sev c).hold = s.hold := by
  grind [State.raiseRef, State.hold, State.raise_hold]

theorem State.enterHold_hold (s : State) : (State.enterHold s).hold = s.hold := by
  grind [State.enterHold, State.hold, State.leaveLocked_hold, State.modMadder_hold, State.raiseRef_hold, State.bump_hold]

theorem State.beginSlope_hold (s : State) (c : Nat) : (State.beginSlope s c).hold = s.hold := by
  grind [State.beginSlope, State.hold, State.raiseRef_hold, State.modMadder_hold]

theorem State.applySel_hold (s : State) (c : Nat) : (State.applySel s c).hold = s.hold := by
  grind [State.applySel, State.hold, State.modMadder_hold, State.mirror_hold, State.bump_hold, State.enterHold_hold, State.raiseRef_hold, State.leaveLocked_hold, State.beginSlope_hold]

theorem State.loseCand_hold (s : State) (c : Nat) : (State.loseCand s c).hold = s.hold := by
  grind [State.loseCand, State.hold, State.modMadder_hold, State.applySel_hold]

theorem State.endDisagree_hold (s : State) (c : Nat) : (State.endDisagree s c).hold = s.hold := by
  grind [State.endDisagree, State.hold, State.modMadder_hold]

theorem State.localLost_hold (s : State) : (State.localLost s).hold = s.hold := by
  grind [State.localLost, State.hold, State.modMadder_hold, State.raiseRef_hold, State.leaveLocked_hold]

theorem State.activityLost_hold (s : State) (c : Nat) : (State.activityLost s c).hold = s.hold := by
  grind [State.activityLost, State.hold, State.modCand_hold, State.bump_hold, State.loseCand_hold, State.endDisagree_hold, State.raiseRef_hold, State.localLost_hold]

theorem State.addLanding_hold (s : State) (n : Nat) (dev : Nat) (idx : Nat) (sz : Nat × State) (hz : (State.addLanding s n dev idx) = some sz) : sz.2.hold = s.hold := by
  unfold State.addLanding at hz
  split at hz
  · cases hz; exact State.setFlow_hold ..
  · cases hz

theorem State.setLink_hold (s : State) (l : Nat) (x : Link) : (State.setLink s l x).hold = s.hold := by grind [State.setLink, State.hold]

theorem State.modLink_hold (s : State) (l : Nat) (f : Link → Link) : (State.modLink s l f).hold = s.hold := by
  grind [State.modLink, State.hold, State.setLink_hold]

theorem State.leaveL1_hold (s : State) (l : Nat) : (State.leaveL1 s l).hold = s.hold := by
  grind [State.leaveL1, State.hold, State.modLink_hold, State.modLane_hold, forEach_hold]

theorem State.addResv_hold (s : State) (r : Resv) : (State.addResv s r).hold = s.hold := by grind [State.addResv, State.hold, State.leaveL1_hold]

theorem State.advance_hold (s : State) (t : Nat) : (State.advance s t).hold = s.hold := by grind [State.advance, State.hold]

theorem State.freeNat_hold (s : State) (place : Nat) : (State.freeNat s place).2.hold = s.hold := by grind [State.freeNat, State.hold]

theorem State.aonStamp_hold (s : State) : (State.aonStamp s).hold = s.hold := by grind [State.aonStamp, State.hold, State.freeNat_hold]

theorem State.setReg64_hold (s : State) (a : Nat) (n : Nat) : (State.setReg64 s a n).hold = s.hold := by
  grind [State.setReg64, State.hold, State.setReg_hold]

theorem State.modTamper_hold (s : State) (f : Tamper → Tamper) : (State.modTamper s f).hold = s.hold := by grind [State.modTamper, State.hold]

theorem State.latchTamper_hold (s : State) (src : Nat) : (State.latchTamper s src).hold = s.hold := by
  grind [State.latchTamper, State.hold, State.aonStamp_hold, State.setReg64_hold, State.bump_hold, State.setRegN_hold, State.modTamper_hold]

theorem State.raiseLane_hold (s : State) (L : Nat) (code : Nat) (sev : Nat) (a0 : Nat) (a1 : Nat) : (State.raiseLane s L code sev a0 a1).hold = s.hold := by
  grind [State.raiseLane, State.hold, State.raise_hold]

theorem State.sendLink_hold (s : State) (L : Nat) (bs : List Nat) : (State.sendLink s L bs).hold = s.hold := by
  grind [State.sendLink, State.hold, State.emit_hold]

theorem State.sendDrop_hold (s : State) (L : Nat) (cause : Nat) : (State.sendDrop s L cause).hold = s.hold := by
  grind [State.sendDrop, State.hold, State.sendLink_hold]

theorem State.reserveHop_hold (s : State) (r : Resv) (sz : Resv × State) (hz : (State.reserveHop s r) = some sz) : sz.2.hold = s.hold := by
  grind [State.reserveHop, State.hold, State.addResv_hold]

theorem State.sendResv_hold (s : State) (r : Resv) : (State.sendResv s r).hold = s.hold := by
  grind [State.sendResv, State.hold, State.stkSend_hold, State.emit_hold]

theorem State.stopExport_hold (s : State) (r : Resv) : (State.stopExport s r).hold = s.hold := by grind [State.stopExport, State.hold]

theorem State.takeOff_hold (s : State) (l : Nat) (dev : Nat) (flow : Nat) : (State.takeOff s l dev flow).hold = s.hold := by
  have hf : ∀ (xs : List Resv) (a : State × Bool), (xs.foldl (fun (a : State × Bool) r =>
      match (if (decide (1 - r.route = 0) || bit (a.1.route r.dst 1) 31) then a.1.reserveHop { r with route := 1 - r.route, tried := [l] } else none) with
      | some (q, t) => (t.sendResv q, a.2)
      | none => (a.1.stopExport r, false)) a).1.hold = a.1.hold := by
    intro xs
    induction xs with
    | nil => intro a; rfl
    | cons r xs ih =>
      intro a
      rw [List.foldl_cons, ih]
      split
      · next h =>
        rw [State.sendResv_hold]
        split at h
        · exact State.reserveHop_hold _ _ _ h
        · cases h
      · exact State.stopExport_hold ..
  unfold State.takeOff
  dsimp only
  split <;> (rw [State.bump_hold]; exact hf _ _)

theorem State.shedLink_hold (s : State) (l : Nat) (a2 : Nat) : (State.shedLink s l a2).hold = s.hold := by
  induction a2 generalizing s with
  | zero => rfl
  | succ k ih =>
    unfold State.shedLink
    split
    · rfl
    · split
      · rw [ih, State.takeOff_hold]
      · rfl

theorem State.raiseLink_hold (s : State) (l : Nat) (code : Nat) (sev : Nat) (a0 : Nat) (a1 : Nat) : (State.raiseLink s l code sev a0 a1).hold = s.hold := by
  grind [State.raiseLink, State.hold, State.raise_hold]

theorem State.degrade_hold (s : State) (l : Nat) : (State.degrade s l).hold = s.hold := by
  grind [State.degrade, State.hold, State.shedLink_hold, State.raiseLink_hold, State.bump_hold, State.modLink_hold, State.startLane_hold, forEach_hold]

theorem State.leaveLink_hold (s : State) (L : Nat) : (State.leaveLink s L).hold = s.hold := by
  grind [State.leaveLink, State.hold, State.degrade_hold, State.modLink_hold]

theorem State.laneLost_hold (s : State) (L : Nat) (cause : Nat) (tell : Bool) : (State.laneLost s L cause tell).hold = s.hold := by
  grind [State.laneLost, State.hold, State.raiseLane_hold, State.bump_hold, State.sendDrop_hold, State.setLane_hold, State.leaveLink_hold]

theorem State.linkGone_hold (s : State) (l : Nat) : (State.linkGone s l).hold = s.hold := by
  grind [State.linkGone, State.hold, State.laneLost_hold, forEach_hold]

theorem State.setCx_hold (s : State) (x : Nat) (p : CxPort) : (State.setCx s x p).hold = s.hold := by grind [State.setCx, State.hold]

theorem State.delayFail_hold (s : State) (c : Nat) : (State.delayFail s c).hold = s.hold := by
  grind [State.delayFail, State.hold, State.raise_hold, State.modOc_hold]

theorem State.setTwin_hold (s : State) (x : Twin) : (State.setTwin s x).hold = s.hold := by grind [State.setTwin, State.hold]

theorem State.modTwin_hold (s : State) (f : Twin → Twin) : (State.modTwin s f).hold = s.hold := by grind [State.modTwin, State.hold, State.setTwin_hold]

theorem State.toSolo_hold (s : State) : (State.toSolo s).hold = s.hold := by grind [State.toSolo, State.hold, State.modTwin_hold]

theorem State.twinResult_hold (s : State) (status : Nat) (cause : Nat) : (State.twinResult s status cause).hold = s.hold := by
  grind [State.twinResult, State.hold, State.setRegN_hold]

theorem State.macNext_hold (s : State) (i : Nat) (attr : Word) : (State.macNext s i attr).hold = s.hold := by grind [State.macNext, State.hold]

theorem State.keyNext_hold (s : State) (i : Nat) (key : List Byte) : (State.keyNext s i key).hold = s.hold := by
  grind [State.keyNext, State.hold, forEach_hold]

theorem State.setSaff_hold (s : State) (x : Saffron) : (State.setSaff s x).hold = s.hold := by grind [State.setSaff, State.hold]

theorem State.modSaff_hold (s : State) (f : Saffron → Saffron) : (State.modSaff s f).hold = s.hold := by
  grind [State.modSaff, State.hold, State.setSaff_hold]

theorem State.sealKeyChange_hold (s : State) : (State.sealKeyChange s).hold = s.hold := by grind [State.sealKeyChange, State.hold, State.modSaff_hold]

theorem State.woadInstall_hold (s : State) (x : WoadOp) : (State.woadInstall s x).hold = s.hold := by
  grind [State.woadInstall, State.hold, State.macNext_hold, State.keyNext_hold, State.sealKeyChange_hold, State.raise_hold, State.mirror_hold]

theorem State.setRegBytes_hold (s : State) (a : Nat) (words : Nat) (bs : List Byte) : (State.setRegBytes s a words bs).hold = s.hold := by
  unfold State.setRegBytes
  simp [foldl_hold, State.setReg_hold]

theorem State.woadDone_hold (s : State) (status : Nat) (kcv : Nat) : (State.woadDone s status kcv).hold = s.hold := by
  grind [State.woadDone, State.hold, State.bump_hold, State.setRegN_hold, State.setRegBytes_hold]

end Sys2Proof.Machine
end

