-- ==== Sys2Proof/Laws/Hold2.lean ====
section
/-! SUPPORT. What the operations leave alone, in the order in which they call each other (2 of 5): the memories, the queue and the ordering code. -/

namespace Sys2Proof.Machine

theorem State.woadEnd_hold (s : State) (x : WoadOp) (status : Nat) : (State.woadEnd s x status).hold = s.hold := by
  grind [State.woadEnd, State.hold, State.woadInstall_hold, State.woadDone_hold]

theorem State.tamperOp_hold (s : State) : (State.tamperOp s).hold = s.hold := by
  grind [State.tamperOp, State.hold, State.woadEnd_hold, State.modSaff_hold, State.woadDone_hold]

theorem State.setBoot_hold (s : State) (x : Boot) : (State.setBoot s x).hold = s.hold := by grind [State.setBoot, State.hold]

theorem State.modBoot_hold (s : State) (f : Boot → Boot) : (State.modBoot s f).hold = s.hold := by grind [State.modBoot, State.hold, State.setBoot_hold]

theorem State.aonFlush_hold (s : State) : (State.aonFlush s).hold = s.hold := by grind [State.aonFlush, State.hold]

theorem State.selectRecord_hold (s : State) (t : Nat) (i : Nat) : (State.selectRecord s t i).2.2.2.hold = s.hold := by
  grind [State.selectRecord, State.hold, State.raise_hold, State.bumpBy_hold, State.modSaff_hold, State.bump_hold]

theorem State.setSlot_hold (s : State) (i : Nat) (x : Slot17) : (State.setSlot s i x).hold = s.hold := by grind [State.setSlot, State.hold]

theorem State.restoreSlot_hold (s : State) (i : Nat) : (State.restoreSlot s i).hold = s.hold := by
  grind [State.restoreSlot, State.hold, State.selectRecord_hold, State.setSlot_hold, State.raise_hold]

theorem State.lockAtBoot_hold (s : State) : (State.lockAtBoot s).hold = s.hold := by
  grind [State.lockAtBoot, State.hold, State.raise_hold, State.modBoot_hold, State.aonFlush_hold, State.restoreSlot_hold]

theorem State.console_hold (s : State) (n : Nat) : (State.console s n).hold = s.hold := by grind [State.console, State.hold, State.bumpBy_hold]

theorem State.bootLine_hold (s : State) (step : Nat) (err : Nat) : (State.bootLine s step err).hold = s.hold := by
  grind [State.bootLine, State.hold, State.freeNat_hold, State.emit_hold, State.console_hold]

theorem State.holdTamper_hold (s : State) (src : Nat) : (State.holdTamper s src).hold = s.hold := by grind [State.holdTamper, State.hold]

theorem State.raiseOut_hold (s : State) (n : Nat) (code : Nat) (sev : Nat) (a0 : Nat) (a1 : Nat) : (State.raiseOut s n code sev a0 a1).hold = s.hold := by
  grind [State.raiseOut, State.hold, State.raise_hold]

theorem State.alignLine_hold (s : State) (n : Nat) : (State.alignLine s n).hold = s.hold := by
  grind [State.alignLine, State.hold, State.setOut_hold, State.raiseOut_hold]

theorem State.loseAlign_hold (s : State) (f : Nat) : (State.loseAlign s f).hold = s.hold := by
  grind [State.loseAlign, State.hold, State.setFlow_hold, State.raise_hold]

theorem State.alignStep_hold (s : State) (f : Nat) (contacts : Int) : (State.alignStep s f contacts).hold = s.hold := by
  grind [State.alignStep, State.hold, State.modFlow_hold, State.loseAlign_hold, State.setFlow_hold]

theorem State.alloc_hold (s : State) (n : Nat) (host : Bool) (sz : Nat × State) (hz : (State.alloc s n host) = some sz) : sz.2.hold = s.hold := by
  grind [State.alloc, State.hold]

theorem State.setUnit_hold (s : State) (u : Nat) (x : UnitState) : (State.setUnit s u x).hold = s.hold := by grind [State.setUnit, State.hold]

theorem State.modUnit_hold (s : State) (u : Nat) (f : UnitState → UnitState) : (State.modUnit s u f).hold = s.hold := by
  grind [State.modUnit, State.hold, State.setUnit_hold]

theorem State.mediaResult_hold (s : State) (u : Nat) (st : Nat) (r : VReg) : (State.mediaResult s u st r).hold = s.hold := by
  grind [State.mediaResult, State.hold, State.freeNat_hold, State.modUnit_hold]

theorem State.media_hold (s : State) (u : Nat) (allowed : Bool) (run : Option Nat → State → Except Nat State) (hrun : ∀ e s t, run e s = .ok t → t.hold = s.hold) : (State.media s u allowed run).hold = s.hold := by
  unfold State.media
  split
  · split
    · exact State.mediaResult_hold ..
    · split
      · next h => rw [State.mediaResult_hold]; exact hrun _ _ _ h
      · exact State.mediaResult_hold ..
  · dsimp only
    split
    · exact State.mediaResult_hold ..
    · split
      · next h =>
        rw [State.mediaResult_hold]
        split at h
        · cases h
        · split at h
          · cases h
          · rw [hrun _ _ _ h, State.modCe_hold]
      · simp only [State.mediaResult_hold, State.modCe_hold]

theorem State.amap_hold (s : State) (u : Nat) (r : AmapReq) : (State.amap s u r).hold = s.hold := by
  grind [State.amap, State.hold, State.media_hold, State.absorb_hold]

theorem State.amapLine_hold (s : State) (n : Nat) (t : Nat) : (State.amapLine s n t).hold = s.hold := by grind [State.amapLine, State.hold]

theorem State.ancIn_hold (s : State) (f : Nat) (ps : List AncPkt) : (State.ancIn s f ps).hold = s.hold := by
  grind [State.ancIn, State.hold, State.modFlow_hold]

theorem State.ancInsert_hold (s : State) (n : Nat) : (State.ancInsert s n).hold = s.hold := by
  grind [State.ancInsert, State.hold, State.emit_hold, State.bumpBy_hold, State.modOut_hold, forEach_hold]

theorem State.ancPass_hold (s : State) (n : Nat) (noRoom : Nat) (ps : List AncPkt) : (State.ancPass s n noRoom ps).hold = s.hold := by
  grind [State.ancPass, State.hold, State.emit_hold, State.bumpBy_hold, State.raiseLim_hold, forEach_hold]

theorem State.aonRaise_hold (s : State) (code : Nat) (sev : Nat) (index : Nat) (a0 : Nat) : (State.aonRaise s code sev index a0).hold = s.hold := by
  grind [State.aonRaise, State.hold, State.aonStamp_hold, State.raise_hold]

theorem State.applyAnc_hold (s : State) (n : Nat) (starting : Bool) : (State.applyAnc s n starting).1.hold = s.hold := by
  grind [State.applyAnc, State.hold, State.setOut_hold]

theorem State.applyConfig_hold (s : State) (t : Nat) : (State.applyConfig s t).hold = s.hold := by
  unfold State.applyConfig
  simp [foldl_hold, apply_ite State.hold, State.selectRecord_hold, State.setRegN_hold]

theorem State.setEvents_hold (s : State) (u : Nat) (mask : Nat) : (State.setEvents s u mask).hold = s.hold := by
  grind [State.setEvents, State.hold, State.modUnit_hold]

theorem State.flipNow_hold (s : State) (n : Nat) (k : Nat) (t : Nat) (f : PendFlip) : (State.flipNow s n k t f).hold = s.hold := by
  grind [State.flipNow, State.hold, State.modOut_hold, State.bump_hold, State.setEvents_hold]

theorem State.applyFlip_hold (s : State) (n : Nat) (k : Nat) (t : Nat) (starting : Bool) : (State.applyFlip s n k t starting).hold = s.hold := by
  grind [State.applyFlip, State.hold, State.modOut_hold, State.flipNow_hold]

theorem State.settleSyn_hold (s : State) (n : Nat) : (State.settleSyn s n).hold = s.hold := by grind [State.settleSyn, State.hold, State.dropSyn_hold]

theorem State.applyTim_hold (s : State) (n : Nat) (p : PendTim) (scan : Bool) : (State.applyTim s n p scan).hold = s.hold := by
  grind [State.applyTim, State.hold, State.setOut_hold, State.raiseOut_hold, State.settleSyn_hold, State.setEvents_hold, State.setReg_hold, State.poolRequest_hold]

theorem State.armWrite_hold (s : State) (v : Word) : (State.armWrite s v).1.hold = s.hold := by grind [State.armWrite, State.hold, State.setReg_hold]

theorem State.askLink_hold (s : State) (L : Nat) (bs : List Nat) : (State.askLink s L bs).hold = s.hold := by
  grind [State.askLink, State.hold, State.modLane_hold, State.sendLink_hold]

theorem State.askPower_hold (s : State) (l : Nat) (kind : Nat) : (State.askPower s l kind).hold = s.hold := by
  grind [State.askPower, State.hold, State.modLink_hold, State.askLink_hold]

theorem State.attach_hold (s : State) : (State.attach s).hold = s.hold := by
  grind [State.attach, State.hold, State.twinResult_hold, State.emit_hold, State.modTwin_hold]

theorem State.attestBegin_hold (s : State) (restarts : Nat) : (State.attestBegin s restarts).hold = s.hold := by
  grind [State.attestBegin, State.hold, State.modBoot_hold]

theorem State.attestEnd_hold (s : State) (status : Nat) (ok : Bool) : (State.attestEnd s status ok).hold = s.hold := by
  grind [State.attestEnd, State.hold, State.modBoot_hold]

theorem State.attestReq_hold (s : State) (v : Word) : (State.attestReq s v).1.hold = s.hold := by
  grind [State.attestReq, State.hold, State.modBoot_hold, State.attestBegin_hold]

theorem State.setIc_hold (s : State) (c : Nat) (x : Ic) : (State.setIc s c x).hold = s.hold := by grind [State.setIc, State.hold]

theorem State.setAes_hold (s : State) (i : Nat) (x : Aes) : (State.setAes s i x).hold = s.hold := by grind [State.setAes, State.hold]

theorem State.icSettle_hold (s : State) (old : State) (cs : List Nat) : (State.icSettle s old cs).hold = s.hold := by
  unfold State.icSettle
  simp [forEach_hold, apply_ite State.hold, State.setIc_hold, forEach_hold]

theorem State.audioLose_hold (s : State) (pair : Bool) (x : Nat) : (State.audioLose s pair x).hold = s.hold := by
  unfold State.audioLose
  simp [forEach_hold, apply_ite State.hold, State.setIc_hold, State.setAes_hold, State.raise_hold, State.bump_hold, State.icSettle_hold, forEach_hold]

theorem State.audioMute_hold (s : State) (cs : List Nat) (on : Bool) : (State.audioMute s cs on).hold = s.hold := by
  unfold State.audioMute
  simp [forEach_hold, State.icSettle_hold, State.setIc_hold, forEach_hold]

theorem State.sendAuth_hold (s : State) (p : AuthPeer) : (State.sendAuth s p).hold = s.hold := by grind [State.sendAuth, State.hold, State.emit_hold]

theorem State.postPiece_hold (s : State) (p : Piece) : (State.postPiece s p).hold = s.hold := by grind [State.postPiece, State.hold, State.modSaff_hold]

theorem State.gatherPiece_hold (s : State) : (State.gatherPiece s).2.hold = s.hold := by grind [State.gatherPiece, State.hold, State.modSaff_hold]

theorem State.postGather_hold (s : State) : (State.postGather s).hold = s.hold := by
  grind [State.postGather, State.hold, State.gatherPiece_hold, State.postPiece_hold]

theorem State.postRecord_hold (s : State) (pages : List (Nat × List Byte)) (fin : PieceEnd) : (State.postRecord s pages fin).hold = s.hold := by
  grind [State.postRecord, State.hold, State.postPiece_hold, State.modSaff_hold, State.postGather_hold]

theorem State.postAlt_hold (s : State) (t : Nat) (i : Nat) (payload : List Byte) : (State.postAlt s t i payload).hold = s.hold := by
  grind [State.postAlt, State.hold, State.postRecord_hold]

theorem State.copyFlow_hold (s : State) (f : Nat) : (State.copyFlow s f).hold = s.hold := by grind [State.copyFlow, State.hold, State.emit_hold]

theorem State.emitSome_hold {α : Type} (s : State) (kind : String) (x : Option α) (args : α → List Nat) : (State.emitSome s kind x args).hold = s.hold := by
  cases x with
  | none => rfl
  | some p => exact State.emit_hold ..

theorem State.copyOut_hold (s : State) (n : Nat) : (State.copyOut s n).hold = s.hold := by
  unfold State.copyOut
  dsimp only
  have hf (s : State) (f : State → Nat → State) (h : ∀ s k, (f s k).hold = s.hold) : (s.forEach [0, 1] f).hold = s.hold := forEach_hold s _ f h
  rw [apply_ite State.hold]
  simp only [State.emit_hold, State.emitSome_hold, hf, apply_ite State.hold, ite_self, implies_true]

theorem State.copyAll_hold (s : State) : (State.copyAll s).hold = s.hold := by
  grind [State.copyAll, State.hold, State.emit_hold, State.copyFlow_hold, State.copyOut_hold, forEach_hold]

theorem State.idleSeqs_hold (s : State) : (State.idleSeqs s).hold = s.hold := by grind [State.idleSeqs, State.hold]

theorem State.standbyMute_hold (s : State) (n : Nat) : (State.standbyMute s n).hold = s.hold := by grind [State.standbyMute, State.hold, State.modOut_hold]

theorem State.setPwr_hold (s : State) (x : Pwr) : (State.setPwr s x).hold = s.hold := by grind [State.setPwr, State.hold]

theorem State.modPwr_hold (s : State) (f : Pwr → Pwr) : (State.modPwr s f).hold = s.hold := by grind [State.modPwr, State.hold, State.setPwr_hold]

theorem State.avsHeld_hold (s : State) (t : Nat) (high : Bool) : (State.avsHeld s t high).hold = s.hold := by
  grind [State.avsHeld, State.hold, State.modPwr_hold, State.bump_hold, State.raiseLim_hold]

theorem State.avsTick_hold (s : State) (t : Nat) : (State.avsTick s t).hold = s.hold := by
  grind [State.avsTick, State.hold, State.modPwr_hold, State.avsHeld_hold]

theorem State.salvoFault_hold (s : State) (n : Nat) : (State.salvoFault s n).hold = s.hold := by
  grind [State.salvoFault, State.hold, State.ackSalvo_hold, forEach_hold]

theorem State.dropTset_hold (s : State) (n : Nat) : (State.dropTset s n).hold = s.hold := by
  grind [State.dropTset, State.hold, State.modOut_hold, State.dropSyn_hold]

theorem State.dropTake_hold (s : State) (n : Nat) : (State.dropTake s n).hold = s.hold := by
  grind [State.dropTake, State.hold, State.gcLandings_hold, State.modOut_hold]

theorem State.dropFlip_hold (s : State) (n : Nat) (p : Nat) : (State.dropFlip s n p).hold = s.hold := by
  grind [State.dropFlip, State.hold, State.modOut_hold, State.staleFlip_hold]

theorem State.discardOut_hold (s : State) (n : Nat) : (State.discardOut s n).hold = s.hold := by
  grind [State.discardOut, State.hold, State.dropTset_hold, State.dropTake_hold, State.dropFlip_hold, State.modOut_hold, State.poolWithdraw_hold, State.poolRequest_hold]

theorem State.endGroup_hold (s : State) (e : Nat) : (State.endGroup s e).hold = s.hold := by
  grind [State.endGroup, State.hold, State.modCe_hold, State.gcLandings_hold]

theorem State.masterClear_hold (s : State) (m : Nat) : (State.masterClear s m).hold = s.hold := by grind [State.masterClear, State.hold]

theorem State.endXact_hold (s : State) (m : Nat) : (State.endXact s m).hold = s.hold := by
  grind [State.endXact, State.hold, State.raise_hold, State.bump_hold]

theorem State.setPba_hold (s : State) (v : Nat) (b : Bool) : (State.setPba s v b).hold = s.hold := by grind [State.setPba, State.hold, State.setReg_hold]

theorem State.msix_hold (s : State) (v : Nat) : (State.msix s v).hold = s.hold := by grind [State.msix, State.hold, State.setPba_hold, State.emit_hold]

theorem State.bindAudio_hold (s : State) (f : Nat) (base : Nat) (c : Nat) (ip : Bool) (wantAsrc : Bool) : (State.bindAudio s f base c ip wantAsrc).hold = s.hold := by
  grind [State.bindAudio, State.hold, State.raise_hold, State.modFlow_hold, State.setIc_hold, forEach_hold]

theorem State.writeMatch_hold (s : State) (n : Nat) (i : Nat) (leg : Nat) (f : Nat) (key : List Word) : (State.writeMatch s n i leg f key).hold = s.hold := by
  grind [State.writeMatch, State.hold, State.modPort_hold]

theorem State.clearFlowCounters_hold (s : State) (f : Nat) : (State.clearFlowCounters s f).hold = s.hold := by
  grind [State.clearFlowCounters, State.hold, State.setCtr_hold, forEach_hold]

theorem State.bindRegs_hold (s : State) (f : Nat) (window : Nat) : (State.bindRegs s f window).hold = s.hold := by
  grind [State.bindRegs, State.hold, State.clearFlowCounters_hold, State.setRegN_hold]

theorem State.bindMake_hold (s : State) (ws : List Word) (f : Nat) (x : Flow) (base : Nat) (mbase : Nat) : (State.bindMake s ws f x base mbase).hold = s.hold := by
  grind [State.bindMake, State.hold, State.writeMatch_hold, State.bindRegs_hold, State.setFlow_hold, State.bindAudio_hold, State.mirror_hold]

theorem State.bindRows_hold (s : State) (ws : List Word) (sz : Nat × State) (hz : (State.bindRows s ws) = .ok sz) : sz.2.hold = s.hold := by
  have e1 : ∀ {c : Prop} [Decidable c] {z : Nat × State} {u : State} {a : Nat} , (if c then some (0, u) else u.alloc a false) = some z → z.2.hold = u.hold := by
    intro c _ z u a h
    split at h
    · cases h; rfl
    · exact State.alloc_hold _ _ _ _ h
  unfold State.bindRows at hz
  dsimp only at hz
  (repeat' split at hz) <;> first | (cases hz; done) | skip
  all_goals
    cases hz
    rw [State.bindMake_hold]
    rename_i h1 _ _ _ h2
    exact (e1 h2).trans (e1 h1)

theorem State.blackOut_hold (s : State) (n : Nat) (status : Nat) : (State.blackOut s n status).hold = s.hold := by
  grind [State.blackOut, State.hold, State.modOut_hold, State.dropTake_hold]

theorem State.nextSource_hold (s : State) (fallback : Bool) : (State.nextSource s fallback).hold = s.hold := by
  grind [State.nextSource, State.hold, State.raise_hold, State.bootLine_hold, State.modBoot_hold]

theorem State.imageFails_hold (s : State) (err : Nat) : (State.imageFails s err).hold = s.hold := by
  grind [State.imageFails, State.hold, State.modBoot_hold, State.bump_hold, State.bootLine_hold, State.raise_hold, State.nextSource_hold]

theorem State.imageCheck_hold (s : State) (img : List Byte) : (State.imageCheck s img).hold = s.hold := by
  grind [State.imageCheck, State.hold, State.imageFails_hold, State.bootLine_hold, State.modBoot_hold]

theorem State.bootPush_hold (s : State) (v : Word) : (State.bootPush s v).1.hold = s.hold := by
  grind [State.bootPush, State.hold, State.modBoot_hold, State.imageCheck_hold]

theorem State.randomBytes_hold (s : State) (place : Nat) (a2 : Nat) : (State.randomBytes s place a2).2.hold = s.hold := by
  induction a2 generalizing s with
  | zero => rfl
  | succ k ih =>
    unfold State.randomBytes
    exact (ih _).trans (State.freeNat_hold ..)

theorem State.bpChal_hold (s : State) (m : Nat) : (State.bpChal s m).1.hold = s.hold := by
  grind [State.bpChal, State.hold, State.setRegN_hold, State.randomBytes_hold, State.setRegBytes_hold, State.modSaff_hold]

theorem State.nvSpareCheck_hold (s : State) : (State.nvSpareCheck s).hold = s.hold := by
  grind [State.nvSpareCheck, State.hold, State.raise_hold, State.modSaff_hold]

theorem State.pieceEnd_hold (s : State) (a1 : PieceEnd) : (State.pieceEnd s a1).hold = s.hold := by
  unfold State.pieceEnd
  (repeat' split) <;> grind [State.hold, State.setRegN_hold, State.modSaff_hold, State.woadEnd_hold, State.raise_hold]

theorem State.bump48_hold (s : State) (a : Nat) (n : Nat) : (State.bump48 s a n).hold = s.hold := by grind [State.bump48, State.hold, State.setCtr_hold]

theorem State.cadenceField_hold (n : Nat) (s : State) (field : Nat) : (State.cadenceField n s field).hold = s.hold := by
  grind [State.cadenceField, State.hold, State.raiseOut_hold, State.bump_hold, State.setOut_hold]

theorem State.cadenceStep_hold (s : State) (n : Nat) (i : OutFrame) : (State.cadenceStep s n i).hold = s.hold := by
  unfold State.cadenceStep
  simp [foldl_hold, apply_ite State.hold, State.setOut_hold, State.modOut_hold, State.cadenceField_hold]

theorem State.modHealth_hold (s : State) (f : Health → Health) : (State.modHealth s f).hold = s.hold := by grind [State.modHealth, State.hold]

theorem State.calmTick_hold (s : State) (i : TickInfo) : (State.calmTick s i).hold = s.hold := by grind [State.calmTick, State.hold, State.modHealth_hold]

theorem State.chooseCand_hold (s : State) (c : Nat) : (State.chooseCand s c).hold = s.hold := by
  grind [State.chooseCand, State.hold, State.modMadder_hold, State.applySel_hold]

theorem State.qualify_hold (s : State) (c : Nat) : (State.qualify s c).hold = s.hold := by
  grind [State.qualify, State.hold, State.raiseRef_hold, State.modCand_hold, State.applySel_hold, State.chooseCand_hold, State.modMadder_hold]

theorem State.restartCand_hold (s : State) (c : Nat) : (State.restartCand s c).hold = s.hold := by
  grind [State.restartCand, State.hold, State.modCand_hold, State.raiseRef_hold, State.qualify_hold]

theorem State.candCfgWrite_hold (s : State) (c : Nat) (reg : Nat) (v : Word) : (State.candCfgWrite s c reg v).1.hold = s.hold := by
  grind [State.candCfgWrite, State.hold, State.setReg_hold, State.endDisagree_hold, State.restartCand_hold, State.modCand_hold, State.loseCand_hold]

theorem State.readLag_hold (s : State) : (State.readLag s).2.hold = s.hold := by grind [State.readLag, State.hold, State.freeNat_hold]

theorem State.captureTtime_hold (s : State) (m : Nat) : (State.captureTtime s m).2.hold = s.hold := by
  grind [State.captureTtime, State.hold, State.readLag_hold]

theorem State.noteSrc_hold (s0 : State) (s : State) (us : List Nat) : (State.noteSrc s0 s us).hold = s.hold := by
  grind [State.noteSrc, State.hold, State.setEvents_hold, State.modUnit_hold, forEach_hold]

theorem State.detTo_hold (s : State) (f : Nat) (d : Det) : (State.detTo s f d).hold = s.hold := by
  grind [State.detTo, State.hold, State.modFlow_hold, State.loseAlign_hold, State.audioLose_hold, State.noteSrc_hold]

theorem State.standbyLeave_hold (s : State) (target : Nat) : (State.standbyLeave s target).hold = s.hold := by
  grind [State.standbyLeave, State.hold, State.modUnit_hold, State.modOut_hold, State.detTo_hold, State.modFlow_hold, State.aonFlush_hold, State.powerLink_hold, State.modPwr_hold, forEach_hold]

theorem State.changeDone_hold (s : State) : (State.changeDone s).hold = s.hold := by
  grind [State.changeDone, State.hold, State.standbyLeave_hold, State.modPwr_hold]

end Sys2Proof.Machine
end

