-- ==== Sys2Proof/Laws/Hold3.lean ====
section
/-! SUPPORT. What the operations leave alone, in the order in which they call each other (3 of 5): the memories, the queue and the ordering code. -/

namespace Sys2Proof.Machine

theorem State.changeSource_hold (s : State) (c : Nat) (src : Nat) (i : Nat) : (State.changeSource s c src i).hold = s.hold := by
  grind [State.changeSource, State.hold, State.setOc_hold, State.raise_hold, State.bump_hold]

theorem State.channelForm_hold (s : State) (u : Nat) (a : VReg) (imm : BitVec 14) (run : Nat → Nat → Nat → Except Nat State) (hrun : ∀ r o n t, run r o n = .ok t → t.hold = s.hold) (sz : State) (hz : (State.channelForm s u a imm run) = .ok sz) : sz.hold = s.hold := by
  unfold State.channelForm at hz
  split at hz
  · cases hz
  · dsimp only at hz
    split at hz
    · cases hz
    · exact hrun _ _ _ _ hz

theorem State.clearPend_hold (s : State) (a : Nat) (v : Word) : (State.clearPend s a v).1.hold = s.hold := by
  grind [State.clearPend, State.hold, State.setReg_hold]

theorem State.coldTick_hold (s : State) (t : Int) : (State.coldTick s t).hold = s.hold := by
  have e : ∀ {c : Prop} [Decidable c] {x y z : State}, x.hold = z.hold → y.hold = z.hold → (if c then x else y).hold = z.hold := by
    intro c _ x y z hx hy
    split <;> assumption
  unfold State.coldTick
  extract_lets h s1
  refine e ?_ (e ?_ (State.modHealth_hold ..))
  · rw [State.modHealth_hold]
    exact e rfl (State.raise_hold ..)
  · split
    · exact State.modHealth_hold ..
    · exact e (State.modHealth_hold ..) rfl

theorem State.setMon_hold (s : State) (m : Nat) (x : Monitor) : (State.setMon s m x).hold = s.hold := by
  grind [State.setMon, State.hold, State.modHealth_hold]

theorem State.shutBegin_hold (s : State) (cause : Nat) : (State.shutBegin s cause).hold = s.hold := by
  grind [State.shutBegin, State.hold, State.modPwr_hold, State.raise_hold, State.modSaff_hold]

theorem State.railFails_hold (s : State) (r : Nat) : (State.railFails s r).hold = s.hold := by
  grind [State.railFails, State.hold, State.raise_hold, State.modPwr_hold, State.shutBegin_hold]

theorem State.salvoResult_hold (s : State) (st : Nat) (res : Nat) : (State.salvoResult s st res).hold = s.hold := by
  grind [State.salvoResult, State.hold, State.setRegN_hold]

theorem State.compensate_hold (s : State) (p : Part) (n : Nat) : (State.compensate s p n).hold = s.hold := by
  grind [State.compensate, State.hold, State.commitTake_hold, State.modOut_hold, State.setPart_hold, State.salvoResult_hold, State.bump_hold]

theorem State.setTile_hold (s : State) (t : Nat) (x : Tile) : (State.setTile s t x).hold = s.hold := by grind [State.setTile, State.hold]

theorem State.convLine_hold (s : State) (n : Nat) : (State.convLine s n).hold = s.hold := by
  grind [State.convLine, State.hold, State.setOut_hold, State.setTile_hold, State.raiseOut_hold, State.modOut_hold]

theorem State.latch_hold (s : State) (m : Nat) (a : Nat) (v : Nat) : (State.latch s m a v).hold = s.hold := by grind [State.latch, State.hold]

theorem State.counterLow_hold (s : State) (m : Nat) (h : RegHit) (a : Nat) : (State.counterLow s m h a).2.hold = s.hold := by
  grind [State.counterLow, State.hold, State.latch_hold]

theorem State.mirrorReg_hold (s : State) (a : Nat) : (State.mirrorReg s a).hold = s.hold := by grind [State.mirrorReg, State.hold, State.mirror_hold]

theorem State.xbarGrant_hold (s : State) (m : Nat) (t : Nat) : (State.xbarGrant s m t).hold = s.hold := by grind [State.xbarGrant, State.hold]

theorem State.xbarErr_hold (s : State) (resp : Nat) (m : Nat) (a : Nat) (write : Bool) : (State.xbarErr s resp m a write).hold = s.hold := by
  grind [State.xbarErr, State.hold, State.setRegN_hold, State.bump_hold, State.raiseLim_hold]

theorem State.rangeReject_hold (s : State) (m : Nat) (a : Nat) : (State.rangeReject s m a).hold = s.hold := by
  grind [State.rangeReject, State.hold, State.bump_hold, State.setReg_hold, State.raiseLim_hold]

theorem State.writeReject_hold (s : State) (m : Nat) (a : Nat) : (State.writeReject s m a).hold = s.hold := by
  grind [State.writeReject, State.hold, State.xbarErr_hold, State.rangeReject_hold]

theorem State.regWriteBy_hold (s : State) (m : Nat) (a : Nat) (r : State × Bool) (hr : r.1.hold = s.hold) : (State.regWriteBy s m a r).hold = s.hold := by
  unfold State.regWriteBy
  split
  · rfl
  · split
    · split
      · rw [State.mirrorReg_hold, State.xbarGrant_hold, hr]
      · rw [State.writeReject_hold, State.xbarGrant_hold]
    · rw [State.writeReject_hold, State.xbarGrant_hold]
    · exact State.xbarErr_hold ..
    · rfl
    · rfl

theorem State.ctrlBit_hold (s : State) (m : Nat) (u : Nat) (r : Option State) (hr : ∀ t, r = some t → t.hold = s.hold) : (State.ctrlBit s m u r).hold = s.hold := by
  unfold State.ctrlBit
  split
  · refine State.regWriteBy_hold _ _ _ _ ?_
    split
    · exact hr _ rfl
    · rfl
  · rfl

theorem State.cxlLayout_hold (s : State) : (State.cxlLayout s).hold = s.hold := by grind [State.cxlLayout, State.hold, State.raise_hold]

theorem State.cxlTick_hold (s : State) (p : Nat × Nat × Nat × Nat) : (State.cxlTick s p).hold = s.hold := by
  grind [State.cxlTick, State.hold, State.bumpBy_hold, State.setRegN_hold]

theorem State.dataStops_hold (s : State) : (State.dataStops s).hold = s.hold := by grind [State.dataStops, State.hold]

theorem State.delayWrite_hold (s : State) (c : Nat) (v : Word) : (State.delayWrite s c v).1.hold = s.hold := by
  grind [State.delayWrite, State.hold, State.setOc_hold, State.setRegN_hold]

theorem State.delaysBack_hold (s : State) : (State.delaysBack s).hold = s.hold := by grind [State.delaysBack, State.hold, State.modOc_hold, forEach_hold]

theorem State.startUnit_hold (s : State) (u : Nat) : (State.startUnit s u).hold = s.hold := by grind [State.startUnit, State.hold, State.modUnit_hold]

theorem State.roleChange_hold (s : State) (n : Nat) : (State.roleChange s n).hold = s.hold := by
  grind [State.roleChange, State.hold, State.modTwin_hold, State.standbyMute_hold, State.modOut_hold, State.startUnit_hold]

theorem State.rolesFollow_hold (s : State) : (State.rolesFollow s).hold = s.hold := by
  grind [State.rolesFollow, State.hold, State.modTwin_hold, State.roleChange_hold, forEach_hold]

theorem State.switchStamp_hold (s : State) : (State.switchStamp s).hold = s.hold := by
  grind [State.switchStamp, State.hold, State.bump_hold, State.setReg64_hold]

theorem State.deratingTick_hold (s : State) : (State.deratingTick s).hold = s.hold := by
  grind [State.deratingTick, State.hold, State.raise_hold, State.modHealth_hold]

theorem State.destWrite_hold (s : State) (d : Nat) (v : Word) : (State.destWrite s d v).1.hold = s.hold := by
  grind [State.destWrite, State.hold, State.setReg_hold]

theorem State.twinDetach_hold (s : State) : (State.twinDetach s).hold = s.hold := by
  grind [State.twinDetach, State.hold, State.raise_hold, State.toSolo_hold]

theorem State.detach_hold (s : State) : (State.detach s).hold = s.hold := by grind [State.detach, State.hold, State.twinResult_hold, State.twinDetach_hold]

theorem State.detect_hold (s : State) (n : Nat) (was : Bool) (hit : Bool) (run : Nat) (N : Nat) (code : Nat) (cnt : Nat) : (State.detect s n was hit run N code cnt).1.hold = s.hold := by
  grind [State.detect, State.hold, State.raiseOut_hold, State.bump_hold]

theorem State.detectors_hold (s : State) (n : Nat) : (State.detectors s n).hold = s.hold := by
  grind [State.detectors, State.hold, State.raiseOut_hold, State.detect_hold, State.modOut_hold]

theorem State.directAnc_hold (s : State) (n : Nat) (l : Nat) : (State.directAnc s n l).hold = s.hold := by
  grind [State.directAnc, State.hold, State.ancPass_hold]

theorem State.stopLane_hold (s : State) (L : Nat) : (State.stopLane s L).hold = s.hold := by grind [State.stopLane, State.hold, State.modLane_hold]

theorem State.resetPortLanes_hold (s : State) (n : Nat) : (State.resetPortLanes s n).hold = s.hold := by
  grind [State.resetPortLanes, State.hold, State.degrade_hold, State.modLink_hold, State.setLink_hold, State.stopLane_hold, forEach_hold]

theorem State.poolFail_hold (s : State) (k : Nat) : (State.poolFail s k).hold = s.hold := by
  grind [State.poolFail, State.hold, State.setOut_hold, forEach_hold]

theorem State.switchCount_hold (s : State) (n : Nat) : (State.switchCount s n).hold = s.hold := by grind [State.switchCount, State.hold, State.modPwr_hold]

theorem State.domShedOff_hold (s : State) (d : Nat) : (State.domShedOff s d).hold = s.hold := by
  grind [State.domShedOff, State.hold, State.modPwr_hold, State.switchCount_hold]

theorem State.domUp_hold (s : State) (d : Nat) : (State.domUp s d).hold = s.hold := by
  grind [State.domUp, State.hold, State.modPwr_hold, State.switchCount_hold]

theorem State.domShedOn_hold (s : State) (d : Nat) : (State.domShedOn s d).hold = s.hold := by
  grind [State.domShedOn, State.hold, State.modPwr_hold, State.domUp_hold]

theorem State.dropPart_hold (s : State) (id : Nat) : (State.dropPart s id).hold = s.hold := by grind [State.dropPart, State.hold]

theorem State.refuseSalvo_hold (s : State) (p : Part) (st : Nat) (out : Nat) : (State.refuseSalvo s p st out).hold = s.hold := by
  grind [State.refuseSalvo, State.hold, State.stkSend_hold, State.salvoResult_hold, State.gcLandings_hold, State.dropPart_hold]

theorem State.dropHeld_hold (s : State) (n : Nat) (status : Nat) : (State.dropHeld s n status).hold = s.hold := by
  grind [State.dropHeld, State.hold, State.modCe_hold, State.salvoFault_hold, State.refuseSalvo_hold, forEach_hold]

theorem State.dropMatches_hold (s : State) (f : Nat) : (State.dropMatches s f).hold = s.hold := by grind [State.dropMatches, State.hold, State.modPort_hold]

theorem State.dropResv_hold (s : State) (r : Resv) : (State.dropResv s r).hold = s.hold := by grind [State.dropResv, State.hold]

theorem State.eccCorr_hold (s : State) (n : Nat) : (State.eccCorr s n).hold = s.hold := by
  grind [State.eccCorr, State.hold, State.raiseLim_hold, State.bumpBy_hold]

theorem State.eccUncorr_hold (s : State) (sector : Nat) : (State.eccUncorr s sector).hold = s.hold := by
  grind [State.eccUncorr, State.hold, State.raise_hold, State.bump_hold]

theorem State.elect_hold (s : State) : (State.elect s).hold = s.hold := by
  grind [State.elect, State.hold, State.raise_hold, State.setReg_hold, forEach_hold]

theorem State.mirrorPart_hold (s : State) (p : Part) (state : Nat) : (State.mirrorPart s p state).hold = s.hold := by
  grind [State.mirrorPart, State.hold, State.mirror_hold]

theorem State.endHold_hold (s : State) (p : Part) (n : Nat) : (State.endHold s p n).hold = s.hold := by
  grind [State.endHold, State.hold, State.modOut_hold, State.raise_hold, State.gcLandings_hold, State.mirrorPart_hold, State.dropPart_hold, State.setPart_hold]

theorem State.endWait_hold (s : State) (u : Nat) (t : Nat) (b : Bool) : (State.endWait s u t b).hold = s.hold := by
  grind [State.endWait, State.hold, State.setUnit_hold]

theorem State.engineWaits_hold (s : State) (e : Nat) (a : Nat) (write : Bool) (r : XbarEnd) (data : Word) (dst : VReg) : (State.engineWaits s e a write r data dst).hold = s.hold := by
  grind [State.engineWaits, State.hold, State.xbarGrant_hold, State.modUnit_hold]

theorem State.enterPower_hold (s : State) (l : Nat) (kind : Nat) : (State.enterPower s l kind).hold = s.hold := by
  grind [State.enterPower, State.hold, State.modLink_hold, State.modLane_hold, State.bump_hold, forEach_hold]

theorem State.slewOffsets_hold (s : State) (now : Nat) : (State.slewOffsets s now).hold = s.hold := by
  grind [State.slewOffsets, State.hold, State.modMadder_hold]

theorem State.enterSoft_hold (s : State) : (State.enterSoft s).hold = s.hold := by
  grind [State.enterSoft, State.hold, State.modMadder_hold, State.leaveLocked_hold, State.slewOffsets_hold]

theorem State.sendStep_hold (s : State) (L : Nat) (rate : Nat) : (State.sendStep s L rate).hold = s.hold := by
  grind [State.sendStep, State.hold, State.freeNat_hold, State.modLane_hold, State.askLink_hold]

theorem State.enterStep_hold (s : State) (L : Nat) : (State.enterStep s L).hold = s.hold := by
  grind [State.enterStep, State.hold, State.sendStep_hold, State.modLane_hold]

theorem State.probeTake_hold (s : State) (e : Option Nat) (n : Nat) (p : PendTake) : (State.probeTake s e n p).hold = s.hold := by
  unfold State.probeTake
  (repeat' split) <;> grind [State.hold, State.modOut_hold, State.modCe_hold]

theorem State.landingAudio_hold (s : State) (f : Nat) : (State.landingAudio s f).hold = s.hold := by
  grind [State.landingAudio, State.hold, State.setFlow_hold, State.setIc_hold, State.raise_hold, forEach_hold]

theorem State.startExchange_hold (s : State) (n : Nat) (f : Nat) (dev : Nat) (idx : Nat) (sz : State) (hz : (State.startExchange s n f dev idx) = some sz) : sz.hold = s.hold := by
  unfold State.startExchange at hz
  dsimp only at hz
  split at hz
  · next h =>
    cases hz
    rw [State.stkSend_hold, State.landingAudio_hold, State.setFlow_hold]
    exact State.alloc_hold _ _ _ _ h
  · cases hz

theorem State.takeCheck_hold (s : State) (u : Nat) (e : Option Nat) (n : Nat) (j : Nat) (w0 : Word) (salvo : Bool) (sz : State × PendTake) (hz : (State.takeCheck s u e n j w0 salvo) = .ok sz) : sz.1.hold = s.hold := by
  have e1 : ∀ {c : Prop} [Decidable c] {z : Nat × State} {u : State} {a b d : Nat}, (if c then u.addLanding a b d else some (0, u)) = some z → z.2.hold = u.hold := by
    intro c _ z u a b d h
    split at h
    · exact State.addLanding_hold _ _ _ _ _ h
    · cases h; rfl
  have e2 : ∀ {c : Bool} {u : State} {a b d f g : Nat}, (if c then u.raise a b d f g else u).hold = u.hold := by
    intro c u a b d f g
    split
    · exact State.raise_hold ..
    · rfl
  have e : ∀ {c : Prop} [Decidable c] {r : Nat} {y : Except Nat (State × PendTake)}, (y = .ok sz → sz.1.hold = s.hold) → (if c then .error r else y) = .ok sz → sz.1.hold = s.hold := by
    intro c _ r y hy h
    split at h
    · cases h
    · exact hy h
  unfold State.takeCheck at hz
  extract_lets w at hz
  revert hz
  refine e (e (e ?_))
  split
  · intro h; cases h
  · split
    · intro h; cases h
    · extract_lets p fresh landed
      have hl : ∀ z, landed = some z → z.2.hold = s.hold := fun z h => e1 h
      clear_value landed
      cases landed with
      | none => intro h; cases h
      | some z =>
        obtain ⟨f, t⟩ := z
        have ht : t.hold = s.hold := hl _ rfl
        refine e ?_
        dsimp only
        split
        · split
          · intro h; cases h
          · next hx =>
            intro h
            cases h
            exact ((State.startExchange_hold _ _ _ _ _ _ hx).trans e2).trans ht
        · intro h
          cases h
          exact e2.trans ht

theorem State.entryCheck_hold (s : State) (p : Part) (x : SalvoOut) (sz : State × SalvoOut) (hz : (State.entryCheck s p x) = .ok sz) : sz.1.hold = s.hold := by
  unfold State.entryCheck at hz
  split at hz
  · cases hz
  · next h =>
    have h1 := State.takeCheck_hold _ _ _ _ _ _ _ _ h
    dsimp only at hz
    split at hz
    · cases hz
    · split at hz
      · cases hz
      · cases hz; exact h1

theorem State.entryChecks_hold (p : Part) (a1 : List SalvoOut) (a2 : List SalvoOut) (a3 : State) (sz : State × List SalvoOut) (hz : (State.entryChecks p a1 a2 a3) = .ok sz) : sz.1.hold = a3.hold := by
  induction a1 generalizing a2 a3 p with
  | nil => simp only [State.entryChecks] at hz; cases hz; rfl
  | cons x xs ih =>
    simp only [State.entryChecks] at hz
    split at hz
    · cases hz
    · next h =>
      rw [ih _ _ _ hz, State.setPart_hold]
      exact State.entryCheck_hold _ _ _ _ h

theorem State.eqTick_hold (s : State) (p : Nat × Bool) : (State.eqTick s p).hold = s.hold := by
  grind [State.eqTick, State.hold, State.modLane_hold, State.raiseLim_hold]

theorem State.woadCmd_hold (s : State) (m : Nat) (v : Word) (op : Nat) (run : State → Nat → State) (hrun : ∀ s i, (run s i).hold = s.hold) : (State.woadCmd s m v op run).1.hold = s.hold := by
  unfold State.woadCmd
  split
  · rfl
  · split
    · exact State.woadDone_hold ..
    · split
      · exact State.woadDone_hold ..
      · exact hrun _ _

theorem State.execWoad_hold (s : State) (m : Nat) (v : Word) (op : Nat) (run : State → Nat → State) (hrun : ∀ s i, (run s i).hold = s.hold) : (State.execWoad s m v op run).hold = s.hold := by
  exact State.regWriteBy_hold _ _ _ _ (State.woadCmd_hold _ _ _ _ _ hrun)

theorem State.exportFrame_hold (s : State) (f : Nat) (i : Nat) : (State.exportFrame s f i).hold = s.hold := by
  grind [State.exportFrame, State.hold, State.emit_hold, forEach_hold]

theorem State.fcwWrite_hold (s : State) (v : Word) : (State.fcwWrite s v).1.hold = s.hold := by
  grind [State.fcwWrite, State.hold, State.raiseLim_hold, State.bump_hold, State.setReg_hold, State.enterSoft_hold, State.modMadder_hold]

theorem State.fecTick_hold (s : State) (p : Nat × Nat × Nat) : (State.fecTick s p).hold = s.hold := by grind [State.fecTick, State.hold, State.bumpBy_hold]

theorem State.setGroup_hold (s : State) (g : Nat) (x : TGroup) : (State.setGroup s g x).hold = s.hold := by grind [State.setGroup, State.hold]

theorem State.fixEpoch_hold (s : State) (g : Nat) (epoch : Int) (t : Nat) (free : Bool) : (State.fixEpoch s g epoch t free).hold = s.hold := by
  grind [State.fixEpoch, State.hold, State.setGroup_hold]

theorem State.followFrom_hold (s : State) (n : Nat) (t : Nat) : (State.followFrom s n t).hold = s.hold := by grind [State.followFrom, State.hold]

theorem State.forceRelease_hold (s : State) (f : Nat) (status : Nat) : (State.forceRelease s f status).hold = s.hold := by
  grind [State.forceRelease, State.hold, State.dropHeld_hold, State.blackOut_hold, State.dropLanding_hold, State.freeChannels_hold, State.dropMatches_hold, State.freeAt_hold, State.noteSrc_hold, forEach_hold]

theorem State.passOn_hold (s : State) (m : StkMsg) (l : Nat) : (State.passOn s m l).hold = s.hold := by grind [State.passOn, State.hold, State.emit_hold]

theorem State.forward_hold (s : State) (m : StkMsg) : (State.forward s m).hold = s.hold := by
  grind [State.forward, State.hold, State.passOn_hold, State.bump_hold]

theorem State.setFpOut_hold (s : State) (i : Nat) (x : FpOut) : (State.setFpOut s i x).hold = s.hold := by
  grind [State.setFpOut, State.hold, State.modMadder_hold]

theorem State.fpSource_hold (s : State) (i : Nat) (t : Nat) : (State.fpSource s i t).hold = s.hold := by
  grind [State.fpSource, State.hold, State.setFpOut_hold]

theorem State.fpSelected_hold (s : State) : (State.fpSelected s).hold = s.hold := by grind [State.fpSelected, State.hold, State.fpSource_hold, forEach_hold]

theorem State.fpCtrlWrite_hold (s : State) (i : Nat) (v : Word) : (State.fpCtrlWrite s i v).1.hold = s.hold := by
  grind [State.fpCtrlWrite, State.hold, State.setReg_hold, State.setFpOut_hold, State.fpSelected_hold]

theorem State.fpOffsetWrite_hold (s : State) (i : Nat) (v : Word) : (State.fpOffsetWrite s i v).1.hold = s.hold := by
  grind [State.fpOffsetWrite, State.hold, State.setReg_hold]

theorem State.goodSample_hold (s : State) (c : Nat) : (State.goodSample s c).hold = s.hold := by
  grind [State.goodSample, State.hold, State.modCand_hold, State.modMadder_hold, State.restartCand_hold]

theorem State.fpPulse_hold (s : State) (i : Nat) (seen : Nat) : (State.fpPulse s i seen).hold = s.hold := by
  grind [State.fpPulse, State.hold, State.modMadder_hold, State.fpSource_hold, State.fixEpoch_hold, State.goodSample_hold, State.modCand_hold, State.raise_hold, State.bump_hold, State.setFpOut_hold, forEach_hold]

theorem State.logMark_hold (s : State) (u : Nat) (code : Nat) (v : Word) (t : Nat) : (State.logMark s u code v t).hold = s.hold := by
  grind [State.logMark, State.hold, State.bump_hold, State.raiseAt_hold, State.setUnit_hold]

theorem State.frameSeen_hold (s : State) (u : Nat) (t : Nat) : (State.frameSeen s u t).hold = s.hold := by
  grind [State.frameSeen, State.hold, State.setEvents_hold, State.setUnit_hold, State.logMark_hold]

theorem State.timecode_hold (s : State) (n : Nat) (load : Bool) : (State.timecode s n load).hold = s.hold := by
  grind [State.timecode, State.hold, State.setOut_hold]

theorem State.frameBegins_hold (s : State) (n : Nat) (t : Nat) (transition : Bool) (starting : Bool) : (State.frameBegins s n t transition starting).hold = s.hold := by
  grind [State.frameBegins, State.hold, State.modOut_hold, State.bump_hold, State.applyFlip_hold, State.applyAnc_hold, State.followFrom_hold, State.frameSeen_hold, State.timecode_hold, State.ancInsert_hold]

theorem State.selectFor_hold (s : State) (n : Nat) (src : Source) : (State.selectFor s n src).hold = s.hold := by
  grind [State.selectFor, State.hold, State.setOut_hold, State.bump_hold, State.bumpBy_hold]

theorem State.frcStep_hold (s : State) (n : Nat) : (State.frcStep s n).hold = s.hold := by
  grind [State.frcStep, State.hold, State.raiseOut_hold, State.bump_hold, State.modOut_hold]

theorem State.frameShows_hold (s : State) (n : Nat) (noRoom : Nat) : (State.frameShows s n noRoom).hold = s.hold := by
  unfold State.frameShows
  simp [apply_ite State.hold, State.followFrom_hold, State.modOut_hold, State.selectFor_hold, State.frcStep_hold, State.bump_hold, State.ancPass_hold, State.bumpBy_hold]

theorem State.settlePart_hold (s : State) (p : Part) : (State.settlePart s p).hold = s.hold := by
  grind [State.settlePart, State.hold, State.setPart_hold, State.modOut_hold, State.stkSend_hold, State.mirrorPart_hold, State.bump_hold, forEach_hold]

theorem State.gather_hold (s : State) (id : Nat) (src : Nat) (out : Nat) (w : Word) : (State.gather s id src out w).hold = s.hold := by
  unfold State.gather
  split
  · rfl
  · split
    · rfl
    · dsimp only
      split
      · exact State.setPart_hold ..
      · split
        · exact State.refuseSalvo_hold ..
        · next h => rw [State.settlePart_hold, State.setPart_hold]; exact State.entryChecks_hold _ _ _ _ _ h

theorem State.gpioClear_hold (s : State) (v : Word) : (State.gpioClear s v).1.hold = s.hold := by grind [State.gpioClear, State.hold]

theorem State.gpioLevel_hold (s : State) (x : Nat × Bool × Nat) : (State.gpioLevel s x).hold = s.hold := by grind [State.gpioLevel, State.hold]

theorem State.groupAbort_hold (s : State) (e : Nat) : (State.groupAbort s e).2.hold = s.hold := by grind [State.groupAbort, State.hold, State.endGroup_hold]

theorem State.unholdGroup_hold (s : State) (e : Nat) : (State.unholdGroup s e).hold = s.hold := by grind [State.unholdGroup, State.hold, State.modCe_hold]

theorem State.groupCommit_hold (s : State) (e : Nat) : (State.groupCommit s e).2.hold = s.hold := by
  unfold State.groupCommit
  split
  · rfl
  · split
    · exact State.endGroup_hold ..
    · split
      · exact State.endGroup_hold ..
      · exact (foldl_hold _ _ _ (fun s m => State.commitMember_hold s m)).trans (State.unholdGroup_hold ..)

theorem State.groupExpire_hold (s : State) (e : Nat) : (State.groupExpire s e).hold = s.hold := by
  grind [State.groupExpire, State.hold, State.endGroup_hold, State.raise_hold, State.modCe_hold]

theorem State.groupLow_hold (s : State) (m : Nat) (g : Nat) (off : Nat) : (State.groupLow s m g off).2.hold = s.hold := by
  grind [State.groupLow, State.hold, State.latch_hold]

theorem State.halloc_hold (s : State) (v : Word) : (State.halloc s v).1.hold = s.hold := by
  unfold State.halloc
  dsimp only
  split
  · rfl
  · split
    · next h =>
      simp only [State.setReg_hold, State.setRegN_hold]
      split at h
      · cases h
      · exact State.alloc_hold _ _ _ _ h
    · simp only [State.setRegN_hold]

end Sys2Proof.Machine
end

