-- ==== Sys2Proof/Laws/Hold4.lean ====
section
/-! SUPPORT. What the operations leave alone, in the order in which they call each other (4 of 5): the memories, the queue and the ordering code. -/

namespace Sys2Proof.Machine

theorem State.lifeTick_hold (s : State) : (State.lifeTick s).hold = s.hold := by
  grind [State.lifeTick, State.hold, State.setCtr_hold, State.setReg_hold, State.bump_hold, State.modHealth_hold]

theorem State.mountTick_hold (s : State) : (State.mountTick s).hold = s.hold := by grind [State.mountTick, State.hold, State.modHealth_hold]

theorem State.loadTick_hold (s : State) (i : TickInfo) : (State.loadTick s i).hold = s.hold := by
  grind [State.loadTick, State.hold, State.setRegN_hold, State.modPwr_hold]

theorem State.planSwitch_hold (s : State) (trigger : Nat) : (State.planSwitch s trigger).hold = s.hold := by
  grind [State.planSwitch, State.hold, State.modTwin_hold]

theorem State.heartbeatLost_hold (s : State) (t : Nat) : (State.heartbeatLost s t).hold = s.hold := by
  unfold State.heartbeatLost
  generalize ticksAfter t 3 = b
  dsimp only
  split
  · rw [State.raise_hold, State.raise_hold, State.bump_hold, State.modTwin_hold, State.advance_hold]
  · split
    · rw [State.modTwin_hold, State.raise_hold, State.bump_hold, State.modTwin_hold, State.advance_hold]
    · rw [State.raise_hold, State.bump_hold, State.modTwin_hold, State.advance_hold]

theorem State.hfree_hold (s : State) (v : Word) : (State.hfree s v).1.hold = s.hold := by grind [State.hfree, State.hold, State.freeAt_hold]

theorem State.idleTick_hold (s : State) : (State.idleTick s).hold = s.hold := by grind [State.idleTick, State.hold, State.modPwr_hold]

theorem State.routeWrite_hold (s : State) (d : Nat) (r : Nat) (v : Word) : (State.routeWrite s d r v).hold = s.hold := by
  grind [State.routeWrite, State.hold, State.setReg_hold, State.raise_hold]

theorem State.writeStk_hold (s : State) (m : Nat) (a : Nat) (v : Word) : (State.writeStk s m a v).1.hold = s.hold := by
  grind [State.writeStk, State.hold, State.routeWrite_hold]

theorem State.postBoot_hold (s : State) (cause : Nat) : (State.postBoot s cause).hold = s.hold := by grind [State.postBoot, State.hold, State.postAlt_hold]

theorem State.rbBurn_hold (s : State) : (State.rbBurn s).hold = s.hold := by grind [State.rbBurn, State.hold, State.modBoot_hold]

theorem State.storeReg_hold (s : State) (h : RegHit) (a : Nat) (v : Word) (ok : Bool) : (State.storeReg s h a v ok).1.hold = s.hold := by
  grind [State.storeReg, State.hold, State.setReg_hold]

theorem State.poolShedNow_hold (s : State) (k : Nat) : (State.poolShedNow s k).hold = s.hold := by
  grind [State.poolShedNow, State.hold, State.setOut_hold, forEach_hold]

theorem State.poolServe_hold (s : State) (k : Nat) : (State.poolServe s k).hold = s.hold := by
  unfold State.poolServe
  split
  · rfl
  · exact foldl_hold _ _ _ (fun s m => by dsimp only; split <;> simp only [State.setOut_hold])

theorem State.poolUnshed_hold (s : State) (k : Nat) : (State.poolUnshed s k).hold = s.hold := by grind [State.poolUnshed, State.hold, State.poolServe_hold]

theorem State.pdReqWrite_hold (s : State) (w : Nat) (v : Word) : (State.pdReqWrite s w v).1.hold = s.hold := by
  grind [State.pdReqWrite, State.hold, State.setReg_hold, State.poolShedNow_hold, State.poolUnshed_hold, forEach_hold]

theorem State.pdFaultWrite_hold (s : State) (w : Nat) (v : Word) : (State.pdFaultWrite s w v).1.hold = s.hold := by
  grind [State.pdFaultWrite, State.hold, State.setReg_hold]

theorem State.writeHlth_hold (s : State) (h : RegHit) (a : Nat) (v : Word) : (State.writeHlth s h a v).1.hold = s.hold := by
  grind [State.writeHlth, State.hold, State.storeReg_hold]

theorem State.madderCtrlWrite_hold (s : State) (v : Word) : (State.madderCtrlWrite s v).1.hold = s.hold := by
  grind [State.madderCtrlWrite, State.hold, State.setReg_hold, State.modMadder_hold, State.enterSoft_hold, State.enterHold_hold, State.applySel_hold, State.chooseCand_hold]

theorem State.writeMadder_hold (s : State) (h : RegHit) (a : Nat) (v : Word) : (State.writeMadder s h a v).1.hold = s.hold := by
  grind [State.writeMadder, State.hold, State.madderCtrlWrite_hold, State.fcwWrite_hold, State.candCfgWrite_hold, State.fpCtrlWrite_hold, State.fpOffsetWrite_hold, State.storeReg_hold]

theorem State.tgrpCtrlWrite_hold (s : State) (g : Nat) (v : Word) : (State.tgrpCtrlWrite s g v).1.hold = s.hold := by
  unfold State.tgrpCtrlWrite
  dsimp only
  (repeat' split) <;> simp_all [foldl_hold, State.setReg_hold, State.fixEpoch_hold, State.setGroup_hold, State.loseAlign_hold]

theorem State.phaseWrite_hold (s : State) (g : Nat) (v : Word) : (State.phaseWrite s g v).1.hold = s.hold := by
  grind [State.phaseWrite, State.hold, State.setReg_hold]

theorem State.writeTgrp_hold (s : State) (h : RegHit) (a : Nat) (v : Word) : (State.writeTgrp s h a v).1.hold = s.hold := by
  grind [State.writeTgrp, State.hold, State.tgrpCtrlWrite_hold, State.phaseWrite_hold, State.storeReg_hold]

theorem State.tileCtrlWrite_hold (s : State) (k : Nat) (v : Word) : (State.tileCtrlWrite s k v).1.hold = s.hold := by
  grind [State.tileCtrlWrite, State.hold, State.setTile_hold, State.setReg_hold]

theorem State.writeTile_hold (s : State) (h : RegHit) (a : Nat) (v : Word) : (State.writeTile s h a v).1.hold = s.hold := by
  grind [State.writeTile, State.hold, State.tileCtrlWrite_hold, State.storeReg_hold]

theorem State.limitNote_hold (s : State) (i : Nat) : (State.limitNote s i).hold = s.hold := by
  grind [State.limitNote, State.hold, State.raise_hold, State.setSlot_hold]

theorem State.postKey_hold (s : State) (i : Nat) (x : Slot17) : (State.postKey s i x).hold = s.hold := by
  grind [State.postKey, State.hold, State.postRecord_hold]

theorem State.useSlot_hold (s : State) (i : Nat) : (State.useSlot s i).hold = s.hold := by
  grind [State.useSlot, State.hold, State.limitNote_hold, State.setSlot_hold, State.postKey_hold]

theorem State.stageKey_hold (s : State) (t : Nat) (src : Nat) (wrap : Nat) (sz : List Byte × List Byte × State) (hz : (State.stageKey s t src wrap) = some sz) : sz.2.2.hold = s.hold := by
  unfold State.stageKey at hz
  dsimp only at hz
  split at hz
  · split at hz
    · cases hz
    · cases hz; exact State.randomBytes_hold ..
  · cases hz; rfl
  · split at hz
    · split at hz
      · cases hz; exact State.useSlot_hold ..
      · cases hz
    · cases hz
  · split at hz
    · cases hz; rfl
    · cases hz

theorem State.stage_hold (s : State) (i : Nat) : (State.stage s i).hold = s.hold := by
  unfold State.stage
  dsimp only
  split
  · exact State.woadDone_hold ..
  · split
    · exact State.woadDone_hold ..
    · next h => rw [State.woadDone_hold, State.raise_hold]; exact State.stageKey_hold _ _ _ _ _ h

theorem State.woadVerify_hold (s : State) (i : Nat) : (State.woadVerify s i).hold = s.hold := by grind [State.woadVerify, State.hold, State.woadDone_hold]

theorem State.woadStart_hold (s : State) (op : Nat) (i : Nat) (x : Slot17) : (State.woadStart s op i x).hold = s.hold := by
  grind [State.woadStart, State.hold, State.postKey_hold]

theorem State.woadCommit_hold (s : State) (i : Nat) : (State.woadCommit s i).hold = s.hold := by
  grind [State.woadCommit, State.hold, State.woadDone_hold, State.woadStart_hold]

theorem State.woadAbort_hold (s : State) (i : Nat) : (State.woadAbort s i).hold = s.hold := by
  grind [State.woadAbort, State.hold, State.woadDone_hold, State.raise_hold]

theorem State.woadAttr_hold (s : State) (i : Nat) : (State.woadAttr s i).hold = s.hold := by
  grind [State.woadAttr, State.hold, State.woadDone_hold, State.woadStart_hold]

theorem State.woadMake_hold (s : State) (i : Nat) (t : Nat) : (State.woadMake s i t).hold = s.hold := by
  grind [State.woadMake, State.hold, State.woadDone_hold, State.limitNote_hold, State.useSlot_hold, State.setRegBytes_hold]

theorem State.provClose_hold (s : State) (m : Nat) (v : Word) : (State.provClose s m v).1.hold = s.hold := by grind [State.provClose, State.hold]

theorem State.recWrite_hold (s : State) (v : Word) : (State.recWrite s v).hold = s.hold := by
  grind [State.recWrite, State.hold, State.setRegN_hold, State.mirror_hold, State.postAlt_hold]

theorem State.recRead_hold (s : State) (v : Word) : (State.recRead s v).hold = s.hold := by
  grind [State.recRead, State.hold, State.setRegN_hold, State.selectRecord_hold, State.setRegBytes_hold]

theorem State.recCmd_hold (s : State) (m : Nat) (v : Word) (op : Nat) : (State.recCmd s m v op).1.hold = s.hold := by
  grind [State.recCmd, State.hold, State.recWrite_hold, State.recRead_hold]

theorem State.writeXbar_hold (s : State) (h : RegHit) (a : Nat) (v : Word) : (State.writeXbar s h a v).1.hold = s.hold := by
  grind [State.writeXbar, State.hold, State.storeReg_hold]

theorem State.tamperCtrlWrite_hold (s : State) (v : Word) : (State.tamperCtrlWrite s v).1.hold = s.hold := by
  grind [State.tamperCtrlWrite, State.hold, State.setReg_hold]

theorem State.unlockSlotWrite_hold (s : State) (v : Word) : (State.unlockSlotWrite s v).1.hold = s.hold := by
  grind [State.unlockSlotWrite, State.hold, State.setReg_hold]

theorem State.unlockChal_hold (s : State) : (State.unlockChal s).hold = s.hold := by
  grind [State.unlockChal, State.hold, State.modTamper_hold, State.randomBytes_hold, State.setRegBytes_hold]

theorem State.seqStart_hold (s : State) (u : Nat) (restart : Bool) (sz : State) (hz : (State.seqStart s u restart) = some sz) : sz.hold = s.hold := by
  grind [State.seqStart, State.hold, State.setUnit_hold]

theorem State.swapDisarm_hold (s : State) (u : Nat) : (State.swapDisarm s u).hold = s.hold := by grind [State.swapDisarm, State.hold, State.modUnit_hold]

theorem State.kick_hold (s : State) (u : Nat) (v : Word) : (State.kick s u v).1.hold = s.hold := by grind [State.kick, State.hold, State.setEvents_hold]

theorem State.noteSet_hold (s : State) (m : Nat) (a : Nat) (g : Nat) : (State.noteSet s m a g).hold = s.hold := by grind [State.noteSet, State.hold]

theorem State.routeEvent_hold (s : State) (e : Event) : (State.routeEvent s e).hold = s.hold := by
  grind [State.routeEvent, State.hold, State.noteSet_hold, State.msix_hold, State.setReg_hold]

theorem State.logEntry_hold (s : State) (e : Event) : (State.logEntry s e).hold = s.hold := by
  grind [State.logEntry, State.hold, State.setRegN_hold, State.raiseLim_hold, State.bump_hold, State.raise_hold]

theorem State.takeEvent_hold (s : State) : (State.takeEvent s).hold = s.hold := by
  grind [State.takeEvent, State.hold, State.routeEvent_hold, State.logEntry_hold, State.advance_hold]

theorem State.logDue_hold (s : State) (t : Nat) : (State.logDue s t).hold = s.hold := by
  grind [State.logDue, State.hold, State.takeEvent_hold, forEach_hold]

theorem State.logHeadWrite_hold (s : State) (v : Word) : (State.logHeadWrite s v).1.hold = s.hold := by
  grind [State.logHeadWrite, State.hold, State.logDue_hold, State.setRegN_hold]

theorem State.logReadWrite_hold (s : State) (v : Word) : (State.logReadWrite s v).1.hold = s.hold := by
  grind [State.logReadWrite, State.hold, State.logDue_hold, State.setRegN_hold, State.setReg_hold, forEach_hold]

theorem State.writeEvent_hold (s : State) (h : RegHit) (a : Nat) (v : Word) : (State.writeEvent s h a v).1.hold = s.hold := by
  grind [State.writeEvent, State.hold, State.logHeadWrite_hold, State.logReadWrite_hold, State.clearPend_hold, State.gpioClear_hold, State.storeReg_hold]

theorem State.servePort_hold (s : State) (n : Nat) : (State.servePort s n).hold = s.hold := by
  grind [State.servePort, State.hold, State.takeSyns_hold, State.modPort_hold, State.raise_hold]

theorem State.portChanged_hold (s : State) (n : Nat) : (State.portChanged s n).hold = s.hold := by
  grind [State.portChanged, State.hold, State.setPort_hold, State.resetPortLanes_hold, State.servePort_hold, State.dropSyn_hold, State.powerLink_hold, forEach_hold]

theorem State.portModeWrite_hold (s : State) (n : Nat) (v : Word) : (State.portModeWrite s n v).1.hold = s.hold := by
  grind [State.portModeWrite, State.hold, State.setReg_hold, State.portChanged_hold]

theorem State.leaveL2_hold (s : State) (l : Nat) : (State.leaveL2 s l).hold = s.hold := by
  grind [State.leaveL2, State.hold, State.modLink_hold, State.setLane_hold, forEach_hold]

theorem State.lkCtrlWrite_hold (s : State) (l : Nat) (v : Word) : (State.lkCtrlWrite s l v).1.hold = s.hold := by
  grind [State.lkCtrlWrite, State.hold, State.setReg_hold, State.powerLink_hold, State.setLink_hold, State.stopLane_hold, State.askPower_hold, State.leaveL1_hold, State.leaveL2_hold, forEach_hold]

theorem State.lnCtrlWrite_hold (s : State) (L : Nat) (v : Word) : (State.lnCtrlWrite s L v).1.hold = s.hold := by
  grind [State.lnCtrlWrite, State.hold, State.setReg_hold, State.sendDrop_hold, State.leaveLink_hold, State.setLane_hold, State.startLane_hold, State.stopLane_hold]

theorem State.rearmWrite_hold (s : State) (L : Nat) (v : Word) : (State.rearmWrite s L v).1.hold = s.hold := by
  grind [State.rearmWrite, State.hold, State.setReg_hold, State.startLane_hold, State.modLane_hold]

theorem State.injWrite_hold (s : State) (L : Nat) (v : Word) : (State.injWrite s L v).1.hold = s.hold := by
  grind [State.injWrite, State.hold, State.setReg_hold, State.setLane_hold, State.emit_hold]

theorem State.writeLane_hold (s : State) (h : RegHit) (a : Nat) (L : Nat) (off : Nat) (v : Word) : (State.writeLane s h a L off v).1.hold = s.hold := by
  grind [State.writeLane, State.hold, State.lnCtrlWrite_hold, State.rearmWrite_hold, State.storeReg_hold, State.injWrite_hold]

theorem State.writePort_hold (s : State) (h : RegHit) (a : Nat) (v : Word) : (State.writePort s h a v).1.hold = s.hold := by
  grind [State.writePort, State.hold, State.portModeWrite_hold, State.storeReg_hold, State.lkCtrlWrite_hold, State.writeLane_hold]

theorem State.writeStack_hold (s : State) (h : RegHit) (a : Nat) (v : Word) : (State.writeStack s h a v).1.hold = s.hold := by
  grind [State.writeStack, State.hold, State.lkCtrlWrite_hold, State.storeReg_hold, State.writeLane_hold]

theorem State.writeOut_hold (s : State) (h : RegHit) (a : Nat) (v : Word) : (State.writeOut s h a v).1.hold = s.hold := by
  grind [State.writeOut, State.hold, State.storeReg_hold, State.setReg_hold]

theorem State.setOb_hold (s : State) (j : Nat) (x : Ob) : (State.setOb s j x).hold = s.hold := by grind [State.setOb, State.hold]

theorem State.ocRamps_hold (s : State) (old : State) (c : Nat) : (State.ocRamps s old c).hold = s.hold := by
  unfold State.ocRamps
  simp [State.setOc_hold]

theorem State.writeAudio_hold (s : State) (h : RegHit) (a : Nat) (v : Word) : (State.writeAudio s h a v).1.hold = s.hold := by
  unfold State.writeAudio
  (repeat' split) <;> grind [State.hold, State.storeReg_hold, State.setAes_hold, State.audioLose_hold, State.destWrite_hold, State.setReg_hold, State.ocRamps_hold, State.delayWrite_hold]

theorem State.writeCxl_hold (s : State) (h : RegHit) (a : Nat) (v : Word) : (State.writeCxl s h a v).1.hold = s.hold := by
  grind [State.writeCxl, State.hold, State.halloc_hold, State.hfree_hold, State.storeReg_hold]

theorem State.twinLinkOn_hold (s : State) : (State.twinLinkOn s).hold = s.hold := by
  grind [State.twinLinkOn, State.hold, State.linkGone_hold, State.setReg_hold, State.setRegN_hold, State.powerLink_hold, State.setLink_hold]

theorem State.twinLinkOff_hold (s : State) : (State.twinLinkOff s).hold = s.hold := by
  grind [State.twinLinkOff, State.hold, State.stopLane_hold, State.setReg_hold, State.setLink_hold, forEach_hold]

theorem State.twinCtrlWrite_hold (s : State) (v : Word) : (State.twinCtrlWrite s v).1.hold = s.hold := by
  grind [State.twinCtrlWrite, State.hold, State.setReg_hold, State.twinLinkOn_hold, State.modTwin_hold, State.twinLinkOff_hold, State.toSolo_hold]

theorem State.switchCmd_hold (s : State) : (State.switchCmd s).hold = s.hold := by
  grind [State.switchCmd, State.hold, State.twinResult_hold, State.planSwitch_hold]

theorem State.writeTwin_hold (s : State) (h : RegHit) (a : Nat) (v : Word) : (State.writeTwin s h a v).1.hold = s.hold := by
  grind [State.writeTwin, State.hold, State.twinCtrlWrite_hold, State.attach_hold, State.detach_hold, State.switchCmd_hold, State.storeReg_hold]

theorem State.writeFlow_hold (s : State) (h : RegHit) (a : Nat) (v : Word) : (State.writeFlow s h a v).1.hold = s.hold := by
  grind [State.writeFlow, State.hold, State.storeReg_hold]

theorem State.msixUnmask_hold (s : State) (v : Nat) : (State.msixUnmask s v).hold = s.hold := by
  grind [State.msixUnmask, State.hold, State.setReg_hold, State.emit_hold, State.setPba_hold]

theorem State.writeMsix_hold (s : State) (h : RegHit) (a : Nat) (v : Word) : (State.writeMsix s h a v).1.hold = s.hold := by
  grind [State.writeMsix, State.hold, State.setRegN_hold, State.msixUnmask_hold, State.setReg_hold]

theorem State.switchInput_hold (s : State) (src : Nat) : (State.switchInput s src).hold = s.hold := by
  grind [State.switchInput, State.hold, State.aonRaise_hold, State.bump_hold, State.modPwr_hold]

theorem State.inputLost_hold (s : State) (dc : Bool) : (State.inputLost s dc).hold = s.hold := by
  grind [State.inputLost, State.hold, State.setPwr_hold, State.aonRaise_hold, State.switchInput_hold, State.modPwr_hold]

theorem State.inputOk_hold (s : State) (dc : Bool) (strap : Nat) (vhost33 : Bool) : (State.inputOk s dc strap vhost33).hold = s.hold := by
  grind [State.inputOk, State.hold, State.setPwr_hold, State.setCtr_hold, State.setRegN_hold]

theorem State.installRoute_hold (s : State) (e : StagedRoute) : (State.installRoute s e).hold = s.hold := by
  grind [State.installRoute, State.hold, State.setReg_hold]

theorem State.issued_hold (s : State) (u : Nat) (held : Bool) (reads : List VReg) : (State.issued s u held reads).hold = s.hold := by
  grind [State.issued, State.hold, State.advance_hold, State.modUnit_hold]

theorem State.jumpTo_hold (s : State) (u : Nat) (target : Int) (sz : State) (hz : (State.jumpTo s u target) = .ok sz) : sz.hold = s.hold := by
  grind [State.jumpTo, State.hold, State.modUnit_hold]

theorem State.keyBus_hold (s : State) (e : Nat) (i : Nat) : (State.keyBus s e i).hold = s.hold := by
  grind [State.keyBus, State.hold, State.useSlot_hold, State.raise_hold, State.bump_hold, State.limitNote_hold]

theorem State.laneActive_hold (s : State) (L : Nat) : (State.laneActive s L).hold = s.hold := by
  grind [State.laneActive, State.hold, State.raiseLane_hold, State.setLane_hold, State.raiseLink_hold, State.modLink_hold, State.freeNat_hold, State.modLane_hold, State.sendLink_hold]

theorem State.laneFails_hold (s : State) (L : Nat) (phase : Nat) : (State.laneFails s L phase).hold = s.hold := by
  grind [State.laneFails, State.hold, State.bumpBy_hold, State.raiseLane_hold, State.setLane_hold]

theorem State.laneMismatch_hold (s : State) (L : Nat) (code : Nat) : (State.laneMismatch s L code).hold = s.hold := by
  grind [State.laneMismatch, State.hold, State.raiseLane_hold, State.setLane_hold]

theorem State.latchFlip_hold (s : State) (m : Nat) (k : Nat) : (State.latchFlip s m k).hold = s.hold := by
  grind [State.latchFlip, State.hold, State.modOut_hold]

theorem State.latchTim_hold (s : State) (m : Nat) : (State.latchTim s m).hold = s.hold := by grind [State.latchTim, State.hold, State.setOut_hold]

theorem State.latchLine_hold (s : State) (n : Nat) : (State.latchLine s n).hold = s.hold := by
  grind [State.latchLine, State.hold, State.advance_hold, State.setEvents_hold, State.modOut_hold, State.latchFlip_hold, State.latchTim_hold, forEach_hold]

theorem State.mirrorLate_hold (s : State) (n : Nat) : (State.mirrorLate s n).hold = s.hold := by
  grind [State.mirrorLate, State.hold, State.raise_hold, State.bump_hold]

theorem State.lateIf_hold (s : State) (n : Nat) (late : Bool) : (State.lateIf s n late).hold = s.hold := by
  grind [State.lateIf, State.hold, State.mirrorLate_hold]

theorem State.legSeen_hold (s : State) (f : Nat) (leg : Nat) : (State.legSeen s f leg).hold = s.hold := by
  grind [State.legSeen, State.hold, State.modFlow_hold]

theorem State.settleLiner_hold (s : State) (g : Nat) : (State.settleLiner s g).hold = s.hold := by
  grind [State.settleLiner, State.hold, State.setGroup_hold]

theorem State.lineOutput_hold (s : State) (n : Nat) : (State.lineOutput s n).hold = s.hold := by
  grind [State.lineOutput, State.hold, State.settleLiner_hold]

theorem State.lineSeen_hold (s : State) (u : Nat) (l : Nat) : (State.lineSeen s u l).hold = s.hold := by
  grind [State.lineSeen, State.hold, State.modUnit_hold]

theorem State.loadTime_hold (s : State) (t : Nat) : (State.loadTime s t).hold = s.hold := by grind [State.loadTime, State.hold]

theorem State.logCommit_hold (s : State) : (State.logCommit s).hold = s.hold := by
  grind [State.logCommit, State.hold, State.postPiece_hold, State.modSaff_hold]

theorem State.loneMedia_hold (s : State) (u : Nat) (allowed : Bool) (r : VReg) (run : State → Except Nat State) (hrun : ∀ s t, run s = .ok t → t.hold = s.hold) : (State.loneMedia s u allowed r run).hold = s.hold := by
  unfold State.loneMedia
  split
  · exact State.mediaResult_hold ..
  · split
    · next h => rw [State.mediaResult_hold]; exact hrun _ _ h
    · exact State.mediaResult_hold ..

theorem State.lutFails_hold (s : State) (n : Nat) (result : Nat) : (State.lutFails s n result).hold = s.hold := by
  grind [State.lutFails, State.hold, State.raiseOut_hold, State.bump_hold, State.modOut_hold]

end Sys2Proof.Machine
end

