-- ==== Sys2Proof/Laws/Hold5.lean ====
section
/-! SUPPORT. What the operations leave alone, in the order in which they call each other (5 of 5): the memories, the queue and the ordering code. -/

namespace Sys2Proof.Machine

theorem State.lutLine_hold (s : State) (n : Nat) : (State.lutLine s n).hold = s.hold := by grind [State.lutLine, State.hold, State.modOut_hold]

theorem State.lutReadFail_hold (s : State) (n : Nat) : (State.lutReadFail s n).hold = s.hold := by
  grind [State.lutReadFail, State.hold, State.lutFails_hold]

theorem State.lutStart_hold (s : State) (n : Nat) (sz : State) (hz : (State.lutStart s n) = .ok sz) : sz.hold = s.hold := by
  grind [State.lutStart, State.hold, State.setOut_hold]

theorem State.macTaken_hold (s : State) (i : Nat) (an : Nat) : (State.macTaken s i an).hold = s.hold := by grind [State.macTaken, State.hold]

theorem State.macTick_hold (s : State) (p : Nat × Nat × Nat) : (State.macTick s p).hold = s.hold := by grind [State.macTick, State.hold, State.bumpBy_hold]

theorem State.madderStart_hold (s : State) : (State.madderStart s).hold = s.hold := by
  grind [State.madderStart, State.hold, State.modMadder_hold, State.restartCand_hold, forEach_hold]

theorem State.takeSample_hold (s : State) (r : RefSample) : (State.takeSample s r).hold = s.hold := by
  grind [State.takeSample, State.hold, State.modCand_hold]

theorem State.tickCand_hold (s : State) (c : Nat) : (State.tickCand s c).hold = s.hold := by grind [State.tickCand, State.hold, State.setCand_hold]

theorem State.tickBack_hold (s : State) : (State.tickBack s).hold = s.hold := by grind [State.tickBack, State.hold, State.modMadder_hold]

theorem State.madderTick_hold (s : State) (i : TickInfo) : (State.madderTick s i).hold = s.hold := by
  grind [State.madderTick, State.hold, State.takeSample_hold, State.tickCand_hold, State.tickBack_hold, State.modMadder_hold, State.slewOffsets_hold, State.fpSelected_hold, forEach_hold]

theorem State.memberFails_hold (s : State) (e : Nat) (st : Nat) : (State.memberFails s e st).hold = s.hold := by
  grind [State.memberFails, State.hold, State.modCe_hold]

theorem State.sendLocal_hold (s : State) (link : Nat) (name : String) (pay : List Nat) : (State.sendLocal s link name pay).hold = s.hold := by
  grind [State.sendLocal, State.hold, State.bump_hold, State.emit_hold]

theorem State.timeTick_hold (s : State) : (State.timeTick s).hold = s.hold := by grind [State.timeTick, State.hold, State.sendLocal_hold, forEach_hold]

theorem State.twinTick_hold (s : State) : (State.twinTick s).hold = s.hold := by grind [State.twinTick, State.hold, State.emit_hold, State.modTwin_hold]

theorem State.woadTick_hold (s : State) : (State.woadTick s).hold = s.hold := by
  grind [State.woadTick, State.hold, State.woadEnd_hold, State.woadDone_hold, State.modSaff_hold]

theorem State.mirrorBind_hold (s : State) (ws : List Word) : (State.mirrorBind s ws).hold = s.hold := by
  unfold State.mirrorBind
  split
  · next h => exact State.bindRows_hold _ _ _ h
  · rfl

theorem State.release_hold (s : State) (f : Nat) (sz : State) (hz : (State.release s f) = .ok sz) : sz.hold = s.hold := by
  grind [State.release, State.hold, State.freeChannels_hold, State.dropMatches_hold, State.setFlow_hold, State.mirror_hold, State.noteSrc_hold]

theorem State.unhold_hold (s : State) (p : Part) : (State.unhold s p).hold = s.hold := by grind [State.unhold, State.hold, State.modOut_hold, forEach_hold]

theorem State.mirrorSalvoPart_hold (s : State) (id : Nat) (master : Nat) (frame : Nat) (group : Nat) (state : Nat) (outs : List (Nat × Word)) : (State.mirrorSalvoPart s id master frame group state outs).hold = s.hold := by
  unfold State.mirrorSalvoPart
  dsimp only
  split
  · rw [State.gcLandings_hold, State.dropPart_hold, State.unhold_hold]
  · exact State.setPart_hold ..
  · refine (forEach_hold _ _ _ (fun s x => ?_)).trans rfl
    cases h : s.takeCheck 0x1000 none x.1 x.1 x.2 true with
    | error =>
      dsimp only
      split
      · rw [State.modOut_hold, State.setPart_hold]
      · rfl
    | ok r =>
      have e := State.takeCheck_hold _ _ _ _ _ _ _ _ h
      dsimp only
      split
      · rw [State.modOut_hold, State.setPart_hold, e]
      · exact e
  · rfl

theorem State.mirrorSalvoMaster_hold (s : State) (id : Nat) (issuer : Nat) (frame : Nat) (group : Nat) (deadline : Nat) (state : Nat) (acks : List (Nat × Nat)) : (State.mirrorSalvoMaster s id issuer frame group deadline state acks).hold = s.hold := by
  grind [State.mirrorSalvoMaster, State.hold]

theorem State.mirrorSalvo_hold (s : State) (v : Salvo) (state : Nat) : (State.mirrorSalvo s v state).hold = s.hold := by
  grind [State.mirrorSalvo, State.hold, State.mirror_hold]

theorem State.nextFrame_hold (s : State) (n : Nat) (t : Nat) : (State.nextFrame s n t).hold = s.hold := by
  grind [State.nextFrame, State.hold, State.frameBegins_hold, State.modOut_hold, State.applyTim_hold, State.applyAnc_hold, State.applyFlip_hold]

theorem State.noteLines_hold (s : State) (us : List Nat) : (State.noteLines s us).hold = s.hold := by
  grind [State.noteLines, State.hold, State.modUnit_hold, forEach_hold]

theorem State.onEach_hold (e : Option Nat) (chk : State → Nat → Except Nat (State × Member)) (a2 : List Nat) (a3 : State) (hchk : ∀ s n z, chk s n = .ok z → z.1.hold = s.hold) (sz : State) (hz : (State.onEach e chk a2 a3) = .ok sz) : sz.hold = a3.hold := by
  induction a2 generalizing a3 with
  | nil => simp only [State.onEach] at hz; cases hz; rfl
  | cons n ns ih =>
    simp only [State.onEach] at hz
    split at hz
    · cases hz
    · next h => rw [ih _ hz, State.absorb_hold]; exact hchk _ _ _ h

theorem State.onLink_hold (s : State) (L : Nat) (ty : Nat) (act : State → List Nat → State) (hact : ∀ s m, (act s m).hold = s.hold) : (State.onLink s L ty act).hold = s.hold := by
  unfold State.onLink
  split
  · rw [hact]; rfl
  · rfl

theorem State.onOuts_hold (f : State → Nat → Except Nat State) (a1 : List Nat) (a2 : State) (hf : ∀ s n t, f s n = .ok t → t.hold = s.hold) (sz : State) (hz : (State.onOuts f a1 a2) = .ok sz) : sz.hold = a2.hold := by
  induction a1 generalizing a2 with
  | nil => simp only [State.onOuts] at hz; cases hz; rfl
  | cons n ns ih =>
    simp only [State.onOuts] at hz
    split at hz
    · cases hz
    · next h => rw [ih _ hz]; exact hf _ _ _ h

theorem State.onStk_hold (s : State) (ty : Nat) (act : State → StkMsg → State) (hact : ∀ s m, (act s m).hold = s.hold) : (State.onStk s ty act).hold = s.hold := by
  unfold State.onStk
  split
  · rw [hact]; rfl
  · rfl

theorem State.onTarget_hold (s : State) (e : Option Nat) (t : Target) (chk : Nat → State → Nat → Except Nat (State × Member)) (hchk : ∀ j s n z, chk j s n = .ok z → z.1.hold = s.hold) (sz : State) (hz : (State.onTarget s e t chk) = .ok sz) : sz.hold = s.hold := by
  unfold State.onTarget at hz
  split at hz
  · cases hz
  · exact State.onEach_hold _ _ _ _ (fun s n z h => hchk _ _ _ _ h) _ hz

theorem State.settleTiles_hold (s : State) (n : Nat) : (State.settleTiles s n).hold = s.hold := by
  grind [State.settleTiles, State.hold, State.setTile_hold, forEach_hold]

theorem State.outputFrame_hold (s : State) (n : Nat) (i : OutFrame) : (State.outputFrame s n i).hold = s.hold := by
  grind [State.outputFrame, State.hold, State.modOut_hold, State.nextFrame_hold, State.settleTiles_hold, State.cadenceStep_hold, State.detectors_hold, State.frameBegins_hold, State.applyTim_hold]

theorem State.planeOff_hold (s : State) (n : Nat) (k : Nat) : (State.planeOff s n k).hold = s.hold := by
  grind [State.planeOff, State.hold, State.dropFlip_hold, State.staleFlip_hold, State.modOut_hold]

theorem State.poolLeave_hold (s : State) (n : Nat) (standing : Pool) : (State.poolLeave s n standing).hold = s.hold := by
  grind [State.poolLeave, State.hold, State.setOut_hold, State.modOut_hold, State.poolServe_hold, forEach_hold]

theorem State.poolLine_hold (s : State) (n : Nat) : (State.poolLine s n).hold = s.hold := by
  grind [State.poolLine, State.hold, State.bump_hold, State.raise_hold, State.poolLeave_hold, State.setEvents_hold, State.setOut_hold]

theorem State.poolReturn_hold (s : State) (k : Nat) : (State.poolReturn s k).hold = s.hold := by
  grind [State.poolReturn, State.hold, State.poolRequest_hold, forEach_hold]

theorem State.postCounters_hold (s : State) : (State.postCounters s).hold = s.hold := by grind [State.postCounters, State.hold, State.postAlt_hold]

theorem State.powerAnswered_hold (s : State) (L : Nat) (kind : Nat) : (State.powerAnswered s L kind).hold = s.hold := by
  grind [State.powerAnswered, State.hold, State.enterPower_hold]

theorem State.powerAsked_hold (s : State) (L : Nat) (kind : Nat) : (State.powerAsked s L kind).hold = s.hold := by
  grind [State.powerAsked, State.hold, State.enterPower_hold, State.sendLink_hold]

theorem State.prbsTick_hold (s : State) (p : Nat × Nat × Nat × Bool) : (State.prbsTick s p).hold = s.hold := by
  grind [State.prbsTick, State.hold, State.modLane_hold, State.bump48_hold]

theorem State.prepare_hold (s : State) (n : Nat) (w : Word) (sz : State) (hz : (State.prepare s n w) = .ok sz) : sz.hold = s.hold := by
  unfold State.prepare at hz
  (iterate 2 (split at hz; · cases hz))
  split at hz
  · cases hz; rfl
  · split at hz
    · cases hz
    · split at hz
      · dsimp only at hz
        cases hz
        split
        · rw [State.raise_hold, State.setFlow_hold]
        · rw [State.setFlow_hold]
      · split at hz
        · cases hz
        · next h =>
          split at hz
          · cases hz
          · split at hz
            · next h2 =>
              cases hz
              rw [State.modFlow_hold, State.startExchange_hold _ _ _ _ _ _ h2]
              exact State.addLanding_hold _ _ _ _ _ h
            · cases hz; exact State.raise_hold ..

theorem State.setSalvo_hold (s : State) (v : Salvo) : (State.setSalvo s v).hold = s.hold := by grind [State.setSalvo, State.hold]

theorem State.prepareAll_hold (s : State) (v : Salvo) : (State.prepareAll s v).hold = s.hold := by
  unfold State.prepareAll
  simp [forEach_hold, foldl_hold, State.mirrorSalvo_hold, State.setSalvo_hold, State.stkSend_hold, forEach_hold]

theorem State.promote_hold (s : State) : (State.promote s).hold = s.hold := by
  have hg : ∀ (s : State) (u : Nat), ((s.seqStart u false).getD s).hold = s.hold := by
    intro s u
    cases h : s.seqStart u false with
    | none => rfl
    | some t => exact State.seqStart_hold _ _ _ _ h
  unfold State.promote
  dsimp only
  rw [State.copyAll_hold, State.rolesFollow_hold, State.elect_hold, forEach_hold _ _ _ (fun s u => hg s u), forEach_hold _ _ _ (fun s u => State.setEvents_hold ..),
    State.raise_hold, State.switchStamp_hold, State.modTwin_hold]

theorem State.takeOffset_hold (s : State) (c : Nat) (o : Option (Int × Nat × Nat)) : (State.takeOffset s c o).hold = s.hold := by
  grind [State.takeOffset, State.hold, State.modCand_hold]

theorem State.ptpMessage_hold (s : State) (c : Nat) (p : PtpMsg) : (State.ptpMessage s c p).hold = s.hold := by
  grind [State.ptpMessage, State.hold, State.modCand_hold, State.goodSample_hold, State.takeOffset_hold]

theorem State.queueTick_hold (s : State) (e : Nat) : (State.queueTick s e).hold = s.hold := by grind [State.queueTick, State.hold, State.modCe_hold]

theorem State.rateMatch_hold (s : State) (L : Nat) (rm : Nat) : (State.rateMatch s L rm).hold = s.hold := by
  grind [State.rateMatch, State.hold, State.bump_hold, State.raiseLim_hold]

theorem State.rdData_hold (s : State) (corrected : Bool) : (State.rdData s corrected).2.hold = s.hold := by
  grind [State.rdData, State.hold, State.setRegN_hold, State.eccUncorr_hold, State.eccCorr_hold]

theorem State.unlatch_hold (s : State) (m : Nat) (a : Nat) : (State.unlatch s m a).hold = s.hold := by grind [State.unlatch, State.hold]

theorem State.readHit_hold (s : State) (m : Nat) (h : RegHit) (a : Nat) : (State.readHit s m h a).2.hold = s.hold := by
  have h0 : ∀ n : Nat, ((n, ptpHigh.foldl (fun (s : State) o => s.latch m (0x30000 + o) ((s.readMadder o 0).getD 0)) s) : Nat × State).2.hold = s.hold :=
    fun _ => foldl_hold _ _ _ (fun s o => State.latch_hold ..)
  unfold State.readHit State.forEach
  dsimp only
  repeat' (refine apply_ite_hold ?_ ?_)
  all_goals first | rfl | exact h0 _ | (split <;> grind [State.captureTtime_hold, State.rdData_hold, State.groupLow_hold, State.latch_hold, State.freeNat_hold, State.counterLow_hold, State.unlatch_hold]) | grind [State.captureTtime_hold, State.rdData_hold, State.groupLow_hold, State.latch_hold, State.freeNat_hold, State.counterLow_hold, State.unlatch_hold]

theorem State.readWord_hold (s : State) (m : Nat) (a : Nat) : (State.readWord s m a).2.hold = s.hold := by
  grind [State.readWord, State.hold, State.readHit_hold]

theorem State.readBy_hold (s : State) (m : Nat) (a : Nat) : (State.readBy s m a).2.2.hold = s.hold := by
  grind [State.readBy, State.hold, State.readWord_hold, State.xbarGrant_hold, State.xbarErr_hold]

theorem State.readRecords_hold (s : State) : (State.readRecords s).hold = s.hold := by
  unfold State.readRecords
  simp [foldl_hold, apply_ite State.hold, State.selectRecord_hold, State.raise_hold, State.setCtr_hold, State.bump_hold, State.modTwin_hold, State.modPwr_hold, State.setRegN_hold, State.modBoot_hold]

theorem State.readSend_hold (s : State) (m : Nat) (a : Nat) : (State.readSend s m a).hold = s.hold := by
  grind [State.readSend, State.hold, State.readBy_hold, State.emit_hold]

theorem State.readSpecial_hold (s : State) (u : Nat) (i : Nat) (sz : Word × State) (hz : (State.readSpecial s u i) = some sz) : sz.2.hold = s.hold := by
  have e : ∀ {c : Prop} [Decidable c] {x y : Option (Word × State)}, (x = some sz → sz.2.hold = s.hold) → (y = some sz → sz.2.hold = s.hold) → (if c then x else y) = some sz → sz.2.hold = s.hold := by
    intro c _ x y hx hy h
    split at h
    · exact hx h
    · exact hy h
  unfold State.readSpecial at hz
  dsimp only at hz
  revert hz
  repeat' (refine e ?_ ?_)
  all_goals first | (intro h; cases h; first | rfl | exact State.setUnit_hold ..) | (split <;> intro h <;> cases h <;> first | rfl | exact State.setUnit_hold ..) | (intro h; cases h)

theorem State.reallocate_hold (s : State) (f : Nat) : (State.reallocate s f).hold = s.hold := by
  have q : ∀ {c : Prop} [Decidable c] {x u : State} {a : Nat} (g : Nat → Flow → Flow),
      (if c then (x.alloc a false).map (fun (r : Nat × State) => r.2.modFlow f (g r.1)) else some x) = some u → u.hold = x.hold := by
    intro c _ x u a g h
    split at h
    · cases h1 : x.alloc a false with
      | none => rw [h1] at h; cases h
      | some r =>
        rw [h1] at h
        cases h
        rw [State.modFlow_hold]
        exact State.alloc_hold _ _ _ _ h1
    · cases h; rfl
  unfold State.reallocate
  dsimp only
  split
  · next h =>
    split at h
    · next h1 => exact (q (fun i y => { y with mergeBase := some i }) h).trans (q (fun i y => { y with base := i }) h1)
    · cases h
  · rw [State.forceRelease_hold, State.modFlow_hold]

theorem State.refSeen_hold (s : State) (f : Nat) : (State.refSeen s f).hold = s.hold := by
  grind [State.refSeen, State.hold, State.setFlow_hold, State.detTo_hold, State.modFlow_hold, State.raise_hold]

theorem State.shedTakes_hold (a0 : Nat) (a1 : State) : (State.shedTakes a0 a1).hold = a1.hold := by
  induction a0 generalizing a1 with
  | zero => rfl
  | succ k ih =>
    unfold State.shedTakes
    split
    · rfl
    · split
      · rw [ih]; split <;> simp only [State.dropHeld_hold, State.blackOut_hold]
      · rfl

theorem State.shedFlows_hold (a0 : Nat) (a1 : State) : (State.shedFlows a0 a1).hold = a1.hold := by
  induction a0 generalizing a1 with
  | zero => rfl
  | succ k ih =>
    unfold State.shedFlows
    split
    · rfl
    · split
      · rw [ih, State.forceRelease_hold]
      · rfl

theorem State.withTarget_hold (s : State) (u : Nat) (a : VReg) (flip : Bool) (run : Target → Except Nat State) (hrun : ∀ x t, run x = .ok t → t.hold = s.hold) (sz : State) (hz : (State.withTarget s u a flip run) = .ok sz) : sz.hold = s.hold := by
  unfold State.withTarget at hz
  split at hz
  · cases hz
  · exact hrun _ _ hz

theorem State.resetMaster_hold (s : State) (m : Nat) : (State.resetMaster s m).hold = s.hold := by
  grind [State.resetMaster, State.hold, State.masterClear_hold, State.endXact_hold]

theorem State.restoreSlots_hold (s : State) : (State.restoreSlots s).hold = s.hold := by
  have e2 : ∀ (s : State) (w : Woad), ({ s with woad := w } : State).hold = s.hold := fun _ _ => rfl
  have e3 : ∀ s : State, (s.forEach (List.range' 1 255) (fun s i => s.restoreSlot i)).hold = s.hold :=
    fun s => forEach_hold _ _ _ (fun s i => State.restoreSlot_hold ..)
  have e4 : ∀ s : State, (if s.woad.tamperKek = [] then
        { (s.randomBytes 53 32).2 with woad := { (s.randomBytes 53 32).2.woad with tamperKek := (s.randomBytes 53 32).1 } }
      else s).hold = s.hold := by
    intro s
    split
    · exact State.randomBytes_hold ..
    · rfl
  have e5 : ∀ (c : Bool) (s : State), (if c then s.raise 0x6011 sevWarn kOther 0 else s).hold = s.hold := by
    intro c s
    split
    · exact State.raise_hold ..
    · rfl
  unfold State.restoreSlots
  rw [State.modSaff_hold]
  exact (e2 _ _).trans ((e5 _ _).trans ((e4 _).trans (e3 s)))

theorem State.returnContext_hold (s : State) (f : Nat) : (State.returnContext s f).hold = s.hold := by
  grind [State.returnContext, State.hold, State.freeAt_hold]

theorem State.rewritePage_hold (s : State) (p : Nat) : (State.rewritePage s p).hold = s.hold := by
  grind [State.rewritePage, State.hold, State.postPiece_hold]

theorem State.unstall_hold (s : State) (e : Nat) (st : Nat) : (State.unstall s e st).hold = s.hold := by
  grind [State.unstall, State.hold, State.mediaResult_hold, State.modUnit_hold]

theorem State.salvoEnds_hold (s : State) (e : Nat) (st : Nat) (v : Word) : (State.salvoEnds s e st v).hold = s.hold := by
  grind [State.salvoEnds, State.hold, State.modCe_hold, State.modUnit_hold, State.unstall_hold]

theorem State.seqIn_hold (s : State) (f : Nat) (seq : Nat) (taken : Bool) : (State.seqIn s f seq taken).hold = s.hold := by
  grind [State.seqIn, State.hold, State.setFlow_hold, State.bumpBy_hold]

theorem State.setAlu_hold (s : State) (u : Nat) (d : Option VReg) (o : AluOut) : (State.setAlu s u d o).hold = s.hold := by
  grind [State.setAlu, State.hold, State.modUnit_hold]

theorem State.setRateCap_hold (s : State) (L : Nat) (r : Nat) : (State.setRateCap s L r).hold = s.hold := by
  grind [State.setRateCap, State.hold, State.setReg_hold]

theorem State.setV_hold (s : State) (u : Nat) (r : VReg) (w : Word) : (State.setV s u r w).hold = s.hold := by
  grind [State.setV, State.hold, State.modUnit_hold]

theorem State.settleParts_hold (s : State) : (State.settleParts s).hold = s.hold := by
  unfold State.settleParts
  simp [foldl_hold, State.settlePart_hold]

theorem State.shedUndo_hold (s : State) (w : Word) : (State.shedUndo s w).hold = s.hold := by
  grind [State.shedUndo, State.hold, State.domShedOn_hold, State.poolUnshed_hold, State.setRateCap_hold, State.modPort_hold, State.powerLink_hold, forEach_hold]

theorem State.sig_hold (s : State) (u : Nat) (d : VReg) (r : Except Nat Word) : (State.sig s u d r).hold = s.hold := by
  unfold State.sig
  (repeat' split) <;> grind [State.hold, State.mediaResult_hold, State.modUnit_hold]

theorem State.smbNack_hold (s : State) (code : Nat) : (State.smbNack s code).hold = s.hold := by grind [State.smbNack, State.hold, State.emit_hold]

theorem State.smbReply_hold (s : State) (code : Nat) (bs : List Nat) : (State.smbReply s code bs).hold = s.hold := by
  grind [State.smbReply, State.hold, State.emit_hold]

theorem State.smbSetArm_hold (s : State) (t : Option Nat) : (State.smbSetArm s t).hold = s.hold := by grind [State.smbSetArm, State.hold]

theorem State.smbus_hold (s : State) (code : Nat) (f : SmbFrame) (run : State → State) (hrun : ∀ s, (run s).hold = s.hold) : (State.smbus s code f run).hold = s.hold := by
  unfold State.smbus
  split
  · rfl
  · split
    · rw [State.smbNack_hold, State.bump_hold]
    · exact hrun _

theorem State.sourceReserve_hold (s : State) (r : Resv) : (State.sourceReserve s r).hold = s.hold := by
  unfold State.sourceReserve
  split
  · next h => rw [State.sendResv_hold]; exact State.reserveHop_hold _ _ _ h
  · split
    · next h =>
      rw [State.sendResv_hold]
      split at h
      · exact State.reserveHop_hold _ _ _ h
      · cases h
    · exact State.stkSend_hold ..

theorem State.startWait_hold (s : State) (u : Nat) (k : WaitKind) (arg : Word) (timeout : Word) (sz : State) (hz : (State.startWait s u k arg timeout) = .ok sz) : sz.hold = s.hold := by
  have e : ∀ {c : Prop} [Decidable c] {r : Nat} {y : Except Nat State}, (y = .ok sz → sz.hold = s.hold) → (if c then .error r else y) = .ok sz → sz.hold = s.hold := by
    intro c _ r y hy h
    split at h
    · cases h
    · exact hy h
  unfold State.startWait at hz
  revert hz
  dsimp only
  refine e (e (fun h => ?_))
  cases h
  exact State.setUnit_hold ..

theorem State.startupStep_hold (s : State) : (State.startupStep s).hold = s.hold := by
  unfold State.startupStep
  dsimp only
  (repeat' split) <;> simp_all [forEach_hold, foldl_hold, State.bootLine_hold, State.modBoot_hold, State.lockAtBoot_hold, State.nextSource_hold, State.readRecords_hold, State.aonFlush_hold, State.restoreSlots_hold, State.applyConfig_hold, State.madderStart_hold, State.cxlLayout_hold, State.powerLink_hold, State.twinLinkOn_hold, State.modTwin_hold, forEach_hold]

theorem State.statusTick_hold (s : State) : (State.statusTick s).hold = s.hold := by grind [State.statusTick, State.hold, State.emit_hold, forEach_hold]

theorem State.stepsOn_hold (s : State) (L : Nat) : (State.stepsOn s L).hold = s.hold := by
  grind [State.stepsOn, State.hold, State.setLane_hold, State.sendStep_hold]

theorem State.strapSample_hold (s : State) (a : Nat × Nat × Nat) (b : Nat × Nat × Nat) (floats : Bool) : (State.strapSample s a b floats).hold = s.hold := by
  grind [State.strapSample, State.hold, State.setRegN_hold, State.raise_hold, State.modBoot_hold, State.bootLine_hold]

theorem State.submitSalvo_hold (s : State) (e : Nat) (d : VReg) (w0 : Word) (tag : Word) (es : List (Nat × Nat × Word)) : (State.submitSalvo s e d w0 tag es).hold = s.hold := by
  have e (t : State) (x : Stk) : ({ t with stk := x } : State).hold = t.hold := rfl
  unfold State.submitSalvo
  dsimp only
  split
  · rw [State.mediaResult_hold, State.raise_hold, State.setRegN_hold]; rfl
  · split
    · rw [State.mediaResult_hold, State.raise_hold, State.setRegN_hold]; rfl
    · split
      · rw [State.prepareAll_hold, e, State.modUnit_hold, State.modCe_hold, State.setRegN_hold]
        rfl
      · rw [foldl_hold _ _ _ (fun s x => State.stkSend_hold ..), State.stkSend_hold, State.modUnit_hold, State.modCe_hold, State.setRegN_hold]
        rfl

theorem State.swapBank_hold (s : State) (u : Nat) : (State.swapBank s u).hold = s.hold := by grind [State.swapBank, State.hold, State.setUnit_hold]

theorem State.takeVisible_hold (s : State) (n : Nat) (t : Nat) (p : PendTake) : (State.takeVisible s n t p).hold = s.hold := by
  grind [State.takeVisible, State.hold, State.setOut_hold, State.setEvents_hold, State.bump_hold, State.gcLandings_hold, State.followFrom_hold]

theorem State.takeLine_hold (s : State) (n : Nat) (t : Nat) : (State.takeLine s n t).hold = s.hold := by
  grind [State.takeLine, State.hold, State.modOut_hold, State.takeVisible_hold]

theorem State.switchingLine_hold (s : State) (n : Nat) (noRoom : Nat) : (State.switchingLine s n noRoom).hold = s.hold := by
  grind [State.switchingLine, State.hold, State.advance_hold, State.setEvents_hold, State.modOut_hold, State.takeLine_hold, State.convLine_hold, State.poolLine_hold, State.alignLine_hold, State.lutLine_hold, State.frameShows_hold, State.amapLine_hold, State.emit_hold, State.noteSrc_hold, forEach_hold]

theorem State.takeSlot_hold (s : State) (f : Nat) : (State.takeSlot s f).hold = s.hold := by
  grind [State.takeSlot, State.hold, State.setFlow_hold, State.bump_hold]

theorem State.timeAccepted_hold (s : State) (ofs : Int) : (State.timeAccepted s ofs).hold = s.hold := by
  grind [State.timeAccepted, State.hold, State.raise_hold, State.loadTime_hold, State.goodSample_hold, State.modCand_hold]

theorem State.unprepare_hold (s : State) (n : Nat) (w : Word) (sz : State) (hz : (State.unprepare s n w) = .ok sz) : sz.hold = s.hold := by
  grind [State.unprepare, State.hold, State.dropLanding_hold]

theorem State.upBegin_hold (s : State) : (State.upBegin s).hold = s.hold := by grind [State.upBegin, State.hold, State.modPwr_hold]

theorem State.upStepDone_hold (s : State) (k : Nat) : (State.upStepDone s k).hold = s.hold := by grind [State.upStepDone, State.hold, State.modPwr_hold]

theorem State.vbatLoss_hold (s : State) : (State.vbatLoss s).hold = s.hold := by grind [State.vbatLoss, State.hold]

theorem State.verifyDone_hold (s : State) (L : Nat) : (State.verifyDone s L).hold = s.hold := by
  grind [State.verifyDone, State.hold, State.laneActive_hold, State.laneFails_hold]

theorem State.waitComplete_hold (s : State) (u : Nat) (tAt : Nat) : (State.waitComplete s u tAt).hold = s.hold := by
  grind [State.waitComplete, State.hold, State.endWait_hold, State.advance_hold]

theorem State.waitTimeout_hold (s : State) (u : Nat) : (State.waitTimeout s u).hold = s.hold := by
  grind [State.waitTimeout, State.hold, State.endWait_hold, State.advance_hold, State.bump_hold]

theorem State.writeSpecial_hold (s : State) (u : Nat) (i : Nat) (w : Word) (sz : State) (hz : (State.writeSpecial s u i w) = some sz) : sz.hold = s.hold := by
  grind [State.writeSpecial, State.hold, State.setUnit_hold]

theorem State.xactTimeout_hold (s : State) (m : Nat) : (State.xactTimeout s m).hold = s.hold := by
  grind [State.xactTimeout, State.hold, State.advance_hold, State.endXact_hold, State.xbarErr_hold, State.memberFails_hold, State.unstall_hold]

end Sys2Proof.Machine
end

