-- ==== Sys2Proof/Laws/Commands1.lean ====
section
/-! SUPPORT. The commands that write no memory: the memories, the queue and the ordering code stay. -/

namespace Sys2Proof.Machine

theorem execWaitComplete_hold (u : Nat) (tAt : Nat) (s : State) (sz : State) (hz : (execWaitComplete u tAt s) = .next sz) : sz.hold = s.hold := by
  grind [execWaitComplete, State.hold, State.waitComplete_hold]

theorem execWaitTimeout_hold (u : Nat) (s : State) (sz : State) (hz : (execWaitTimeout u s) = .next sz) : sz.hold = s.hold := by
  grind [execWaitTimeout, State.hold, State.waitTimeout_hold]

theorem execFlowReleaseComplete_hold (f : Nat) (tAt : Nat) (s : State) (sz : State) (hz : (execFlowReleaseComplete f tAt s) = .next sz) : sz.hold = s.hold := by
  grind [execFlowReleaseComplete, State.hold, State.returnContext_hold, State.advance_hold]

theorem execBankSwap_hold (u : Nat) (s : State) (sz : State) (hz : (execBankSwap u s) = .next sz) : sz.hold = s.hold := by
  grind [execBankSwap, State.hold, State.swapBank_hold]

theorem execGroupExpired_hold (e : Nat) (s : State) (sz : State) (hz : (execGroupExpired e s) = .next sz) : sz.hold = s.hold := by
  grind [execGroupExpired, State.hold, State.groupExpire_hold, State.advance_hold]

theorem execSeqCtrlStart_hold (m : Nat) (u : Nat) (s : State) (sz : State) (hz : (execSeqCtrlStart m u s) = .next sz) : sz.hold = s.hold := by
  grind [execSeqCtrlStart, State.hold, State.ctrlBit_hold, State.seqStart_hold]

theorem execSeqCtrlRestart_hold (m : Nat) (u : Nat) (s : State) (sz : State) (hz : (execSeqCtrlRestart m u s) = .next sz) : sz.hold = s.hold := by
  grind [execSeqCtrlRestart, State.hold, State.ctrlBit_hold, State.seqStart_hold]

theorem execSeqCtrlSwapDisarm_hold (m : Nat) (u : Nat) (s : State) (sz : State) (hz : (execSeqCtrlSwapDisarm m u s) = .next sz) : sz.hold = s.hold := by
  grind [execSeqCtrlSwapDisarm, State.hold, State.ctrlBit_hold, State.swapDisarm_hold]

theorem execSeqStartAtFrame_hold (u : Nat) (s : State) (sz : State) (hz : (execSeqStartAtFrame u s) = .next sz) : sz.hold = s.hold := by
  grind [execSeqStartAtFrame, State.hold, State.startUnit_hold]

theorem execStartNoFrame_hold (u : Nat) (s : State) (sz : State) (hz : (execStartNoFrame u s) = .next sz) : sz.hold = s.hold := by
  grind [execStartNoFrame, State.hold, State.startUnit_hold, State.advance_hold, State.raise_hold]

theorem execKick_hold (m : Nat) (u : Nat) (v : Word) (s : State) (sz : State) (hz : (execKick m u v s) = .next sz) : sz.hold = s.hold := by
  grind [execKick, State.hold, State.regWriteBy_hold, State.kick_hold]

theorem execTtimeLoRead_hold (m : Nat) (s : State) (sz : State) (hz : (execTtimeLoRead m s) = .next sz) : sz.hold = s.hold := by
  grind [execTtimeLoRead, State.hold, State.readSend_hold]

theorem execCounterLoRead_hold (m : Nat) (a : Nat) (s : State) (sz : State) (hz : (execCounterLoRead m a s) = .next sz) : sz.hold = s.hold := by
  grind [execCounterLoRead, State.hold, State.readSend_hold]

theorem execTgrpFrameLoRead_hold (m : Nat) (g : Nat) (start : Bool) (s : State) (sz : State) (hz : (execTgrpFrameLoRead m g start s) = .next sz) : sz.hold = s.hold := by
  grind [execTgrpFrameLoRead, State.hold, State.readSend_hold]

theorem execTgrpEnable_hold (m : Nat) (g : Nat) (v : Word) (s : State) (sz : State) (hz : (execTgrpEnable m g v s) = .next sz) : sz.hold = s.hold := by
  grind [execTgrpEnable, State.hold, State.regWriteBy_hold, State.tgrpCtrlWrite_hold]

theorem execTgrpDisable_hold (m : Nat) (g : Nat) (v : Word) (s : State) (sz : State) (hz : (execTgrpDisable m g v s) = .next sz) : sz.hold = s.hold := by
  grind [execTgrpDisable, State.hold, State.regWriteBy_hold, State.tgrpCtrlWrite_hold]

theorem execTgrpEpochFixed_hold (g : Nat) (pulse : Nat) (s : State) (sz : State) (hz : (execTgrpEpochFixed g pulse s) = .next sz) : sz.hold = s.hold := by
  grind [execTgrpEpochFixed, State.hold, State.fixEpoch_hold]

theorem execTgrpFree_hold (g : Nat) (s : State) (sz : State) (hz : (execTgrpFree g s) = .next sz) : sz.hold = s.hold := by
  grind [execTgrpFree, State.hold, State.advance_hold, State.raise_hold, State.fixEpoch_hold]

theorem execTgrpFrameStart_hold (g : Nat) (s : State) (sz : State) (hz : (execTgrpFrameStart g s) = .next sz) : sz.hold = s.hold := by
  grind [execTgrpFrameStart, State.hold, State.advance_hold, State.noteLines_hold, State.settleLiner_hold, State.setGroup_hold, State.frameSeen_hold, forEach_hold]

theorem execOutputFrameStart_hold (n : Nat) (i : OutFrame) (s : State) (sz : State) (hz : (execOutputFrameStart n i s) = .next sz) : sz.hold = s.hold := by
  grind [execOutputFrameStart, State.hold, State.modPort_hold, State.lineOutput_hold, State.outputFrame_hold]

theorem execSwitchingLine_hold (n : Nat) (noRoom : Nat) (s : State) (sz : State) (hz : (execSwitchingLine n noRoom s) = .next sz) : sz.hold = s.hold := by
  cases hz
  split
  · exact ((foldl_hold _ _ _ (fun s p => State.endHold_hold ..)).trans (foldl_hold _ _ _ (fun s p => State.compensate_hold ..))).trans (State.switchingLine_hold ..)
  · rfl

theorem execLatchLine_hold (n : Nat) (s : State) (sz : State) (hz : (execLatchLine n s) = .next sz) : sz.hold = s.hold := by
  grind [execLatchLine, State.hold, State.ackCommits_hold, State.latchLine_hold]

theorem execSelectionLine_hold (n : Nat) (s : State) (sz : State) (hz : (execSelectionLine n s) = .next sz) : sz.hold = s.hold := by
  cases hz
  split
  · rfl
  · dsimp only
    split
    · exact State.advance_hold ..
    · exact (State.selectFor_hold ..).trans (State.advance_hold ..)

theorem execGroupChangeCut_hold (n : Nat) (i : OutFrame) (s : State) (sz : State) (hz : (execGroupChangeCut n i s) = .next sz) : sz.hold = s.hold := by
  grind [execGroupChangeCut, State.hold, State.modOut_hold, State.cadenceStep_hold, State.detectors_hold, State.lineOutput_hold, State.frameBegins_hold, State.applyTim_hold]

theorem execTileCtrlEnable_hold (m : Nat) (k : Nat) (v : Word) (s : State) (sz : State) (hz : (execTileCtrlEnable m k v s) = .next sz) : sz.hold = s.hold := by
  grind [execTileCtrlEnable, State.hold, State.regWriteBy_hold, State.tileCtrlWrite_hold]

theorem execPortModeWrite_hold (m : Nat) (n : Nat) (v : Word) (s : State) (sz : State) (hz : (execPortModeWrite m n v s) = .next sz) : sz.hold = s.hold := by
  grind [execPortModeWrite, State.hold, State.regWriteBy_hold, State.portModeWrite_hold]

theorem execIgmpReport_hold (f : Nat) (s : State) (sz : State) (hz : (execIgmpReport f s) = .next sz) : sz.hold = s.hold := by
  grind [execIgmpReport, State.hold, State.bump_hold, State.emit_hold, State.setFlow_hold]

theorem execIgmpQuery_hold (n : Nat) (s : State) (sz : State) (hz : (execIgmpQuery n s) = .next sz) : sz.hold = s.hold := by
  grind [execIgmpQuery, State.hold, State.setFlow_hold, forEach_hold]

theorem execInputFrameStart_hold (f : Nat) (contacts : Int) (s : State) (sz : State) (hz : (execInputFrameStart f contacts s) = .next sz) : sz.hold = s.hold := by
  grind [execInputFrameStart, State.hold, State.returnContext_hold, State.bump_hold, State.setFlow_hold, State.takeSlot_hold, State.alignStep_hold, State.frameSeen_hold]

theorem execFrameRxComplete_hold (f : Nat) (i : FrameInfo) (s : State) (sz : State) (hz : (execFrameRxComplete f i s) = .next sz) : sz.hold = s.hold := by
  grind [execFrameRxComplete, State.hold, State.setFlow_hold, State.raise_hold, State.bump_hold, State.setEvents_hold, State.noteSrc_hold, State.detTo_hold]

theorem execFlowNoSignal_hold (f : Nat) (s : State) (sz : State) (hz : (execFlowNoSignal f s) = .next sz) : sz.hold = s.hold := by
  grind [execFlowNoSignal, State.hold, State.advance_hold, State.setFlow_hold, State.bump_hold, State.raise_hold, State.detTo_hold]

theorem execFlowUnstable_hold (f : Nat) (s : State) (sz : State) (hz : (execFlowUnstable f s) = .next sz) : sz.hold = s.hold := by
  grind [execFlowUnstable, State.hold, State.advance_hold, State.setFlow_hold, State.raise_hold, State.detTo_hold]

theorem execMergeWindowExpiry_hold (f : Nat) (seq : Nat) (s : State) (sz : State) (hz : (execMergeWindowExpiry f seq s) = .next sz) : sz.hold = s.hold := by
  grind [execMergeWindowExpiry, State.hold, State.setFlow_hold, State.bump_hold]

theorem execLegLost_hold (f : Nat) (legB : Bool) (s : State) (sz : State) (hz : (execLegLost f legB s) = .next sz) : sz.hold = s.hold := by
  grind [execLegLost, State.hold, State.advance_hold, State.raise_hold, State.setFlow_hold]

theorem execRemotePrepared_hold (f : Nat) (s : State) (sz : State) (hz : (execRemotePrepared f s) = .next sz) : sz.hold = s.hold := by
  grind [execRemotePrepared, State.hold, State.setFlow_hold, State.raise_hold, State.settleParts_hold]

theorem execRemoteTakeFail_hold (f : Nat) (s : State) (sz : State) (hz : (execRemoteTakeFail f s) = .next sz) : sz.hold = s.hold := by
  cases hz
  extract_lets y st
  split
  · extract_lets s1 isIt hit s2 s3 s4
    have h1 : s1.hold = s.hold := by
      unfold s1
      split
      · exact State.advance_hold ..
      · rfl
    have h2 : s2.hold = s1.hold := forEach_hold _ _ _ (fun s n => (State.raise_hold ..).trans ((State.bump_hold ..).trans (State.modOut_hold ..)))
    have h3 : s3.hold = s2.hold := by
      unfold s3
      split
      · exact State.raise_hold ..
      · rfl
    have h4 : s4.hold = s3.hold := by
      refine foldl_hold _ _ _ (fun s p => ?_)
      split
      · split
        · exact State.refuseSalvo_hold ..
        · rfl
      · rfl
    exact (State.dropLanding_hold ..).trans (h4.trans (h3.trans (h2.trans h1)))
  · rfl

theorem execRemoteSourceLost_hold (f : Nat) (s : State) (sz : State) (hz : (execRemoteSourceLost f s) = .next sz) : sz.hold = s.hold := by
  grind [execRemoteSourceLost, State.hold, State.noteSrc_hold, State.raise_hold, State.setFlow_hold]

theorem execRemoteReserveRetry_hold (f : Nat) (s : State) (sz : State) (hz : (execRemoteReserveRetry f s) = .next sz) : sz.hold = s.hold := by
  grind [execRemoteReserveRetry, State.hold, State.advance_hold, State.stkSend_hold, State.setFlow_hold]

theorem execLutLoaded_hold (n : Nat) (s : State) (sz : State) (hz : (execLutLoaded n s) = .next sz) : sz.hold = s.hold := by
  grind [execLutLoaded, State.hold, State.mirror_hold, State.raiseOut_hold, State.modOut_hold]

theorem execLutFail_hold (n : Nat) (s : State) (sz : State) (hz : (execLutFail n s) = .next sz) : sz.hold = s.hold := by
  grind [execLutFail, State.hold, State.lutFails_hold]

theorem execLutTimeout_hold (n : Nat) (s : State) (sz : State) (hz : (execLutTimeout n s) = .next sz) : sz.hold = s.hold := by
  grind [execLutTimeout, State.hold, State.lutFails_hold, State.advance_hold]

theorem execFrcPoolReturn_hold (k : Nat) (s : State) (sz : State) (hz : (execFrcPoolReturn k s) = .next sz) : sz.hold = s.hold := by
  grind [execFrcPoolReturn, State.hold, State.poolReturn_hold]

theorem execAmapSwitchPoint_hold (ref : Nat) (s : State) (sz : State) (hz : (execAmapSwitchPoint ref s) = .next sz) : sz.hold = s.hold := by
  grind [execAmapSwitchPoint, State.hold, State.advance_hold, State.changeSource_hold, State.modOc_hold, forEach_hold]

theorem execFollowSwitch_hold (n : Nat) (s : State) (sz : State) (hz : (execFollowSwitch n s) = .next sz) : sz.hold = s.hold := by
  grind [execFollowSwitch, State.hold, State.advance_hold, State.setOc_hold, State.changeSource_hold, forEach_hold]

theorem execOcDelayWrite_hold (m : Nat) (c : Nat) (v : Word) (s : State) (sz : State) (hz : (execOcDelayWrite m c v s) = .next sz) : sz.hold = s.hold := by
  grind [execOcDelayWrite, State.hold, State.regWriteBy_hold, State.delayWrite_hold]

theorem execDestWrite_hold (m : Nat) (d : Nat) (v : Word) (s : State) (sz : State) (hz : (execDestWrite m d v s) = .next sz) : sz.hold = s.hold := by
  grind [execDestWrite, State.hold, State.regWriteBy_hold, State.destWrite_hold]

theorem execAudioSrcLost_hold (pair : Bool) (x : Nat) (s : State) (sz : State) (hz : (execAudioSrcLost pair x s) = .next sz) : sz.hold = s.hold := by
  grind [execAudioSrcLost, State.hold, State.audioLose_hold, State.advance_hold]

theorem execAudioSrcBack_hold (pair : Bool) (x : Nat) (hz : Nat) (nonPcm : Bool) (s : State) (sz : State) (hz : (execAudioSrcBack pair x hz nonPcm s) = .next sz) : sz.hold = s.hold := by
  grind [execAudioSrcBack, State.hold, State.setAes_hold, State.icSettle_hold, State.setIc_hold, State.raise_hold, forEach_hold]

theorem execAudioSlip_hold (c : Nat) (s : State) (sz : State) (hz : (execAudioSlip c s) = .next sz) : sz.hold = s.hold := by
  grind [execAudioSlip, State.hold, State.raiseLim_hold, State.bump_hold]

theorem execAesUnlock_hold (i : Nat) (s : State) (sz : State) (hz : (execAesUnlock i s) = .next sz) : sz.hold = s.hold := by
  grind [execAesUnlock, State.hold, State.raise_hold, State.audioLose_hold, State.setAes_hold]

theorem execLaneSignalDetect_hold (L : Nat) (s : State) (sz : State) (hz : (execLaneSignalDetect L s) = .next sz) : sz.hold = s.hold := by
  grind [execLaneSignalDetect, State.hold, State.modLane_hold]

theorem execCommaLockGained_hold (L : Nat) (s : State) (sz : State) (hz : (execCommaLockGained L s) = .next sz) : sz.hold = s.hold := by
  grind [execCommaLockGained, State.hold, State.askLink_hold, State.setLane_hold, State.stepsOn_hold, State.sendLink_hold]

theorem execReservedSlotRx_hold (L : Nat) (comma : BitVec 64) (body : List Byte) (rm : Nat) (s : State) (sz : State) (hz : (execReservedSlotRx L comma body rm s) = .next sz) : sz.hold = s.hold := by
  grind [execReservedSlotRx, State.hold, State.bump_hold, State.rateMatch_hold]

theorem execCap_hold (L : Nat) (s : State) (sz : State) (hz : (execCap L s) = .next sz) : sz.hold = s.hold := by
  grind [execCap, State.hold, State.onLink_hold, State.laneMismatch_hold, State.modLane_hold, State.askLink_hold]

theorem execCfg_hold (L : Nat) (s : State) (sz : State) (hz : (execCfg L s) = .next sz) : sz.hold = s.hold := by
  grind [execCfg, State.hold, State.onLink_hold, State.laneMismatch_hold, State.modLane_hold, State.enterStep_hold, State.sendLink_hold]

theorem execLinkAck_hold (L : Nat) (s : State) (sz : State) (hz : (execLinkAck L s) = .next sz) : sz.hold = s.hold := by
  grind [execLinkAck, State.hold, State.onLink_hold, State.setLane_hold, State.enterStep_hold]

theorem execStep_hold (L : Nat) (s : State) (sz : State) (hz : (execStep L s) = .next sz) : sz.hold = s.hold := by
  grind [execStep, State.hold, State.onLink_hold, State.sendLink_hold, State.modLane_hold]

theorem execStepSwitch_hold (L : Nat) (s : State) (sz : State) (hz : (execStepSwitch L s) = .next sz) : sz.hold = s.hold := by
  grind [execStepSwitch, State.hold, State.setLane_hold]

theorem execStepDone_hold (L : Nat) (s : State) (sz : State) (hz : (execStepDone L s) = .next sz) : sz.hold = s.hold := by
  grind [execStepDone, State.hold, State.onLink_hold, State.stepsOn_hold, State.modLane_hold]

theorem execVerifyTestEnd_hold (L : Nat) (unc : Nat) (corr : Nat) (prbs : Nat) (s : State) (sz : State) (hz : (execVerifyTestEnd L unc corr prbs s) = .next sz) : sz.hold = s.hold := by
  cases hz
  dsimp only
  split
  · rfl
  · simp only [State.verifyDone_hold, State.sendLink_hold, State.setLane_hold, State.bump48_hold, State.bumpBy_hold, State.advance_hold]

theorem execVres_hold (L : Nat) (s : State) (sz : State) (hz : (execVres L s) = .next sz) : sz.hold = s.hold := by
  grind [execVres, State.hold, State.onLink_hold, State.verifyDone_hold, State.modLane_hold]

theorem execJoin_hold (L : Nat) (s : State) (sz : State) (hz : (execJoin L s) = .next sz) : sz.hold = s.hold := by
  grind [execJoin, State.hold, State.onLink_hold, State.modLane_hold]

theorem execLaneJoin_hold (L : Nat) (skew : Nat) (s : State) (sz : State) (hz : (execLaneJoin L skew s) = .next sz) : sz.hold = s.hold := by
  grind [execLaneJoin, State.hold, State.laneFails_hold, State.raiseLane_hold, State.setLane_hold, State.modLink_hold, State.raiseLink_hold]

theorem execDrop_hold (L : Nat) (s : State) (sz : State) (hz : (execDrop L s) = .next sz) : sz.hold = s.hold := by
  grind [execDrop, State.hold, State.onLink_hold, State.laneLost_hold]

theorem execL1reqMsg_hold (L : Nat) (s : State) (sz : State) (hz : (execL1reqMsg L s) = .next sz) : sz.hold = s.hold := by
  grind [execL1reqMsg, State.hold, State.onLink_hold, State.powerAsked_hold]

theorem execL1ackMsg_hold (L : Nat) (s : State) (sz : State) (hz : (execL1ackMsg L s) = .next sz) : sz.hold = s.hold := by
  grind [execL1ackMsg, State.hold, State.onLink_hold, State.powerAnswered_hold]

theorem execL2reqMsg_hold (L : Nat) (s : State) (sz : State) (hz : (execL2reqMsg L s) = .next sz) : sz.hold = s.hold := by
  grind [execL2reqMsg, State.hold, State.onLink_hold, State.powerAsked_hold]

theorem execL2ackMsg_hold (L : Nat) (s : State) (sz : State) (hz : (execL2ackMsg L s) = .next sz) : sz.hold = s.hold := by
  grind [execL2ackMsg, State.hold, State.onLink_hold, State.powerAnswered_hold]

theorem execL1Refused_hold (l : Nat) (s : State) (sz : State) (hz : (execL1Refused l s) = .next sz) : sz.hold = s.hold := by
  grind [execL1Refused, State.hold, State.advance_hold, State.modLane_hold, State.raiseLink_hold, State.modLink_hold, forEach_hold]

theorem execIdleL1Timeout_hold (l : Nat) (s : State) (sz : State) (hz : (execIdleL1Timeout l s) = .next sz) : sz.hold = s.hold := by
  grind [execIdleL1Timeout, State.hold, State.askPower_hold, State.advance_hold]

theorem execLinkMsgRetry_hold (L : Nat) (s : State) (sz : State) (hz : (execLinkMsgRetry L s) = .next sz) : sz.hold = s.hold := by
  grind [execLinkMsgRetry, State.hold, State.advance_hold, State.askLink_hold]

theorem execLanePhaseTimeout_hold (L : Nat) (s : State) (sz : State) (hz : (execLanePhaseTimeout L s) = .next sz) : sz.hold = s.hold := by
  grind [execLanePhaseTimeout, State.hold, State.advance_hold, State.laneFails_hold, State.setReg_hold]

theorem execBackoffExpiry_hold (L : Nat) (s : State) (sz : State) (hz : (execBackoffExpiry L s) = .next sz) : sz.hold = s.hold := by
  grind [execBackoffExpiry, State.hold, State.startLane_hold, State.advance_hold]

theorem execLaneLost_hold (L : Nat) (cause : Nat) (s : State) (sz : State) (hz : (execLaneLost L cause s) = .next sz) : sz.hold = s.hold := by
  grind [execLaneLost, State.hold, State.laneLost_hold, State.raiseLane_hold]

theorem execLnRearm_hold (m : Nat) (L : Nat) (v : Word) (s : State) (sz : State) (hz : (execLnRearm m L v s) = .next sz) : sz.hold = s.hold := by
  grind [execLnRearm, State.hold, State.regWriteBy_hold, State.rearmWrite_hold]

theorem execLnCtrlTest_hold (m : Nat) (L : Nat) (v : Word) (s : State) (sz : State) (hz : (execLnCtrlTest m L v s) = .next sz) : sz.hold = s.hold := by
  grind [execLnCtrlTest, State.hold, State.regWriteBy_hold, State.lnCtrlWrite_hold]

theorem execInjTrigger_hold (m : Nat) (L : Nat) (v : Word) (s : State) (sz : State) (hz : (execInjTrigger m L v s) = .next sz) : sz.hold = s.hold := by
  grind [execInjTrigger, State.hold, State.regWriteBy_hold, State.injWrite_hold]

theorem execLkCtrlEnable_hold (m : Nat) (l : Nat) (v : Word) (s : State) (sz : State) (hz : (execLkCtrlEnable m l v s) = .next sz) : sz.hold = s.hold := by
  grind [execLkCtrlEnable, State.hold, State.regWriteBy_hold, State.lkCtrlWrite_hold]

theorem execL1Req_hold (m : Nat) (l : Nat) (v : Word) (s : State) (sz : State) (hz : (execL1Req m l v s) = .next sz) : sz.hold = s.hold := by
  grind [execL1Req, State.hold, State.regWriteBy_hold, State.lkCtrlWrite_hold]

theorem execL2Req_hold (m : Nat) (l : Nat) (v : Word) (s : State) (sz : State) (hz : (execL2Req m l v s) = .next sz) : sz.hold = s.hold := by
  grind [execL2Req, State.hold, State.regWriteBy_hold, State.lkCtrlWrite_hold]

theorem execSdiEthLockChange_hold (L : Nat) (locked : Bool) (s : State) (sz : State) (hz : (execSdiEthLockChange L locked s) = .next sz) : sz.hold = s.hold := by
  grind [execSdiEthLockChange, State.hold, State.modLane_hold, State.bump_hold]

theorem execStackMsgRx_hold (s : State) (sz : State) (hz : (execStackMsgRx s) = .next sz) : sz.hold = s.hold := by
  grind [execStackMsgRx, State.hold, State.bump_hold, State.forward_hold]

theorem execAnnounce_hold (s : State) (sz : State) (hz : (execAnnounce s) = .next sz) : sz.hold = s.hold := by
  grind [execAnnounce, State.hold, State.onStk_hold, State.raise_hold, State.setReg_hold, State.elect_hold]

theorem execAnnounceTimer_hold (s : State) (sz : State) (hz : (execAnnounceTimer s) = .next sz) : sz.hold = s.hold := by
  cases hz
  refine (forEach_hold _ _ _ (fun s l => State.sendLocal_hold ..)).trans ?_
  rw [State.elect_hold, State.advance_hold]

theorem execMasterLost_hold (s : State) (sz : State) (hz : (execMasterLost s) = .next sz) : sz.hold = s.hold := by
  grind [execMasterLost, State.hold, State.advance_hold, State.elect_hold]

theorem execTimeMsg_hold (s : State) (sz : State) (hz : (execTimeMsg s) = .next sz) : sz.hold = s.hold := by
  grind [execTimeMsg, State.hold, State.onStk_hold, State.timeAccepted_hold]

theorem execDelayReq_hold (s : State) (sz : State) (hz : (execDelayReq s) = .next sz) : sz.hold = s.hold := by
  grind [execDelayReq, State.hold, State.onStk_hold, State.sendLocal_hold]

theorem execDelayReqTimer_hold (s : State) (sz : State) (hz : (execDelayReqTimer s) = .next sz) : sz.hold = s.hold := by
  grind [execDelayReqTimer, State.hold, State.advance_hold, State.sendLocal_hold, forEach_hold]

theorem execDelayResp_hold (s : State) (sz : State) (hz : (execDelayResp s) = .next sz) : sz.hold = s.hold := by
  grind [execDelayResp, State.hold, State.onStk_hold]

theorem execGroup_hold (s : State) (sz : State) (hz : (execGroup s) = .next sz) : sz.hold = s.hold := by
  grind [execGroup, State.hold, State.onStk_hold, State.fixEpoch_hold]

theorem execGroupTimer_hold (s : State) (sz : State) (hz : (execGroupTimer s) = .next sz) : sz.hold = s.hold := by
  cases hz
  refine (forEach_hold _ _ _ (fun s d => forEach_hold _ _ _ (fun s g => State.stkSend_hold ..))).trans ?_
  rw [apply_ite State.hold, forEach_hold _ _ _ (fun s g => State.sendLocal_hold ..), ite_self, State.advance_hold]

theorem execRoute_hold (s : State) (sz : State) (hz : (execRoute s) = .next sz) : sz.hold = s.hold := by grind [execRoute, State.hold, State.onStk_hold]

theorem execRouteCommit_hold (s : State) (sz : State) (hz : (execRouteCommit s) = .next sz) : sz.hold = s.hold := by
  grind [execRouteCommit, State.hold, State.onStk_hold]

theorem execRouteInstall_hold (missing : Nat) (s : State) (sz : State) (hz : (execRouteInstall missing s) = .next sz) : sz.hold = s.hold := by
  cases hz
  split
  · rfl
  · dsimp only
    split
    · exact (State.raise_hold ..).trans ((stk_hold _ _).trans (State.advance_hold ..))
    · exact (State.raise_hold ..).trans ((stk_hold _ _).trans ((forEach_hold _ _ _ (fun s r => State.installRoute_hold ..)).trans
        ((stk_hold _ _).trans (State.advance_hold ..))))

theorem execExportReq_hold (s : State) (sz : State) (hz : (execExportReq s) = .next sz) : sz.hold = s.hold := by
  grind [execExportReq, State.hold, State.onStk_hold, State.stkSend_hold]

theorem execExportAck_hold (s : State) (sz : State) (hz : (execExportAck s) = .next sz) : sz.hold = s.hold := by
  grind [execExportAck, State.hold, State.onStk_hold, State.modFlow_hold, State.stkSend_hold]

theorem execResv_hold (s : State) (sz : State) (hz : (execResv s) = .next sz) : sz.hold = s.hold := by
  cases hz
  refine State.onStk_hold _ _ _ (fun s m => ?_)
  dsimp only
  split
  · split
    · exact State.forward_hold ..
    · split
      · next h => rw [State.passOn_hold]; exact State.reserveHop_hold _ _ _ h
      · exact State.stkSend_hold ..
  · split
    · split
      · rw [State.sourceReserve_hold, State.dropResv_hold]
      · exact State.stkSend_hold ..
    · split
      · rw [State.stkSend_hold, State.modFlow_hold]
      · rfl

theorem execResvAck_hold (s : State) (sz : State) (hz : (execResvAck s) = .next sz) : sz.hold = s.hold := by
  cases hz
  refine State.onStk_hold _ _ _ (fun s m => ?_)
  dsimp only
  split
  · rfl
  · split
    · split
      · rw [State.sourceReserve_hold, State.dropResv_hold]
      · split
        · next h => rw [State.sendResv_hold, State.reserveHop_hold _ _ _ h, State.dropResv_hold]
        · split
          · rw [State.stkSend_hold, State.dropResv_hold]
          · exact State.dropResv_hold ..
    · split
      · exact State.modFlow_hold ..
      · rfl

theorem execRelease_hold (s : State) (sz : State) (hz : (execRelease s) = .next sz) : sz.hold = s.hold := by
  grind [execRelease, State.hold, State.onStk_hold, State.forward_hold, State.stkSend_hold]

theorem execSubmit_hold (s : State) (sz : State) (hz : (execSubmit s) = .next sz) : sz.hold = s.hold := by grind [execSubmit, State.hold, State.onStk_hold]

theorem execPrepare_hold (s : State) (sz : State) (hz : (execPrepare s) = .next sz) : sz.hold = s.hold := by
  grind [execPrepare, State.hold, State.onStk_hold, State.setRegN_hold]

theorem execEntry_hold (s : State) (sz : State) (hz : (execEntry s) = .next sz) : sz.hold = s.hold := by
  grind [execEntry, State.hold, State.onStk_hold, State.prepareAll_hold, State.setSalvo_hold, State.gather_hold]

theorem execReady_hold (s : State) (sz : State) (hz : (execReady s) = .next sz) : sz.hold = s.hold := by
  grind [execReady, State.hold, State.onStk_hold, State.setSalvo_hold]

theorem execRefuse_hold (s : State) (sz : State) (hz : (execRefuse s) = .next sz) : sz.hold = s.hold := by
  grind [execRefuse, State.hold, State.onStk_hold, State.setSalvo_hold]

theorem execSalvoDecide_hold (id : Nat) (s : State) (sz : State) (hz : (execSalvoDecide id s) = .next sz) : sz.hold = s.hold := by
  grind [execSalvoDecide, State.hold, State.mirrorSalvo_hold, State.setSalvo_hold, State.stkSend_hold, State.raise_hold, forEach_hold]

theorem execSalvoCommitMsg_hold (s : State) (sz : State) (hz : (execSalvoCommitMsg s) = .next sz) : sz.hold = s.hold := by
  grind [execSalvoCommitMsg, State.hold, State.onStk_hold, State.salvoEnds_hold, State.bump_hold, State.mirrorPart_hold, State.setPart_hold, forEach_hold]

theorem execSalvoAbortMsg_hold (s : State) (sz : State) (hz : (execSalvoAbortMsg s) = .next sz) : sz.hold = s.hold := by
  grind [execSalvoAbortMsg, State.hold, State.onStk_hold, State.raise_hold, State.salvoEnds_hold, State.bump_hold, State.salvoResult_hold, State.mirrorPart_hold, State.gcLandings_hold, State.dropPart_hold, State.unhold_hold, forEach_hold]

theorem execSalvoSplit_hold (id : Nat) (s : State) (sz : State) (hz : (execSalvoSplit id s) = .next sz) : sz.hold = s.hold := by
  grind [execSalvoSplit, State.hold, State.setPart_hold, State.salvoResult_hold, State.bump_hold, State.raise_hold, State.ackSalvo_hold]

theorem execSalvoTakeCommit_hold (id : Nat) (s : State) (sz : State) (hz : (execSalvoTakeCommit id s) = .next sz) : sz.hold = s.hold := by
  grind [execSalvoTakeCommit, State.hold, State.setPart_hold, State.modOut_hold, State.commitTake_hold, State.salvoResult_hold, forEach_hold]

theorem execSalvoAck_hold (s : State) (sz : State) (hz : (execSalvoAck s) = .next sz) : sz.hold = s.hold := by
  grind [execSalvoAck, State.hold, State.onStk_hold, State.mirrorSalvo_hold, State.setSalvo_hold]

theorem execSalvoCollect_hold (id : Nat) (s : State) (sz : State) (hz : (execSalvoCollect id s) = .next sz) : sz.hold = s.hold := by
  grind [execSalvoCollect, State.hold, State.mirrorSalvo_hold, State.raise_hold, State.stkSend_hold, forEach_hold]

theorem execComp_hold (s : State) (sz : State) (hz : (execComp s) = .next sz) : sz.hold = s.hold := by
  grind [execComp, State.hold, State.onStk_hold, State.setPart_hold, State.bump_hold, State.raise_hold]

theorem execSalvoTimeout_hold (e : Nat) (s : State) (sz : State) (hz : (execSalvoTimeout e s) = .next sz) : sz.hold = s.hold := by
  grind [execSalvoTimeout, State.hold, State.salvoEnds_hold]

theorem execTwinEnable_hold (m : Nat) (v : Word) (s : State) (sz : State) (hz : (execTwinEnable m v s) = .next sz) : sz.hold = s.hold := by
  grind [execTwinEnable, State.hold, State.regWriteBy_hold, State.twinCtrlWrite_hold]

theorem execAttach_hold (m : Nat) (s : State) (sz : State) (hz : (execAttach m s) = .next sz) : sz.hold = s.hold := by
  grind [execAttach, State.hold, State.regWriteBy_hold, State.attach_hold]

theorem execDetach_hold (m : Nat) (s : State) (sz : State) (hz : (execDetach m s) = .next sz) : sz.hold = s.hold := by
  grind [execDetach, State.hold, State.regWriteBy_hold, State.detach_hold]

theorem execSwitch_hold (m : Nat) (s : State) (sz : State) (hz : (execSwitch m s) = .next sz) : sz.hold = s.hold := by
  grind [execSwitch, State.hold, State.regWriteBy_hold, State.switchCmd_hold]

theorem execTwinPaired_hold (s : State) (sz : State) (hz : (execTwinPaired s) = .next sz) : sz.hold = s.hold := by
  grind [execTwinPaired, State.hold, State.raise_hold, State.modTwin_hold, State.twinResult_hold]

theorem execTwinHbLost_hold (s : State) (sz : State) (hz : (execTwinHbLost s) = .next sz) : sz.hold = s.hold := by
  grind [execTwinHbLost, State.hold, State.heartbeatLost_hold]

theorem execTwinLinkDownTimeout_hold (s : State) (sz : State) (hz : (execTwinLinkDownTimeout s) = .next sz) : sz.hold = s.hold := by
  grind [execTwinLinkDownTimeout, State.hold, State.twinDetach_hold, State.advance_hold]

theorem execTwinPresentChange_hold (present : Bool) (held : Nat) (s : State) (sz : State) (hz : (execTwinPresentChange present held s) = .next sz) : sz.hold = s.hold := by
  grind [execTwinPresentChange, State.hold, State.modTwin_hold, State.twinDetach_hold, State.promote_hold]

theorem execTwinForce_hold (level : Bool) (held : Nat) (s : State) (sz : State) (hz : (execTwinForce level held s) = .next sz) : sz.hold = s.hold := by
  grind [execTwinForce, State.hold, State.modTwin_hold, State.raise_hold, State.planSwitch_hold]

theorem execTwinOutputRoleChange_hold (n : Nat) (s : State) (sz : State) (hz : (execTwinOutputRoleChange n s) = .next sz) : sz.hold = s.hold := by
  grind [execTwinOutputRoleChange, State.hold, State.roleChange_hold]

theorem execMirrorDrainDone_hold (s : State) (sz : State) (hz : (execMirrorDrainDone s) = .next sz) : sz.hold = s.hold := by
  grind [execMirrorDrainDone, State.hold, State.modTwin_hold]

theorem execMirrorDrainTimeout_hold (s : State) (sz : State) (hz : (execMirrorDrainTimeout s) = .next sz) : sz.hold = s.hold := by
  grind [execMirrorDrainTimeout, State.hold, State.twinResult_hold, State.modTwin_hold, State.advance_hold]

theorem execCandActivityLost_hold (c : Nat) (s : State) (sz : State) (hz : (execCandActivityLost c s) = .next sz) : sz.hold = s.hold := by
  grind [execCandActivityLost, State.hold, State.advance_hold, State.activityLost_hold]

theorem execCandGoodSample_hold (r : RefSample) (s : State) (sz : State) (hz : (execCandGoodSample r s) = .next sz) : sz.hold = s.hold := by
  grind [execCandGoodSample, State.hold, State.goodSample_hold, State.takeSample_hold]

theorem execRefQualified_hold (c : Nat) (s : State) (sz : State) (hz : (execRefQualified c s) = .next sz) : sz.hold = s.hold := by
  grind [execRefQualified, State.hold, State.qualify_hold]

theorem execRefLost_hold (c : Nat) (s : State) (sz : State) (hz : (execRefLost c s) = .next sz) : sz.hold = s.hold := by
  grind [execRefLost, State.hold, State.modCand_hold, State.loseCand_hold, State.raiseRef_hold, State.bump_hold]

theorem execRefDisagree_hold (c : Nat) (s : State) (sz : State) (hz : (execRefDisagree c s) = .next sz) : sz.hold = s.hold := by
  grind [execRefDisagree, State.hold, State.raiseRef_hold, State.bump_hold, State.modMadder_hold, State.modCand_hold, State.loseCand_hold]

theorem execDisagreeClear_hold (s : State) (sz : State) (hz : (execDisagreeClear s) = .next sz) : sz.hold = s.hold := by
  grind [execDisagreeClear, State.hold, State.modMadder_hold, State.modCand_hold]

theorem execWtrExpiry_hold (s : State) (sz : State) (hz : (execWtrExpiry s) = .next sz) : sz.hold = s.hold := by
  grind [execWtrExpiry, State.hold, State.modMadder_hold, State.advance_hold, State.chooseCand_hold]

theorem execRefSwitch_hold (s : State) (sz : State) (hz : (execRefSwitch s) = .next sz) : sz.hold = s.hold := by
  grind [execRefSwitch, State.hold, State.chooseCand_hold]

theorem execAcquireLock_hold (s : State) (sz : State) (hz : (execAcquireLock s) = .next sz) : sz.hold = s.hold := by
  grind [execAcquireLock, State.hold, State.beginSlope_hold, State.modMadder_hold]

theorem execAcqFail_hold (s : State) (sz : State) (hz : (execAcqFail s) = .next sz) : sz.hold = s.hold := by
  grind [execAcqFail, State.hold, State.advance_hold, State.modCand_hold, State.loseCand_hold, State.raiseRef_hold]

theorem execSlopeComplete_hold (s : State) (sz : State) (hz : (execSlopeComplete s) = .next sz) : sz.hold = s.hold := by
  grind [execSlopeComplete, State.hold, State.modMadder_hold, State.slewOffsets_hold, State.advance_hold, State.applySel_hold]

theorem execSlewDone_hold (s : State) (sz : State) (hz : (execSlewDone s) = .next sz) : sz.hold = s.hold := by
  grind [execSlewDone, State.hold, State.raiseRef_hold, State.modMadder_hold]

theorem execHoldover_hold (s : State) (sz : State) (hz : (execHoldover s) = .next sz) : sz.hold = s.hold := by
  grind [execHoldover, State.hold, State.applySel_hold]

theorem execSoft_hold (m : Nat) (v : Word) (s : State) (sz : State) (hz : (execSoft m v s) = .next sz) : sz.hold = s.hold := by
  grind [execSoft, State.hold, State.regWriteBy_hold, State.madderCtrlWrite_hold]

theorem execFcwWrite_hold (m : Nat) (v : Word) (s : State) (sz : State) (hz : (execFcwWrite m v s) = .next sz) : sz.hold = s.hold := by
  grind [execFcwWrite, State.hold, State.regWriteBy_hold, State.fcwWrite_hold]

theorem execSoftTimeout_hold (s : State) (sz : State) (hz : (execSoftTimeout s) = .next sz) : sz.hold = s.hold := by
  grind [execSoftTimeout, State.hold, State.advance_hold, State.modMadder_hold, State.raiseRef_hold, State.bump_hold]

theorem execMadderFault_hold (s : State) (sz : State) (hz : (execMadderFault s) = .next sz) : sz.hold = s.hold := by
  grind [execMadderFault, State.hold, State.activityLost_hold, State.localLost_hold]

theorem execFaultRecover_hold (s : State) (sz : State) (hz : (execFaultRecover s) = .next sz) : sz.hold = s.hold := by
  have key : ∀ b, (if s.madder.st = mFault ∧ s.madder.localOk then
        let s := s.advance b
        match s.madder.slope with
        | some x => s.modMadder (fun M => { M with st := mSlew, slope := some { x with due := if s.qualified M.sel then x.due else some noCand } })
        | none =>
          let c := s.bestCand
          if c = noCand then (s.modMadder (fun M => { M with sel := noCand })).enterHold
          else (s.modMadder (fun M => { M with st := mFreerun, fcw := 0 })).applySel c
      else s).hold = s.hold := by
    intro b
    split
    · dsimp only
      split
      · exact (State.modMadder_hold ..).trans (State.advance_hold ..)
      · split
        · exact (State.enterHold_hold ..).trans ((State.modMadder_hold ..).trans (State.advance_hold ..))
        · exact (State.applySel_hold ..).trans ((State.modMadder_hold ..).trans (State.advance_hold ..))
    · rfl
  rw [← Host.Outcome.next.inj hz]
  exact key _

theorem execRecapture_hold (m : Nat) (v : Word) (s : State) (sz : State) (hz : (execRecapture m v s) = .next sz) : sz.hold = s.hold := by
  grind [execRecapture, State.hold, State.regWriteBy_hold, State.madderCtrlWrite_hold]

theorem execHistValid_hold (s : State) (sz : State) (hz : (execHistValid s) = .next sz) : sz.hold = s.hold := by
  grind [execHistValid, State.hold, State.modMadder_hold]

theorem execFpInPulse_hold (i : Nat) (seen : Nat) (held : Nat) (s : State) (sz : State) (hz : (execFpInPulse i seen held s) = .next sz) : sz.hold = s.hold := by
  grind [execFpInPulse, State.hold, State.fpPulse_hold, State.advance_hold]

theorem execFpOutPulse_hold (i : Nat) (s : State) (sz : State) (hz : (execFpOutPulse i s) = .next sz) : sz.hold = s.hold := by
  grind [execFpOutPulse, State.hold, State.advance_hold, State.emit_hold, State.setFpOut_hold]

theorem execFpOutFree_hold (i : Nat) (s : State) (sz : State) (hz : (execFpOutFree i s) = .next sz) : sz.hold = s.hold := by
  grind [execFpOutFree, State.hold, State.advance_hold, State.setFpOut_hold]

theorem execPtpMessage_hold (c : Nat) (p : PtpMsg) (s : State) (sz : State) (hz : (execPtpMessage c p s) = .next sz) : sz.hold = s.hold := by
  grind [execPtpMessage, State.hold, State.ptpMessage_hold]

theorem execCandCfgWrite_hold (m : Nat) (c : Nat) (reg : Nat) (v : Word) (s : State) (sz : State) (hz : (execCandCfgWrite m c reg v s) = .next sz) : sz.hold = s.hold := by
  grind [execCandCfgWrite, State.hold, State.regWriteBy_hold, State.candCfgWrite_hold]

theorem execSynthShort_hold (n : Nat) (s : State) (sz : State) (hz : (execSynthShort n s) = .next sz) : sz.hold = s.hold := by
  grind [execSynthShort, State.hold, State.retryPort_hold, State.servePort_hold]

theorem execCxlPortTrain_hold (x : Nat) (up : Bool) (width : Nat) (rate64 : Bool) (type3 : Bool) (cap : Nat) (ideOk : Bool) (s : State) (sz : State) (hz : (execCxlPortTrain x up width rate64 type3 cap ideOk s) = .next sz) : sz.hold = s.hold := by
  grind [execCxlPortTrain, State.hold, State.raise_hold, State.bump_hold, State.setCx_hold]

theorem execCxlCrcRetry_hold (x : Nat) (s : State) (sz : State) (hz : (execCxlCrcRetry x s) = .next sz) : sz.hold = s.hold := by
  grind [execCxlCrcRetry, State.hold, State.bump_hold]

theorem execCxlLinkDown_hold (x : Nat) (s : State) (sz : State) (hz : (execCxlLinkDown x s) = .next sz) : sz.hold = s.hold := by
  grind [execCxlLinkDown, State.hold, State.bump_hold, State.setCx_hold]

theorem execCxlRecovered_hold (x : Nat) (s : State) (sz : State) (hz : (execCxlRecovered x s) = .next sz) : sz.hold = s.hold := by
  grind [execCxlRecovered, State.hold, State.raise_hold, State.setCx_hold]

theorem execMemWrOverflow_hold (f : Nat) (s : State) (sz : State) (hz : (execMemWrOverflow f s) = .next sz) : sz.hold = s.hold := by
  grind [execMemWrOverflow, State.hold, State.raiseLim_hold, State.bump_hold, State.modFlow_hold]

theorem execHallocSize_hold (m : Nat) (v : Word) (s : State) (sz : State) (hz : (execHallocSize m v s) = .next sz) : sz.hold = s.hold := by
  grind [execHallocSize, State.hold, State.regWriteBy_hold, State.halloc_hold]

theorem execHfree_hold (m : Nat) (v : Word) (s : State) (sz : State) (hz : (execHfree m v s) = .next sz) : sz.hold = s.hold := by
  grind [execHfree, State.hold, State.regWriteBy_hold, State.hfree_hold]

theorem execIdeKeyExchange_hold (x : Nat) (ok : Bool) (s : State) (sz : State) (hz : (execIdeKeyExchange x ok s) = .next sz) : sz.hold = s.hold := by
  grind [execIdeKeyExchange, State.hold, State.raise_hold]

theorem execInputOk_hold (dc : Bool) (cycles : Nat) (strap : Nat) (vhost33 : Bool) (s : State) (sz : State) (hz : (execInputOk dc cycles strap vhost33 s) = .next sz) : sz.hold = s.hold := by
  grind [execInputOk, State.hold, State.inputOk_hold]

theorem execInputLost_hold (dc : Bool) (s : State) (sz : State) (hz : (execInputLost dc s) = .next sz) : sz.hold = s.hold := by
  grind [execInputLost, State.hold, State.inputLost_hold]

theorem execInputSwitch_hold (cycles : Nat) (s : State) (sz : State) (hz : (execInputSwitch cycles s) = .next sz) : sz.hold = s.hold := by
  grind [execInputSwitch, State.hold, State.switchInput_hold]

theorem execPwrEnRise_hold (cool : Bool) (held : Nat) (s : State) (sz : State) (hz : (execPwrEnRise cool held s) = .next sz) : sz.hold = s.hold := by
  grind [execPwrEnRise, State.hold, State.modPwr_hold, State.upBegin_hold]

theorem execPowerUpStep_hold (s : State) (sz : State) (hz : (execPowerUpStep s) = .next sz) : sz.hold = s.hold := by
  grind [execPowerUpStep, State.hold, State.upStepDone_hold]

theorem execRailFault_hold (r : Nat) (s : State) (sz : State) (hz : (execRailFault r s) = .next sz) : sz.hold = s.hold := by
  grind [execRailFault, State.hold, State.railFails_hold]

theorem execPwrRide_hold (dc : Bool) (held : Nat) (busV : Nat) (s : State) (sz : State) (hz : (execPwrRide dc held busV s) = .next sz) : sz.hold = s.hold := by
  grind [execPwrRide, State.hold, State.bump_hold, State.raise_hold, State.modPwr_hold]

theorem execPwrShutdown_hold (s : State) (sz : State) (hz : (execPwrShutdown s) = .next sz) : sz.hold = s.hold := by
  grind [execPwrShutdown, State.hold, State.shutBegin_hold, State.advance_hold]

theorem execPowerRestart_hold (cycles : Nat) (s : State) (sz : State) (hz : (execPowerRestart cycles s) = .next sz) : sz.hold = s.hold := by
  grind [execPowerRestart, State.hold, State.upBegin_hold]

theorem execDomainOnUse_hold (d : Nat) (s : State) (sz : State) (hz : (execDomainOnUse d s) = .next sz) : sz.hold = s.hold := by
  grind [execDomainOnUse, State.hold, State.domUp_hold]

theorem execDomainIdleOff_hold (d : Nat) (s : State) (sz : State) (hz : (execDomainIdleOff d s) = .next sz) : sz.hold = s.hold := by
  grind [execDomainIdleOff, State.hold, State.advance_hold, State.modPwr_hold, State.switchCount_hold]

theorem execPdReqWrite_hold (m : Nat) (w : Nat) (v : Word) (s : State) (sz : State) (hz : (execPdReqWrite m w v s) = .next sz) : sz.hold = s.hold := by
  grind [execPdReqWrite, State.hold, State.regWriteBy_hold, State.pdReqWrite_hold]

theorem execPdFaultClear_hold (m : Nat) (w : Nat) (v : Word) (s : State) (sz : State) (hz : (execPdFaultClear m w v s) = .next sz) : sz.hold = s.hold := by
  grind [execPdFaultClear, State.hold, State.regWriteBy_hold, State.pdFaultWrite_hold]

theorem execStrapSample_hold (a : Nat × Nat × Nat) (b : Nat × Nat × Nat) (floats : Bool) (s : State) (sz : State) (hz : (execStrapSample a b floats s) = .next sz) : sz.hold = s.hold := by
  grind [execStrapSample, State.hold, State.strapSample_hold]

theorem execStrapRetry_hold (a : Nat × Nat × Nat) (b : Nat × Nat × Nat) (floats : Bool) (s : State) (sz : State) (hz : (execStrapRetry a b floats s) = .next sz) : sz.hold = s.hold := by
  grind [execStrapRetry, State.hold, State.strapSample_hold]

theorem execBootImageCheck_hold (img : List Byte) (s : State) (sz : State) (hz : (execBootImageCheck img s) = .next sz) : sz.hold = s.hold := by
  grind [execBootImageCheck, State.hold, State.imageCheck_hold]

theorem execBootSourceTimeout_hold (s : State) (sz : State) (hz : (execBootSourceTimeout s) = .next sz) : sz.hold = s.hold := by
  grind [execBootSourceTimeout, State.hold, State.imageFails_hold, State.advance_hold]

theorem execBootPush_hold (m : Nat) (v : Word) (s : State) (sz : State) (hz : (execBootPush m v s) = .next sz) : sz.hold = s.hold := by
  grind [execBootPush, State.hold, State.regWriteBy_hold, State.bootPush_hold]

theorem execBootPushTimeout_hold (s : State) (sz : State) (hz : (execBootPushTimeout s) = .next sz) : sz.hold = s.hold := by
  grind [execBootPushTimeout, State.hold, State.raise_hold, State.modBoot_hold, State.advance_hold]

theorem execStartupStep_hold (s : State) (sz : State) (hz : (execStartupStep s) = .next sz) : sz.hold = s.hold := by
  grind [execStartupStep, State.hold, State.startupStep_hold]

theorem execBootReady_hold (s : State) (sz : State) (hz : (execBootReady s) = .next sz) : sz.hold = s.hold := by
  grind [execBootReady, State.hold, State.raise_hold, State.modBoot_hold, State.modPwr_hold]

theorem execAttestReq_hold (m : Nat) (v : Word) (s : State) (sz : State) (hz : (execAttestReq m v s) = .next sz) : sz.hold = s.hold := by
  grind [execAttestReq, State.hold, State.regWriteBy_hold, State.attestReq_hold]

theorem execAttestDone_hold (s : State) (sz : State) (hz : (execAttestDone s) = .next sz) : sz.hold = s.hold := by
  grind [execAttestDone, State.hold, State.raise_hold, State.attestEnd_hold, State.setRegBytes_hold, State.attestBegin_hold]

theorem execStage_hold (m : Nat) (v : Word) (s : State) (sz : State) (hz : (execStage m v s) = .next sz) : sz.hold = s.hold := by
  grind [execStage, State.hold, State.regWriteBy_hold, State.execWoad_hold, State.stage_hold]

theorem execWoadVerify_hold (m : Nat) (v : Word) (s : State) (sz : State) (hz : (execWoadVerify m v s) = .next sz) : sz.hold = s.hold := by
  grind [execWoadVerify, State.hold, State.execWoad_hold, State.woadVerify_hold]

theorem execKeyCommitted_hold (m : Nat) (v : Word) (s : State) (sz : State) (hz : (execKeyCommitted m v s) = .next sz) : sz.hold = s.hold := by
  grind [execKeyCommitted, State.hold, State.execWoad_hold, State.woadCommit_hold]

theorem execKeyAborted_hold (m : Nat) (v : Word) (s : State) (sz : State) (hz : (execKeyAborted m v s) = .next sz) : sz.hold = s.hold := by
  grind [execKeyAborted, State.hold, State.execWoad_hold, State.woadAbort_hold]

theorem execAttr_hold (m : Nat) (v : Word) (s : State) (sz : State) (hz : (execAttr m v s) = .next sz) : sz.hold = s.hold := by
  grind [execAttr, State.hold, State.execWoad_hold, State.woadAttr_hold]

theorem execSign_hold (m : Nat) (v : Word) (s : State) (sz : State) (hz : (execSign m v s) = .next sz) : sz.hold = s.hold := by
  grind [execSign, State.hold, State.execWoad_hold, State.woadMake_hold]

theorem execMac_hold (m : Nat) (v : Word) (s : State) (sz : State) (hz : (execMac m v s) = .next sz) : sz.hold = s.hold := by
  grind [execMac, State.hold, State.execWoad_hold, State.woadMake_hold]

theorem execProvClose_hold (m : Nat) (v : Word) (s : State) (sz : State) (hz : (execProvClose m v s) = .next sz) : sz.hold = s.hold := by
  grind [execProvClose, State.hold, State.regWriteBy_hold, State.provClose_hold]

theorem execStageExpired_hold (s : State) (sz : State) (hz : (execStageExpired s) = .next sz) : sz.hold = s.hold := by
  grind [execStageExpired, State.hold, State.raise_hold, State.advance_hold]

theorem execKeyBusRequest_hold (e : Nat) (i : Nat) (s : State) (sz : State) (hz : (execKeyBusRequest e i s) = .next sz) : sz.hold = s.hold := by
  grind [execKeyBusRequest, State.hold, State.keyBus_hold]

theorem execRdDataRead_hold (m : Nat) (corrected : Bool) (s : State) (sz : State) (hz : (execRdDataRead m corrected s) = .next sz) : sz.hold = s.hold := by
  grind [execRdDataRead, State.hold, State.rdData_hold, State.xbarGrant_hold, State.emit_hold, State.xbarErr_hold]

theorem execRecCmdWrite_hold (m : Nat) (v : Word) (s : State) (sz : State) (hz : (execRecCmdWrite m v s) = .next sz) : sz.hold = s.hold := by
  grind [execRecCmdWrite, State.hold, State.regWriteBy_hold, State.recCmd_hold]

theorem execRecCmdRead_hold (m : Nat) (v : Word) (s : State) (sz : State) (hz : (execRecCmdRead m v s) = .next sz) : sz.hold = s.hold := by
  grind [execRecCmdRead, State.hold, State.regWriteBy_hold, State.recCmd_hold]

theorem execBpChalReq_hold (m : Nat) (s : State) (sz : State) (hz : (execBpChalReq m s) = .next sz) : sz.hold = s.hold := by
  grind [execBpChalReq, State.hold, State.regWriteBy_hold, State.bpChal_hold]

theorem execXbarDecode_hold (m : Nat) (a : Nat) (write : Bool) (badSize : Bool) (s : State) (sz : State) (hz : (execXbarDecode m a write badSize s) = .next sz) : sz.hold = s.hold := by
  grind [execXbarDecode, State.hold, State.xbarErr_hold]

theorem execIdent_hold (f : SmbFrame) (s : State) (sz : State) (hz : (execIdent f s) = .next sz) : sz.hold = s.hold := by
  grind [execIdent, State.hold, State.smbus_hold, State.smbReply_hold]

theorem execSmbState_hold (f : SmbFrame) (s : State) (sz : State) (hz : (execSmbState f s) = .next sz) : sz.hold = s.hold := by
  grind [execSmbState, State.hold, State.smbus_hold, State.smbReply_hold]

theorem execTempMax_hold (f : SmbFrame) (s : State) (sz : State) (hz : (execTempMax f s) = .next sz) : sz.hold = s.hold := by
  grind [execTempMax, State.hold, State.smbus_hold, State.smbReply_hold]

theorem execInputW_hold (f : SmbFrame) (s : State) (sz : State) (hz : (execInputW f s) = .next sz) : sz.hold = s.hold := by
  grind [execInputW, State.hold, State.smbus_hold, State.smbReply_hold]

theorem execHealth_hold (f : SmbFrame) (s : State) (sz : State) (hz : (execHealth f s) = .next sz) : sz.hold = s.hold := by
  grind [execHealth, State.hold, State.smbus_hold, State.smbNack_hold, State.smbReply_hold]

theorem execSmbArm_hold (f : SmbFrame) (s : State) (sz : State) (hz : (execSmbArm f s) = .next sz) : sz.hold = s.hold := by
  grind [execSmbArm, State.hold, State.smbus_hold, State.smbReply_hold, State.smbSetArm_hold, State.smbNack_hold]

theorem execWake_hold (f : SmbFrame) (s : State) (sz : State) (hz : (execWake f s) = .next sz) : sz.hold = s.hold := by
  grind [execWake, State.hold, State.smbus_hold, State.smbReply_hold, State.upBegin_hold, State.smbNack_hold]

theorem execSmbClockLowTimeout_hold (s : State) (sz : State) (hz : (execSmbClockLowTimeout s) = .next sz) : sz.hold = s.hold := by
  grind [execSmbClockLowTimeout, State.hold, State.bump_hold, State.smbSetArm_hold]

theorem execUartLineRx_hold (len : Nat) (errs : Nat) (reply : Nat) (a : Option Nat) (s : State) (sz : State) (hz : (execUartLineRx len errs reply a s) = .next sz) : sz.hold = s.hold := by
  grind [execUartLineRx, State.hold, State.bumpBy_hold, State.readSend_hold, State.console_hold]

theorem execMountGradient_hold (s : State) (sz : State) (hz : (execMountGradient s) = .next sz) : sz.hold = s.hold := by
  cases hz
  split
  · dsimp only
    split
    · exact State.advance_hold ..
    · rw [State.raise_hold, State.modHealth_hold, State.advance_hold]
  · rfl

theorem execShedRestore_hold (s : State) (sz : State) (hz : (execShedRestore s) = .next sz) : sz.hold = s.hold := by
  grind [execShedRestore, State.hold, State.advance_hold, State.modHealth_hold, State.shedUndo_hold, State.raise_hold]

theorem execEventRaised_hold (s : State) (sz : State) (hz : (execEventRaised s) = .next sz) : sz.hold = s.hold := by
  grind [execEventRaised, State.hold, State.takeEvent_hold]

theorem execLogRead_hold (m : Nat) (v : Word) (s : State) (sz : State) (hz : (execLogRead m v s) = .next sz) : sz.hold = s.hold := by
  grind [execLogRead, State.hold, State.regWriteBy_hold, State.logReadWrite_hold]

theorem execLogHeadWrite_hold (m : Nat) (v : Word) (s : State) (sz : State) (hz : (execLogHeadWrite m v s) = .next sz) : sz.hold = s.hold := by
  grind [execLogHeadWrite, State.hold, State.regWriteBy_hold, State.logHeadWrite_hold]

theorem execMsixPendClear_hold (m : Nat) (v : Word) (s : State) (sz : State) (hz : (execMsixPendClear m v s) = .next sz) : sz.hold = s.hold := by
  grind [execMsixPendClear, State.hold, State.regWriteBy_hold, State.clearPend_hold]

theorem execAlarmPendClear_hold (m : Nat) (v : Word) (s : State) (sz : State) (hz : (execAlarmPendClear m v s) = .next sz) : sz.hold = s.hold := by
  grind [execAlarmPendClear, State.hold, State.regWriteBy_hold, State.clearPend_hold]

theorem execGpioClr_hold (m : Nat) (v : Word) (s : State) (sz : State) (hz : (execGpioClr m v s) = .next sz) : sz.hold = s.hold := by
  grind [execGpioClr, State.hold, State.regWriteBy_hold, State.gpioClear_hold]

theorem execBaseplateHold_hold (t30 : Int) (t31 : Int) (s : State) (sz : State) (hz : (execBaseplateHold t30 t31 s) = .next sz) : sz.hold = s.hold := by
  grind [execBaseplateHold, State.hold, State.aonRaise_hold, State.modPwr_hold, State.upBegin_hold]

theorem execL1Resume_hold (l : Nat) (s : State) (sz : State) (hz : (execL1Resume l s) = .next sz) : sz.hold = s.hold := by
  grind [execL1Resume, State.hold, State.leaveL1_hold]

theorem execL2Wake_hold (l : Nat) (s : State) (sz : State) (hz : (execL2Wake l s) = .next sz) : sz.hold = s.hold := by
  grind [execL2Wake, State.hold, State.leaveL2_hold]

theorem execAsrcRange_hold (pair : Bool) (x : Nat) (s : State) (sz : State) (hz : (execAsrcRange pair x s) = .next sz) : sz.hold = s.hold := by
  grind [execAsrcRange, State.hold, State.raise_hold, State.audioMute_hold]

theorem execFlywheel_hold (i : Nat) (s : State) (sz : State) (hz : (execFlywheel i s) = .next sz) : sz.hold = s.hold := by
  grind [execFlywheel, State.hold, State.setFpOut_hold, State.modMadder_hold]

theorem execVbatLoss_hold (s : State) (sz : State) (hz : (execVbatLoss s) = .next sz) : sz.hold = s.hold := by
  grind [execVbatLoss, State.hold, State.vbatLoss_hold]

theorem execTwinBootImageRequest_hold (s : State) (sz : State) (hz : (execTwinBootImageRequest s) = .next sz) : sz.hold = s.hold := by
  grind [execTwinBootImageRequest, State.hold, State.emit_hold]

theorem execChallengeExpired_hold (bp : Bool) (s : State) (sz : State) (hz : (execChallengeExpired bp s) = .next sz) : sz.hold = s.hold := by
  grind [execChallengeExpired, State.hold, State.modSaff_hold, State.advance_hold, State.modTamper_hold]

end Sys2Proof.Machine
end

