-- ==== Sys2Proof/Laws/Kept.lean ====
section
/-! SUPPORT. The operations that write a memory: the queue and the ordering code stay, canonical memories stay canonical. -/

namespace Sys2Proof.Machine

theorem State.cxlPut_kept (s : State) (a : Nat) (bs : List Byte) : Kept s (State.cxlPut s a bs) := by
  refine ⟨rfl, fun h => ?_⟩
  simp only [Mems.wf, Bool.and_eq_true] at h ⊢
  simp only [State.cxlPut]
  obtain ⟨⟨⟨⟨h1, h2⟩, h3⟩, h4⟩, h5⟩ := h
  exact ⟨⟨⟨⟨h1, h2⟩, Memory.writeBytes_wf _ _ _ h3⟩, h4⟩, h5⟩

theorem State.capture_kept (s : State) (n : Nat) (y : Nat) : Kept s (State.capture s n y) := by
  grind [State.capture, State.hold, State.que, Kept, State.cxlPut_kept, forEach_hold, forEach_kept]

theorem State.activeLine_kept (s : State) (n : Nat) (l : Nat) (y : Nat) (late : Bool) (late0 : Bool) (late1 : Bool) : Kept s (State.activeLine s n l y late late0 late1) := by
  grind [State.activeLine, State.hold, State.que, Kept, State.pairFails_hold, State.capture_kept, State.modOut_hold, State.emit_hold, forEach_hold, forEach_kept]

theorem State.emptyStores_kept (s : State) : Kept s (State.emptyStores s) := by
  refine (hold_kept (forEach_hold _ _ _ (fun s c => State.delayFail_hold ..))).trans (?_ : Kept (s.forEach s.delayed State.delayFail) _)
  refine ⟨rfl, fun h => ?_⟩
  simp only [Mems.wf, Bool.and_eq_true] at h ⊢
  obtain ⟨⟨⟨⟨h1, h2⟩, h3⟩, h4⟩, h5⟩ := h
  exact ⟨⟨⟨⟨h1, h2⟩, Memory.nil_wf⟩, h4⟩, h5⟩

theorem State.discardMirror_kept (s : State) (live : Bool) : Kept s (State.discardMirror s live) := by
  refine ⟨rfl, fun h => ?_⟩
  simp only [Mems.wf, Bool.and_eq_true] at h ⊢
  simp only [State.discardMirror]
  obtain ⟨⟨⟨⟨h1, h2⟩, h3⟩, h4⟩, h5⟩ := h
  exact ⟨⟨⟨⟨Memory.nil_wf, h2⟩, h3⟩, h4⟩, h5⟩

theorem State.attachFails_kept (s : State) (cause : Nat) : Kept s (State.attachFails s cause) := by
  grind [State.attachFails, State.hold, State.que, Kept, State.discardMirror_kept, State.raise_hold, State.modTwin_hold, State.toSolo_hold, State.twinResult_hold]

theorem State.portExit_kept (s : State) (x : Nat) (link : Nat) : Kept s (State.portExit s x link) := by
  grind [State.portExit, State.hold, State.que, Kept, State.setCx_hold, State.emptyStores_kept, State.attachFails_kept]

theorem State.portLost_kept (s : State) (x : Nat) : Kept s (State.portLost s x) := by
  grind [State.portLost, State.hold, State.que, Kept, State.portExit_kept, State.raise_hold]

theorem State.keysGone_kept (s : State) (gone : Nat → Bool) : Kept s (State.keysGone s gone) := by
  grind [State.keysGone, State.hold, State.que, Kept, State.linkGone_hold, State.portLost_kept, forEach_hold, forEach_kept]

theorem State.zeroise_kept (s : State) : Kept s (State.zeroise s) := by grind [State.zeroise, State.hold, State.que, Kept, State.keysGone_kept]

theorem State.wipe_kept (s : State) (warm : Bool) : Kept s (State.wipe s warm) := by
  refine ⟨rfl, fun h => ?_⟩
  simp only [Mems.wf, Bool.and_eq_true] at h ⊢
  simp only [State.wipe]
  obtain ⟨⟨⟨⟨h1, h2⟩, h3⟩, h4⟩, h5⟩ := h
  exact ⟨⟨⟨⟨Memory.nil_wf, Memory.nil_wf⟩, Memory.nil_wf⟩, h4⟩, h5⟩

theorem State.resetTo_kept (s : State) (warm : Bool) (cause : Nat) : Kept s (State.resetTo s warm cause) := by
  grind [State.resetTo, State.hold, State.que, Kept, State.setRegN_hold, State.wipe_kept, State.bootLine_hold]

theorem State.coldReset_kept (s : State) (cause : Nat) : Kept s (State.coldReset s cause) := by
  grind [State.coldReset, State.hold, State.que, Kept, State.resetTo_kept]

theorem State.alarm_kept (s : State) (src : Nat) : Kept s (State.alarm s src) := by
  grind [State.alarm, State.hold, State.que, Kept, State.latchTamper_hold, State.zeroise_kept, State.tamperOp_hold, State.lockAtBoot_hold, State.raise_hold, State.coldReset_kept, State.holdTamper_hold]

theorem State.authEnds_kept (s : State) (p : AuthPeer) : Kept s (State.authEnds s p) := by
  grind [State.authEnds, State.hold, State.que, Kept, State.sendAuth_hold, State.attachFails_kept, State.postAlt_hold, State.modTwin_hold, State.copyAll_hold, State.idleSeqs_hold, State.standbyMute_hold, forEach_hold, forEach_kept]

theorem State.progPut_kept (s : State) (a : Nat) (bs : List Byte) : Kept s (State.progPut s a bs) := by
  refine ⟨rfl, fun h => ?_⟩
  simp only [Mems.wf, Bool.and_eq_true] at h ⊢
  simp only [State.progPut]
  obtain ⟨⟨⟨⟨h1, h2⟩, h3⟩, h4⟩, h5⟩ := h
  exact ⟨⟨⟨⟨Memory.writeBytes_wf _ _ _ h1, h2⟩, h3⟩, h4⟩, h5⟩

theorem State.unitWrite_kept (s : State) (u : Nat) (a : Nat) (bs : List Byte) : Kept s (State.unitWrite s u a bs) := by
  grind [State.unitWrite, State.hold, State.que, Kept, State.mirror_hold, State.progPut_kept]

theorem State.loadpPartial_kept (s : State) (e : Nat) : Kept s (State.loadpPartial s e) := by
  grind [State.loadpPartial, State.hold, State.que, Kept, State.freeNat_hold, State.modCe_hold, State.unitWrite_kept]

theorem State.sramPut_kept (s : State) (a : Nat) (bs : List Byte) : Kept s (State.sramPut s a bs) := by
  refine ⟨rfl, fun h => ?_⟩
  simp only [Mems.wf, Bool.and_eq_true] at h ⊢
  simp only [State.sramPut]
  obtain ⟨⟨⟨⟨h1, h2⟩, h3⟩, h4⟩, h5⟩ := h
  exact ⟨⟨⟨⟨h1, Memory.writeBytes_wf _ _ _ h2⟩, h3⟩, h4⟩, h5⟩

theorem State.complete_kept (s : State) (e : Nat) (cmd : Nat) (status : Nat) (tag : Word) (idx : Nat) (pc : Nat) (fault : Nat) (v1 : Word) (v2 : Word) (irq : Bool) (stop : Bool) : Kept s (State.complete s e cmd status tag idx pc fault v1 v2 irq stop) := by
  grind [State.complete, State.hold, State.que, Kept, State.sramPut_kept, State.setCe_hold, State.bump_hold, State.msix_hold, State.raise_hold, State.modCe_hold]

theorem State.endCommand_kept (s0 : State) (e : Nat) (status : Nat) (fault : Nat) : Kept s0 (State.endCommand s0 e status fault) := by
  grind [State.endCommand, State.hold, State.que, Kept, State.loadpPartial_kept, State.endGroup_hold, State.masterClear_hold, State.endXact_hold, State.setUnit_hold, State.modCe_hold, State.complete_kept]

theorem State.umberFault_kept (s : State) (u : Nat) (code : Nat) (pc : Nat) (w : Word) : Kept s (State.umberFault s u code pc w) := by
  grind [State.umberFault, State.hold, State.que, Kept, State.raise_hold, State.bump_hold, State.modUnit_hold, State.salvoFault_hold, State.discardOut_hold, State.modOut_hold, State.endCommand_kept]

theorem State.umber_kept (s : State) (u : Nat) (w : Word) (held : Bool) (reads : List VReg) (body : State → Nat → Except Nat State) (hbody : ∀ s pc t, body s pc = .ok t → Kept s t) : Kept s (State.umber s u w held reads body) := by
  unfold State.umber
  refine kept_ite (Kept.refl s) ?_
  extract_lets s1 s2 pc
  have h2 : s2.hold = s.hold := by unfold s2 s1; rw [State.modUnit_hold, State.advance_hold]
  refine (hold_kept h2).trans (kept_ite ?_ (kept_ite (State.umberFault_kept ..) ?_))
  · exact (hold_kept (State.freeNat_hold s2 30)).trans (State.umberFault_kept ..)
  · split
    · next h => exact (hold_kept (State.modUnit_hold ..)).trans (hbody _ _ _ h)
    · exact State.umberFault_kept ..

theorem State.bareWord_kept (s : State) (u : Nat) (w : Word) : Kept s (State.bareWord s u w) := by
  grind [State.bareWord, State.hold, State.que, Kept, State.umber_kept]

theorem State.beginCommand_kept (s : State) (e : Nat) : Kept s (State.beginCommand s e) := by
  grind [State.beginCommand, State.hold, State.que, Kept, State.unitWrite_kept, State.setCe_hold, State.modUnit_hold]

theorem State.nvKeep_kept (s : State) : Kept s (State.nvKeep s) := by
  refine ⟨rfl, fun h => ?_⟩
  simp only [Mems.wf, Bool.and_eq_true] at h ⊢
  simp only [State.nvKeep]
  obtain ⟨⟨⟨⟨h1, h2⟩, h3⟩, h4⟩, h5⟩ := h
  exact ⟨⟨⟨⟨h1, h2⟩, h3⟩, h4⟩, h4⟩

theorem State.nvPut_kept (s : State) (a : Nat) (bs : List Byte) : Kept s (State.nvPut s a bs) := by
  refine ⟨rfl, fun h => ?_⟩
  simp only [Mems.wf, Bool.and_eq_true] at h ⊢
  simp only [State.nvPut]
  obtain ⟨⟨⟨⟨h1, h2⟩, h3⟩, h4⟩, h5⟩ := h
  exact ⟨⟨⟨⟨h1, h2⟩, h3⟩, Memory.writeBytes_wf _ _ _ h4⟩, h5⟩

theorem State.nvWritePage_kept (s : State) (worn : Bool) (p : Nat) (img : List Byte) (bad : Nat) : Kept s (State.nvWritePage s worn p img bad) := by
  grind [State.nvWritePage, State.hold, State.que, Kept, State.setSaff_hold, State.bump_hold, State.nvPut_kept, State.nvSpareCheck_hold, State.setCtr_hold]

theorem State.landPiece_kept (s : State) (bad : Nat) : Kept s (State.landPiece s bad) := by
  unfold State.landPiece
  split
  · exact Kept.refl s
  · extract_lets x s1 s2 s3
    have h1 : Kept s s1 := (hold_kept (State.setSaff_hold ..)).trans (State.nvKeep_kept _)
    have h2 : Kept s1 s2 := foldl_kept _ _ _ (fun s q => State.nvWritePage_kept ..)
    refine (h1.trans h2).trans (hold_kept ?_)
    rw [State.pieceEnd_hold]
    unfold s3
    rw [State.setRegN_hold, State.bump_hold]

theorem State.landAll_kept (a0 : Nat) (a1 : State) : Kept a1 (State.landAll a0 a1) := by
  induction a0 generalizing a1 with
  | zero => exact Kept.refl a1
  | succ k ih =>
    unfold State.landAll
    exact kept_ite (Kept.refl a1) ((State.landPiece_kept ..).trans (ih _))

theorem State.nvDrain_kept (s : State) : Kept s (State.nvDrain s) := by grind [State.nvDrain, State.hold, State.que, Kept, State.landAll_kept]

theorem State.bpSubmit_kept (s : State) (m : Nat) : Kept s (State.bpSubmit s m).1 := by
  grind [State.bpSubmit, State.hold, State.que, Kept, State.modSaff_hold, State.postPiece_hold, State.postGather_hold, State.nvDrain_kept, State.setRegN_hold, State.raise_hold]

theorem State.bulkWrite_kept (s : State) (a : Nat) (bs : List Byte) : Kept s (State.bulkWrite s a bs) := by
  grind [State.bulkWrite, State.hold, State.que, Kept, State.sramPut_kept, State.cxlPut_kept]

theorem State.rejectCommand_kept (s : State) (e : Nat) (status : Nat) (nblk : Nat) : Kept s (State.rejectCommand s e status nblk) := by
  grind [State.rejectCommand, State.hold, State.que, Kept, State.setCe_hold, State.bump_hold, State.complete_kept]

theorem State.settleHead_kept (s : State) (e : Nat) : Kept s (State.settleHead s e) := by
  grind [State.settleHead, State.hold, State.que, Kept, State.modCe_hold, State.rejectCommand_kept]

theorem State.onCommand_kept (s : State) (e : Nat) (kind : Nat) (run : State → State) (hrun : Kept s (run s)) : Kept s (State.onCommand s e kind run) := by
  unfold State.onCommand
  refine kept_ite (Kept.refl s) ?_
  dsimp only
  split
  · exact kept_ite hrun (Kept.refl s)
  · exact State.settleHead_kept ..

theorem State.cmdCall_kept (s : State) (e : Nat) : Kept s (State.cmdCall s e) := by
  grind [State.cmdCall, State.hold, State.que, Kept, State.onCommand_kept, State.modUnit_hold, State.beginCommand_kept]

theorem State.cmdInline_kept (s : State) (e : Nat) : Kept s (State.cmdInline s e) := by
  grind [State.cmdInline, State.hold, State.que, Kept, State.onCommand_kept, State.unitWrite_kept, State.modUnit_hold, State.beginCommand_kept]

theorem State.plainCommand_kept (s : State) (e : Nat) : Kept s (State.plainCommand s e) := by
  grind [State.plainCommand, State.hold, State.que, Kept, State.setCe_hold, State.complete_kept]

theorem State.cmdLoadc_kept (s : State) (e : Nat) : Kept s (State.cmdLoadc s e) := by
  grind [State.cmdLoadc, State.hold, State.que, Kept, State.onCommand_kept, State.plainCommand_kept, State.unitWrite_kept]

theorem State.cmdNop_kept (s : State) (e : Nat) : Kept s (State.cmdNop s e) := by
  grind [State.cmdNop, State.hold, State.que, Kept, State.onCommand_kept, State.plainCommand_kept]

theorem State.powerOff_kept (s : State) (state : Nat) : Kept s (State.powerOff s state) := by
  grind [State.powerOff, State.hold, State.que, Kept, State.wipe_kept]

theorem State.railsFall_kept (s : State) : Kept s (State.railsFall s) := by grind [State.railsFall, State.hold, State.que, Kept, State.powerOff_kept]

theorem State.thermalTrip_kept (s : State) (mon : Nat) : Kept s (State.thermalTrip s mon) := by
  grind [State.thermalTrip, State.hold, State.que, Kept, State.bump_hold, State.aonRaise_hold, State.modPwr_hold, State.shutBegin_hold, State.railsFall_kept]

theorem State.tripped_kept (s : State) (m : Nat) : Kept s (State.tripped s m) := by
  grind [State.tripped, State.hold, State.que, Kept, State.thermalTrip_kept, State.railFails_hold]

theorem State.compare_kept (s : State) (m : Nat) : Kept s (State.compare s m) := by
  grind [State.compare, State.hold, State.que, Kept, State.setMon_hold, State.raise_hold, State.tripped_kept]

theorem State.cqHeadWrite_kept (s : State) (e : Nat) (w : Nat) : Kept s (State.cqHeadWrite s e w).1 := by
  grind [State.cqHeadWrite, State.hold, State.que, Kept, State.settleHead_kept, State.setCe_hold]

theorem State.demote_kept (s : State) (epoch : Nat) : Kept s (State.demote s epoch) := by
  unfold State.demote
  extract_lets s1 s2 s3 s4
  have h2 : s2.hold = s.hold := (forEach_hold _ _ _ (fun s n => State.discardOut_hold ..)).trans (State.idleSeqs_hold ..)
  have h3 : Kept s2 s3 := by
    refine forEach_kept _ _ _ (fun s e => ?_)
    exact (kept_ite (y := s) (State.endCommand_kept ..) (Kept.refl s)).trans (hold_kept (State.endGroup_hold ..))
  refine ((hold_kept h2).trans h3).trans (hold_kept ?_)
  rw [State.rolesFollow_hold, State.switchStamp_hold]
  unfold s4
  rw [State.raise_hold, State.modTwin_hold]

theorem State.domGone_kept (s : State) (d : Nat) : Kept s (State.domGone s d) := by
  grind [State.domGone, State.hold, State.que, Kept, State.resetPortLanes_hold, State.stopLane_hold, State.degrade_hold, State.modLink_hold, State.poolFail_hold, State.portLost_kept, forEach_hold, forEach_kept]

theorem State.doorbell_kept (s : State) (e : Nat) (w : Nat) : Kept s (State.doorbell s e w).1 := by
  grind [State.doorbell, State.hold, State.que, Kept, State.settleHead_kept, State.setCe_hold]

theorem State.monSample_kept (s : State) (m : Nat) (v : Int) : Kept s (State.monSample s m v) := by
  grind [State.monSample, State.hold, State.que, Kept, State.setReg_hold, State.setMon_hold, State.compare_kept, State.bump_hold, State.raise_hold]

theorem State.healthTick_kept (s : State) (i : TickInfo) : Kept s (State.healthTick s i) := by
  grind [State.healthTick, State.hold, State.que, Kept, State.monSample_kept, State.lifeTick_hold, State.mountTick_hold, State.deratingTick_hold, State.coldTick_hold, State.avsTick_hold, State.calmTick_hold, State.loadTick_hold, forEach_hold, forEach_kept]

theorem State.heartbeat_kept (s : State) (h : Heartbeat) : Kept s (State.heartbeat s h) := by
  grind [State.heartbeat, State.hold, State.que, Kept, State.modTwin_hold, State.planSwitch_hold, State.demote_kept]

theorem State.memWrite_kept (s : State) (a : Nat) (bs : List Byte) (sz : State × Bool) (hz : (State.memWrite s a bs) = some sz) : Kept s sz.1 := by
  unfold State.memWrite at hz
  split at hz
  · cases hz; exact kept_ite (Kept.refl s) (State.sramPut_kept ..)
  · split at hz
    · split at hz
      · cases hz; exact State.cxlPut_kept ..
      · cases hz
    · split at hz
      · cases hz; exact State.unitWrite_kept ..
      · cases hz; exact Kept.refl s

theorem State.warmReset_kept (s : State) (cause : Nat) : Kept s (State.warmReset s cause) := by
  grind [State.warmReset, State.hold, State.que, Kept, State.resetTo_kept]

theorem State.resetWrite_kept (s : State) (v : Word) : Kept s (State.resetWrite s v).1 := by
  grind [State.resetWrite, State.hold, State.que, Kept, State.coldReset_kept, State.warmReset_kept]

theorem State.rbRaise_kept (s : State) : Kept s (State.rbRaise s) := by
  grind [State.rbRaise, State.hold, State.que, Kept, State.nvDrain_kept, State.postAlt_hold, State.modBoot_hold]

theorem State.rbCommit_kept (s : State) (v : Word) : Kept s (State.rbCommit s v).1 := by
  grind [State.rbCommit, State.hold, State.que, Kept, State.rbRaise_kept, State.rbBurn_hold]

theorem State.writeGlobal_kept (s : State) (h : RegHit) (a : Nat) (v : Word) : Kept s (State.writeGlobal s h a v).1 := by
  grind [State.writeGlobal, State.hold, State.que, Kept, State.setCtr_hold, State.resetWrite_kept, State.bootPush_hold, State.modBoot_hold, State.setRegN_hold, State.postBoot_hold, State.rbCommit_kept, State.attestReq_hold, State.storeReg_hold]

theorem State.shutAsk_kept (s : State) (cause : Nat) : Kept s (State.shutAsk s cause) := by
  grind [State.shutAsk, State.hold, State.que, Kept, State.shutBegin_hold, State.railsFall_kept]

theorem State.standbyEnter_kept (s : State) : Kept s (State.standbyEnter s) := by
  unfold State.standbyEnter
  extract_lets runs scans s1 s2
  refine (forEach_kept s (List.range 4) (fun s e => if (s.ce e).exec.isSome then s.endCommand e stAborted else s) (fun s e => kept_ite (State.endCommand_kept ..) (Kept.refl s))).trans (hold_kept ?_)
  rw [State.modPwr_hold]
  rfl

theorem State.stateChange_kept (s : State) (target : Nat) : Kept s (State.stateChange s target) := by
  grind [State.stateChange, State.hold, State.que, Kept, State.shutAsk_kept, State.modPwr_hold, State.standbyEnter_kept]

theorem State.pwrCtrlWrite_kept (s : State) (v : Word) : Kept s (State.pwrCtrlWrite s v).1 := by
  grind [State.pwrCtrlWrite, State.hold, State.que, Kept, State.stateChange_kept, State.setReg_hold]

theorem State.writePwr_kept (s : State) (h : RegHit) (a : Nat) (v : Word) : Kept s (State.writePwr s h a v).1 := by
  grind [State.writePwr, State.hold, State.que, Kept, State.pwrCtrlWrite_kept, State.pdReqWrite_hold, State.pdFaultWrite_hold, State.storeReg_hold]

theorem State.woadErase_kept (s : State) (i : Nat) : Kept s (State.woadErase s i) := by
  grind [State.woadErase, State.hold, State.que, Kept, State.woadDone_hold, State.setSlot_hold, State.keysGone_kept, State.woadStart_hold]

theorem State.writeWoad_kept (s : State) (m : Nat) (h : RegHit) (a : Nat) (v : Word) : Kept s (State.writeWoad s m h a v).1 := by
  have e : ∀ (s : State) (m : Nat) (v : Word) (op : Nat) (run : State → Nat → State), (∀ s i, Kept s (run s i)) → Kept s (s.woadCmd m v op run).1 := by
    intro s m v op run h
    unfold State.woadCmd
    split
    · exact Kept.refl s
    · split
      · exact hold_kept (State.woadDone_hold ..)
      · split
        · exact hold_kept (State.woadDone_hold ..)
        · exact h _ _
  unfold State.writeWoad
  split
  · exact Kept.refl s
  · split
    · split
      · dsimp only
        split
        · exact Kept.refl s
        · exact e _ _ _ _ _ (fun s i => hold_kept (State.stage_hold ..))
      · exact e _ _ _ _ _ (fun s i => hold_kept (State.woadVerify_hold ..))
      · exact e _ _ _ _ _ (fun s i => hold_kept (State.woadCommit_hold ..))
      · exact e _ _ _ _ _ (fun s i => hold_kept (State.woadAbort_hold ..))
      · exact e _ _ _ _ _ (fun s i => State.woadErase_kept ..)
      · exact e _ _ _ _ _ (fun s i => hold_kept (State.woadAttr_hold ..))
      · exact e _ _ _ _ _ (fun s i => hold_kept (State.woadMake_hold ..))
      · exact e _ _ _ _ _ (fun s i => hold_kept (State.woadMake_hold ..))
      · exact Kept.refl s
    · split
      · exact hold_kept (State.provClose_hold ..)
      · split
        · have e1 := State.storeReg_hold s h a v true
          dsimp only
          generalize s.storeReg h a v = r at e1 ⊢
          obtain ⟨t, ok⟩ := r
          exact kept_ite (hold_kept ((State.sealKeyChange_hold ..).trans e1)) (hold_kept e1)
        · exact hold_kept (State.storeReg_hold ..)

theorem State.wrData_kept (s : State) (m : Nat) (v : Word) : Kept s (State.wrData s m v).1 := by
  grind [State.wrData, State.hold, State.que, Kept, State.setRegN_hold, State.nvDrain_kept, State.postGather_hold, State.modSaff_hold]

theorem State.nvCommitWrite_kept (s : State) (m : Nat) (v : Word) : Kept s (State.nvCommitWrite s m v).1 := by
  grind [State.nvCommitWrite, State.hold, State.que, Kept, State.nvDrain_kept, State.setRegN_hold, State.postGather_hold]

theorem State.writeSaffron_kept (s : State) (m : Nat) (h : RegHit) (a : Nat) (v : Word) : Kept s (State.writeSaffron s m h a v).1 := by
  grind [State.writeSaffron, State.hold, State.que, Kept, State.storeReg_hold, State.wrData_kept, State.nvCommitWrite_kept, State.bpSubmit_kept, State.bpChal_hold, State.recCmd_hold]

theorem State.unlockSubmit_kept (s : State) (still : Nat) : Kept s (State.unlockSubmit s still) := by
  grind [State.unlockSubmit, State.hold, State.que, Kept, State.modTamper_hold, State.raise_hold, State.bump_hold, State.setReg_hold, State.coldReset_kept]

theorem State.unlockCtrl_kept (s : State) (v : Word) (still : Nat) : Kept s (State.unlockCtrl s v still).1 := by
  grind [State.unlockCtrl, State.hold, State.que, Kept, State.unlockSubmit_kept, State.unlockChal_hold]

theorem State.writeTamper_kept (s : State) (h : RegHit) (a : Nat) (v : Word) : Kept s (State.writeTamper s h a v).1 := by
  grind [State.writeTamper, State.hold, State.que, Kept, State.armWrite_hold, State.tamperCtrlWrite_hold, State.unlockSlotWrite_hold, State.unlockCtrl_kept, State.storeReg_hold]

theorem State.seqHalt_kept (s : State) (u : Nat) (sz : State) (hz : (State.seqHalt s u) = some sz) : Kept s sz := by
  grind [State.seqHalt, State.hold, State.que, Kept, State.setUnit_hold, State.endCommand_kept]

theorem State.seqCtrlWrite_kept (s : State) (u : Nat) (v : Word) : Kept s (State.seqCtrlWrite s u v).1 := by
  have e : ∀ (o : Option State) (b : Bool) (f : State → Option State) (z : State), (∀ t, o = some t → Kept s t) → (∀ t z, f t = some z → Kept t z) →
      (if b then o.bind f else o) = some z → Kept s z := by
    intro o b f z ho hf h
    split at h
    · cases o with
      | none => cases h
      | some t => exact (ho t rfl).trans (hf t z h)
    · exact ho z h
  unfold State.seqCtrlWrite
  refine apply_ite_kept (Kept.refl s) ?_
  extract_lets s1 step r1 r2 r3 r4
  have h1 : ∀ t, r1 = some t → Kept s t := fun t h => e _ _ _ t (fun t h => by cases h; exact hold_kept (State.setReg_hold ..)) (fun t z h => hold_kept (State.seqStart_hold _ _ _ _ h)) h
  have h2 : ∀ t, r2 = some t → Kept s t := fun t h => e _ _ _ t h1 (fun t z h => hold_kept (State.seqStart_hold _ _ _ _ h)) h
  have h3 : ∀ t, r3 = some t → Kept s t := fun t h => e _ _ _ t h2 (fun t z h => State.seqHalt_kept _ _ _ h) h
  have h4 : ∀ t, r4 = some t → Kept s t := fun t h => e _ _ _ t h3 (fun t z h => by cases h; exact hold_kept (State.swapDisarm_hold ..)) h
  clear_value r4
  cases r4 with
  | some t => exact h4 t rfl
  | none => exact Kept.refl s

theorem State.writeSeq_kept (s : State) (h : RegHit) (a : Nat) (v : Word) : Kept s (State.writeSeq s h a v).1 := by
  grind [State.writeSeq, State.hold, State.que, Kept, State.seqCtrlWrite_kept, State.kick_hold, State.storeReg_hold, State.modUnit_hold]

theorem State.sramClear_kept (s : State) (a : Nat) (n : Nat) : Kept s (State.sramClear s a n) := by
  refine ⟨rfl, fun h => ?_⟩
  simp only [Mems.wf, Bool.and_eq_true] at h ⊢
  simp only [State.sramClear]
  obtain ⟨⟨⟨⟨h1, h2⟩, h3⟩, h4⟩, h5⟩ := h
  exact ⟨⟨⟨⟨h1, Memory.filter_wf _ _ h2⟩, h3⟩, h4⟩, h5⟩

theorem State.qCtrlWrite_kept (s : State) (e : Nat) (v : Word) : Kept s (State.qCtrlWrite s e v).1 := by
  grind [State.qCtrlWrite, State.hold, State.que, Kept, State.setReg_hold, State.sramClear_kept, State.setCe_hold]

theorem State.qResume_kept (s : State) (e : Nat) (v : Word) : Kept s (State.qResume s e v).1 := by
  grind [State.qResume, State.hold, State.que, Kept, State.settleHead_kept, State.setCe_hold]

theorem State.writeCeq_kept (s : State) (h : RegHit) (a : Nat) (v : Word) : Kept s (State.writeCeq s h a v).1 := by
  grind [State.writeCeq, State.hold, State.que, Kept, State.qCtrlWrite_kept, State.doorbell_kept, State.cqHeadWrite_kept, State.qResume_kept, State.storeReg_hold]

theorem State.obEnd_kept (s : State) (j : Nat) (status : Nat) (consumed : Nat) (produced : Nat) (used : List (ChainBuf × Nat)) (stream : Option ObStream) : Kept s (State.obEnd s j status consumed produced used stream) := by
  unfold State.obEnd
  extract_lets ring ws at_ ctrl s1 s2 s3 s4 s5
  have h1 : Kept s s1 := foldl_kept _ _ _ (fun s p => State.bulkWrite_kept ..)
  have h2 : Kept s1 s2 := State.bulkWrite_kept ..
  have h4 : s4.hold = s2.hold := by unfold s4 s3; rw [State.bump_hold, State.setRegN_hold, State.setOb_hold]
  have h5 : Kept s4 s5 := by
    unfold s5
    refine kept_ite (Kept.refl _) (hold_kept ?_)
    rw [State.raise_hold, State.bump_hold]
  exact ((((h1.trans h2).trans (hold_kept h4)).trans h5).trans (kept_ite (hold_kept (State.msix_hold ..)) (Kept.refl _)))

theorem State.obNext_kept (j : Nat) (a1 : Nat) (a2 : State) : Kept a2 (State.obNext j a1 a2) := by
  induction a1 generalizing a2 with
  | zero => exact Kept.refl a2
  | succ k ih =>
    unfold State.obNext
    refine kept_ite (Kept.refl a2) ?_
    dsimp only
    refine kept_ite ((State.obEnd_kept ..).trans (ih _)) (kept_ite ((State.obEnd_kept ..).trans (ih _)) ?_)
    split
    · exact (State.obEnd_kept ..).trans (ih _)
    · exact hold_kept (State.setOb_hold ..)

theorem State.obServe_kept (s : State) (j : Nat) : Kept s (State.obServe s j) := by grind [State.obServe, State.hold, State.que, Kept, State.obNext_kept]

theorem State.obCtrlWrite_kept (s : State) (m : Nat) (j : Nat) (v : Word) : Kept s (State.obCtrlWrite s m j v).1 := by
  grind [State.obCtrlWrite, State.hold, State.que, Kept, State.obServe_kept, State.setReg_hold]

theorem State.obTailWrite_kept (s : State) (m : Nat) (j : Nat) (v : Word) : Kept s (State.obTailWrite s m j v).1 := by
  grind [State.obTailWrite, State.hold, State.que, Kept, State.obServe_kept, State.setRegN_hold]

theorem State.writeOchre_kept (s : State) (m : Nat) (h : RegHit) (a : Nat) (v : Word) : Kept s (State.writeOchre s m h a v).1 := by
  grind [State.writeOchre, State.hold, State.que, Kept, State.obCtrlWrite_kept, State.obTailWrite_kept, State.storeReg_hold]

theorem State.writeHit_kept (s : State) (m : Nat) (h : RegHit) (a : Nat) (v : Word) : Kept s (State.writeHit s m h a v).1 := by
  grind [State.writeHit, State.hold, State.que, Kept, State.writeStk_hold, State.writeGlobal_kept, State.writePwr_kept, State.writeHlth_hold, State.writeMadder_hold, State.writeTgrp_hold, State.writeTile_hold, State.writeWoad_kept, State.writeSaffron_kept, State.writeXbar_hold, State.writeTamper_kept, State.writeSeq_kept, State.writeCeq_kept, State.writeEvent_hold, State.writePort_hold, State.writeStack_hold, State.writeOut_hold, State.writeOchre_kept, State.writeAudio_hold, State.writeCxl_hold, State.writeTwin_hold, State.writeFlow_hold, State.writeMsix_hold]

theorem State.regWriteBy_kept (s : State) (m : Nat) (a : Nat) (r : State × Bool) (hr : Kept s r.1) : Kept s (State.regWriteBy s m a r) := by
  unfold State.regWriteBy
  refine kept_ite (Kept.refl s) ?_
  split
  · refine kept_ite (hr.trans (hold_kept ?_)) (hold_kept ?_)
    · rw [State.mirrorReg_hold, State.xbarGrant_hold]
    · rw [State.writeReject_hold, State.xbarGrant_hold]
  · exact hold_kept (by rw [State.writeReject_hold, State.xbarGrant_hold])
  · exact hold_kept (State.xbarErr_hold ..)
  · exact Kept.refl s
  · exact Kept.refl s

theorem State.writeBy_kept (s : State) (m : Nat) (a : Nat) (v : Word) : Kept s (State.writeBy s m a v).2 := by
  unfold State.writeBy
  split
  · split
    · exact State.regWriteBy_kept _ _ _ _ (State.writeHit_kept ..)
    · split
      · next h => exact (State.memWrite_kept _ _ _ _ h).trans (hold_kept (State.xbarGrant_hold ..))
      · exact hold_kept (by rw [State.writeReject_hold, State.xbarGrant_hold])
      · exact hold_kept (by rw [State.xbarErr_hold, State.xbarGrant_hold])
  · exact State.regWriteBy_kept _ _ _ _ (Kept.refl s)
  · exact State.regWriteBy_kept _ _ _ _ (Kept.refl s)
  · exact Kept.refl s
  · exact Kept.refl s

theorem State.takeBeats_kept (s : State) (m : Nat) (x : XbarXact) : Kept s (State.takeBeats s m x) := by
  unfold State.takeBeats
  refine kept_ite (Kept.refl s) ?_
  extract_lets s1 beats
  have h1 : Kept s s1 := hold_kept (State.xbarGrant_hold ..)
  refine h1.trans (kept_ite (forEach_kept _ _ _ (fun s q => ?_)) ?_)
  · split
    · next h => exact State.memWrite_kept _ _ _ _ h
    · exact Kept.refl s
  · clear_value beats
    cases beats with
    | cons => exact State.writeBy_kept ..
    | nil => exact Kept.refl _

theorem State.inProgress_kept (s : State) (m : Nat) (x : XbarXact) : Kept s (State.inProgress s m x) := by
  grind [State.inProgress, State.hold, State.que, Kept, State.takeBeats_kept]

theorem State.landBytes_kept (s : State) (f : Nat) (bs : List Byte) (cut : Bool) : Kept s (State.landBytes s f bs cut) := by
  grind [State.landBytes, State.hold, State.que, Kept, State.modFlow_hold, State.cxlPut_kept]

theorem State.writePair_kept (s : State) (x : Flow) (y : Nat) : Kept s (State.writePair s x y) := by
  grind [State.writePair, State.hold, State.que, Kept, State.cxlPut_kept]

theorem State.pixelsIn_kept (s : State) (f : Nat) (y : Nat) (start : Nat) (gs : List (List Nat)) : Kept s (State.pixelsIn s f y start gs) := by
  grind [State.pixelsIn, State.hold, State.que, Kept, State.modFlow_hold, State.writePair_kept]

theorem State.packetIn_kept (s : State) (n : Nat) (f : Nat) (p : PacketInfo) : Kept s (State.packetIn s n f p) := by
  unfold State.packetIn
  extract_lets x s1 s2
  have h1 : s1.hold = s.hold := by
    unfold s1
    grind [State.modPort_hold, State.lineSeen_hold]
  have h2 : Kept s s2 := (hold_kept h1).trans (forEach_kept _ _ _ (fun s q => State.pixelsIn_kept ..))
  clear_value s2 x
  refine h2.trans (hold_kept ?_)
  grind [State.emit_hold, State.ancIn_hold, State.bump_hold, forEach_hold, State.setIc_hold, State.audioMute_hold, State.raise_hold, State.modFlow_hold]

theorem State.mergeIn_kept (s : State) (n : Nat) (f : Nat) (p : PacketInfo) : Kept s (State.mergeIn s n f p) := by
  grind [State.mergeIn, State.hold, State.que, Kept, State.bump_hold, State.packetIn_kept, State.setFlow_hold]

theorem State.switchTick_kept (s : State) : Kept s (State.switchTick s) := by
  grind [State.switchTick, State.hold, State.que, Kept, State.modPwr_hold, State.modOut_hold, State.domGone_kept, State.switchCount_hold, State.changeDone_hold, forEach_hold, forEach_kept]

theorem State.mgmtTick_kept (s : State) (i : TickInfo) : Kept s (State.mgmtTick s i) := by
  grind [State.mgmtTick, State.hold, State.que, Kept, State.timeTick_hold, State.twinTick_hold, State.woadTick_hold, State.idleTick_hold, State.switchTick_kept, State.healthTick_kept, State.madderTick_hold]

theorem State.mirrorKey_kept (s : State) (i : Nat) (attr : Word) (kcv : Nat) (wrapped : List Byte) (pub : List Byte) : Kept s (State.mirrorKey s i attr kcv wrapped pub) := by
  grind [State.mirrorKey, State.hold, State.que, Kept, State.keyNext_hold, State.sealKeyChange_hold, State.setSlot_hold, State.nvDrain_kept, State.postKey_hold]

theorem State.mirrorErase_kept (s : State) (i : Nat) : Kept s (State.mirrorErase s i) := by
  grind [State.mirrorErase, State.hold, State.que, Kept, State.setSlot_hold, State.nvDrain_kept, State.postKey_hold, State.keysGone_kept]

theorem State.mirrorApply_kept (s : State) (frame : Nat) (a2 : MirrorOp) : Kept s (State.mirrorApply s frame a2) := by
  have ef : ∀ (s : State) (xs : List Nat) (oc k : Nat), (s.forEach xs (fun s i => s.modOc (oc + i) (fun x => { x with pend := x.pend.map (fun q => { q with swLeft := k }) }))).hold = s.hold :=
    fun s xs oc k => forEach_hold _ _ _ (fun s i => State.modOc_hold ..)
  cases a2
  case take => exact hold_kept ((State.lateIf_hold ..).trans ((State.modOut_hold ..).trans (State.commitTake_hold ..)))
  case fmt => exact hold_kept ((State.lateIf_hold ..).trans ((State.modOut_hold ..).trans (State.commitFmt_hold ..)))
  case tset => exact hold_kept ((State.lateIf_hold ..).trans (State.commitTset_hold ..))
  case flip => exact hold_kept ((State.lateIf_hold ..).trans (State.commitFlip_hold ..))
  case anc => exact hold_kept ((State.lateIf_hold ..).trans (State.commitAnc_hold ..))
  case amap =>
    unfold State.mirrorApply
    dsimp only
    exact kept_ite (hold_kept (State.commitAmap_hold ..)) (hold_kept ((State.lateIf_hold ..).trans ((ef ..).trans (State.commitAmap_hold ..))))
  case axf => exact hold_kept (State.commitAxf_hold ..)
  case bind => exact hold_kept (State.mirrorBind_hold ..)
  case release f =>
    unfold State.mirrorApply
    dsimp only
    split
    · next h => exact hold_kept (State.release_hold _ _ _ h)
    · exact Kept.refl s
  case flowFmt => exact kept_ite (hold_kept (State.modFlow_hold ..)) (Kept.refl _)
  case lut => exact hold_kept (State.modOut_hold ..)
  case reg => exact hold_kept (State.setReg_hold ..)
  case prog => exact State.progPut_kept ..
  case record => exact (hold_kept (State.postAlt_hold ..)).trans (State.nvDrain_kept ..)
  case key => exact kept_ite (State.mirrorKey_kept ..) (Kept.refl _)
  case group => exact hold_kept (State.setGroup_hold ..)
  case part => exact hold_kept (State.mirrorSalvoPart_hold ..)
  case salvo => exact hold_kept (State.mirrorSalvoMaster_hold ..)
  case refSelect c =>
    unfold State.mirrorApply
    dsimp only
    exact kept_ite (hold_kept ((State.chooseCand_hold ..).trans (State.modTwin_hold ..))) (hold_kept (State.modTwin_hold ..))
  case keyErase => exact kept_ite (State.mirrorErase_kept ..) (Kept.refl _)

theorem State.nvBack_kept (s : State) : Kept s (State.nvBack s) := by
  refine ⟨rfl, fun h => ?_⟩
  simp only [Mems.wf, Bool.and_eq_true] at h ⊢
  simp only [State.nvBack]
  obtain ⟨⟨⟨⟨h1, h2⟩, h3⟩, h4⟩, h5⟩ := h
  exact ⟨⟨⟨⟨h1, h2⟩, h3⟩, h5⟩, h5⟩

theorem State.obUnits_kept (a0 : Nat) (a1 : Bool) (a2 : State) (a3 : ObStream) (a4 : Dest) : Kept a2 (State.obUnits a0 a1 a2 a3 a4).1 := by
  induction a0 generalizing a1 a2 a3 a4 with
  | zero => exact Kept.refl a2
  | succ k ih =>
    unfold State.obUnits
    split
    · exact Kept.refl a2
    · exact Kept.refl a2
    · split
      · exact ih ..
      · split
        · exact Kept.refl a2
        · exact (State.bulkWrite_kept ..).trans (ih ..)

theorem State.obRun_kept (s : State) (j : Nat) (limit : Nat) (late : Nat) : Kept s (State.obRun s j limit late) := by
  grind [State.obRun, State.hold, State.que, Kept, State.obServe_kept, State.obEnd_kept, State.obUnits_kept, State.bulkWrite_kept]

theorem State.obAbort_kept (s : State) (j : Nat) (units : Nat) : Kept s (State.obAbort s j units) := by
  grind [State.obAbort, State.hold, State.que, Kept, State.obRun_kept]

theorem State.obFinish_kept (s : State) (j : Nat) (op : Nat) : Kept s (State.obFinish s j op) := by
  grind [State.obFinish, State.hold, State.que, Kept, State.obRun_kept]

theorem State.progScatter_kept (s : State) (addrs : List Nat) (bs : List Byte) : Kept s (State.progScatter s addrs bs) := by
  refine ⟨rfl, fun h => ?_⟩
  simp only [Mems.wf, Bool.and_eq_true] at h ⊢
  simp only [State.progScatter]
  obtain ⟨⟨⟨⟨h1, h2⟩, h3⟩, h4⟩, h5⟩ := h
  exact ⟨⟨⟨⟨Memory.scatter_wf _ _ h1, h2⟩, h3⟩, h4⟩, h5⟩

theorem State.relayout_kept (s : State) : Kept s (State.relayout s) := by
  unfold State.relayout
  extract_lets s1 s2 s3 s4 s5 s6 s7 a1 a0 a2 a3 s8
  have h1 : s1.hold = s.hold := forEach_hold _ _ _ (fun s n => (State.planeOff_hold ..).trans (State.planeOff_hold ..))
  have h2 : s2.hold = s1.hold := rfl
  have h3 : s3.hold = s2.hold := forEach_hold _ _ _ (fun s n => State.lutReadFail_hold ..)
  have h4 : Kept s3 s4 := forEach_kept _ _ _ (fun s n => State.obAbort_kept ..)
  have h5 : s5.hold = s4.hold := by
    unfold s5
    clear_value s4
    rfl
  have h6 : s6.hold = s5.hold := State.shedTakes_hold s5.chargedTakes.length s5
  have h7 : s7.hold = s6.hold := State.shedFlows_hold s6.flows.length s6
  have g1 : a1.hold = s7.hold := State.raise_hold ..
  have g0 : a0.hold = a1.hold := forEach_hold _ _ _ (fun s n => State.dropHeld_hold ..)
  have g2 : a2.hold = a0.hold := forEach_hold _ _ _ (fun s n => State.forceRelease_hold ..)
  have g3 : a3.hold = a2.hold := forEach_hold _ _ _ (fun s n => State.blackOut_hold ..)
  have h8 : Kept s7 s8 := by
    unfold s8
    clear_value a3
    split
    · exact hold_kept (Eq.trans (b := a3.hold) rfl (g3.trans (g2.trans (g0.trans g1))))
    · exact hold_kept ((forEach_hold _ _ _ (fun s f => State.reallocate_hold ..)).trans (State.delaysBack_hold ..))
  clear_value s8
  have h9 : Kept s s8 := (((hold_kept (h3.trans (h2.trans h1))).trans h4).trans (hold_kept (h7.trans (h6.trans h5)))).trans h8
  refine h9.trans (hold_kept ?_)
  rw [State.raise_hold, State.bump_hold]
  rfl

theorem State.remoteForm_kept (s : State) (u : Nat) (sub : Nat) (a : VReg) (b : VReg) (f : Word → State → Nat → Except Nat State) (hf : ∀ w s n t, f w s n = .ok t → t.hold = s.hold) : Kept s (State.remoteForm s u sub a b f) := by
  refine State.umber_kept _ _ _ _ _ _ (fun s pc t h => ?_)
  refine hold_kept (State.withTarget_hold _ _ _ _ _ (fun x t h => ?_) _ h)
  try dsimp only at h
  split at h
  · cases h
  · cases h
    refine State.media_hold _ _ _ _ (fun e s t h => ?_)
    try dsimp only at h
    split at h
    · cases h
    · exact State.onOuts_hold _ _ _ (fun s n t h => hf _ _ _ _ h) _ h

theorem State.saffronSaves_kept (s : State) : Kept s (State.saffronSaves s) := by
  have e1 : ∀ (xs : List Nat) (s : State), Kept s (xs.foldl (fun (s : State) i => (s.postKey i (s.slot i)).nvDrain) s) :=
    fun xs s => foldl_kept _ _ _ (fun s i => (hold_kept (State.postKey_hold ..)).trans (State.nvDrain_kept ..))
  have e2 : ∀ (xs : List Nat) (s : State), Kept s (xs.foldl (fun (s : State) t =>
          let (copy, pay, _, s) := s.selectRecord t 0
          if copy = 0 then s else (s.postAlt t 0 pay).nvDrain) s) :=
    fun xs s => foldl_kept _ _ _ (fun s t => (hold_kept (State.selectRecord_hold s t 0)).trans
      (kept_ite (Kept.refl _) ((hold_kept (State.postAlt_hold ..)).trans (State.nvDrain_kept ..))))
  unfold State.saffronSaves
  extract_lets s1 s2 used s3 s4 s5 s6 s7
  have h2 : Kept s s2 := (hold_kept (by rw [State.postGather_hold, State.modSaff_hold])).trans (State.nvDrain_kept ..)
  have h3 : Kept s2 s3 := e1 _ _
  have h4 : Kept s3 s4 := kept_ite ((e2 _ _).trans (hold_kept (State.modSaff_hold ..))) (Kept.refl _)
  have h5 : Kept s4 s5 := (hold_kept (State.postCounters_hold ..)).trans (State.nvDrain_kept ..)
  have h6 : Kept s5 s6 := (hold_kept (State.postBoot_hold ..)).trans (State.nvDrain_kept ..)
  have h7 : Kept s6 s7 := (hold_kept (State.logCommit_hold ..)).trans (State.nvDrain_kept ..)
  refine (((((h2.trans h3).trans h4).trans h5).trans h6).trans h7).trans (hold_kept ?_)
  rw [State.modSaff_hold]
  rfl

theorem State.scanLine_kept (s : State) (n : Nat) (l : Nat) (lv : Nat) (l0 : Nat) (l1 : Nat) (late : Bool) (late0 : Bool) (late1 : Bool) : Kept s (State.scanLine s n l lv l0 l1 late late0 late1) := by
  grind [State.scanLine, State.hold, State.que, Kept, State.advance_hold, State.modOut_hold, State.bump_hold, State.bumpBy_hold, State.raiseLim_hold, State.directAnc_hold, State.activeLine_kept, State.lineSeen_hold, forEach_hold, forEach_kept]

theorem State.sdiLine_kept (s : State) (n : Nat) (k : Nat) (crcOk : Bool) (audio : Bool) (x : SdiMore) : Kept s (State.sdiLine s n k crcOk audio x) := by
  grind [State.sdiLine, State.hold, State.que, Kept, State.bump_hold, State.refSeen_hold, State.modFlow_hold, State.ancIn_hold, State.pixelsIn_kept, forEach_hold, forEach_kept]

theorem State.shedApply_kept (s : State) (w : Word) : Kept s (State.shedApply s w) := by
  grind [State.shedApply, State.hold, State.que, Kept, State.poolShedNow_hold, State.domShedOff_hold, State.setRateCap_hold, State.degrade_hold, State.modLink_hold, State.modPort_hold, State.modFlow_hold, State.resetPortLanes_hold, State.portExit_kept, forEach_hold, forEach_kept]

theorem State.shedStep_kept (s : State) (due : Nat) : Kept s (State.shedStep s due) := by
  grind [State.shedStep, State.hold, State.que, Kept, State.modHealth_hold, State.shedApply_kept, State.raise_hold, State.bump_hold]

theorem State.shutEnd_kept (s : State) : Kept s (State.shutEnd s) := by grind [State.shutEnd, State.hold, State.que, Kept, State.railsFall_kept]

theorem State.shutStage_kept (s : State) (k : Nat) : Kept s (State.shutStage s k) := by
  have hu : ∀ t : State, Kept t (match k with
      | 1 => t.dataStops
      | 2 => if t.saff.state = 0 then t else t.saffronSaves
      | 3 => { t with woad := { t.woad with vaultShut := true, shadow := none, rslKey := [], ideKeys := [], ideNext := [] } }
      | 4 => t.modPwr (fun p => { p with domOn := 0 })
      | _ => t) := by
    intro t
    split
    · exact hold_kept (State.dataStops_hold ..)
    · exact kept_ite (Kept.refl t) (State.saffronSaves_kept ..)
    · exact hold_kept rfl
    · exact hold_kept (State.modPwr_hold ..)
    · exact Kept.refl t
  unfold State.shutStage
  exact ((hold_kept (State.advance_hold ..)).trans (hu _)).trans (kept_ite (hold_kept (State.modPwr_hold ..)) (State.shutEnd_kept ..))

theorem State.switchover_kept (s : State) : Kept s (State.switchover s) := by
  grind [State.switchover, State.hold, State.que, Kept, State.promote_hold, State.demote_kept]

theorem State.tickWork_kept (s : State) (i : TickInfo) : Kept s (State.tickWork s i) := by
  unfold State.tickWork
  extract_lets s1 s2 s3 s4
  have h1 : s1.hold = s.hold := forEach_hold _ _ _ (fun s x => State.gpioLevel_hold ..)
  have h2 : s2.hold = s1.hold := by
    unfold s2
    clear_value s1
    split
    · exact State.modTamper_hold ..
    · rfl
  have h3 : s3.hold = s2.hold := (forEach_hold _ _ _ (fun s x => State.cxlTick_hold ..)).trans
    ((forEach_hold _ _ _ (fun s x => State.eqTick_hold ..)).trans (forEach_hold _ _ _ (fun s x => State.prbsTick_hold ..)))
  have h4 : s4.hold = s3.hold := (forEach_hold _ _ _ (fun s x => State.macTick_hold ..)).trans (forEach_hold _ _ _ (fun s x => State.fecTick_hold ..))
  have h : Kept s s4 := hold_kept (h4.trans (h3.trans (h2.trans h1)))
  clear_value s4
  refine (h.trans (State.mgmtTick_kept s4 i)).trans (hold_kept ?_)
  rw [State.statusTick_hold]
  exact forEach_hold _ _ _ (fun s e => State.queueTick_hold ..)

theorem State.tickTo_kept (s : State) (i : TickInfo) : Kept s (State.tickTo s i) := by
  have key : ∀ j b now : Nat, Kept s
      (let s1 := (s.advance b).logDue b
       let s2 := ({ s1 with ttime := b, ticks := j } : State).tickWork i
       if s2.ttime < b then s2 else if now < b then { s2 with snap := s2.ctr } else { s2 with ttime := now }) := by
    intro j b now
    extract_lets s1 s2
    have h1 : s1.hold = s.hold := (State.logDue_hold ..).trans (State.advance_hold ..)
    have h2 : Kept s1 s2 := State.tickWork_kept ({ s1 with ttime := b, ticks := j } : State) i
    clear_value s1 s2
    refine ((hold_kept h1).trans h2).trans ?_
    split
    · exact Kept.refl _
    · split <;> exact hold_kept rfl
  exact key _ _ _

theorem State.unitStore_kept (s : State) (u : Nat) (a : Nat) (n : Nat) (v : Nat) : Kept s (State.unitStore s u a n v) := by
  grind [State.unitStore, State.hold, State.que, Kept, State.mirror_hold, State.progScatter_kept]

theorem State.writeHeader_kept (s : State) (f : Nat) (x : Flow) (i : Nat) (q : Nat) (kept : List AncPkt) : Kept s (State.writeHeader s f x i q kept) := by
  grind [State.writeHeader, State.hold, State.que, Kept, State.cxlPut_kept]

theorem State.xbarServe_kept (s : State) (m : Nat) (x : Xact) : Kept s (State.xbarServe s m x) := by
  grind [State.xbarServe, State.hold, State.que, Kept, State.writeBy_kept, State.memberFails_hold, State.unstall_hold, State.readBy_hold, State.setV_hold]

theorem State.xbarArbitrate_kept (s : State) (t : Nat) : Kept s (State.xbarArbitrate s t) := by
  grind [State.xbarArbitrate, State.hold, State.que, Kept, State.xbarServe_kept, forEach_hold, forEach_kept]

theorem State.xbarFrees_kept (s : State) (m : Nat) (f : State → State) (hf : Kept s (f s)) : Kept s (State.xbarFrees s m f) := by
  unfold State.xbarFrees
  split
  · exact hf.trans (State.xbarArbitrate_kept ..)
  · exact hf

end Sys2Proof.Machine
end

