-- ==== Sys2Proof/Laws/Commands2.lean ====
section
/-! SUPPORT. The commands that may write a memory: the queue and the ordering code stay, canonical memories stay canonical. -/

namespace Sys2Proof.Machine

theorem execAdd_kept (u : Nat) (d : VReg) (a : VReg) (b : AluSrc) (s : State) (sz : State) (hz : (execAdd u d a b s) = .next sz) : Kept s sz := by
  grind [execAdd, State.hold, State.que, Kept, State.umber_kept, State.setAlu_hold]

theorem execSub_kept (u : Nat) (d : VReg) (a : VReg) (b : AluSrc) (s : State) (sz : State) (hz : (execSub u d a b s) = .next sz) : Kept s sz := by
  grind [execSub, State.hold, State.que, Kept, State.umber_kept, State.setAlu_hold]

theorem execAnd_kept (u : Nat) (d : VReg) (a : VReg) (b : AluSrc) (s : State) (sz : State) (hz : (execAnd u d a b s) = .next sz) : Kept s sz := by
  grind [execAnd, State.hold, State.que, Kept, State.umber_kept, State.setAlu_hold]

theorem execOr_kept (u : Nat) (d : VReg) (a : VReg) (b : AluSrc) (s : State) (sz : State) (hz : (execOr u d a b s) = .next sz) : Kept s sz := by
  grind [execOr, State.hold, State.que, Kept, State.umber_kept, State.setAlu_hold]

theorem execXor_kept (u : Nat) (d : VReg) (a : VReg) (b : AluSrc) (s : State) (sz : State) (hz : (execXor u d a b s) = .next sz) : Kept s sz := by
  grind [execXor, State.hold, State.que, Kept, State.umber_kept, State.setAlu_hold]

theorem execShl_kept (u : Nat) (d : VReg) (a : VReg) (b : AluSrc) (s : State) (sz : State) (hz : (execShl u d a b s) = .next sz) : Kept s sz := by
  grind [execShl, State.hold, State.que, Kept, State.umber_kept, State.setAlu_hold]

theorem execShr_kept (u : Nat) (d : VReg) (a : VReg) (b : AluSrc) (s : State) (sz : State) (hz : (execShr u d a b s) = .next sz) : Kept s sz := by
  grind [execShr, State.hold, State.que, Kept, State.umber_kept, State.setAlu_hold]

theorem execCmp_kept (u : Nat) (a : VReg) (b : AluSrc) (s : State) (sz : State) (hz : (execCmp u a b s) = .next sz) : Kept s sz := by
  grind [execCmp, State.hold, State.que, Kept, State.umber_kept, State.setAlu_hold]

theorem execMin_kept (u : Nat) (d : VReg) (a : VReg) (b : AluSrc) (s : State) (sz : State) (hz : (execMin u d a b s) = .next sz) : Kept s sz := by
  grind [execMin, State.hold, State.que, Kept, State.umber_kept, State.setAlu_hold]

theorem execMax_kept (u : Nat) (d : VReg) (a : VReg) (b : AluSrc) (s : State) (sz : State) (hz : (execMax u d a b s) = .next sz) : Kept s sz := by
  grind [execMax, State.hold, State.que, Kept, State.umber_kept, State.setAlu_hold]

theorem execJmp_kept (u : Nat) (a : VReg) (s : State) (sz : State) (hz : (execJmp u a s) = .next sz) : Kept s sz := by
  cases hz
  refine State.umber_kept _ _ _ _ _ _ (fun s pc t h => ?_)
  exact hold_kept (State.jumpTo_hold _ _ _ _ h)

theorem execJcond_kept (u : Nat) (cond : BitVec 4) (off : BitVec 22) (s : State) (sz : State) (hz : (execJcond u cond off s) = .next sz) : Kept s sz := by
  cases hz
  refine State.umber_kept _ _ _ _ _ _ (fun s pc t h => ?_)
  try dsimp only at h
  split at h
  · exact hold_kept (State.jumpTo_hold _ _ _ _ h)
  · cases h; exact Kept.refl s
  · cases h

theorem execCall_kept (u : Nat) (off : BitVec 22) (s : State) (sz : State) (hz : (execCall u off s) = .next sz) : Kept s sz := by
  cases hz
  refine State.umber_kept _ _ _ _ _ _ (fun s pc t h => ?_)
  try dsimp only at h
  split at h
  · cases h
  · exact hold_kept ((State.jumpTo_hold _ _ _ _ h).trans (State.setUnit_hold ..))

theorem execRet_kept (u : Nat) (s : State) (sz : State) (hz : (execRet u s) = .next sz) : Kept s sz := by
  cases hz
  refine State.umber_kept _ _ _ _ _ _ (fun s pc t h => ?_)
  try dsimp only at h
  split at h
  · cases h
  · exact hold_kept ((State.jumpTo_hold _ _ _ _ h).trans (State.setUnit_hold ..))

theorem execHalt_kept (u : Nat) (s : State) (sz : State) (hz : (execHalt u s) = .next sz) : Kept s sz := by
  grind [execHalt, State.hold, State.que, Kept, State.umber_kept, State.raise_hold, State.modUnit_hold, State.endCommand_kept]

theorem execTrap_kept (u : Nat) (imm : BitVec 18) (s : State) (sz : State) (hz : (execTrap u imm s) = .next sz) : Kept s sz := by
  grind [execTrap, State.hold, State.que, Kept, State.umber_kept, State.bump_hold, State.raise_hold, State.setUnit_hold]

theorem execLi_kept (u : Nat) (d : VReg) (imm : BitVec 18) (s : State) (sz : State) (hz : (execLi u d imm s) = .next sz) : Kept s sz := by
  grind [execLi, State.hold, State.que, Kept, State.umber_kept, State.setV_hold]

theorem execLui_kept (u : Nat) (d : VReg) (imm : BitVec 18) (s : State) (sz : State) (hz : (execLui u d imm s) = .next sz) : Kept s sz := by
  grind [execLui, State.hold, State.que, Kept, State.umber_kept, State.setV_hold]

theorem execLd_kept (u : Nat) (z : Size) (d : VReg) (a : VReg) (imm : BitVec 18) (s : State) (sz : State) (hz : (execLd u z d a imm s) = .next sz) : Kept s sz := by
  grind [execLd, State.hold, State.que, Kept, State.umber_kept, State.setV_hold]

theorem execSt_kept (u : Nat) (z : Size) (d : VReg) (a : VReg) (imm : BitVec 18) (s : State) (sz : State) (hz : (execSt u z d a imm s) = .next sz) : Kept s sz := by
  grind [execSt, State.hold, State.que, Kept, State.umber_kept, State.unitStore_kept]

theorem execMfs_kept (u : Nat) (d : VReg) (imm : BitVec 18) (s : State) (sz : State) (hz : (execMfs u d imm s) = .next sz) : Kept s sz := by
  cases hz
  refine State.umber_kept _ _ _ _ _ _ (fun s pc t h => ?_)
  try dsimp only at h
  split at h
  · next h1 => cases h; exact hold_kept ((State.setV_hold ..).trans (State.readSpecial_hold _ _ _ _ h1))
  · cases h

theorem execMts_kept (u : Nat) (a : VReg) (imm : BitVec 18) (s : State) (sz : State) (hz : (execMts u a imm s) = .next sz) : Kept s sz := by
  cases hz
  refine State.umber_kept _ _ _ _ _ _ (fun s pc t h => ?_)
  try dsimp only at h
  split at h
  · next h1 => cases h; exact hold_kept (State.writeSpecial_hold _ _ _ _ _ h1)
  · cases h

theorem execWaitl_kept (u : Nat) (a : VReg) (b : VReg) (s : State) (sz : State) (hz : (execWaitl u a b s) = .next sz) : Kept s sz := by
  cases hz
  refine State.umber_kept _ _ _ _ _ _ (fun s pc t h => ?_)
  exact hold_kept (State.startWait_hold _ _ _ _ _ _ h)

theorem execWaitf_kept (u : Nat) (a : VReg) (b : VReg) (s : State) (sz : State) (hz : (execWaitf u a b s) = .next sz) : Kept s sz := by
  cases hz
  refine State.umber_kept _ _ _ _ _ _ (fun s pc t h => ?_)
  exact hold_kept (State.startWait_hold _ _ _ _ _ _ h)

theorem execWaite_kept (u : Nat) (a : VReg) (b : VReg) (s : State) (sz : State) (hz : (execWaite u a b s) = .next sz) : Kept s sz := by
  cases hz
  refine State.umber_kept _ _ _ _ _ _ (fun s pc t h => ?_)
  exact hold_kept (State.startWait_hold _ _ _ _ _ _ h)

theorem execWaitt_kept (u : Nat) (a : VReg) (b : VReg) (s : State) (sz : State) (hz : (execWaitt u a b s) = .next sz) : Kept s sz := by
  cases hz
  refine State.umber_kept _ _ _ _ _ _ (fun s pc t h => ?_)
  exact hold_kept (State.startWait_hold _ _ _ _ _ _ h)

theorem execTake_kept (u : Nat) (a : VReg) (b : VReg) (s : State) (sz : State) (hz : (execTake u a b s) = .next sz) : Kept s sz := by
  cases hz
  refine State.umber_kept _ _ _ _ _ _ (fun s pc t h => ?_)
  refine hold_kept (State.withTarget_hold _ _ _ _ _ (fun x t h => ?_) _ h)
  try dsimp only at h
  split at h
  · cases h
  · cases h
    refine State.media_hold _ _ _ _ (fun e s t h => State.onTarget_hold _ _ _ _ (fun j s n z h => ?_) _ h)
    try dsimp only at h
    generalize h1 : State.takeCheck .. = c at h
    cases c with
    | error => cases h
    | ok r => cases h; exact State.takeCheck_hold _ _ _ _ _ _ _ _ h1

theorem execTakeP_kept (u : Nat) (a : VReg) (b : VReg) (s : State) (sz : State) (hz : (execTakeP u a b s) = .next sz) : Kept s sz := by
  grind [execTakeP, State.hold, State.que, Kept, State.remoteForm_kept, State.prepare_hold]

theorem execTakeU_kept (u : Nat) (a : VReg) (b : VReg) (s : State) (sz : State) (hz : (execTakeU u a b s) = .next sz) : Kept s sz := by
  grind [execTakeU, State.hold, State.que, Kept, State.remoteForm_kept, State.unprepare_hold]

theorem execFlip_kept (u : Nat) (plane : Bool) (a : VReg) (b : VReg) (s : State) (sz : State) (hz : (execFlip u plane a b s) = .next sz) : Kept s sz := by
  cases hz
  refine State.umber_kept _ _ _ _ _ _ (fun s pc t h => ?_)
  refine hold_kept (State.withTarget_hold _ _ _ _ _ (fun x t h => ?_) _ h)
  cases h
  exact State.media_hold _ _ _ _ (fun e s t h => State.onTarget_hold _ _ _ _ (fun j s n z h => map_hold h (fun _ => rfl)) _ h)

theorem execTset_kept (u : Nat) (a : VReg) (s : State) (sz : State) (hz : (execTset u a s) = .next sz) : Kept s sz := by
  cases hz
  refine State.umber_kept _ _ _ _ _ _ (fun s pc t h => ?_)
  refine hold_kept (State.withTarget_hold _ _ _ _ _ (fun x t h => ?_) _ h)
  cases h
  exact State.media_hold _ _ _ _ (fun e s t h => State.onTarget_hold _ _ _ _ (fun j s n z h => map_hold h (fun _ => rfl)) _ h)

theorem execFmt_kept (u : Nat) (a : VReg) (s : State) (sz : State) (hz : (execFmt u a s) = .next sz) : Kept s sz := by
  cases hz
  refine State.umber_kept _ _ _ _ _ _ (fun s pc t h => ?_)
  refine hold_kept (State.withTarget_hold _ _ _ _ _ (fun x t h => ?_) _ h)
  cases h
  exact State.media_hold _ _ _ _ (fun e s t h => State.onTarget_hold _ _ _ _ (fun j s n z h => map_hold h (fun _ => rfl)) _ h)

theorem execFmtF_kept (u : Nat) (a : VReg) (b : VReg) (s : State) (sz : State) (hz : (execFmtF u a b s) = .next sz) : Kept s sz := by
  cases hz
  refine State.umber_kept _ _ _ _ _ _ (fun s pc t h => ?_)
  try dsimp only at h
  split at h
  · cases h
  · split at h
    · cases h
    · split at h
      · cases h
      · cases h
        refine hold_kept (State.media_hold _ _ _ _ (fun e s t h => ?_))
        try dsimp only at h
        split at h
        · cases h
        · cases h; exact State.absorb_hold ..

theorem execLut_kept (u : Nat) (a : VReg) (s : State) (sz : State) (hz : (execLut u a s) = .next sz) : Kept s sz := by
  cases hz
  refine State.umber_kept _ _ _ _ _ _ (fun s pc t h => ?_)
  refine hold_kept (State.withTarget_hold _ _ _ _ _ (fun x t h => ?_) _ h)
  cases h
  refine State.loneMedia_hold _ _ _ _ _ (fun s t h => ?_)
  try dsimp only at h
  split at h
  · cases h
  · split at h
    · split at h <;> cases h
    · exact State.lutStart_hold _ _ _ h

theorem execAmapInputBlock_kept (u : Nat) (a : VReg) (b : VReg) (imm : BitVec 14) (s : State) (sz : State) (hz : (execAmapInputBlock u a b imm s) = .next sz) : Kept s sz := by
  cases hz
  refine State.umber_kept _ _ _ _ _ _ (fun s pc t h => ?_)
  refine hold_kept (State.channelForm_hold _ _ _ _ _ (fun r o n t h => ?_) _ h)
  try dsimp only at h
  split at h
  · cases h
  · cases h; exact State.amap_hold ..

theorem execAmapSourceCode_kept (u : Nat) (a : VReg) (b : VReg) (imm : BitVec 14) (s : State) (sz : State) (hz : (execAmapSourceCode u a b imm s) = .next sz) : Kept s sz := by
  cases hz
  refine State.umber_kept _ _ _ _ _ _ (fun s pc t h => ?_)
  refine hold_kept (State.channelForm_hold _ _ _ _ _ (fun r o n t h => ?_) _ h)
  try dsimp only at h
  split at h
  · cases h; exact State.amap_hold ..
  · cases h

theorem execAmapFollow_kept (u : Nat) (a : VReg) (b : VReg) (imm : BitVec 14) (s : State) (sz : State) (hz : (execAmapFollow u a b imm s) = .next sz) : Kept s sz := by
  cases hz
  refine State.umber_kept _ _ _ _ _ _ (fun s pc t h => ?_)
  refine hold_kept (State.channelForm_hold _ _ _ _ _ (fun r o n t h => ?_) _ h)
  try dsimp only at h
  split at h
  · cases h
  · cases h; exact State.amap_hold ..

theorem execAxf_kept (u : Nat) (a : VReg) (b : VReg) (imm : BitVec 14) (s : State) (sz : State) (hz : (execAxf u a b imm s) = .next sz) : Kept s sz := by
  cases hz
  refine State.umber_kept _ _ _ _ _ _ (fun s pc t h => ?_)
  refine hold_kept (State.channelForm_hold _ _ _ _ _ (fun r o n t h => ?_) _ h)
  try dsimp only at h
  split at h
  · cases h
  · cases h
    refine State.media_hold _ _ _ _ (fun e s t h => ?_)
    try dsimp only at h
    split at h
    · cases h
    · cases h; exact State.absorb_hold ..

theorem execAnc_kept (u : Nat) (a : VReg) (b : VReg) (s : State) (sz : State) (hz : (execAnc u a b s) = .next sz) : Kept s sz := by
  cases hz
  refine State.umber_kept _ _ _ _ _ _ (fun s pc t h => ?_)
  refine hold_kept (State.withTarget_hold _ _ _ _ _ (fun x t h => ?_) _ h)
  have e : ∀ (c : Prop) [Decidable c] (y z : State), (if c then .error fltOperand else Except.ok y : Except Nat State) = .ok z → y = z := by
    intro c _ y z h
    split at h <;> cases h
    rfl
  rw [← e _ _ _ h]
  refine State.media_hold _ _ _ _ (fun e s t h => ?_)
  try dsimp only at h
  split at h
  · cases h
  · split at h
    · cases h
    · cases h; exact State.absorb_hold ..

theorem execSigO_kept (u : Nat) (d : VReg) (b : VReg) (s : State) (sz : State) (hz : (execSigO u d b s) = .next sz) : Kept s sz := by
  grind [execSigO, State.hold, State.que, Kept, State.umber_kept, State.sig_hold]

theorem execSigSrc_kept (u : Nat) (d : VReg) (b : VReg) (s : State) (sz : State) (hz : (execSigSrc u d b s) = .next sz) : Kept s sz := by
  grind [execSigSrc, State.hold, State.que, Kept, State.umber_kept, State.sig_hold]

theorem execSigFlow_kept (u : Nat) (d : VReg) (b : VReg) (s : State) (sz : State) (hz : (execSigFlow u d b s) = .next sz) : Kept s sz := by
  grind [execSigFlow, State.hold, State.que, Kept, State.umber_kept, State.sig_hold]

theorem execMarkNow_kept (u : Nat) (a : VReg) (code : BitVec 14) (s : State) (sz : State) (hz : (execMarkNow u a code s) = .next sz) : Kept s sz := by
  grind [execMarkNow, State.hold, State.que, Kept, State.umber_kept, State.mediaResult_hold, State.logMark_hold]

theorem execMarkNextFrame_kept (u : Nat) (a : VReg) (code : BitVec 14) (s : State) (sz : State) (hz : (execMarkNextFrame u a code s) = .next sz) : Kept s sz := by
  grind [execMarkNextFrame, State.hold, State.que, Kept, State.umber_kept, State.mediaResult_hold, State.modUnit_hold]

theorem execBind_kept (u : Nat) (d : VReg) (a : VReg) (s : State) (sz : State) (hz : (execBind u d a s) = .next sz) : Kept s sz := by
  cases hz
  refine State.umber_kept _ _ _ _ _ _ (fun s pc t h => ?_)
  try dsimp only at h
  split at h
  · cases h
  · split at h
    · cases h
    · cases h
      refine hold_kept (State.loneMedia_hold _ _ _ _ _ (fun s t h => ?_))
      try dsimp only at h
      split at h
      · cases h
      · next h1 => cases h; exact (State.setV_hold ..).trans (State.bindRows_hold _ _ _ h1)

theorem execBindR_kept (u : Nat) (a : VReg) (s : State) (sz : State) (hz : (execBindR u a s) = .next sz) : Kept s sz := by
  grind [execBindR, State.hold, State.que, Kept, State.umber_kept, State.loneMedia_hold, State.release_hold]

theorem execSwapp_kept (u : Nat) (imm : BitVec 14) (s : State) (sz : State) (hz : (execSwapp u imm s) = .next sz) : Kept s sz := by
  grind [execSwapp, State.hold, State.que, Kept, State.umber_kept, State.mediaResult_hold, State.modUnit_hold]

theorem execWr_kept (u : Nat) (a : VReg) (b : VReg) (r : XbarEnd) (s : State) (sz : State) (hz : (execWr u a b r s) = .next sz) : Kept s sz := by
  cases hz
  refine State.umber_kept _ _ _ _ _ _ (fun s pc t h => ?_)
  have e : ∀ (y : Nat) (s t : State), (if y = stOk then Except.ok s else Except.error y : Except Nat State) = .ok t → t.hold = s.hold := by
    intro y s t h
    split at h <;> cases h
    rfl
  have e1 : ∀ (c : Prop) [Decidable c] (s : State) (m a : Nat) (v : Word), Kept s (if c then s.writeBy m a v else (0, s)).2 := by
    intro c _ s m a v
    split
    · exact State.writeBy_kept ..
    · exact Kept.refl s
  try dsimp only at h
  split at h
  · cases h
  · split at h
    · cases h
      exact hold_kept (State.media_hold _ _ _ _ (fun e s t h => by cases h; rfl))
    · split at h
      · cases h
        refine (e1 _ _ _ _ _).trans (hold_kept (State.media_hold _ _ _ _ (fun _ s t h => e _ s t h)))
      · cases h
        exact (e1 _ _ _ _ _).trans (hold_kept ((State.engineWaits_hold ..).trans (State.media_hold _ _ _ _ (fun e s t h => by cases h; rfl))))

theorem execRd_kept (u : Nat) (d : VReg) (a : VReg) (r : XbarEnd) (s : State) (sz : State) (hz : (execRd u d a r s) = .next sz) : Kept s sz := by
  grind [execRd, State.hold, State.que, Kept, State.umber_kept, State.mediaResult_hold, State.readBy_hold, State.setV_hold, State.engineWaits_hold]

theorem execBegin_kept (u : Nat) (s : State) (sz : State) (hz : (execBegin u s) = .next sz) : Kept s sz := by
  grind [execBegin, State.hold, State.que, Kept, State.umber_kept, State.mediaResult_hold, State.modCe_hold]

theorem execCommit_kept (u : Nat) (s : State) (sz : State) (hz : (execCommit u s) = .next sz) : Kept s sz := by
  grind [execCommit, State.hold, State.que, Kept, State.umber_kept, State.groupCommit_hold, State.mediaResult_hold]

theorem execAbort_kept (u : Nat) (s : State) (sz : State) (hz : (execAbort u s) = .next sz) : Kept s sz := by
  grind [execAbort, State.hold, State.que, Kept, State.umber_kept, State.groupAbort_hold, State.mediaResult_hold]

theorem execSalvo_kept (u : Nat) (d : VReg) (a : VReg) (s : State) (sz : State) (hz : (execSalvo u d a s) = .next sz) : Kept s sz := by
  grind [execSalvo, State.hold, State.que, Kept, State.umber_kept, State.mediaResult_hold, State.submitSalvo_hold]

theorem execSend_kept (u : Nat) (a : VReg) (b : VReg) (s : State) (sz : State) (hz : (execSend u a b s) = .next sz) : Kept s sz := by
  grind [execSend, State.hold, State.que, Kept, State.umber_kept, State.loneMedia_hold, State.setUnit_hold, State.setEvents_hold]

theorem execLoadp_kept (u : Nat) (a : VReg) (b : VReg) (s : State) (sz : State) (hz : (execLoadp u a b s) = .next sz) : Kept s sz := by
  cases hz
  refine State.umber_kept _ _ _ _ _ _ (fun s pc t h => ?_)
  try dsimp only at h
  split at h
  · cases h
  · split at h
    · cases h
    · split at h
      · cases h
      · split at h
        · cases h; exact hold_kept (State.mediaResult_hold ..)
        · split at h
          · cases h; exact hold_kept (State.mediaResult_hold ..)
          · cases h; exact hold_kept ((State.modUnit_hold ..).trans (State.modCe_hold ..))

theorem instrRun_kept (w : Word) (i : Instr) (s : State) (sz : State) (hz : (instrRun w i s) = .next sz) : Kept s sz := by
  cases i with
  | add => exact execAdd_kept _ _ _ _ _ _ hz
  | sub => exact execSub_kept _ _ _ _ _ _ hz
  | and => exact execAnd_kept _ _ _ _ _ _ hz
  | or => exact execOr_kept _ _ _ _ _ _ hz
  | xor => exact execXor_kept _ _ _ _ _ _ hz
  | shl => exact execShl_kept _ _ _ _ _ _ hz
  | shr => exact execShr_kept _ _ _ _ _ _ hz
  | cmp => exact execCmp_kept _ _ _ _ _ hz
  | min => exact execMin_kept _ _ _ _ _ _ hz
  | max => exact execMax_kept _ _ _ _ _ _ hz
  | jmp => exact execJmp_kept _ _ _ _ hz
  | jcond => exact execJcond_kept _ _ _ _ _ hz
  | call => exact execCall_kept _ _ _ _ hz
  | ret => exact execRet_kept _ _ _ hz
  | halt => exact execHalt_kept _ _ _ hz
  | trap => exact execTrap_kept _ _ _ _ hz
  | li => exact execLi_kept _ _ _ _ _ hz
  | lui => exact execLui_kept _ _ _ _ _ hz
  | ld => exact execLd_kept _ _ _ _ _ _ _ hz
  | st => exact execSt_kept _ _ _ _ _ _ _ hz
  | mfs => exact execMfs_kept _ _ _ _ _ hz
  | mts => exact execMts_kept _ _ _ _ _ hz
  | waitl => exact execWaitl_kept _ _ _ _ _ hz
  | waitf => exact execWaitf_kept _ _ _ _ _ hz
  | waite => exact execWaite_kept _ _ _ _ _ hz
  | waitt => exact execWaitt_kept _ _ _ _ _ hz
  | take => exact execTake_kept _ _ _ _ _ hz
  | takeP => exact execTakeP_kept _ _ _ _ _ hz
  | takeU => exact execTakeU_kept _ _ _ _ _ hz
  | flip => exact execFlip_kept _ _ _ _ _ _ hz
  | tset => exact execTset_kept _ _ _ _ hz
  | fmt => exact execFmt_kept _ _ _ _ hz
  | fmtF => exact execFmtF_kept _ _ _ _ _ hz
  | lut => exact execLut_kept _ _ _ _ hz
  | amapInputBlock => exact execAmapInputBlock_kept _ _ _ _ _ _ hz
  | amapSourceCode => exact execAmapSourceCode_kept _ _ _ _ _ _ hz
  | amapFollow => exact execAmapFollow_kept _ _ _ _ _ _ hz
  | axf => exact execAxf_kept _ _ _ _ _ _ hz
  | anc => exact execAnc_kept _ _ _ _ _ hz
  | sigO => exact execSigO_kept _ _ _ _ _ hz
  | sigSrc => exact execSigSrc_kept _ _ _ _ _ hz
  | sigFlow => exact execSigFlow_kept _ _ _ _ _ hz
  | markNow => exact execMarkNow_kept _ _ _ _ _ hz
  | markNextFrame => exact execMarkNextFrame_kept _ _ _ _ _ hz
  | bind => exact execBind_kept _ _ _ _ _ hz
  | bindR => exact execBindR_kept _ _ _ _ hz
  | swapp => exact execSwapp_kept _ _ _ _ hz
  | wr => exact execWr_kept _ _ _ _ _ _ hz
  | rd => exact execRd_kept _ _ _ _ _ _ hz
  | begin => exact execBegin_kept _ _ _ hz
  | commit => exact execCommit_kept _ _ _ hz
  | abort => exact execAbort_kept _ _ _ hz
  | salvo => exact execSalvo_kept _ _ _ _ _ hz
  | send => exact execSend_kept _ _ _ _ _ hz
  | loadp => exact execLoadp_kept _ _ _ _ _ hz
  | nop => cases hz; exact State.bareWord_kept ..
  | _ => cases hz; exact Kept.refl s

theorem execNop_kept (u : Nat) (w : Word) (s : State) (sz : State) (hz : (execNop u w s) = .next sz) : Kept s sz := by
  unfold execNop at hz
  split at hz
  · split at hz
    · exact instrRun_kept _ _ _ _ hz
    · cases hz; exact State.bareWord_kept ..
  · cases hz; exact State.bareWord_kept ..

theorem execLoadpComplete_kept (e : Nat) (s : State) (sz : State) (hz : (execLoadpComplete e s) = .next sz) : Kept s sz := by
  cases hz
  split
  · exact Kept.refl s
  · extract_lets s1 bs y s2 running
    have h2 : Kept s s2 := ((hold_kept (State.advance_hold ..)).trans (State.unitWrite_kept ..)).trans (hold_kept (State.modCe_hold ..))
    refine h2.trans (kept_ite (hold_kept (State.unstall_hold ..)) (kept_ite (hold_kept (State.unstall_hold ..)) (kept_ite (hold_kept ?_) (hold_kept (State.unstall_hold ..)))))
    exact (State.unstall_hold ..).trans (State.modUnit_hold ..)

theorem execLoadpTimeout_kept (e : Nat) (s : State) (sz : State) (hz : (execLoadpTimeout e s) = .next sz) : Kept s sz := by
  grind [execLoadpTimeout, State.hold, State.que, Kept, State.unstall_hold, State.loadpPartial_kept, State.advance_hold]

theorem execSeqCtrlHalt_kept (m : Nat) (u : Nat) (s : State) (sz : State) (hz : (execSeqCtrlHalt m u s) = .next sz) : Kept s sz := by
  cases hz
  have e : ∀ t : State, Kept t (t.ctrlBit m u (t.seqHalt u)) := by
    intro t
    unfold State.ctrlBit
    refine kept_ite (State.regWriteBy_kept _ _ _ _ ?_) (Kept.refl t)
    split
    · next h => exact State.seqHalt_kept _ _ _ h
    · exact Kept.refl t
  exact kept_ite (e s) (State.xbarFrees_kept _ _ _ (e s))

theorem execSqTailDoorbell_kept (m : Nat) (e : Nat) (v : Word) (s : State) (sz : State) (hz : (execSqTailDoorbell m e v s) = .next sz) : Kept s sz := by
  cases hz
  exact kept_ite (State.regWriteBy_kept _ _ _ _ (State.doorbell_kept ..)) (Kept.refl s)

theorem execCqHeadWrite_kept (m : Nat) (e : Nat) (v : Word) (s : State) (sz : State) (hz : (execCqHeadWrite m e v s) = .next sz) : Kept s sz := by
  cases hz
  exact kept_ite (State.regWriteBy_kept _ _ _ _ (State.cqHeadWrite_kept ..)) (Kept.refl s)

theorem execQCtrlEnable_kept (m : Nat) (e : Nat) (v : Word) (s : State) (sz : State) (hz : (execQCtrlEnable m e v s) = .next sz) : Kept s sz := by
  cases hz
  exact kept_ite (State.regWriteBy_kept _ _ _ _ (State.qCtrlWrite_kept ..)) (Kept.refl s)

theorem execQResume_kept (m : Nat) (e : Nat) (v : Word) (s : State) (sz : State) (hz : (execQResume m e v s) = .next sz) : Kept s sz := by
  cases hz
  exact kept_ite (State.regWriteBy_kept _ _ _ _ (State.qResume_kept ..)) (Kept.refl s)

theorem execCmdNop_kept (e : Nat) (s : State) (sz : State) (hz : (execCmdNop e s) = .next sz) : Kept s sz := by
  grind [execCmdNop, State.hold, State.que, Kept, State.cmdNop_kept]

theorem execCmdCall_kept (e : Nat) (s : State) (sz : State) (hz : (execCmdCall e s) = .next sz) : Kept s sz := by
  grind [execCmdCall, State.hold, State.que, Kept, State.cmdCall_kept]

theorem execCmdInline_kept (e : Nat) (s : State) (sz : State) (hz : (execCmdInline e s) = .next sz) : Kept s sz := by
  grind [execCmdInline, State.hold, State.que, Kept, State.cmdInline_kept]

theorem execCmdLoadc_kept (e : Nat) (s : State) (sz : State) (hz : (execCmdLoadc e s) = .next sz) : Kept s sz := by
  grind [execCmdLoadc, State.hold, State.que, Kept, State.cmdLoadc_kept]

theorem execBlockPartialTimeout_kept (e : Nat) (s : State) (sz : State) (hz : (execBlockPartialTimeout e s) = .next sz) : Kept s sz := by
  grind [execBlockPartialTimeout, State.hold, State.que, Kept, State.advance_hold, State.rejectCommand_kept]

theorem execBlockTimeout_kept (e : Nat) (s : State) (sz : State) (hz : (execBlockTimeout e s) = .next sz) : Kept s sz := by
  grind [execBlockTimeout, State.hold, State.que, Kept, State.xbarFrees_kept, State.raise_hold, State.advance_hold, State.endCommand_kept, State.bump_hold]

theorem execCompletionSpaceFreed_kept (e : Nat) (s : State) (sz : State) (hz : (execCompletionSpaceFreed e s) = .next sz) : Kept s sz := by
  grind [execCompletionSpaceFreed, State.hold, State.que, Kept, State.settleHead_kept, State.modCe_hold]

theorem execTick_kept (i : TickInfo) (s : State) (sz : State) (hz : (execTick i s) = .next sz) : Kept s sz := by
  grind [execTick, State.hold, State.que, Kept, State.tickTo_kept]

theorem execRegisterWrite_kept (m : Nat) (a : Nat) (v : Word) (s : State) (sz : State) (hz : (execRegisterWrite m a v s) = .next sz) : Kept s sz := by
  grind [execRegisterWrite, State.hold, State.que, Kept, State.writeBy_kept]

theorem execScanLineStart_kept (n : Nat) (l : Nat) (lv : Nat) (l0 : Nat) (l1 : Nat) (late : Bool) (late0 : Bool) (late1 : Bool) (s : State) (sz : State) (hz : (execScanLineStart n l lv l0 l1 late late0 late1 s) = .next sz) : Kept s sz := by
  grind [execScanLineStart, State.hold, State.que, Kept, State.scanLine_kept]

theorem execPacketRx_kept (n : Nat) (dst : Word) (src : Word) (udp : Nat) (pt : Nat) (p : PacketInfo) (s : State) (sz : State) (hz : (execPacketRx n dst src udp pt p s) = .next sz) : Kept s sz := by
  grind [execPacketRx, State.hold, State.que, Kept, State.bump_hold, State.macTaken_hold, State.refSeen_hold, State.legSeen_hold, State.seqIn_hold, State.mergeIn_kept, State.packetIn_kept]

theorem execSdiLineRx_kept (n : Nat) (k : Nat) (line : Nat) (trs : Bool) (crcOk : Bool) (payload : Option Word) (skew : Nat) (audio : Bool) (x : SdiMore) (s : State) (sz : State) (hz : (execSdiLineRx n k line trs crcOk payload skew audio x s) = .next sz) : Kept s sz := by
  grind [execSdiLineRx, State.hold, State.que, Kept, State.setPort_hold, State.bump_hold, State.modFlow_hold, State.frameSeen_hold, State.modPort_hold, State.sdiLine_kept, State.lineSeen_hold, forEach_hold, forEach_kept]

theorem execFrameCommit_kept (f : Nat) (s : State) (sz : State) (hz : (execFrameCommit f s) = .next sz) : Kept s sz := by
  grind [execFrameCommit, State.hold, State.que, Kept, State.setFlow_hold, State.exportFrame_hold, State.writeHeader_kept, State.bump_hold, State.bumpBy_hold, State.raiseLim_hold, State.noteSrc_hold]

theorem execObTailDoorbell_kept (m : Nat) (j : Nat) (v : Word) (s : State) (sz : State) (hz : (execObTailDoorbell m j v s) = .next sz) : Kept s sz := by
  cases hz
  exact kept_ite (State.regWriteBy_kept _ _ _ _ (State.obTailWrite_kept ..)) (Kept.refl s)

theorem execObFixedEncode_kept (j : Nat) (s : State) (sz : State) (hz : (execObFixedEncode j s) = .next sz) : Kept s sz := by
  grind [execObFixedEncode, State.hold, State.que, Kept, State.obFinish_kept]

theorem execObFixedDecode_kept (j : Nat) (s : State) (sz : State) (hz : (execObFixedDecode j s) = .next sz) : Kept s sz := by
  grind [execObFixedDecode, State.hold, State.que, Kept, State.obFinish_kept]

theorem execObLosslessEncode_kept (j : Nat) (s : State) (sz : State) (hz : (execObLosslessEncode j s) = .next sz) : Kept s sz := by
  grind [execObLosslessEncode, State.hold, State.que, Kept, State.obFinish_kept]

theorem execObLosslessDecode_kept (j : Nat) (s : State) (sz : State) (hz : (execObLosslessDecode j s) = .next sz) : Kept s sz := by
  grind [execObLosslessDecode, State.hold, State.que, Kept, State.obFinish_kept]

theorem execObJobTimeout_kept (j : Nat) (units : Nat) (s : State) (sz : State) (hz : (execObJobTimeout j units s) = .next sz) : Kept s sz := by
  grind [execObJobTimeout, State.hold, State.que, Kept, State.obRun_kept, State.advance_hold]

theorem execTwinAuthPass_kept (p : AuthPeer) (s : State) (sz : State) (hz : (execTwinAuthPass p s) = .next sz) : Kept s sz := by
  grind [execTwinAuthPass, State.hold, State.que, Kept, State.authEnds_kept]

theorem execTwinCopyDone_kept (s : State) (sz : State) (hz : (execTwinCopyDone s) = .next sz) : Kept s sz := by
  grind [execTwinCopyDone, State.hold, State.que, Kept, State.modTwin_hold, State.discardMirror_kept, State.mirrorApply_kept, forEach_hold, forEach_kept]

theorem execTwinAttachFail_kept (cause : Nat) (s : State) (sz : State) (hz : (execTwinAttachFail cause s) = .next sz) : Kept s sz := by
  grind [execTwinAttachFail, State.hold, State.que, Kept, State.attachFails_kept, State.advance_hold]

theorem execHeartbeatRx_kept (h : Heartbeat) (s : State) (sz : State) (hz : (execHeartbeatRx h s) = .next sz) : Kept s sz := by
  grind [execHeartbeatRx, State.hold, State.que, Kept, State.heartbeat_kept]

theorem execTwinSwitchover_kept (s : State) (sz : State) (hz : (execTwinSwitchover s) = .next sz) : Kept s sz := by
  grind [execTwinSwitchover, State.hold, State.que, Kept, State.switchover_kept, State.advance_hold, State.twinResult_hold]

theorem execMirrorUpdate_kept (frame : Nat) (op : MirrorOp) (s : State) (sz : State) (hz : (execMirrorUpdate frame op s) = .next sz) : Kept s sz := by
  grind [execMirrorUpdate, State.hold, State.que, Kept, State.modTwin_hold, State.mirrorApply_kept]

theorem execCxlReadErr_kept (x : Nat) (cto : Bool) (use : MemRead) (s : State) (sz : State) (hz : (execCxlReadErr x cto use s) = .next sz) : Kept s sz := by
  grind [execCxlReadErr, State.hold, State.que, Kept, State.raiseLim_hold, State.bump_hold, State.modOut_hold, State.delayFail_hold, State.lutReadFail_hold, State.obAbort_kept, State.emit_hold]

theorem execCxlWriteErr_kept (x : Nat) (cto : Bool) (use : MemWrite) (s : State) (sz : State) (hz : (execCxlWriteErr x cto use s) = .next sz) : Kept s sz := by
  grind [execCxlWriteErr, State.hold, State.que, Kept, State.bump_hold, State.modFlow_hold, State.obAbort_kept, State.raise_hold, State.randomBytes_hold, State.cxlPut_kept]

theorem execCxlPortLost_kept (x : Nat) (s : State) (sz : State) (hz : (execCxlPortLost x s) = .next sz) : Kept s sz := by
  grind [execCxlPortLost, State.hold, State.que, Kept, State.portLost_kept]

theorem execMemRelayout_kept (s : State) (sz : State) (hz : (execMemRelayout s) = .next sz) : Kept s sz := by
  grind [execMemRelayout, State.hold, State.que, Kept, State.relayout_kept]

theorem execPwrEnFall_kept (held : Nat) (s : State) (sz : State) (hz : (execPwrEnFall held s) = .next sz) : Kept s sz := by
  grind [execPwrEnFall, State.hold, State.que, Kept, State.shutAsk_kept, State.modPwr_hold]

theorem execPowerUpOverrun_kept (rail : Nat) (s : State) (sz : State) (hz : (execPowerUpOverrun rail s) = .next sz) : Kept s sz := by
  grind [execPowerUpOverrun, State.hold, State.que, Kept, State.aonRaise_hold, State.railsFall_kept, State.modPwr_hold]

theorem execPwrFailEarly_kept (s : State) (sz : State) (hz : (execPwrFailEarly s) = .next sz) : Kept s sz := by
  grind [execPwrFailEarly, State.hold, State.que, Kept, State.modPwr_hold, State.railsFall_kept, State.bump_hold, State.raise_hold]

theorem execShutdownStage_kept (s : State) (sz : State) (hz : (execShutdownStage s) = .next sz) : Kept s sz := by
  grind [execShutdownStage, State.hold, State.que, Kept, State.shutStage_kept]

theorem execStateReq_kept (m : Nat) (v : Word) (s : State) (sz : State) (hz : (execStateReq m v s) = .next sz) : Kept s sz := by
  cases hz
  exact State.regWriteBy_kept _ _ _ _ (State.pwrCtrlWrite_kept ..)

theorem execPdFault_kept (d : Nat) (s : State) (sz : State) (hz : (execPdFault d s) = .next sz) : Kept s sz := by
  grind [execPdFault, State.hold, State.que, Kept, State.domGone_kept, State.setReg_hold, State.raise_hold, State.modPwr_hold]

theorem execOverloadTimeout_kept (s : State) (sz : State) (hz : (execOverloadTimeout s) = .next sz) : Kept s sz := by
  grind [execOverloadTimeout, State.hold, State.que, Kept, State.shutAsk_kept, State.advance_hold]

theorem execThermalTrip_kept (mon : Nat) (s : State) (sz : State) (hz : (execThermalTrip mon s) = .next sz) : Kept s sz := by
  grind [execThermalTrip, State.hold, State.que, Kept, State.thermalTrip_kept]

theorem execColdReset_kept (cause : Nat) (held : Nat) (s : State) (sz : State) (hz : (execColdReset cause held s) = .next sz) : Kept s sz := by
  grind [execColdReset, State.hold, State.que, Kept, State.coldReset_kept]

theorem execWarmReset_kept (s : State) (sz : State) (hz : (execWarmReset s) = .next sz) : Kept s sz := by
  grind [execWarmReset, State.hold, State.que, Kept, State.warmReset_kept]

theorem execWatchdogExpiry_kept (s : State) (sz : State) (hz : (execWatchdogExpiry s) = .next sz) : Kept s sz := by
  grind [execWatchdogExpiry, State.hold, State.que, Kept, State.warmReset_kept, State.advance_hold]

theorem execRbCommitSaffron_kept (m : Nat) (v : Word) (s : State) (sz : State) (hz : (execRbCommitSaffron m v s) = .next sz) : Kept s sz := by
  cases hz
  exact kept_ite (State.regWriteBy_kept _ _ _ _ (State.rbCommit_kept ..)) (Kept.refl s)

theorem execRbCommitFuses_kept (m : Nat) (v : Word) (s : State) (sz : State) (hz : (execRbCommitFuses m v s) = .next sz) : Kept s sz := by
  cases hz
  exact kept_ite (State.regWriteBy_kept _ _ _ _ (State.rbCommit_kept ..)) (Kept.refl s)

theorem execKeyErased_kept (m : Nat) (v : Word) (s : State) (sz : State) (hz : (execKeyErased m v s) = .next sz) : Kept s sz := by
  cases hz
  refine State.regWriteBy_kept _ _ _ _ ?_
  unfold State.woadCmd
  split
  · exact Kept.refl s
  · split
    · exact hold_kept (State.woadDone_hold ..)
    · split
      · exact hold_kept (State.woadDone_hold ..)
      · exact State.woadErase_kept ..

theorem execTamper_kept (src : Nat) (held : Nat) (s : State) (sz : State) (hz : (execTamper src held s) = .next sz) : Kept s sz := by
  grind [execTamper, State.hold, State.que, Kept, State.alarm_kept, State.modTamper_hold]

theorem execChalReq_kept (m : Nat) (s : State) (sz : State) (hz : (execChalReq m s) = .next sz) : Kept s sz := by
  cases hz
  exact State.regWriteBy_kept _ _ _ _ (State.unlockCtrl_kept ..)

theorem execUnlockSubmit_kept (m : Nat) (still : Nat) (s : State) (sz : State) (hz : (execUnlockSubmit m still s) = .next sz) : Kept s sz := by
  cases hz
  exact State.regWriteBy_kept _ _ _ _ (State.unlockCtrl_kept ..)

theorem execWrData_kept (m : Nat) (v : Word) (s : State) (sz : State) (hz : (execWrData m v s) = .next sz) : Kept s sz := by
  cases hz
  exact State.regWriteBy_kept _ _ _ _ (State.wrData_kept ..)

theorem execSaffronCommit_kept (bad : Nat) (s : State) (sz : State) (hz : (execSaffronCommit bad s) = .next sz) : Kept s sz := by
  grind [execSaffronCommit, State.hold, State.que, Kept, State.landPiece_kept]

theorem execBpSubmit_kept (m : Nat) (s : State) (sz : State) (hz : (execBpSubmit m s) = .next sz) : Kept s sz := by
  cases hz
  exact State.regWriteBy_kept _ _ _ _ (State.bpSubmit_kept ..)

theorem execNvScrub_kept (corrected : List Nat) (bad : List Nat) (s : State) (sz : State) (hz : (execNvScrub corrected bad s) = .next sz) : Kept s sz := by
  cases hz
  refine kept_ite (Kept.refl s) ?_
  extract_lets s1 pages s2
  have h1 : Kept s s1 := (State.nvDrain_kept ..).trans (hold_kept (State.eccCorr_hold ..))
  have h2 : s2.hold = s1.hold := foldl_hold _ _ _ (fun s k => (State.eccUncorr_hold ..).trans (State.modSaff_hold ..))
  exact (h1.trans (hold_kept h2)).trans (foldl_kept _ _ _ (fun s p => (hold_kept (State.rewritePage_hold ..)).trans (State.nvDrain_kept ..)))

theorem execNvWearLevel_kept (s : State) (sz : State) (hz : (execNvWearLevel s) = .next sz) : Kept s sz := by
  grind [execNvWearLevel, State.hold, State.que, Kept, State.nvDrain_kept, State.postPiece_hold]

theorem execFaultLogCommit_kept (s : State) (sz : State) (hz : (execFaultLogCommit s) = .next sz) : Kept s sz := by
  grind [execFaultLogCommit, State.hold, State.que, Kept, State.nvDrain_kept, State.logCommit_hold]

theorem execNvReplay_kept (journalBad : Bool) (s : State) (sz : State) (hz : (execNvReplay journalBad s) = .next sz) : Kept s sz := by
  grind [execNvReplay, State.hold, State.que, Kept, State.nvBack_kept, State.setSaff_hold, State.raise_hold, State.bootLine_hold]

theorem execSealingKeyReseal_kept (s : State) (sz : State) (hz : (execSealingKeyReseal s) = .next sz) : Kept s sz := by
  have e2 : ∀ (xs : List Nat) (s : State), Kept s (xs.foldl (fun (s : State) t =>
          let (copy, pay, _, s) := s.selectRecord t 0
          if copy = 0 then s else (s.postAlt t 0 pay).nvDrain) s) :=
    fun xs s => foldl_kept _ _ _ (fun s t => (hold_kept (State.selectRecord_hold s t 0)).trans
      (kept_ite (Kept.refl _) ((hold_kept (State.postAlt_hold ..)).trans (State.nvDrain_kept ..))))
  cases hz
  refine kept_ite (Kept.refl s) ?_
  exact (((State.nvDrain_kept ..).trans (e2 _ _)).trans (hold_kept (State.postPiece_hold ..))).trans (State.nvDrain_kept ..)

theorem execXbarTimeout_kept (m : Nat) (x : XbarXact) (s : State) (sz : State) (hz : (execXbarTimeout m x s) = .next sz) : Kept s sz := by
  grind [execXbarTimeout, State.hold, State.que, Kept, State.xbarFrees_kept, State.xactTimeout_hold, State.inProgress_kept]

theorem execXbarMasterReset_kept (m : Nat) (x : XbarXact) (s : State) (sz : State) (hz : (execXbarMasterReset m x s) = .next sz) : Kept s sz := by
  grind [execXbarMasterReset, State.hold, State.que, Kept, State.seqHalt_kept, State.xbarFrees_kept, State.inProgress_kept, State.resetMaster_hold]

theorem execPcieReset_kept (x : XbarXact) (l : PcieLink) (s : State) (sz : State) (hz : (execPcieReset x l s) = .next sz) : Kept s sz := by
  grind [execPcieReset, State.hold, State.que, Kept, State.setRegN_hold, State.xbarFrees_kept, State.inProgress_kept, State.resetMaster_hold, State.bump_hold, forEach_hold, forEach_kept]

theorem execMsixUnmask_kept (v : Nat) (s : State) (sz : State) (hz : (execMsixUnmask v s) = .next sz) : Kept s sz := by
  grind [execMsixUnmask, State.hold, State.que, Kept, State.writeBy_kept]

theorem execPowerOff_kept (f : SmbFrame) (s : State) (sz : State) (hz : (execPowerOff f s) = .next sz) : Kept s sz := by
  cases hz
  unfold State.smbus
  refine kept_ite (Kept.refl s) (kept_ite (hold_kept ?_) ?_)
  · rw [State.smbNack_hold, State.bump_hold]
  · dsimp only
    refine kept_ite ((hold_kept ?_).trans (State.shutAsk_kept ..)) (hold_kept (State.smbNack_hold ..))
    rw [State.smbReply_hold, State.smbSetArm_hold]

theorem execTapXbarAccess_kept (code : Nat) (rstLow : Bool) (write : Bool) (a : Nat) (v : Word) (s : State) (sz : State) (hz : (execTapXbarAccess code rstLow write a v s) = .next sz) : Kept s sz := by
  grind [execTapXbarAccess, State.hold, State.que, Kept, State.emit_hold, State.writeBy_kept, State.readSend_hold]

theorem execShed_kept (s : State) (sz : State) (hz : (execShed s) = .next sz) : Kept s sz := by
  grind [execShed, State.hold, State.que, Kept, State.shedStep_kept, State.advance_hold]

theorem execMediaBlockRx_kept (l : Nat) (dev : Nat) (flow : Nat) (beyond : Bool) (bs : List Byte) (s : State) (sz : State) (hz : (execMediaBlockRx l dev flow beyond bs s) = .next sz) : Kept s sz := by
  cases hz
  split
  · exact Kept.refl s
  · dsimp only
    have e : ∀ (t : State) (xs : List Nat), Kept t (if beyond then t else t.forEach xs (fun s k => (s.emit "BLOCK" k dev (flow :: bs.map BitVec.toNat)).modLink k (fun y => { y with lastMedia := s.ttime }))) :=
      fun t xs => kept_ite (Kept.refl t) (hold_kept (forEach_hold _ _ _ (fun s k => (State.modLink_hold ..).trans (State.emit_hold ..))))
    have e2 : ∀ t : State, Kept t (match t.landingOf dev flow with | some f => t.landBytes f bs beyond | none => t) := by
      intro t
      split
      · exact State.landBytes_kept ..
      · exact Kept.refl t
    have h : Kept s ((s.leaveL1 l).modLink l (fun y => { y with lastMedia := (s.leaveL1 l).ttime })) := hold_kept ((State.modLink_hold ..).trans (State.leaveL1_hold ..))
    refine Kept.trans ?_ (e2 _)
    exact h.trans (e _ _)

end Sys2Proof.Machine
end

