-- ==== Sys2Proof/Laws/Umber.lean ====
section
/-! SUPPORT. What issuing one instruction of a unit does before its body runs, and what a body that only writes the unit leaves (R39, R53, R57). -/

namespace Sys2Proof.Machine

@[simp] theorem UnitState.settle_others (x : UnitState) (c : Nat) :
    (x.settle c).regs = x.regs ∧ (x.settle c).flags = x.flags ∧ (x.settle c).stack = x.stack ∧ (x.settle c).pc = x.pc ∧ (x.settle c).run = x.run ∧ (x.settle c).start = x.start ∧ (x.settle c).bank = x.bank ∧ (x.settle c).swapArmed = x.swapArmed ∧ (x.settle c).wait = x.wait ∧ (x.settle c).stalled = x.stalled ∧ (x.settle c).latTtimeHi = x.latTtimeHi ∧ (x.settle c).latFrameHi = x.latFrameHi ∧ (x.settle c).status = x.status ∧ (x.settle c).timing = x.timing ∧ (x.settle c).mbox = x.mbox ∧ (x.settle c).faultCode = x.faultCode ∧ (x.settle c).faultPc = x.faultPc ∧ (x.settle c).faultWord = x.faultWord ∧ (x.settle c).faultTtime = x.faultTtime ∧ (x.settle c).lastTrap = x.lastTrap ∧ (x.settle c).lastMark = x.lastMark ∧ (x.settle c).mark = x.mark ∧ (x.settle c).nextIssue = x.nextIssue ∧ (x.settle c).resultAt = x.resultAt ∧ (x.settle c).resultReg = x.resultReg ∧ (x.settle c).lastFrame = x.lastFrame ∧ (x.settle c).lastLine = x.lastLine ∧ (x.settle c).swapDue = x.swapDue ∧ (x.settle c).startDue = x.startDue := by
  unfold UnitState.settle; split <;> simp
@[simp] theorem UnitState.settle_events (x : UnitState) (c : Nat) : (x.settle c).events ||| (x.settle c).eventsNew = x.events ||| x.eventsNew := by
  unfold UnitState.settle; split <;> simp
theorem UnitState.settle_keeps (x : UnitState) (c : Nat) :
    ({ x.settle c with events := x.events, eventsNew := x.eventsNew, eventsCycle := x.eventsCycle } : UnitState) = x := by
  unfold UnitState.settle; split <;> rfl

/-- Alignment never goes back. -/
theorem le_alignUp (n t : Nat) (h : 0 < n) : t ≤ alignUp n t := by
  unfold alignUp ceilDiv
  have h1 := Nat.div_add_mod (t + n - 1) n
  have h2 := Nat.mod_lt (t + n - 1) h
  rw [Nat.mul_comm] at h1
  omega

theorem unitCycle_pos (u : Nat) : 0 < unitCycle u := by unfold unitCycle mgmtCycle; split <;> omega

theorem State.le_issueAt (s : State) (u : Nat) (held : Bool) (reads : List VReg) : s.ttime ≤ s.issueAt u held reads := by
  unfold State.issueAt
  refine Nat.le_trans ?_ (le_alignUp _ _ (unitCycle_pos u))
  split <;> omega

@[simp] theorem State.advance_ttime (s : State) (t : Nat) : (s.advance t).ttime = max s.ttime t := by
  unfold State.advance; grind
@[simp] theorem State.advance_unit (s : State) (t u : Nat) : (s.advance t).unit u = s.unit u := by unfold State.advance; split <;> rfl
@[simp] theorem State.advance_snap (s : State) (t : Nat) : (s.advance t).snap = s.snapTo (max s.ttime t) := by
  unfold State.advance State.snapTo; grind
@[simp] theorem State.advance_keeps (s : State) (t : Nat) : ({ s.advance t with ttime := s.ttime, snap := s.snap } : State) = s := by
  unfold State.advance; split <;> rfl

@[simp] theorem State.unit_modUnit (s : State) (u : Nat) (f : UnitState → UnitState) : (s.modUnit u f).unit u = f (s.unit u) := by simp [State.modUnit]
@[simp] theorem State.unit_modUnit_ne (s : State) (u w : Nat) (f : UnitState → UnitState) (h : w ≠ u) : (s.modUnit u f).unit w = s.unit w := by
  simp [State.modUnit, h]

@[simp] theorem State.issued_ttime (s : State) (u : Nat) (held : Bool) (reads : List VReg) : (s.issued u held reads).ttime = s.issueAt u held reads := by
  simp [State.issued, s.le_issueAt]
@[simp] theorem State.issued_unit_ne (s : State) (u w : Nat) (held : Bool) (reads : List VReg) (h : w ≠ u) :
    (s.issued u held reads).unit w = s.unit w := by simp [State.issued, h]
@[simp] theorem State.issued_snap (s : State) (u : Nat) (held : Bool) (reads : List VReg) :
    (s.issued u held reads).snap = s.snapTo (s.issueAt u held reads) := by
  simp [State.issued, State.modUnit, s.le_issueAt]
theorem State.issued_keeps (s : State) (u : Nat) (held : Bool) (reads : List VReg) :
    ({ s.issued u held reads with ttime := s.ttime, units := s.units, snap := s.snap } : State) = s := by
  unfold State.issued State.advance State.modUnit State.setUnit; dsimp only; split <;> rfl
/-- Apart from its units, a state that has issued an instruction is the state moved to the instant of issue. -/
theorem State.issued_moved (s : State) (u : Nat) (held : Bool) (reads : List VReg) :
    ({ s.issued u held reads with units := s.units } : State) = s.movedTo (s.issueAt u held reads) := by
  have h : ({ s.issued u held reads with units := s.units } : State)
      = { s with ttime := (s.issued u held reads).ttime, snap := (s.issued u held reads).snap } :=
    congrArg (fun y : State => ({ y with ttime := (s.issued u held reads).ttime, snap := (s.issued u held reads).snap } : State))
      (s.issued_keeps u held reads)
  rw [h, State.issued_ttime, State.issued_snap, State.movedTo]
theorem State.issued_unit (s : State) (u : Nat) (held : Bool) (reads : List VReg) :
    (s.issued u held reads).unit u = { (s.unit u).settle (cycleOf u (s.issueAt u held reads)) with
      nextIssue := s.issueAt u held reads + unitCycle u, pc := (s.unit u).pc + 1 } := by
  simp [State.issued, s.le_issueAt]

/-- Issue of an instruction whose PC is in range: an illegal word faults, else the body decides (R46, R51, R62). -/
theorem State.umber_issue (s : State) (u : Nat) (w : Word) (held : Bool) (reads : List VReg) (body : State → Nat → Except Nat State)
    (h : s.canIssue u = true) :
    s.umber u w held reads body =
      let s1 := s.advance (s.issueAt u held reads)
      let s2 := s1.modUnit u (fun x => { x.settle (cycleOf u s1.ttime) with nextIssue := s1.ttime + unitCycle u })
      if legalWord (decide (128 ≤ u)) w then
        match body (s.issued u held reads) (s.unit u).pc with
        | .ok t => t
        | .error c => s2.umberFault u c (s.unit u).pc w
      else s2.umberFault u fltOpcode (s.unit u).pc w := by
  unfold State.canIssue at h
  have h1 : s.runs u = true := by grind
  have h2 : ¬ fetchRange u ≤ (s.unit u).pc := by grind
  have hp : ∀ t c, ({ (s.unit u).settle c with nextIssue := t } : UnitState).pc = (s.unit u).pc := by
    intros; simp [UnitState.settle]; split <;> rfl
  unfold State.umber State.issued
  simp only [h1, Bool.not_true, Bool.false_eq_true, if_false, State.unit_modUnit, State.advance_unit, hp, h2]
  cases hl : legalWord (decide (128 ≤ u)) w <;> rfl

/-- An instruction whose body succeeds. -/
theorem State.umber_ok (s : State) (u : Nat) (w : Word) (held : Bool) (reads : List VReg) (body : State → Nat → Except Nat State) (t : State)
    (h : s.canIssue u = true) (hl : legalWord (decide (128 ≤ u)) w = true) (hb : body (s.issued u held reads) (s.unit u).pc = .ok t) :
    s.umber u w held reads body = t := by
  rw [State.umber_issue _ _ _ _ _ _ h]; simp [hl, hb]

/-- What a body that sets its unit's state alone leaves. -/
theorem State.setUnit_unitOnly (s : State) (u : Nat) (held : Bool) (reads : List VReg) (x : UnitState) :
    UnitOnly u held reads s ((s.issued u held reads).setUnit u x) := by
  exact ⟨by simp, by simpa [State.setUnit] using s.issued_moved u held reads, fun w h => by simp [h]⟩

theorem State.modUnit_unitOnly (s : State) (u : Nat) (held : Bool) (reads : List VReg) (f : UnitState → UnitState) :
    UnitOnly u held reads s ((s.issued u held reads).modUnit u f) := State.setUnit_unitOnly ..

@[simp] theorem State.issued_v (s : State) (u : Nat) (held : Bool) (reads : List VReg) (r : VReg) : (s.issued u held reads).v u r = s.v u r := by
  simp [State.v, UnitState.v, State.issued_unit]

@[simp] theorem State.issued_opS (s : State) (u : Nat) (held : Bool) (reads : List VReg) (b : AluSrc) : (s.issued u held reads).opS u b = s.opS u b := by
  cases b <;> simp [State.opS]
@[simp] theorem State.issued_opZ (s : State) (u : Nat) (held : Bool) (reads : List VReg) (b : AluSrc) : (s.issued u held reads).opZ u b = s.opZ u b := by
  cases b <;> simp [State.opZ]

/-- Registers after a write of one (R42). -/
theorem UnitState.v_setV (x : UnitState) (d r : VReg) (w : Word) : (x.setV d w).v r = if r = 0 then 0 else if r = d then w else x.v r := by
  unfold UnitState.setV UnitState.v
  by_cases hr : r = 0
  · simp [hr]
  · by_cases h : r = d
    · subst h; rw [if_neg hr, if_neg hr, if_neg hr]; simp
    · have e : r.toNat ≠ d.toNat := fun e => h (BitVec.eq_of_toNat_eq e)
      rw [if_neg hr, if_neg hr, if_neg h, if_neg hr]
      split
      · rfl
      · simp [e]

@[simp] theorem UnitState.setV_others (x : UnitState) (d : VReg) (w : Word) :
    (x.setV d w).flags = x.flags ∧ (x.setV d w).pc = x.pc ∧ (x.setV d w).nextIssue = x.nextIssue ∧ (x.setV d w).events = x.events
      ∧ (x.setV d w).eventsNew = x.eventsNew ∧ (x.setV d w).stack = x.stack ∧ (x.setV d w).run = x.run ∧ (x.setV d w).mbox = x.mbox
      ∧ (x.setV d w).latTtimeHi = x.latTtimeHi ∧ (x.setV d w).latFrameHi = x.latFrameHi ∧ (x.setV d w).timing = x.timing := by
  unfold UnitState.setV; split <;> simp

theorem UnitState.setV_keeps (x : UnitState) (d : VReg) (w : Word) : ({ x.setV d w with regs := x.regs } : UnitState) = x := by
  unfold UnitState.setV; split <;> rfl

/-- A unit that a body leaves with a new register, new flags and no other change. -/
theorem coreOnly_of (s : State) (u : Nat) (held : Bool) (reads : List VReg) (x : UnitState)
    (h : ({ x with regs := (s.unit u).regs, flags := (s.unit u).flags } : UnitState)
      = { (s.issued u held reads).unit u with regs := (s.unit u).regs, flags := (s.unit u).flags }) :
    CoreOnly u s ((s.issued u held reads).setUnit u x) := by
  rw [State.issued_unit] at h
  cases x
  have := UnitState.settle_keeps (s.unit u) (cycleOf u (s.issueAt u held reads))
  cases hs : (s.unit u).settle (cycleOf u (s.issueAt u held reads))
  have he := UnitState.settle_events (s.unit u) (cycleOf u (s.issueAt u held reads))
  rw [hs] at h this he
  simp at h
  refine ⟨?_, ?_, ?_⟩
  · simp; exact h.2.2.2.2.2.2.2.2.2.2.2.2.2.2.2.2.2.2.2.2.2.2.2.1
  · simp [← he, h]
  · rw [← this]; simp [h]

/-- An arithmetic body: the outcome in its destination and in the flags. -/
theorem State.setAlu_done (s : State) (u : Nat) (d : VReg) (reads : List VReg) (o : AluOut) :
    AluDone u d reads o.res o.z o.n o.c s ((s.issued u false reads).setAlu u (some d) o) := by
  refine ⟨fun x => ?_, ?_, ?_, State.modUnit_unitOnly .., ?_⟩
  · simp only [State.v, State.setAlu, State.unit_modUnit, UnitState.v_setV, State.issued_unit]
    simp [UnitState.v]
  · simp [State.setAlu, State.issued_unit, Flags.after]
  · simp [State.setAlu, State.issued_unit]
  · refine coreOnly_of s u false reads _ ?_
    simp only [UnitState.setV]; split <;> rfl

end Sys2Proof.Machine
end

