-- ==== Sys2Proof/Laws/Legal.lean ====
section
/-! SUPPORT. The fields of an encoded Umber word, and which encoded words are legal (Tables 2.2, 2.3, 8.2). -/

namespace Sys2Proof.Machine

/-- The fields of a word laid out as op, d, a and 18 bits. -/
theorem word_fields (op d a i : Nat) (ho : op < 64) (hd : d < 16) (ha : a < 16) (hi : i < 2 ^ 18) :
    let w := word (op * 2 ^ 26 + d * 2 ^ 22 + a * 2 ^ 18 + i)
    bits w 31 26 = op ∧ bits w 25 22 = d ∧ bits w 21 18 = a ∧ bits w 17 14 = i / 2 ^ 14 ∧ bits w 13 0 = i % 2 ^ 14 := by
  simp [bits, fieldOf, word, BitVec.toNat_ofNat]; omega

/-- The legality of a word by its fields. -/
def legalFields (ce : Bool) (op d a b fn : Nat) : Bool :=
  let f := fn % 16
  if op = 0x01 ∨ op = 0x05 ∨ op = 0x06 then decide (d = 0 ∧ a = 0 ∧ b = 0 ∧ fn = 0)
  else if op = 0x02 then decide (d = 0 ∧ b = 0 ∧ fn = 0)
  else if op = 0x03 then decide (d ≠ 15)
  else if op = 0x04 then decide (d = 0)
  else if op = 0x07 then decide (d = 0 ∧ a = 0)
  else if op = 0x08 then
    decide (1 ≤ f ∧ f ≤ 10 ∧ fn / 32 = 0) && (decide (fn / 16 % 2 = 0) || decide (f = 7 ∨ f = 9 ∨ f = 10)) && (decide (f ≠ 8) || decide (d = 0))
  else if op = 0x09 ∨ op = 0x0A then decide (a = 0)
  else if op = 0x12 then decide (d = 0)
  else if 0x0B ≤ op ∧ op ≤ 0x14 then true
  else if (0x18 ≤ op ∧ op ≤ 0x1A) ∨ (0x1C ≤ op ∧ op ≤ 0x1E) then true
  else if op = 0x20 then decide (a = 0)
  else if op = 0x21 then decide (d = 0)
  else if op = 0x28 then decide (d ≤ 3)
  else if op = 0x30 then decide (d ≤ 2)
  else if op = 0x31 then decide (d ≤ 1)
  else if op = 0x32 ∨ op = 0x34 then decide (d = 0 ∧ b = 0)
  else if op = 0x33 then decide (d = 1 ∨ (d = 0 ∧ b = 0))
  else if op = 0x35 ∨ op = 0x38 then decide (d ≤ 2)
  else if op = 0x36 ∨ op = 0x37 then decide (d = 0)
  else if op = 0x39 then decide (d ≤ 1 ∧ b = 0)
  else if op = 0x3A then decide (d = 0 ∨ (d = 1 ∧ b = 0))
  else if op = 0x3B then decide (d = 0 ∧ a = 0 ∧ b = 0) && !ce
  else if op = 0x3C then decide (d ≤ 1) && ce
  else if op = 0x3D then decide (d ≤ 2 ∧ a = 0 ∧ b = 0) && ce
  else if op = 0x3E then decide (d ≤ 2) && ce
  else false

theorem legalWord_fields (ce : Bool) (w : Word) :
    legalWord ce w = legalFields ce (bits w 31 26) (bits w 25 22) (bits w 21 18) (bits w 17 14) (bits w 13 0) := rfl

theorem legal_encI (ce : Bool) (op : Nat) (d a : VReg) (i : BitVec 18) (ho : op < 64) :
    legalWord ce (encI op d a i) = legalFields ce op d.toNat a.toNat (i.toNat / 2 ^ 14) (i.toNat % 2 ^ 14) := by
  have hd : d.toNat < 16 := d.isLt
  have ha : a.toNat < 16 := a.isLt
  have hi : i.toNat < 2 ^ 18 := i.isLt
  rw [legalWord_fields, encI, (word_fields _ _ _ _ ho hd ha hi).1, (word_fields _ _ _ _ ho hd ha hi).2.1,
    (word_fields _ _ _ _ ho hd ha hi).2.2.1, (word_fields _ _ _ _ ho hd ha hi).2.2.2.1, (word_fields _ _ _ _ ho hd ha hi).2.2.2.2]

theorem legal_encA (ce : Bool) (op : Nat) (d a b : VReg) (fn : Nat) (ho : op < 64) :
    legalWord ce (encA op d a b fn) = legalFields ce op d.toNat a.toNat b.toNat (fn % 2 ^ 14) := by
  have hd : d.toNat < 16 := d.isLt
  have ha : a.toNat < 16 := a.isLt
  have hb : b.toNat < 16 := b.isLt
  have hf : fn % 2 ^ 14 < 2 ^ 14 := Nat.mod_lt _ (by decide)
  have hi : b.toNat * 2 ^ 14 + fn % 2 ^ 14 < 2 ^ 18 := by omega
  rw [legalWord_fields, encA, Nat.add_assoc _ (b.toNat * 2 ^ 14), (word_fields _ _ _ _ ho hd ha hi).1, (word_fields _ _ _ _ ho hd ha hi).2.1,
    (word_fields _ _ _ _ ho hd ha hi).2.2.1, (word_fields _ _ _ _ ho hd ha hi).2.2.2.1, (word_fields _ _ _ _ ho hd ha hi).2.2.2.2]
  congr 1 <;> omega

theorem legal_encM (ce : Bool) (op sub : Nat) (a b : VReg) (i : BitVec 14) (ho : op < 64) :
    legalWord ce (encM op sub a b i) = legalFields ce op (sub % 16) a.toNat b.toNat i.toNat := by
  have hd : sub % 16 < 16 := Nat.mod_lt _ (by decide)
  have ha : a.toNat < 16 := a.isLt
  have hb : b.toNat < 16 := b.isLt
  have hf : i.toNat < 2 ^ 14 := i.isLt
  have hi : b.toNat * 2 ^ 14 + i.toNat < 2 ^ 18 := by omega
  rw [legalWord_fields, encM, Nat.add_assoc _ (b.toNat * 2 ^ 14), (word_fields _ _ _ _ ho hd ha hi).1, (word_fields _ _ _ _ ho hd ha hi).2.1,
    (word_fields _ _ _ _ ho hd ha hi).2.2.1, (word_fields _ _ _ _ ho hd ha hi).2.2.2.1, (word_fields _ _ _ _ ho hd ha hi).2.2.2.2]
  congr 1 <;> omega

theorem legal_encJ (ce : Bool) (op cond : Nat) (off : BitVec 22) (ho : op < 64) :
    legalWord ce (encJ op cond off) = legalFields ce op (cond % 16) (off.toNat / 2 ^ 18) (off.toNat / 2 ^ 14 % 16) (off.toNat % 2 ^ 14) := by
  have hd : cond % 16 < 16 := Nat.mod_lt _ (by decide)
  have hf : off.toNat < 2 ^ 22 := off.isLt
  have ha : off.toNat / 2 ^ 18 < 16 := by omega
  have hi : off.toNat % 2 ^ 18 < 2 ^ 18 := by omega
  have e : encJ op cond off = word (op * 2 ^ 26 + (cond % 16) * 2 ^ 22 + off.toNat / 2 ^ 18 * 2 ^ 18 + off.toNat % 2 ^ 18) := by
    have h : (cond % 16) * 2 ^ 22 + off.toNat = (cond % 16) * 2 ^ 22 + (off.toNat / 2 ^ 18 * 2 ^ 18 + off.toNat % 2 ^ 18) := by omega
    rw [encJ, Nat.add_assoc, h, ← Nat.add_assoc, ← Nat.add_assoc]
  rw [legalWord_fields, e, (word_fields _ _ _ _ ho hd ha hi).1, (word_fields _ _ _ _ ho hd ha hi).2.1,
    (word_fields _ _ _ _ ho hd ha hi).2.2.1, (word_fields _ _ _ _ ho hd ha hi).2.2.2.1, (word_fields _ _ _ _ ho hd ha hi).2.2.2.2]
  congr 1 <;> omega

/-- An arithmetic word: legal in the immediate form, and in the register form where the signed bit is the instruction's. -/
theorem legal_encAlu (ce : Bool) (fn op : Nat) (d a : VReg) (b : AluSrc) (hf : 1 ≤ fn ∧ fn ≤ 10) (ho : 0x0B ≤ op ∧ op ≤ 0x14)
    (hg : srcSigned b = true → fn = 7 ∨ fn = 9 ∨ fn = 10) (h8 : fn = 8 → d = 0) (h12 : op = 0x12 → d = 0) : legalWord ce (encAlu fn op d a b) = true := by
  cases b with
  | imm i =>
    rw [encAlu, legal_encI _ _ _ _ _ (by omega)]
    have : op = 0x12 → d.toNat = 0 := fun h => by rw [h12 h]; rfl
    simp only [legalFields]; grind
  | reg r g =>
    rw [encAlu, legal_encA _ _ _ _ _ _ (by omega)]
    have h8 : fn = 8 → d.toNat = 0 := fun h => by rw [h8 h]; rfl
    cases g with
    | false =>
      have e : (fn + flag false 4) % 2 ^ 14 = fn := by simp [flag]; omega
      have e1 : fn % 16 = fn := by omega
      have e2 : fn / 32 = 0 := by omega
      have e3 : fn / 16 = 0 := by omega
      simp only [legalFields, e, e1, e2, e3]
      simp
      refine ⟨by omega, ?_⟩
      by_cases h : fn = 8
      · right; have := h8 h; simp_all
      · exact .inl h
    | true =>
      have h := hg rfl
      have e : (fn + flag true 4) % 2 ^ 14 = fn + 16 := by simp [flag]; omega
      have e1 : (fn + 16) % 16 = fn := by omega
      have e2 : (fn + 16) / 32 = 0 := by omega
      simp only [legalFields, e, e1, e2]
      simp
      refine ⟨⟨by omega, .inr h⟩, .inl (by omega)⟩

end Sys2Proof.Machine
end

