-- ==== Sys2Proof/Tests/Slice0.lean ====
section
/-! SUPPORT. Tests. First the smoke test of the well-formedness checks and small tests from worked figures of the spec; then, for each
obligation with hypotheses, a theorem that gives concrete states and operands meeting the hypotheses of each of its clauses. -/

namespace Sys2Proof.Tests

open Sys2Proof.Machine

set_option Elab.async false

/-! The well-formedness checks: one ill-formed command for each of them, each refused. -/

theorem test_wf_refuses : (
    [.ret 132, .attach 12, .cmdNop 4, .switchingLine 64 0, .tgrpFree 16, .tileCtrlEnable 0 16 0, .frcPoolReturn 8, .igmpReport 16384,
     .cap 288, .l1Resume 288, .cxlCrcRetry 4, .refLost 10, .audioSlip 8192, .destWrite 0 512 0, .obFixedEncode 8, .aesUnlock 16,
     .fpOutFree 4, .fpInPulse 2 0 0, .thermalTrip 96, .pdFault 96, .pdReqWrite 0 3 0, .railFault 11, .counterLoRead 0 0x100000000,
     .msixUnmask 64, .salvoDecide 0x100000000, .sdiLineRx 0 0 8192 true true none 0 false ⟨0, false, none, none, []⟩, .keyBusRequest 0 256,
     .sdiLineRx 0 4 0 true true none 0 false ⟨0, false, none, none, []⟩, .tamper 7 0, .keyBusRequest 23 0, .candCfgWrite 0 0 3 0, .amapSwitchPoint 255,
     .mediaBlockRx 0 2048 0 false []] : List Instr).all (fun i => !i.wf) = true := by decide

theorem test_wf_accepts : (
    [.ret 131, .attach 11, .cmdNop 3, .switchingLine 63 0, .tgrpFree 15, .tileCtrlEnable 0 15 0, .frcPoolReturn 7, .igmpReport 16383,
     .cap 287, .l1Resume 287, .cxlCrcRetry 3, .refLost 9, .audioSlip 8191, .destWrite 0 511 0, .obFixedEncode 7, .aesUnlock 15,
     .fpOutFree 3, .fpInPulse 1 0 0, .thermalTrip 95, .pdFault 95, .pdReqWrite 0 2 0, .railFault 10, .counterLoRead 0 0xFFFFFFFF,
     .msixUnmask 63, .salvoDecide 0xFFFFFFFF, .sdiLineRx 0 3 8191 true true none 0 false ⟨0, false, none, none, []⟩, .keyBusRequest 22 255, .tamper 6 0,
     .candCfgWrite 0 0 2 0, .amapSwitchPoint 254, .mediaBlockRx 0 2047 0 false []] : List Instr).all Instr.wf = true := by decide


/-- Words written out from Tables 2.2 and 2.3, one of each format, and words that spell no instruction: word 0, a CMP with a destination, a
TAKE with bits in its unused immediate. -/
theorem test_words : [0x28400018, 0x38448000, 0x208D0001, 0x0C7FFFFF, 0xC0048000, 0x00000000, 0x204D0008, 0xC0048001].map (decodeWord 3)
    = [some (.lui 3 1 0x18), some (.or 3 1 1 (.imm 0x8000)), some (.add 3 2 3 (.reg 4 false)), some (.jcond 3 1 0x3FFFFF), some (.take 3 1 2),
      none, none, none] := by decide +kernel
/-! Helpers. -/

/-- An Except that is this error, as a Bool. -/
def errIs {ε α : Type} [DecidableEq ε] (x : Except ε α) (e : ε) : Bool := match x with | .error k => decide (k = e) | .ok _ => false
theorem errIs_eq {ε α : Type} [DecidableEq ε] {x : Except ε α} {e : ε} (h : errIs x e = true) : x = .error e := by
  cases x <;> simp_all [errIs]
/-- An Except that is this value, as a Bool. -/
def okIs {ε α : Type} [DecidableEq α] (x : Except ε α) (a : α) : Bool := match x with | .ok k => decide (k = a) | .error _ => false
theorem okIs_eq {ε α : Type} [DecidableEq α] {x : Except ε α} {a : α} (h : okIs x a = true) : x = .ok a := by
  cases x <;> simp_all [okIs]
/-- An Except that is a value, as a Bool. -/
def isOk {ε α : Type} (x : Except ε α) : Bool := match x with | .ok _ => true | .error _ => false
theorem ok_some {ε α : Type} {x : Except ε α} (h : isOk x = true) : ∃ a, x = .ok a := by
  cases x <;> simp_all [isOk]
theorem some_pair {α : Type} {x : Option (Nat × α)} {k : Nat} (h : x.map Prod.fst = some k) : ∃ a, x = some (k, a) := by
  cases x with
  | none => simp at h
  | some p => obtain ⟨a, b⟩ := p; simp at h; exact ⟨b, by rw [h]⟩
theorem cxlPresent_lt (s : State) (x : Nat) (h : s.cxlPresent x = true) : x < 4 := by
  have h1 : x < s.nCxl := of_decide_eq_true (Bool.and_eq_true _ _ |>.mp h).1
  have h2 : s.nCxl ≤ 4 := by unfold State.nCxl; split <;> omega
  omega

/-! Common parts of the scenario states. -/

def un (x : UnitState) : UnitState := { x with run := .run }
def putWs (m : Memory) (a : Nat) (ws : List Nat) : Memory := Memory.writeBytes m a (ws.flatMap (fun w => leBytes 4 w))
def regs1 : Tbl Word := [(1, 5), (2, 0xFFFFFFFE), (3, 0x80000003), (4, 33), (5, 7), (6, 0x40000000), (7, 0x40000001), (8, 1), (9, 300)]
def w_ (n : Nat) : Word := BitVec.ofNat 32 n
def f0w : Word := w_ (1920 * 2^16 + 1080)
def f1w : Word := w_ (8 * 2^24)      -- 50 Hz, code 0
def f2w : Word := w_ (1125 * 2^16 + 2640)
/-- 1920x1080p50: 2640 x 1125. -/
def tim (g : Nat) : TimSet := { h0 := w_ (1920*2^16 + 528), h1 := w_ (44*2^16+148), v0 := w_ (1080*2^16+4), v1 := w_ (5*2^16+36), ctrl := w_ g }
def timRegs (n g : Nat) : Tbl Word := [(R.outTimH0Next n, (tim g).h0), (R.outTimH1Next n, (tim g).h1), (R.outTimV0Next n, (tim g).v0), (R.outTimV1Next n, (tim g).v1), (R.outTimCtrlNext n, (tim g).ctrl)]
def vflow (p : Nat) : Flow := { valid := true, info := w_ (2^31 + 2^21 + 2^8 * p + p), fmt0 := f0w, fmt1 := f1w, fmt2 := f2w, storeW := w_ (4*256+2), base := heapStart, slotBytes := 4000000, wr := 500, rateQ := 100000000, slots := List.replicate 4 {}, sig := 0x77 }
def media : State := { State.reset with ttime := 1002, popGib := 512, cxlSet := 15, heap := [(heapStart, 16000000, false), (heapStart + 2^30, 2^30, true)], regs := [(R.portMode 6, 1), (R.portMode 7, 1), (R.portMode 8, 7), (R.tgrpCtrl 2, w_ (2^31 + 8 * 2^16)), (R.stkRoute (2*5), w_ (2^31 + 3*2^16))] ++ timRegs 6 255 ++ timRegs 7 2, groups := [(2, { running := true, fixed := true })], flows := [(100, vflow 6), (101, {valid := true, landing := some (5, 33), ready := true})], outs := [(6, {}), (7, {tim := tim 2, hasTim := true, scanning := true, group := 2})], units := [(130, un {regs := regs1, timing := 3, pc := 7}), (70, un {regs := regs1, pc := 7}), (71, un {regs := regs1}), (72, un {regs := regs1}), (73, un {regs:=regs1})] }
/-- set registers of every unit -/
def withV (s : State) (vs : List (Nat × Nat)) : State := { s with units := s.units.map (fun p => (p.1, { p.2 with regs := vs.map (fun q => (q.1, w_ q.2)) })) }

namespace ForArithmeticAndLogic
def un (x : UnitState) : UnitState := { x with run := .run }
def s0 : State := { State.reset with units := [(0, un {}), (128, un {})] }
def regs1 : Tbl Word := [(1, 5), (2, 0xFFFFFFFE), (3, 0x80000003), (4, 33), (5, 7), (6, 0x40000000), (7, 0x40000001)]
def s1 : State := { State.reset with ttime := 1002, units := [(3, un {regs := regs1, ctlWords := [(unitMemBase 3) / 4, (unitMemBase 3) / 4 + 1], ctlCycle := 252, pc := 10, flags := {z:=true,n:=true,c:=true,t:=true,e:=true}, stack := [5, 9], events := 3, eventsNew := 4, eventsCycle := 249, mbox := [(0xAB, 800), (5, 900)] }), (70, un {regs := regs1, pc := 10, stack := [1,2,3,4,5,6,7]}), (130, un {regs := regs1, pc := 20, timing := 3})] }
def scns : List State := [
 s0,
 s1,
 s1,
 { s1 with mem := { prog := [(0x20000,7), (unitMemBase 3 + 12, 9)] } },
 s1,
 { s1 with units := [(3, un {mbox := [(1, 0x5)], regs := [(1, 31)]})] }]
def sc1 (k : Nat) : State := scns.getD k State.reset
/-- States and operands that meet the hypotheses of each clause of ArithmeticAndLogic. -/
theorem witness_ArithmeticAndLogic :
    (((sc1 1).canIssue 3 = true) ∧ (srcSigned (Sys2Proof.AluSrc.reg 0x3#4 false) = false)) := by and_intros <;> decide +kernel
/-- States and operands that meet the hypotheses of each clause of ShiftsAndSelections. -/
theorem witness_ShiftsAndSelections :
    (((sc1 0).canIssue 0 = true) ∧ (0x00001#18).toNat < 32)
    ∧ (((sc1 0).canIssue 0 = true) ∧ (0x00001#18).toNat < 64)
    ∧ (((sc1 0).canIssue 0 = true) ∧ ((0x00001#18).toNat < 2 ^ 14)) := by and_intros <;> decide +kernel
/-- States and operands that meet the hypotheses of each clause of ControlFlow. -/
theorem witness_ControlFlow :
    ((0x1#4) ≠ 15)
    ∧ (((sc1 0).canIssue 0 = true) ∧ (0 ≤ ↑(BitVec.toNat ((sc1 0).v 0 (0x0#4))) ∧ ↑(BitVec.toNat ((sc1 0).v 0 (0x0#4))) < ↑(fetchRange 0)))
    ∧ (((sc1 0).canIssue 0 = true) ∧ (0x1#4) ≠ 15 ∧ (0 ≤ ↑((sc1 0).unit 0).pc + (0x000001#22).toInt ∧ ↑((sc1 0).unit 0).pc + (0x000001#22).toInt < ↑(fetchRange 0)))
    ∧ (((sc1 0).canIssue 0 = true) ∧ (((sc1 0).unit 0).stack.length < 8) ∧ (0 ≤ ↑((sc1 0).unit 0).pc + (0x000001#22).toInt ∧ ↑((sc1 0).unit 0).pc + (0x000001#22).toInt < ↑(fetchRange 0)))
    ∧ (((sc1 1).canIssue 3 = true) ∧ (((sc1 1).unit 3).stack = 5 :: ([9])) ∧ (0 ≤ ↑5 ∧ ↑5 < ↑(fetchRange 3)))
    ∧ (((sc1 0).canIssue 0 = true) ∧ 0 < 128)
    ∧ (((sc1 0).canIssue 0 = true) ∧ (((sc1 0).unit 0).lastTrap = none)) := by and_intros <;> decide +kernel
/-- States and operands that meet the hypotheses of each clause of LoadsAndStores (part 1 of 2). -/
theorem witness_LoadsAndStores_1 :
    (((sc1 3).canIssue 3 = true) ∧ (effAddr ((sc1 3).v 3 (0x0#4)) (0x00001#18) % sizeBytes (Sys2Proof.Size.byte) = 0) ∧ (effAddr ((sc1 3).v 3 (0x0#4)) (0x00001#18) + sizeBytes (Sys2Proof.Size.byte) ≤ unitMemSize 3))
    ∧ (((sc1 0).canIssue 0 = true) ∧ (0x00001#18).toNat = 1)
    ∧ (((sc1 4).canIssue 3 = true) ∧ (0x00002#18).toNat = 2)
    ∧ (((sc1 4).canIssue 3 = true) ∧ (0x00003#18).toNat = 3)
    ∧ (((sc1 4).canIssue 3 = true) ∧ (0x00004#18).toNat = 4)
    ∧ (((sc1 1).canIssue 3 = true) ∧ (0x00005#18).toNat = 5)
    ∧ (((sc1 4).canIssue 3 = true) ∧ (0x00006#18).toNat = 6)
    ∧ (((sc1 4).canIssue 3 = true) ∧ (0x00008#18).toNat = 8)
    ∧ (((sc1 4).canIssue 3 = true) ∧ (0x00009#18).toNat = 9)
    ∧ (((sc1 4).canIssue 3 = true) ∧ (0x0000b#18).toNat = 11)
    ∧ (((sc1 4).canIssue 3 = true) ∧ (0x0000c#18).toNat = 12)
    ∧ (((sc1 4).canIssue 3 = true) ∧ (0x00010#18).toNat = 16) := by and_intros <;> decide +kernel
/-- States and operands that meet the hypotheses of each clause of LoadsAndStores (part 2 of 2). -/
theorem witness_LoadsAndStores_2 :
    (((sc1 4).canIssue 3 = true) ∧ (0x00018#18).toNat = 24 ∧ 3 < 128)
    ∧ (((sc1 4).canIssue 3 = true) ∧ (0x00020#18).toNat = 32)
    ∧ (((sc1 4).canIssue 3 = true) ∧ (0x00030#18).toNat = 48 ∧ (((sc1 4).unit 3).mbox = ((0x000000ab#32, 800)) :: ([(0x00000005#32, 900)])) ∧ (cycleOf 3 ((0x000000ab#32, 800)).snd < cycleOf 3 (sc1 4).ttime))
    ∧ (((sc1 4).canIssue 70 = true) ∧ (0x00030#18).toNat = 48 ∧ (((sc1 4).unit 70).mbox = []))
    ∧ (((sc1 4).canIssue 3 = true) ∧ (0x00031#18).toNat = 49)
    ∧ (((sc1 4).canIssue 3 = true) ∧ 64 ≤ (0x00040#18).toNat ∧ (0x00040#18).toNat ≤ 71)
    ∧ (((sc1 4).canIssue 3 = true) ∧ (0x0000a#18).toNat = 10 ∧ (BitVec.toNat ((sc1 4).v 3 (0x1#4)) < 32))
    ∧ (((sc1 4).canIssue 3 = true) ∧ (0x00011#18).toNat = 17 ∧ (BitVec.toNat ((sc1 4).v 3 (0x1#4)) < 4096))
    ∧ (((sc1 4).canIssue 130 = true) ∧ (0x00018#18).toNat = 24 ∧ 128 ≤ 130 ∧ (BitVec.toNat ((sc1 4).v 130 (0x1#4)) < 16 ∨ BitVec.toNat ((sc1 4).v 130 (0x1#4)) = 255)) := by and_intros <;> decide +kernel
end ForArithmeticAndLogic

namespace ForFaultsEnterSafe
def units1 : Tbl UnitState := [(3, un {regs := regs1, pc := 10, flags := {z:=true,n:=true,c:=true,t:=true,e:=true}, stack := [5, 9], events := 3, eventsNew := 4, eventsCycle := 249, mbox := [(0xAB, 800), (5, 900)] }), (5, un {regs := regs1, pc := 10}), (70, un {regs := regs1, pc := 10, stack := [1,2,3,4,5,6,7,8]}), (71, un {regs := regs1, pc := 99999}),(130, un {regs := regs1, pc := 20, timing := 3})]
def s1 : State := { State.reset with ttime := 1002, units := units1 }
def wt (k : WaitKind) (a seen : Nat) (dl : Nat) : UnitState := {regs := regs1, flags := {e := true, t := true}, run := .wait, pc := 11, wait := some ⟨k, a, 900, dl, 0, if seen = 0 then none else some seen⟩, events := 1, eventsNew := 2, eventsCycle := 250 }
def s2 : State := { State.reset with ttime := 1002, groups := [(2, {running := true, fixed := true, lastStart := 900, epoch := 900})], outs := [(7, {tim := tim 2, hasTim := true, scanning := true, group := 2, frameT := 900}), (8, {tim := tim 2, hasTim := true, scanning := false, group := 2, frameT := 900})], units := [(1, wt .line 5 1000 1200), (2, wt .frame 2 950 1200), (3, wt .event 3 1101 1200), (4, wt .time 1100 0 1200), (5, wt .frame 3 0 1200), (6, wt .event 8 0 1200), (7, wt .time 5000 0 1200), (71, wt .line 3 0 1000000), (72, wt .line 3 0 1200), (9, wt .time 800 0 1200), (10, {wt .time 1100 0 1200 with swapDue := true}), (11, wt .line 3 0 1200)] }
def s3 (cmd nblk : Nat) : State := { s1 with ttime := 2000, units := [(130, {regs := regs1})], ces := [(2, { qstate := 1, sqHead := 5, sqTail := 7+nblk, })], mem := { sram := putWs [] (2*0x100000 + 5*64) ([cmd + 256*nblk, 77, 9, 0xFF000000] ++ List.replicate 12 0)} }
def scns : List State := [
 s1,
 s2,
 s1,
 { s1 with units := units1.map (fun p => if p.1 = 130 then p else (p.1, {p.2 with pc := fetchRange p.1 - 1, stack := []})) },
 s1,
 { s1 with units := [(3, {start := some ⟨true, 5000⟩, startDue := true, regs := regs1}), (5, {start := some ⟨false, 5000⟩, startDue := false, regs := regs1}),(6, {run := .wait, swapDue := true, swapArmed := true, regs := regs1})]},
 s3 2 3,
 s3 3 3]
def sc1 (k : Nat) : State := scns.getD k State.reset
/-- States and operands that meet the hypotheses of each clause of FaultsEnterSafe (part 1 of 2). -/
theorem witness_FaultsEnterSafe_1 :
    (71 < 128 ∧ ((sc1 0).runs 71 = true) ∧ (fetchRange 71 ≤ ((sc1 0).unit 71).pc))
    ∧ (3 < 128 ∧ ((sc1 0).canIssue 3 = true) ∧ (legalWord false (0x00000001#32) = false))
    ∧ (3 < 128 ∧ ((sc1 0).canIssue 3 = true) ∧ (0x0001#14) ≠ 0)
    ∧ (3 < 128 ∧ ((sc1 0).canIssue 3 = true))
    ∧ (3 < 128 ∧ ((sc1 2).canIssue 3 = true) ∧ (2 ^ 14 ≤ (0x04000#18).toNat))
    ∧ (3 < 128 ∧ ((sc1 2).canIssue 3 = true) ∧ 32 ≤ (0x00048#18).toNat)
    ∧ (3 < 128 ∧ ((sc1 2).canIssue 3 = true) ∧ 64 ≤ (0x00048#18).toNat)
    ∧ (3 < 128 ∧ ((sc1 2).canIssue 3 = true) ∧ (effAddr ((sc1 2).v 3 (0x0#4)) (0x00007#18) % sizeBytes (Sys2Proof.Size.half) ≠ 0))
    ∧ (3 < 128 ∧ ((sc1 2).canIssue 3 = true) ∧ (effAddr ((sc1 2).v 3 (0x0#4)) (0x3ffff#18) % sizeBytes (Sys2Proof.Size.byte) = 0) ∧ (unitMemSize 3 < effAddr ((sc1 2).v 3 (0x0#4)) (0x3ffff#18) + sizeBytes (Sys2Proof.Size.byte)))
    ∧ (3 < 128 ∧ ((sc1 0).canIssue 3 = true) ∧ ((0x00000#18).toNat = 0 ∨ (0x00000#18).toNat = 7 ∨ 72 ≤ (0x00000#18).toNat))
    ∧ (3 < 128 ∧ ((sc1 0).canIssue 3 = true) ∧ (0x00001#18).toNat ≠ 10 ∧ (0x00001#18).toNat ≠ 17)
    ∧ (70 < 128 ∧ ((sc1 0).canIssue 70 = true) ∧ (((sc1 0).unit 70).stack.length = 8)) := by and_intros <;> decide +kernel
/-- States and operands that meet the hypotheses of each clause of FaultsEnterSafe (part 2 of 2). -/
theorem witness_FaultsEnterSafe_2 :
    (5 < 128 ∧ ((sc1 0).canIssue 5 = true) ∧ (((sc1 0).unit 5).stack = []))
    ∧ (3 < 128 ∧ ((sc1 0).canIssue 3 = true) ∧ (fetchRange 3 ≤ BitVec.toNat ((sc1 0).v 3 (0x2#4))))
    ∧ (3 < 128 ∧ ((sc1 2).canIssue 3 = true) ∧ (((sc1 2).unit 3).stack.length < 8) ∧ (↑((sc1 2).unit 3).pc + (0x3ffff0#22).toInt < 0 ∨ ↑(fetchRange 3) ≤ ↑((sc1 2).unit 3).pc + (0x3ffff0#22).toInt))
    ∧ (3 < 128 ∧ ((sc1 2).canIssue 3 = true) ∧ (↑((sc1 2).unit 3).pc + (0x3ffff0#22).toInt < 0 ∨ ↑(fetchRange 3) ≤ ↑((sc1 2).unit 3).pc + (0x3ffff0#22).toInt))
    ∧ (3 < 128 ∧ ((sc1 0).canIssue 3 = true) ∧ (BitVec.toNat ((sc1 0).v 3 (0x0#4)) = 0 ∨ 1073741824 < BitVec.toNat ((sc1 0).v 3 (0x0#4))))
    ∧ (3 < 128 ∧ ((sc1 2).canIssue 3 = true) ∧ ((sc1 2).v 3 (0x0#4) = 0)) := by and_intros <;> decide +kernel
/-- States and operands that meet the hypotheses of each clause of WaitTimeoutRange. -/
theorem witness_WaitTimeoutRange :
    (((sc1 0).canIssue 3 = true) ∧ (BitVec.toNat ((sc1 0).v 3 (0x0#4)) = 0 ∨ 1073741824 < BitVec.toNat ((sc1 0).v 3 (0x0#4))))
    ∧ (((sc1 0).canIssue 3 = true) ∧ (1 ≤ BitVec.toNat ((sc1 0).v 3 (0x1#4))) ∧ (BitVec.toNat ((sc1 0).v 3 (0x1#4)) ≤ 1073741824)) := by and_intros <;> decide +kernel
/-- States and operands that meet the hypotheses of each clause of VRegisters. -/
theorem witness_VRegisters :
    (((sc1 0).canIssue 3 = true))
    ∧ ((((sc1 5).unit 3).start.isSome = true) ∧ (((sc1 5).unit 3).startDue = true))
    ∧ ((((sc1 5).unit 5).start.isSome = true) ∧ (((sc1 5).unit 5).startDue = false))
    ∧ (2 < 4 ∧ ((sc1 6).headBlock 2 = BlockAt.ready) ∧ (bits ((sc1 6).blockWord 2 ((sc1 6).ce 2).sqHead 0 0) 7 0 = 2))
    ∧ (2 < 4 ∧ ((sc1 7).headBlock 2 = BlockAt.ready) ∧ (bits ((sc1 7).blockWord 2 ((sc1 7).ce 2).sqHead 0 0) 7 0 = 3))
    ∧ ((((sc1 5).unit 6).swapDue = true) ∧ (((sc1 5).unit 6).swapArmed = true) ∧ (((sc1 5).unit 6).run = RunState.run ∨ ((sc1 5).unit 6).run = RunState.wait)) := by and_intros <;> decide +kernel
end ForFaultsEnterSafe

namespace ForWaitsBeginAndEnd
def units1 : Tbl UnitState := [(3, un {regs := regs1, pc := 10, flags := {z:=true,n:=true,c:=true,t:=true,e:=true}, stack := [5, 9], events := 3, eventsNew := 4, eventsCycle := 249, mbox := [(0xAB, 800), (5, 900)] }), (5, un {regs := regs1, pc := 10}), (70, un {regs := regs1, pc := 10, stack := [1,2,3,4,5,6,7,8]}), (71, un {regs := regs1, pc := 99999}),(130, un {regs := regs1, pc := 20, timing := 3})]
def s1 : State := { State.reset with ttime := 1002, units := units1 }
def wt (k : WaitKind) (a seen : Nat) (dl : Nat) : UnitState := {regs := regs1, flags := {e := true, t := true}, run := .wait, pc := 11, wait := some ⟨k, a, 900, dl, 0, if seen = 0 then none else some seen⟩, events := 1, eventsNew := 2, eventsCycle := 250 }
def s2 : State := { State.reset with ttime := 1002, groups := [(2, {running := true, fixed := true, lastStart := 900, epoch := 900})], outs := [(7, {tim := tim 2, hasTim := true, scanning := true, group := 2, frameT := 900}), (8, {tim := tim 2, hasTim := true, scanning := false, group := 2, frameT := 900})], units := [(1, wt .line 5 1000 1200), (2, wt .frame 2 950 1200), (3, wt .event 3 1101 1200), (4, wt .time 1100 0 1200), (5, wt .frame 3 0 1200), (6, wt .event 8 0 1200), (7, wt .time 5000 0 1200), (71, wt .line 3 0 1000000), (72, wt .line 3 0 1200), (9, wt .time 800 0 1200), (10, {wt .time 1100 0 1200 with swapDue := true}), (11, wt .line 3 0 1200)] }
def s3 (cmd nblk : Nat) : State := { s1 with ttime := 2000, units := [(130, {regs := regs1})], ces := [(2, { qstate := 1, sqHead := 5, sqTail := 7+nblk, })], mem := { sram := putWs [] (2*0x100000 + 5*64) ([cmd + 256*nblk, 77, 9, 0xFF000000] ++ List.replicate 12 0)} }
def scns : List State := [
 s1,
 s2,
 s1,
 { s1 with units := units1.map (fun p => if p.1 = 130 then p else (p.1, {p.2 with pc := fetchRange p.1 - 1, stack := []})) },
 s1,
 { s1 with units := [(3, {start := some ⟨true, 5000⟩, startDue := true, regs := regs1}), (5, {start := some ⟨false, 5000⟩, startDue := false, regs := regs1}),(6, {run := .wait, swapDue := true, swapArmed := true, regs := regs1})]},
 s3 2 3,
 s3 3 3]
def sc1 (k : Nat) : State := scns.getD k State.reset
/-- States and operands that meet the hypotheses of each clause of WaitsBeginAndEnd (part 1 of 5). -/
theorem witness_WaitsBeginAndEnd_1 :
    (((sc1 0).canIssue 3 = true) ∧ (1 ≤ BitVec.toNat ((sc1 0).v 3 (0x1#4))) ∧ (BitVec.toNat ((sc1 0).v 3 (0x1#4)) ≤ 1073741824) ∧ (3 < 128 ∨ ((sc1 0).unit 3).timing ≠ 255) ∧ (∀ (n : Nat), (sc1 0).ctxLines 3 = some n → BitVec.toNat ((sc1 0).v 3 (0x1#4)) < n) ∧ ((sc1 0).ctxLines 3 = none → BitVec.toNat ((sc1 0).v 3 (0x1#4)) ≤ 8191))
    ∧ (((sc1 0).canIssue 3 = true) ∧ (1 ≤ BitVec.toNat ((sc1 0).v 3 (0x1#4))) ∧ (BitVec.toNat ((sc1 0).v 3 (0x1#4)) ≤ 1073741824) ∧ (3 < 128 ∨ ((sc1 0).unit 3).timing ≠ 255) ∧ (1 ≤ BitVec.toNat ((sc1 0).v 3 (0x1#4))) ∧ (BitVec.toNat ((sc1 0).v 3 (0x1#4)) ≤ 255))
    ∧ (((sc1 0).canIssue 3 = true) ∧ (1 ≤ BitVec.toNat ((sc1 0).v 3 (0x1#4))) ∧ (BitVec.toNat ((sc1 0).v 3 (0x1#4)) ≤ 1073741824) ∧ (1 ≤ BitVec.toNat ((sc1 0).v 3 (0x1#4))) ∧ (BitVec.toNat ((sc1 0).v 3 (0x1#4)) < 4096)) := by and_intros <;> decide +kernel
/-- States and operands that meet the hypotheses of each clause of WaitsBeginAndEnd (part 2 of 5). -/
theorem witness_WaitsBeginAndEnd_2 :
    (∃ (w3 : Wait), (((sc1 1).unit 10).wait = some w3) ∧ (((sc1 1).unit 10).run = RunState.wait) ∧ (((sc1 1).unit 10).swapDue = true)) := by refine ⟨_, rfl, ?_⟩; and_intros <;> decide +kernel
/-- States and operands that meet the hypotheses of each clause of WaitsBeginAndEnd (part 3 of 5). -/
theorem witness_WaitsBeginAndEnd_3 :
    (∃ (w3 : Wait), (((sc1 1).unit 1).wait = some w3) ∧ (((sc1 1).unit 1).run = RunState.wait) ∧ (((sc1 1).unit 1).swapDue = false) ∧ (w3.metAt = some 1000 ∨ w3.metAt = none ∧ (w3.kind = WaitKind.line ∧ Option.any (fun n => decide (w3.arg < ((sc1 1).out n).tim.vTotal ∧ 1000 = (sc1 1).lineStart n w3.arg ∧ w3.issued ≤ 1000)) ((sc1 1).ctxOut 1) = true ∨ w3.kind = WaitKind.time ∧ if ((w3.issued : Int) - (w3.arg : Int)) % 2 ^ 32 < 2 ^ 31 then 1000 = w3.issued else w3.issued < 1000 ∧ 1000 < w3.issued + 2 ^ 32 ∧ 1000 % 2 ^ 32 = w3.arg % 2 ^ 32)) ∧ (alignUp (unitCycle 1) 1000 ≤ w3.deadline) ∧ (1000 ≤ alignUp (unitCycle 1) (max (sc1 1).ttime 1002))) := by refine ⟨_, rfl, ?_⟩; and_intros <;> decide +kernel
/-- States and operands that meet the hypotheses of each clause of WaitsBeginAndEnd (part 4 of 5). -/
theorem witness_WaitsBeginAndEnd_4 :
    (∃ (w3 : Wait), (((sc1 1).unit 7).wait = some w3) ∧ (((sc1 1).unit 7).run = RunState.wait) ∧ (((sc1 1).unit 7).swapDue = false) ∧ (w3.metAt = some 5000 ∨ w3.metAt = none ∧ (w3.kind = WaitKind.line ∧ Option.any (fun n => decide (w3.arg < ((sc1 1).out n).tim.vTotal ∧ 5000 = (sc1 1).lineStart n w3.arg ∧ w3.issued ≤ 5000)) ((sc1 1).ctxOut 7) = true ∨ w3.kind = WaitKind.time ∧ if ((w3.issued : Int) - (w3.arg : Int)) % 2 ^ 32 < 2 ^ 31 then 5000 = w3.issued else w3.issued < 5000 ∧ 5000 < w3.issued + 2 ^ 32 ∧ 5000 % 2 ^ 32 = w3.arg % 2 ^ 32)) ∧ (w3.deadline < alignUp (unitCycle 7) 5000)) := by refine ⟨_, rfl, ?_⟩; and_intros <;> decide +kernel
/-- States and operands that meet the hypotheses of each clause of WaitsBeginAndEnd (part 5 of 5). -/
theorem witness_WaitsBeginAndEnd_5 :
    (∃ (w3 : Wait), (((sc1 1).unit 5).wait = some w3) ∧ w3.metAt = none ∧ (((sc1 1).unit 5).run = RunState.wait) ∧ (((sc1 1).unit 5).swapDue = false) ∧ (w3.kind = WaitKind.frame ∨ w3.kind = WaitKind.event ∨ w3.kind = WaitKind.line ∧ ∀ (n : Nat), (sc1 1).ctxOut 5 = some n → ((sc1 1).out n).tim.vTotal ≤ w3.arg ∨ (sc1 1).lineStart n w3.arg < w3.issued)) := by refine ⟨_, rfl, rfl, ?_⟩; and_intros <;> decide +kernel
/-- States and operands that meet the hypotheses of each clause of ProfileExclusions. -/
theorem witness_ProfileExclusions :
    (((sc1 4).canIssue 3 = true) ∧ 3 < 128)
    ∧ (((sc1 4).canIssue 130 = true) ∧ 128 ≤ 130) := by and_intros <;> decide +kernel
end ForWaitsBeginAndEnd

namespace ForOutputChangesCommit
def r0 := withV media [(1, 6), (2, 7), (3, 0x40000000), (4, 0x30000001), (5, 0x10000000 + 100), (6, 3), (7, 0x20000000 + 5*2^14+33), (8, 8), (9,9), (10, 0x20000000 + 5*2^14+34)]
def fl (n : Nat) : State := { r0 with outs := r0.outs.map (fun p => if p.1 = n then (p.1, { p.2 with salvo := some 3 }) else p) }
def gh (n : Nat) : State := { r0 with outs := r0.outs.map (fun p => if p.1 = n then (p.1, { p.2 with grpHold := some 1 }) else p) }
def tl (g : Bool) : State := { withV r0 [(1, 0x80), (3, 0x40000000), (4, 0x81)] with tiles := [], regs := [(R.tileMembersLo 0, 0xC0), (R.tileCtrl 0, w_ (2^31)), (R.tileMembersLo 1, if g then 0x300 else 0xC0), (R.tileCtrl 1, w_ (2^31))] ++ r0.regs, outs := [(6, {tim := tim 2, hasTim := true}), (7, {tim := tim 2, hasTim := true}), (9, {})] }
def scns : List State := [ r0, r0, (fl 6), (gh 6), { r0 with popGib := 0 },
 { r0 with pwr := { r0.pwr with domOn := 0 }, regs := Tbl.set 0 r0.regs (R.pwrPdFault 0) 0xFFFF }, { r0 with variant := 2, units := [(128, un { regs := (1, 40) :: (r0.unit 130).regs})] },
 (withV r0 [(1, 40),(3, 0x40000000)]), { withV r0 [(1, 40),(3, 0x40000000)] with variant := 2 }, (withV (fl 6) [(1,6),(3,0x40000000),(5,0)]), (tl true), (tl true), { tl false with pwr := { r0.pwr with domOn := 0 } }, (withV {r0 with regs := (R.outPlCtrlNext 6 0, 0) :: r0.regs} [(1,6),(3,0)]),
  (withV r0 [(1,6),(5,0)])]
def sc1 (k : Nat) : State := scns.getD k State.reset
/-- States and operands that meet the hypotheses of each clause of OutputChangesCommit (part 1 of 7). -/
theorem witness_OutputChangesCommit_1 :
    (((sc1 2).canIssue 130 = true) ∧ ((sc1 2).openGroup 130 = none) ∧ ((sc1 2).mayTarget 130 (Target.out 6) = true) ∧ (readTarget 130 false ((sc1 2).v 130 (0x1#4)) = some (Target.out 6)) ∧ (srcWordOk ((sc1 2).v 130 (0x3#4)) = true) ∧ (((sc1 2).issued 130 true [(0x1#4), (0x3#4)]).takeCheck 130 none 6 6 ((sc1 2).v 130 (0x3#4)) = Except.error 12))
    ∧ (((sc1 1).canIssue 130 = true) ∧ ((sc1 1).openGroup 130 = none) ∧ ((sc1 1).mayTarget 130 (Target.out 8) = true) ∧ (readTarget 130 false ((sc1 1).v 130 (0x8#4)) = some (Target.out 8)) ∧ (((sc1 1).issued 130 true [(0x8#4)]).tsetCheck 130 none 8 8 false = Except.error 1))
    ∧ (((sc1 2).canIssue 130 = true) ∧ ((sc1 2).openGroup 130 = none) ∧ ((sc1 2).mayTarget 130 (Target.out 6) = true) ∧ (readTarget 130 false ((sc1 2).v 130 (0x1#4)) = some (Target.out 6)) ∧ (((sc1 2).issued 130 true [(0x1#4)]).fmtCheck 130 none 6 6 = Except.error 12))
    ∧ (((sc1 9).canIssue 130 = true) ∧ ((sc1 9).openGroup 130 = none) ∧ ((sc1 9).mayTarget 130 (Target.out 6) = true) ∧ (readTarget 130 false ((sc1 9).v 130 (0x1#4)) = some (Target.out 6)) ∧ (∀ (k : Nat), k < 16 → (BitVec.toNat ((sc1 9).v 130 (0x5#4))).testBit k = true → (sc1 9).insValid 6 k = true) ∧ (BitVec.toNat ((sc1 9).v 130 (0x5#4)) < 65536) ∧ (((sc1 9).issued 130 true [(0x1#4), (0x5#4)]).ancCheck 130 6 (BitVec.toNat ((sc1 9).v 130 (0x5#4))) = Except.error 12))
    ∧ (((sc1 3).canIssue 130 = true) ∧ ((sc1 3).openGroup 130 = none) ∧ ((sc1 3).mayTarget 130 (Target.out 6) = true) ∧ (readTarget 130 true ((sc1 3).v 130 (0x1#4)) = some (Target.out 6)) ∧ (((sc1 3).issued 130 true [(0x1#4), (0x3#4)]).flipCheck 130 none 6 6 (if (false) = true then 1 else 0) (bits ((sc1 3).v 130 (0x1#4)) 23 16 * 2 ^ 38 + BitVec.toNat ((sc1 3).v 130 (0x3#4)) * 64) false = Except.error 2))
    ∧ (((sc1 5).canIssue 130 = true) ∧ ((sc1 5).openGroup 130 = none) ∧ ((sc1 5).mayTarget 130 (Target.out 6) = true) ∧ (readTarget 130 false ((sc1 5).v 130 (0x1#4)) = some (Target.out 6)) ∧ (srcWordOk ((sc1 5).v 130 (0x3#4)) = true) ∧ (srcKind ((sc1 5).v 130 (0x3#4)) = 3 ∨ srcKind ((sc1 5).v 130 (0x3#4)) = 4) ∧ ((sc1 5).outPresent 6 = false) ∧ (BitVec.toNat ((sc1 5).v 130 (0x0#4)) < 65536 ∧ ∀ (k : Nat), k < 16 → (BitVec.toNat ((sc1 5).v 130 (0x0#4))).testBit k = true → (sc1 5).insValid 6 k = true))
    ∧ (((sc1 4).canIssue 130 = true) ∧ ((sc1 4).openGroup 130 = none) ∧ ((sc1 4).mayTarget 130 (Target.out 6) = true) ∧ (readTarget 130 false ((sc1 4).v 130 (0x1#4)) = some (Target.out 6)) ∧ (srcWordOk ((sc1 4).v 130 (0x3#4)) = true) ∧ (srcKind ((sc1 4).v 130 (0x3#4)) = 3 ∨ srcKind ((sc1 4).v 130 (0x3#4)) = 4) ∧ ((sc1 4).outPresent 6 = true) ∧ (sc1 4).memOk = false)
    ∧ (((sc1 2).canIssue 130 = true) ∧ ((sc1 2).openGroup 130 = none) ∧ ((sc1 2).mayTarget 130 (Target.out 6) = true) ∧ (readTarget 130 false ((sc1 2).v 130 (0x1#4)) = some (Target.out 6)) ∧ (srcWordOk ((sc1 2).v 130 (0x3#4)) = true) ∧ (srcKind ((sc1 2).v 130 (0x3#4)) = 3 ∨ srcKind ((sc1 2).v 130 (0x3#4)) = 4) ∧ ((sc1 2).outPresent 6 = true) ∧ (((sc1 2).out 6).salvo.isSome = true) ∧ (sc1 2).memOk = true)
    ∧ (((sc1 2).canIssue 130 = true) ∧ ((sc1 2).openGroup 130 = none) ∧ ((sc1 2).mayTarget 130 (Target.out 6) = true) ∧ (readTarget 130 false ((sc1 2).v 130 (0x1#4)) = some (Target.out 6)) ∧ (srcWordOk ((sc1 2).v 130 (0x3#4)) = true) ∧ (srcKind ((sc1 2).v 130 (0x3#4)) = 3 ∨ srcKind ((sc1 2).v 130 (0x3#4)) = 4) ∧ ((sc1 2).outPresent 6 = true) ∧ (((sc1 2).out 6).salvo.isSome = true) ∧ (BitVec.toNat ((sc1 2).v 130 (0x0#4)) < 65536 ∧ ∀ (k : Nat), k < 16 → (BitVec.toNat ((sc1 2).v 130 (0x0#4))).testBit k = true → (sc1 2).insValid 6 k = true))
    ∧ (((sc1 3).canIssue 130 = true) ∧ ((sc1 3).openGroup 130 = none) ∧ ((sc1 3).mayTarget 130 (Target.out 6) = true) ∧ (readTarget 130 false ((sc1 3).v 130 (0x1#4)) = some (Target.out 6)) ∧ (srcWordOk ((sc1 3).v 130 (0x3#4)) = true) ∧ (srcKind ((sc1 3).v 130 (0x3#4)) = 3 ∨ srcKind ((sc1 3).v 130 (0x3#4)) = 4) ∧ ((sc1 3).outPresent 6 = true) ∧ (((sc1 3).out 6).salvo = none) ∧ (((sc1 3).out 6).grpHold = some 1) ∧ (130 ≠ 128 + 1) ∧ (sc1 3).memOk = true)
    ∧ (((sc1 3).canIssue 130 = true) ∧ ((sc1 3).openGroup 130 = none) ∧ ((sc1 3).mayTarget 130 (Target.out 6) = true) ∧ (readTarget 130 false ((sc1 3).v 130 (0x1#4)) = some (Target.out 6)) ∧ (srcWordOk ((sc1 3).v 130 (0x3#4)) = true) ∧ (srcKind ((sc1 3).v 130 (0x3#4)) = 3 ∨ srcKind ((sc1 3).v 130 (0x3#4)) = 4) ∧ ((sc1 3).outPresent 6 = true) ∧ (((sc1 3).out 6).salvo = none) ∧ (((sc1 3).out 6).grpHold = some 1) ∧ (130 ≠ 128 + 1) ∧ (BitVec.toNat ((sc1 3).v 130 (0x0#4)) < 65536 ∧ ∀ (k : Nat), k < 16 → (BitVec.toNat ((sc1 3).v 130 (0x0#4))).testBit k = true → (sc1 3).insValid 6 k = true))
    ∧ (((sc1 0).canIssue 130 = true) ∧ ((sc1 0).openGroup 130 = none) ∧ ((sc1 0).mayTarget 130 (Target.out 6) = true) ∧ ((sc1 0).outPresent 6 = true) ∧ (((sc1 0).out 6).salvo = none) ∧ (((sc1 0).out 6).grpHold = none) ∧ (sc1 0).groupMembers = [] ∧ (sc1 0).stk.parts = [] ∧ (sc1 0).memOk = true ∧ (readTarget 130 false ((sc1 0).v 130 (0x1#4)) = some (Target.out 6)) ∧ (srcWordOk ((sc1 0).v 130 (0x3#4)) = true) ∧ (srcKind ((sc1 0).v 130 (0x3#4)) = 3 ∨ srcKind ((sc1 0).v 130 (0x3#4)) = 4)) := by and_intros <;> first | decide +kernel | exact errIs_eq (by decide +kernel)
/-- States and operands that meet the hypotheses of each clause of OutputChangesCommit (part 2 of 7). -/
theorem witness_OutputChangesCommit_2 :
    (((sc1 0).canIssue 130 = true) ∧ ((sc1 0).openGroup 130 = none) ∧ ((sc1 0).mayTarget 130 (Target.out 6) = true) ∧ ((sc1 0).outPresent 6 = true) ∧ (((sc1 0).out 6).salvo = none) ∧ (((sc1 0).out 6).grpHold = none) ∧ (sc1 0).groupMembers = [] ∧ (sc1 0).stk.parts = [] ∧ (sc1 0).memOk = true ∧ (readTarget 130 false ((sc1 0).v 130 (0x1#4)) = some (Target.out 6)) ∧ (((sc1 0).stagedTim 6).group = 255) ∧ (((sc1 0).stagedTim 6).limitsOk = true) ∧ ((sc1 0).tileOf 6 = none) ∧ ((sc1 0).portMode 6 ≠ 0) ∧ ((sc1 0).portMode 6 ≠ 10))
    ∧ (((sc1 0).canIssue 130 = true) ∧ ((sc1 0).openGroup 130 = none) ∧ ((sc1 0).mayTarget 130 (Target.out 6) = true) ∧ ((sc1 0).outPresent 6 = true) ∧ (((sc1 0).out 6).salvo = none) ∧ (((sc1 0).out 6).grpHold = none) ∧ (sc1 0).groupMembers = [] ∧ (sc1 0).stk.parts = [] ∧ (sc1 0).memOk = true ∧ (readTarget 130 false ((sc1 0).v 130 (0x1#4)) = some (Target.out 6)) ∧ (((sc1 0).stagedConv 6).lutEn = false) ∧ (((sc1 0).out 6).cur.kind = 3 ∨ ((sc1 0).out 6).cur.kind = 4) ∧ (((sc1 0).out 6).pend = none))
    ∧ (((sc1 13).canIssue 130 = true) ∧ ((sc1 13).openGroup 130 = none) ∧ ((sc1 13).mayTarget 130 (Target.out 6) = true) ∧ ((sc1 13).outPresent 6 = true) ∧ (((sc1 13).out 6).salvo = none) ∧ (((sc1 13).out 6).grpHold = none) ∧ (sc1 13).groupMembers = [] ∧ (sc1 13).stk.parts = [] ∧ (sc1 13).memOk = true ∧ (readTarget 130 false ((sc1 13).v 130 (0x1#4)) = some (Target.out 6)) ∧ (BitVec.toNat ((sc1 13).v 130 (0x3#4)) < 65536) ∧ (∀ (k : Nat), k < 16 → (BitVec.toNat ((sc1 13).v 130 (0x3#4))).testBit k = true → (sc1 13).insValid 6 k = true))
    ∧ (((sc1 0).canIssue 130 = true) ∧ ((sc1 0).openGroup 130 = none) ∧ ((sc1 0).mayTarget 130 (Target.out 6) = true) ∧ ((sc1 0).outPresent 6 = true) ∧ (((sc1 0).out 6).salvo = none) ∧ (((sc1 0).out 6).grpHold = none) ∧ (sc1 0).groupMembers = [] ∧ (sc1 0).stk.parts = [] ∧ (sc1 0).memOk = true ∧ (readTarget 130 true ((sc1 0).v 130 (0x1#4)) = some (Target.out 6)) ∧ (((sc1 0).stagedPlane 6 (if (false) = true then 1 else 0) 0).enabled = false) ∧ ((sc1 0).tileOf 6 = none))
    ∧ (((sc1 10).canIssue 72 = true) ∧ ((sc1 10).openGroup 72 = none) ∧ (readTarget 72 false ((sc1 10).v 72 (0x1#4)) = some (Target.tile 0)) ∧ ((sc1 10).tileEnabled 0 = true) ∧ ((sc1 10).tileMembers 0 = 6 :: ([7])) ∧ (srcWordOk ((sc1 10).v 72 (0x3#4)) = true) ∧ (srcKind ((sc1 10).v 72 (0x3#4)) = 4) ∧ (sc1 10).memOk = true ∧ (sc1 10).groupMembers = [] ∧ (sc1 10).stk.parts = [] ∧ ((sc1 10).mayTarget 72 (Target.tile 0) = false))
    ∧ (((sc1 10).canIssue 130 = true) ∧ ((sc1 10).openGroup 130 = none) ∧ (readTarget 130 false ((sc1 10).v 130 (0x1#4)) = some (Target.tile 0)) ∧ ((sc1 10).tileEnabled 0 = true) ∧ ((sc1 10).tileMembers 0 = 6 :: ([7])) ∧ (srcWordOk ((sc1 10).v 130 (0x3#4)) = true) ∧ (srcKind ((sc1 10).v 130 (0x3#4)) = 4) ∧ (sc1 10).memOk = true ∧ (sc1 10).groupMembers = [] ∧ (sc1 10).stk.parts = [] ∧ ((sc1 10).mayTarget 130 (Target.tile 0) = true) ∧ (∀ (n : Nat), n ∈ 6 :: ([7]) → (sc1 10).outPresent n = true ∧ ((sc1 10).out n).salvo = none ∧ ((sc1 10).out n).grpHold = none))
    ∧ (((sc1 0).canIssue 70 = true) ∧ ((sc1 0).openGroup 70 = none) ∧ (readTarget 70 false ((sc1 0).v 70 (0x2#4)) = some (Target.out 7)) ∧ (srcWordOk ((sc1 0).v 70 (0x3#4)) = true) ∧ ((sc1 0).mayTarget 70 (Target.out 7) = false)) := by and_intros <;> decide +kernel
/-- States and operands that meet the hypotheses of each clause of OutputChangesCommit (part 3 of 7). -/
theorem witness_OutputChangesCommit_3 :
    (∃ (i5 : Machine.State) (p6 : PendTake), (((sc1 0).issued 130 true [(0x1#4), (0x3#4)]).takeCheck 130 none 6 6 ((sc1 0).v 130 (0x3#4)) = Except.ok (i5, p6)) ∧ ((sc1 0).canIssue 130 = true) ∧ ((sc1 0).openGroup 130 = none) ∧ ((sc1 0).mayTarget 130 (Target.out 6) = true) ∧ (readTarget 130 false ((sc1 0).v 130 (0x1#4)) = some (Target.out 6)) ∧ (srcWordOk ((sc1 0).v 130 (0x3#4)) = true)) := by refine ⟨_, _, rfl, ?_⟩; and_intros <;> first | decide +kernel | exact okIs_eq (by decide +kernel)
/-- States and operands that meet the hypotheses of each clause of OutputChangesCommit (part 4 of 7). -/
theorem witness_OutputChangesCommit_4 :
    (∃ (p5 : PendTim), (((sc1 0).issued 130 true [(0x1#4)]).tsetCheck 130 none 6 6 false = Except.ok p5) ∧ ((sc1 0).canIssue 130 = true) ∧ ((sc1 0).openGroup 130 = none) ∧ ((sc1 0).mayTarget 130 (Target.out 6) = true) ∧ (readTarget 130 false ((sc1 0).v 130 (0x1#4)) = some (Target.out 6))) := by refine ⟨_, rfl, ?_⟩; and_intros <;> first | decide +kernel | exact okIs_eq (by decide +kernel)
/-- States and operands that meet the hypotheses of each clause of OutputChangesCommit (part 5 of 7). -/
theorem witness_OutputChangesCommit_5 :
    (∃ (p5 : PendConv), (((sc1 0).issued 130 true [(0x1#4)]).fmtCheck 130 none 6 6 = Except.ok p5) ∧ ((sc1 0).canIssue 130 = true) ∧ ((sc1 0).openGroup 130 = none) ∧ ((sc1 0).mayTarget 130 (Target.out 6) = true) ∧ (readTarget 130 false ((sc1 0).v 130 (0x1#4)) = some (Target.out 6))) := by refine ⟨_, rfl, ?_⟩; and_intros <;> first | decide +kernel | exact okIs_eq (by decide +kernel)
/-- States and operands that meet the hypotheses of each clause of OutputChangesCommit (part 6 of 7). -/
theorem witness_OutputChangesCommit_6 :
    (∃ (p5 : PendAnc), (((sc1 13).issued 130 true [(0x1#4), (0x3#4)]).ancCheck 130 6 (BitVec.toNat ((sc1 13).v 130 (0x3#4))) = Except.ok p5) ∧ ((sc1 13).canIssue 130 = true) ∧ ((sc1 13).openGroup 130 = none) ∧ ((sc1 13).mayTarget 130 (Target.out 6) = true) ∧ (readTarget 130 false ((sc1 13).v 130 (0x1#4)) = some (Target.out 6)) ∧ (∀ (k : Nat), k < 16 → (BitVec.toNat ((sc1 13).v 130 (0x3#4))).testBit k = true → (sc1 13).insValid 6 k = true) ∧ (BitVec.toNat ((sc1 13).v 130 (0x3#4)) < 65536)) := by refine ⟨_, rfl, ?_⟩; and_intros <;> first | decide +kernel | exact okIs_eq (by decide +kernel)
/-- States and operands that meet the hypotheses of each clause of OutputChangesCommit (part 7 of 7). -/
theorem witness_OutputChangesCommit_7 :
    (∃ (f6 : PendFlip), (((sc1 0).issued 130 true [(0x1#4), (0x3#4)]).flipCheck 130 none 6 6 (if (false) = true then 1 else 0) (bits ((sc1 0).v 130 (0x1#4)) 23 16 * 2 ^ 38 + BitVec.toNat ((sc1 0).v 130 (0x3#4)) * 64) false = Except.ok f6) ∧ ((sc1 0).canIssue 130 = true) ∧ ((sc1 0).openGroup 130 = none) ∧ ((sc1 0).mayTarget 130 (Target.out 6) = true) ∧ (readTarget 130 true ((sc1 0).v 130 (0x1#4)) = some (Target.out 6))) := by refine ⟨_, rfl, ?_⟩; and_intros <;> first | decide +kernel | exact okIs_eq (by decide +kernel)
end ForOutputChangesCommit

namespace ForRemoteFormatAndLut
def srcR (i : Nat) : Nat := 0x20000000 + 5*2^14+i
def r0 : State := { withV media [(1, 6), (2, 7), (3, srcR 33), (4, srcR 34), (5, 100), (6, 64), (7, 40), (8, 0xFE0000 + 17), (9, 7*65536 + 9), (10, 300), (11, 0x2001), (12, 0x705), (13, 0x10064), (14, 8190), (15, 255)] with mem := { prog := putWs [] (unitMemBase 130 + 64) [1920*2^16+1080, 8*2^24, 1125*2^16+2640] } }
def un2 : State := { r0 with flows := [(100, { vflow 6 with fmt1 := w_ (9*2^24)}), (101, {landing := some (5,33), ready := false})], outs := [(7, { cur := {kind := 2, dev := 5, idx := 33}, lut := { loading := some 10 } })] }
def scns : List State := [ r0, r0, un2, {r0 with outs := [(7, {scanning := true})]}, { r0 with outs := [(7, { salvo := some 2, cur := {kind := 1, idx := 100} })] }, {r0 with variant := 2, units := [(130, {r0.unit 130 with regs := (5, w_ 9000) :: (r0.unit 130).regs, lastMark := some 900})]}, r0, { r0 with variant := 2 }, {r0 with mem := {prog := putWs [] (unitMemBase 130 + 64) [1920*2^16+1080, 8*2^24+2^16, 1125*2^16+2640]}}, { r0 with popGib := 0 } ]
def bd (l : List Nat) : Memory := putWs [] (unitMemBase 130 + 64) l
-- SDI video bind on port 6, IP video protected on ports 8,9, audio on port 6
def d1 : List Nat := [2^21 + 6*2^8 + 6, 4*256+2, 1920*2^16+1080, 8*2^24, 1125*2^16+2640,0,0,0,0,0,0,0,0,0,0,0]
def d2 : List Nat := [2^27 + 2^23 + 2^21 + 9*2^8 + 8, 4*256+2, 1920*2^16+1080, 8*2^24, 0,0xEF010101,5,6,0xEF010102,5,6,0,0,0,20,0]
def d3 : List Nat := [2^28 + 6*2^8 + 6, 0,0,0,0,0,0,0,0,0,0,0,8,0,0,0]
def st2 (l : List Nat) : State := { withV media [(1, 64), (2, 100),(3,101)] with mem := { prog := bd l }, ttime := 5000000, regs := [(R.portMode 8, 7),(R.portMode 9,7)] ++ media.regs }
def nol (s : State) : State := { s with flows := [(100, vflow 71), (101, {vflow 6 with releasing := some 8000000}), (102, {vflow 7 with landing := some (1,2)})], outs := [(6, { cur := {kind := 1, idx := 100}})] }
def scns2 : List State := [(st2 d1), (st2 d2), (st2 d3), { withV (st2 d1) [(1,64),(2,9000),(3,100)] with variant := 2 }, {st2 d1 with flows := [(100, vflow 6)], outs := [(6, { cur := {kind := 1, idx := 100}, taken := true})]}, (nol (st2 d1)), { st2 d1 with cxlSet := 0 }, { st2 d1 with ces := [(1, { loadp := some ⟨71, false, 0, 5, 0, 1, false, 5, 10⟩ })] }, { st2 d1 with mem := { prog := putWs [] (unitMemBase 71 + 0x8000) [5] } }]
def sc1 (k : Nat) : State := scns.getD k State.reset
def sc2 (k : Nat) : State := scns2.getD k State.reset
/-- States and operands that meet the hypotheses of each clause of RemoteFormatAndLut (part 1 of 7). -/
theorem witness_RemoteFormatAndLut_1 :
    (((sc1 9).canIssue 130 = true) ∧ ((sc1 9).openGroup 130 = none) ∧ (readTarget 130 false ((sc1 9).v 130 (0x1#4)) = some (Target.out 6)) ∧ ((sc1 9).mayTarget 130 (Target.out 6) = true) ∧ (srcWordOk ((sc1 9).v 130 (0x3#4)) = true) ∧ (srcKind ((sc1 9).v 130 (0x3#4)) = 2) ∧ (((sc1 9).issued 130 true [(0x1#4), (0x3#4)]).prepare 6 ((sc1 9).v 130 (0x3#4)) = Except.error 4))
    ∧ (((sc1 0).canIssue 130 = true) ∧ ((sc1 0).openGroup 130 = none) ∧ (readTarget 130 false ((sc1 0).v 130 (0x1#4)) = some (Target.out 6)) ∧ ((sc1 0).mayTarget 130 (Target.out 6) = true) ∧ (srcWordOk ((sc1 0).v 130 (0x3#4)) = true) ∧ (srcKind ((sc1 0).v 130 (0x3#4)) = 2) ∧ ((sc1 0).outPresent 6 = true) ∧ (sc1 0).memOk = true ∧ (srcDev ((sc1 0).v 130 (0x3#4)) ≠ (sc1 0).devId) ∧ ((sc1 0).hasRoute (srcDev ((sc1 0).v 130 (0x3#4))) = true) ∧ ((sc1 0).landingOf (srcDev ((sc1 0).v 130 (0x3#4))) (srcIdx ((sc1 0).v 130 (0x3#4))) = some 101))
    ∧ (((sc1 2).canIssue 130 = true) ∧ ((sc1 2).openGroup 130 = none) ∧ (readTarget 130 false ((sc1 2).v 130 (0x1#4)) = some (Target.out 6)) ∧ ((sc1 2).mayTarget 130 (Target.out 6) = true) ∧ (srcWordOk ((sc1 2).v 130 (0x3#4)) = true) ∧ (srcKind ((sc1 2).v 130 (0x3#4)) = 2) ∧ (((sc1 2).issued 130 true [(0x1#4), (0x3#4)]).unprepare 6 ((sc1 2).v 130 (0x3#4)) = Except.error 2))
    ∧ (((sc1 0).canIssue 130 = true) ∧ ((sc1 0).openGroup 130 = none) ∧ (readTarget 130 false ((sc1 0).v 130 (0x1#4)) = some (Target.out 6)) ∧ ((sc1 0).mayTarget 130 (Target.out 6) = true) ∧ (srcWordOk ((sc1 0).v 130 (0x3#4)) = true) ∧ (srcKind ((sc1 0).v 130 (0x3#4)) = 2) ∧ ((sc1 0).outPresent 6 = true) ∧ (srcDev ((sc1 0).v 130 (0x3#4)) ≠ (sc1 0).devId) ∧ ((sc1 0).landingOf (srcDev ((sc1 0).v 130 (0x3#4))) (srcIdx ((sc1 0).v 130 (0x3#4))) = some 101) ∧ ((sc1 0).landingUsed (srcDev ((sc1 0).v 130 (0x3#4))) (srcIdx ((sc1 0).v 130 (0x3#4))) = false) ∧ (((sc1 0).flow 101).landing = some (srcDev ((sc1 0).v 130 (0x3#4)), srcIdx ((sc1 0).v 130 (0x3#4)))))
    ∧ (((sc1 2).canIssue 130 = true) ∧ ((sc1 2).openGroup 130 = none) ∧ (readTarget 130 false ((sc1 2).v 130 (0x2#4)) = some (Target.out 7)) ∧ ((sc1 2).mayTarget 130 (Target.out 7) = true) ∧ (((sc1 2).out 7).grpHold = none) ∧ (((sc1 2).issued 130 true [(0x2#4)]).lutStart 7 = Except.error 2))
    ∧ (((sc1 5).canIssue 130 = true) ∧ ((sc1 5).openGroup 130 = none) ∧ (bits ((sc1 5).v 130 (0x5#4)) 31 14 = 0) ∧ (((sc1 5).issued 130 true [(0x5#4), (0x6#4)]).readRecord 130 (BitVec.toNat ((sc1 5).v 130 (0x6#4))) 3 = Except.ok ([0x07800438#32, 0x08000000#32, 0x04650a50#32])) ∧ (formatOk (wordAt ([0x07800438#32, 0x08000000#32, 0x04650a50#32]) 0) (wordAt ([0x07800438#32, 0x08000000#32, 0x04650a50#32]) 1) (wordAt ([0x07800438#32, 0x08000000#32, 0x04650a50#32]) 2) = true) ∧ (((sc1 5).flow (bits ((sc1 5).v 130 (0x5#4)) 13 0)).isIp = true → wordAt ([0x07800438#32, 0x08000000#32, 0x04650a50#32]) 2 = 0) ∧ ((sc1 5).mayFlow 130 (bits ((sc1 5).v 130 (0x5#4)) 13 0) = true) ∧ ((sc1 5).slicePresent (bits ((sc1 5).v 130 (0x5#4)) 13 0 / 2048) = false))
    ∧ (((sc1 5).canIssue 130 = true) ∧ ((sc1 5).openGroup 130 = none) ∧ (bits ((sc1 5).v 130 (0x5#4)) 31 14 = 0) ∧ (((sc1 5).issued 130 true [(0x5#4), (0x6#4)]).readRecord 130 (BitVec.toNat ((sc1 5).v 130 (0x6#4))) 3 = Except.ok ([0x07800438#32, 0x08000000#32, 0x04650a50#32])) ∧ (formatOk (wordAt ([0x07800438#32, 0x08000000#32, 0x04650a50#32]) 0) (wordAt ([0x07800438#32, 0x08000000#32, 0x04650a50#32]) 1) (wordAt ([0x07800438#32, 0x08000000#32, 0x04650a50#32]) 2) = true) ∧ (((sc1 5).flow (bits ((sc1 5).v 130 (0x5#4)) 13 0)).isIp = true → wordAt ([0x07800438#32, 0x08000000#32, 0x04650a50#32]) 2 = 0) ∧ ((sc1 5).mayFlow 130 (bits ((sc1 5).v 130 (0x5#4)) 13 0) = true) ∧ (((sc1 5).issued 130 true [(0x5#4), (0x6#4)]).fmtFlowCheck (bits ((sc1 5).v 130 (0x5#4)) 13 0) (wordAt ([0x07800438#32, 0x08000000#32, 0x04650a50#32]) 0) (wordAt ([0x07800438#32, 0x08000000#32, 0x04650a50#32]) 1) (wordAt ([0x07800438#32, 0x08000000#32, 0x04650a50#32]) 2) = Except.error 5))
    ∧ (((sc1 1).canIssue 130 = true) ∧ ((sc1 1).openGroup 130 = none) ∧ (bits ((sc1 1).v 130 (0x5#4)) 31 14 = 0) ∧ (((sc1 1).issued 130 true [(0x5#4), (0x6#4)]).readRecord 130 (BitVec.toNat ((sc1 1).v 130 (0x6#4))) 3 = Except.ok ([0x07800438#32, 0x08000000#32, 0x04650a50#32])) ∧ (formatOk (wordAt ([0x07800438#32, 0x08000000#32, 0x04650a50#32]) 0) (wordAt ([0x07800438#32, 0x08000000#32, 0x04650a50#32]) 1) (wordAt ([0x07800438#32, 0x08000000#32, 0x04650a50#32]) 2) = true) ∧ (((sc1 1).flow (bits ((sc1 1).v 130 (0x5#4)) 13 0)).isIp = true → wordAt ([0x07800438#32, 0x08000000#32, 0x04650a50#32]) 2 = 0) ∧ ((sc1 1).mayFlow 130 (bits ((sc1 1).v 130 (0x5#4)) 13 0) = true) ∧ (((sc1 1).issued 130 true [(0x5#4), (0x6#4)]).fmtFlowCheck (bits ((sc1 1).v 130 (0x5#4)) 13 0) (wordAt ([0x07800438#32, 0x08000000#32, 0x04650a50#32]) 0) (wordAt ([0x07800438#32, 0x08000000#32, 0x04650a50#32]) 1) (wordAt ([0x07800438#32, 0x08000000#32, 0x04650a50#32]) 2) = Except.ok ()))
    ∧ (((sc1 4).canIssue 130 = true) ∧ ((sc1 4).openGroup 130 = none) ∧ (readChannel 130 ((sc1 4).v 130 (0x9#4)) = some (7, 9)) ∧ (0x0003#14).toNat < 64 ∧ (9 + ((0x0003#14).toNat + 1) ≤ 8192) ∧ (mayRef 130 7 = true) ∧ (BitVec.toNat ((sc1 4).v 130 (0xa#4)) + ((0x0003#14).toNat + 1) ≤ 8192) ∧ (((sc1 4).issued 130 true [(0x9#4), (0xa#4)]).amapCheck 130 { oc := 9, count := (0x0003#14).toNat + 1, kind := 0, src := BitVec.toNat ((sc1 4).v 130 (0xa#4)), ref := 7 } = Except.error 12))
    ∧ (((sc1 4).canIssue 130 = true) ∧ ((sc1 4).openGroup 130 = none) ∧ (readChannel 130 ((sc1 4).v 130 (0x9#4)) = some (7, 9)) ∧ (0x0003#14).toNat < 64 ∧ (9 + ((0x0003#14).toNat + 1) ≤ 8192) ∧ (mayRef 130 7 = true) ∧ (BitVec.toNat ((sc1 4).v 130 (0xb#4)) = 8192 ∨ BitVec.toNat ((sc1 4).v 130 (0xb#4)) = 8193) ∧ (((sc1 4).issued 130 true [(0x9#4), (0xb#4)]).amapCheck 130 { oc := 9, count := (0x0003#14).toNat + 1, kind := 1, src := BitVec.toNat ((sc1 4).v 130 (0xb#4)), ref := 7 } = Except.error 12))
    ∧ (((sc1 4).canIssue 130 = true) ∧ ((sc1 4).openGroup 130 = none) ∧ (readChannel 130 ((sc1 4).v 130 (0x9#4)) = some (7, 9)) ∧ (0x0003#14).toNat < 64 ∧ (9 + ((0x0003#14).toNat + 1) ≤ 8192) ∧ (mayRef 130 7 = true) ∧ (BitVec.toNat ((sc1 4).v 130 (0xa#4)) < 16384) ∧ (bits ((sc1 4).v 130 (0xa#4)) 7 6 = 0) ∧ (bits ((sc1 4).v 130 (0xa#4)) 5 0 + ((0x0003#14).toNat + 1) ≤ 64) ∧ (((sc1 4).issued 130 true [(0x9#4), (0xa#4)]).amapCheck 130 { oc := 9, count := (0x0003#14).toNat + 1, kind := 2, src := BitVec.toNat ((sc1 4).v 130 (0xa#4)), ref := 7 } = Except.error 12))
    ∧ (((sc1 4).canIssue 130 = true) ∧ ((sc1 4).openGroup 130 = none) ∧ (readChannel 130 ((sc1 4).v 130 (0x9#4)) = some (7, 9)) ∧ (0x0003#14).toNat < 64 ∧ (9 + ((0x0003#14).toNat + 1) ≤ 8192) ∧ (mayRef 130 7 = true) ∧ (bits ((sc1 4).v 130 (0xa#4)) 31 19 = 0) ∧ (bits ((sc1 4).v 130 (0xa#4)) 18 16 ≤ 3) ∧ (bits ((sc1 4).v 130 (0xa#4)) 15 0 ≤ 48000) ∧ (((sc1 4).issued 130 true [(0x9#4), (0xa#4)]).axfCheck 130 7 = Except.error 12)) := by and_intros <;> first | decide +kernel | exact errIs_eq (by decide +kernel) | exact okIs_eq (by decide +kernel)
/-- States and operands that meet the hypotheses of each clause of RemoteFormatAndLut (part 2 of 7). -/
theorem witness_RemoteFormatAndLut_2 :
    (((sc1 3).canIssue 130 = true) ∧ ((sc1 3).openGroup 130 = none) ∧ (readChannel 130 ((sc1 3).v 130 (0x8#4)) = some (254, 17)) ∧ (0x0003#14).toNat < 64 ∧ (17 + ((0x0003#14).toNat + 1) ≤ 8192) ∧ (mayRef 130 254 = true) ∧ (bits ((sc1 3).v 130 (0xa#4)) 31 19 = 0) ∧ (bits ((sc1 3).v 130 (0xa#4)) 18 16 ≤ 3) ∧ (bits ((sc1 3).v 130 (0xa#4)) 15 0 ≤ 48000) ∧ (((sc1 3).issued 130 true [(0x8#4), (0xa#4)]).axfCheck 130 254 = Except.ok ())) := by and_intros <;> first | decide +kernel | exact okIs_eq (by decide +kernel)
/-- States and operands that meet the hypotheses of each clause of RemoteFormatAndLut (part 3 of 7). -/
theorem witness_RemoteFormatAndLut_3 :
    (∃ (i26 : Machine.State), (((sc1 0).issued 130 true [(0x1#4), (0x4#4)]).addLanding 6 (srcDev ((sc1 0).v 130 (0x4#4))) (srcIdx ((sc1 0).v 130 (0x4#4))) = some (0, i26)) ∧ ((sc1 0).canIssue 130 = true) ∧ ((sc1 0).openGroup 130 = none) ∧ (readTarget 130 false ((sc1 0).v 130 (0x1#4)) = some (Target.out 6)) ∧ ((sc1 0).mayTarget 130 (Target.out 6) = true) ∧ (srcWordOk ((sc1 0).v 130 (0x4#4)) = true) ∧ (srcKind ((sc1 0).v 130 (0x4#4)) = 2) ∧ ((sc1 0).outPresent 6 = true) ∧ (sc1 0).memOk = true ∧ (srcDev ((sc1 0).v 130 (0x4#4)) ≠ (sc1 0).devId) ∧ ((sc1 0).hasRoute (srcDev ((sc1 0).v 130 (0x4#4))) = true) ∧ ((sc1 0).landingOf (srcDev ((sc1 0).v 130 (0x4#4))) (srcIdx ((sc1 0).v 130 (0x4#4))) = none)) := by
  obtain ⟨i, h⟩ := some_pair (k := 0) (by decide +kernel : (((sc1 0).issued 130 true [(0x1#4), (0x4#4)]).addLanding 6 (srcDev ((sc1 0).v 130 (0x4#4))) (srcIdx ((sc1 0).v 130 (0x4#4)))).map Prod.fst = some 0)
  exact ⟨i, h, by and_intros <;> decide +kernel⟩
/-- States and operands that meet the hypotheses of each clause of RemoteFormatAndLut (part 4 of 7). -/
theorem witness_RemoteFormatAndLut_4 :
    (∃ (i'5 : Machine.State), (((sc1 0).issued 130 true [(0x1#4)]).lutStart 6 = Except.ok i'5) ∧ ((sc1 0).canIssue 130 = true) ∧ ((sc1 0).openGroup 130 = none) ∧ (readTarget 130 false ((sc1 0).v 130 (0x1#4)) = some (Target.out 6)) ∧ ((sc1 0).mayTarget 130 (Target.out 6) = true) ∧ (((sc1 0).out 6).grpHold = none)) := by refine ⟨_, rfl, ?_⟩; and_intros <;> first | decide +kernel | exact okIs_eq (by decide +kernel)
/-- States and operands that meet the hypotheses of each clause of RemoteFormatAndLut (part 5 of 7). -/
theorem witness_RemoteFormatAndLut_5 :
    (∃ (r7 : AmapReq), (((sc1 3).issued 130 true [(0x8#4), (0xa#4)]).amapCheck 130 { oc := 17, count := (0x0003#14).toNat + 1, kind := 0, src := BitVec.toNat ((sc1 3).v 130 (0xa#4)), ref := 254 } = Except.ok r7) ∧ ((sc1 3).canIssue 130 = true) ∧ ((sc1 3).openGroup 130 = none) ∧ (readChannel 130 ((sc1 3).v 130 (0x8#4)) = some (254, 17)) ∧ (0x0003#14).toNat < 64 ∧ (17 + ((0x0003#14).toNat + 1) ≤ 8192) ∧ (mayRef 130 254 = true) ∧ (BitVec.toNat ((sc1 3).v 130 (0xa#4)) + ((0x0003#14).toNat + 1) ≤ 8192)) := by refine ⟨_, rfl, ?_⟩; and_intros <;> first | decide +kernel | exact okIs_eq (by decide +kernel)
/-- States and operands that meet the hypotheses of each clause of RemoteFormatAndLut (part 6 of 7). -/
theorem witness_RemoteFormatAndLut_6 :
    (∃ (r7 : AmapReq), (((sc1 3).issued 130 true [(0x8#4), (0xb#4)]).amapCheck 130 { oc := 17, count := (0x0003#14).toNat + 1, kind := 1, src := BitVec.toNat ((sc1 3).v 130 (0xb#4)), ref := 254 } = Except.ok r7) ∧ ((sc1 3).canIssue 130 = true) ∧ ((sc1 3).openGroup 130 = none) ∧ (readChannel 130 ((sc1 3).v 130 (0x8#4)) = some (254, 17)) ∧ (0x0003#14).toNat < 64 ∧ (17 + ((0x0003#14).toNat + 1) ≤ 8192) ∧ (mayRef 130 254 = true) ∧ (BitVec.toNat ((sc1 3).v 130 (0xb#4)) = 8192 ∨ BitVec.toNat ((sc1 3).v 130 (0xb#4)) = 8193)) := by refine ⟨_, rfl, ?_⟩; and_intros <;> first | decide +kernel | exact okIs_eq (by decide +kernel)
/-- States and operands that meet the hypotheses of each clause of RemoteFormatAndLut (part 7 of 7). -/
theorem witness_RemoteFormatAndLut_7 :
    (∃ (r7 : AmapReq), (((sc1 3).issued 130 true [(0x8#4), (0xa#4)]).amapCheck 130 { oc := 17, count := (0x0003#14).toNat + 1, kind := 2, src := BitVec.toNat ((sc1 3).v 130 (0xa#4)), ref := 254 } = Except.ok r7) ∧ ((sc1 3).canIssue 130 = true) ∧ ((sc1 3).openGroup 130 = none) ∧ (readChannel 130 ((sc1 3).v 130 (0x8#4)) = some (254, 17)) ∧ (0x0003#14).toNat < 64 ∧ (17 + ((0x0003#14).toNat + 1) ≤ 8192) ∧ (mayRef 130 254 = true) ∧ (BitVec.toNat ((sc1 3).v 130 (0xa#4)) < 16384) ∧ (bits ((sc1 3).v 130 (0xa#4)) 7 6 = 0) ∧ (bits ((sc1 3).v 130 (0xa#4)) 5 0 + ((0x0003#14).toNat + 1) ≤ 64)) := by refine ⟨_, rfl, ?_⟩; and_intros <;> first | decide +kernel | exact okIs_eq (by decide +kernel)
/-- States and operands that meet the hypotheses of each clause of SignaturesAndMarks. -/
theorem witness_SignaturesAndMarks :
    (((sc1 6).canIssue 130 = true) ∧ (BitVec.toNat ((sc1 6).v 130 (0x2#4)) < 64) ∧ ((sc1 6).outPresent (BitVec.toNat ((sc1 6).v 130 (0x2#4))) = true))
    ∧ (((sc1 7).canIssue 130 = true) ∧ (BitVec.toNat ((sc1 7).v 130 (0x7#4)) < 64) ∧ ((sc1 7).outPresent (BitVec.toNat ((sc1 7).v 130 (0x7#4))) = false))
    ∧ (((sc1 6).canIssue 70 = true) ∧ (BitVec.toNat ((sc1 6).v 70 (0xf#4)) = 255) ∧ 64 ≤ 70 ∧ 70 < 128 ∧ ((sc1 6).outPresent (70 - 64) = true))
    ∧ (((sc1 6).canIssue 130 = true) ∧ (BitVec.toNat ((sc1 6).v 130 (0x5#4)) < 16384) ∧ ((sc1 6).slicePresent (BitVec.toNat ((sc1 6).v 130 (0x5#4)) / 2048) = true) ∧ (((sc1 6).flow (BitVec.toNat ((sc1 6).v 130 (0x5#4)))).usable = true) ∧ (((sc1 6).flow (BitVec.toNat ((sc1 6).v 130 (0x5#4)))).isVideo = true))
    ∧ (((sc1 1).canIssue 130 = true) ∧ (BitVec.toNat ((sc1 1).v 130 (0x6#4)) < 16384) ∧ ((sc1 1).slicePresent (BitVec.toNat ((sc1 1).v 130 (0x6#4)) / 2048) = true) ∧ (((sc1 1).flow (BitVec.toNat ((sc1 1).v 130 (0x6#4)))).usable = false ∨ ((sc1 1).flow (BitVec.toNat ((sc1 1).v 130 (0x6#4)))).isVideo = false))
    ∧ (((sc1 5).canIssue 130 = true) ∧ (BitVec.toNat ((sc1 5).v 130 (0x5#4)) < 16384) ∧ ((sc1 5).slicePresent (BitVec.toNat ((sc1 5).v 130 (0x5#4)) / 2048) = false))
    ∧ (((sc1 5).canIssue 130 = true) ∧ (((sc1 5).unit 130).lastMark = some 900) ∧ ((sc1 5).issueAt 130 true [(0x5#4)] < 900 + 256 * unitCycle 130))
    ∧ (((sc1 0).canIssue 130 = true) ∧ (((sc1 0).unit 130).lastMark = none))
    ∧ (((sc1 0).canIssue 130 = true) ∧ (130 < 128 ∨ ((sc1 0).unit 130).timing ≠ 255)) := by and_intros <;> decide +kernel
/-- States and operands that meet the hypotheses of each clause of BindingsAndSwaps (part 1 of 4). -/
theorem witness_BindingsAndSwaps_1 :
    (((sc2 3).canIssue 130 = true) ∧ ((sc2 3).openGroup 130 = none) ∧ (BitVec.toNat ((sc2 3).v 130 (0x2#4)) < 16384) ∧ ((sc2 3).mayFlow 130 (BitVec.toNat ((sc2 3).v 130 (0x2#4))) = true) ∧ ((sc2 3).slicePresent (BitVec.toNat ((sc2 3).v 130 (0x2#4)) / 2048) = false))
    ∧ (((sc2 0).canIssue 130 = true) ∧ ((sc2 0).openGroup 130 = none) ∧ (BitVec.toNat ((sc2 0).v 130 (0x1#4)) < 16384) ∧ ((sc2 0).mayFlow 130 (BitVec.toNat ((sc2 0).v 130 (0x1#4))) = true) ∧ ((sc2 0).slicePresent (BitVec.toNat ((sc2 0).v 130 (0x1#4)) / 2048) = true) ∧ (((sc2 0).flow (BitVec.toNat ((sc2 0).v 130 (0x1#4)))).usable = false))
    ∧ (((sc2 4).canIssue 130 = true) ∧ ((sc2 4).openGroup 130 = none) ∧ (BitVec.toNat ((sc2 4).v 130 (0x2#4)) < 16384) ∧ ((sc2 4).mayFlow 130 (BitVec.toNat ((sc2 4).v 130 (0x2#4))) = true) ∧ ((sc2 4).slicePresent (BitVec.toNat ((sc2 4).v 130 (0x2#4)) / 2048) = true) ∧ (((sc2 4).flow (BitVec.toNat ((sc2 4).v 130 (0x2#4)))).usable = true) ∧ ((sc2 4).flowTaken (BitVec.toNat ((sc2 4).v 130 (0x2#4))) = true))
    ∧ (((sc2 7).canIssue 71 = true) ∧ ((sc2 7).openGroup 71 = none) ∧ 71 < 128 ∧ (0x0000#14).toNat < 2 ∧ ((sc2 7).loadsInactive 71 = true))
    ∧ (((sc2 0).canIssue 71 = true) ∧ ((sc2 0).openGroup 71 = none) ∧ 71 < 128 ∧ (0x0001#14).toNat < 2 ∧ ((sc2 0).loadsInactive 71 = false) ∧ (0x0001#14).toNat = 1 ∧ ((sc2 0).unitLoad 71 32768 4 = 0))
    ∧ (((sc2 0).canIssue 71 = true) ∧ ((sc2 0).openGroup 71 = none) ∧ 71 < 128 ∧ (0x0000#14).toNat < 2 ∧ ((sc2 0).loadsInactive 71 = false) ∧ ((0x0000#14).toNat = 1 → (sc2 0).unitLoad 71 32768 4 ≠ 0))
    ∧ ((((sc2 5).flow 101).releasing = some 8000000)) := by and_intros <;> decide +kernel
set_option maxRecDepth 100000 in
/-- States and operands that meet the hypotheses of each clause of BindingsAndSwaps (part 2 of 4). -/
theorem witness_BindingsAndSwaps_2 :
    (∃ (ws4 : List Word), (((sc2 6).issued 130 true [(0x1#4)]).readRecord 130 (BitVec.toNat ((sc2 6).v 130 (0x1#4))) 16 = Except.ok ws4) ∧ (bindOperandOk ws4 = true) ∧ (((sc2 6).issued 130 true [(0x1#4)]).bindRows ws4 = Except.error 9) ∧ ((sc2 6).canIssue 130 = true) ∧ ((sc2 6).openGroup 130 = none) ∧ (128 ≤ 130 ∨ 130 < 64 ∧ bindPortA ws4 = 130)) := by refine ⟨_, rfl, rfl, rfl, ?_⟩; and_intros <;> first | decide +kernel | exact errIs_eq (by decide +kernel) | exact okIs_eq (by decide +kernel)
set_option maxRecDepth 100000 in
/-- States and operands that meet the hypotheses of each clause of BindingsAndSwaps (part 3 of 4). -/
theorem witness_BindingsAndSwaps_3 :
    (∃ (ws4 : List Word) (i'6 : Machine.State), (((sc2 0).issued 130 true [(0x1#4)]).readRecord 130 (BitVec.toNat ((sc2 0).v 130 (0x1#4))) 16 = Except.ok ws4) ∧ (bindOperandOk ws4 = true) ∧ (((sc2 0).issued 130 true [(0x1#4)]).bindRows ws4 = Except.ok (0, i'6)) ∧ ((sc2 0).canIssue 130 = true) ∧ ((sc2 0).openGroup 130 = none) ∧ (128 ≤ 130 ∨ 130 < 64 ∧ bindPortA ws4 = 130)) := by refine ⟨_, _, rfl, rfl, rfl, ?_⟩; and_intros <;> first | decide +kernel | exact okIs_eq (by decide +kernel)
set_option maxRecDepth 100000 in
/-- States and operands that meet the hypotheses of each clause of BindingsAndSwaps (part 4 of 4). -/
theorem witness_BindingsAndSwaps_4 :
    (∃ (i'4 : Machine.State), (((sc2 0).issued 130 true [(0x2#4)]).release (BitVec.toNat ((sc2 0).v 130 (0x2#4))) = Except.ok i'4) ∧ ((sc2 0).canIssue 130 = true) ∧ ((sc2 0).openGroup 130 = none) ∧ (BitVec.toNat ((sc2 0).v 130 (0x2#4)) < 16384) ∧ ((sc2 0).mayFlow 130 (BitVec.toNat ((sc2 0).v 130 (0x2#4))) = true)) := by refine ⟨_, rfl, ?_⟩; and_intros <;> first | decide +kernel | exact okIs_eq (by decide +kernel)
end ForRemoteFormatAndLut

namespace ForAtomicGroups
def ml (l : List Nat) : Memory := putWs [] (unitMemBase 130 + 64) l
def r0 : State := { withV media [(1, 64), (2, 100), (3, R.portIpv4Addr 8), (4, 0x40000), (5, 0x100 + 7), (6, 0x100+5), (7, R.globalTtimeLo), (8, 2), (9, 0x1000 + 0x100000)] with ttime := 5000000 }
def g0 : Group := { deadline := 9000000 }
def tk : PendTake := { src := {kind := 4}, commitT := 7 }
def gset (g : Group) : State := { r0 with ces := [(2, { grp := some g })], outs := [(7, { grpHold := some 2 }), (6, {})] }
def mem1 : List Member := [.take 7 tk, .anc 6 { set := {}, commitT := 3 }]
def gm (s : State) : State := withV s [(1,7),(2,0),(3,60)]
def scns : List State := [ r0, (gset g0), (gset {g0 with members := mem1, count := 2}), (gset {g0 with failed := true}), (gset {g0 with members := [.take 7 tk, .take 6 tk]}), (gset {g0 with members := [.fmt 7 {set := {}}]}), (gset {g0 with members := [.flip 7 1 {set := {}}]}),(gset {g0 with members := [.axf 3 1 100]}),(gset {g0 with members := [.amap {oc := 3, count := 1, kind := 0, src := 3, ref := 7}]}),(gset {g0 with members := [.ffmt 100 0 0 5]}), (let s := gset {g0 with members := [.tset 7 {set := tim 2}]}; {s with outs := [(7,{grpHold := some 2, scanning := true, tim := tim 2})]}), gm (gset g0), gm (gset {g0 with count := 64}), gm (gset {g0 with expired := true}), gm {gset g0 with variant := 2}, (gset {g0 with expired := true})]
def sal (hd : List Nat) (st : State) : State := { st with mem := { prog := ml (hd ++ [5*65536+6, 0x40000000, 0,0, 7, 0x30000002, 0,0])} }
def scns2 : List State := scns ++ [ (sal [2*65536 + 3*256 + 2, 2, 77, 0] r0), (sal [2*65536 + 3*256 + 2, 2, 77, 0] { r0 with stk := {r0.stk with master := some 0} }), (sal [3*65536 + 3*256 + 2, 2, 77, 0] r0), (sal [2*65536 + 3*256 + 4, 2, 77, 0] r0)]
def lp (l : List Nat) (st : State) : State := { st with mem := { prog := ml l } }
def mb (v : Nat) (n : Nat) : State := { r0 with units := Tbl.set {} r0.units v { r0.unit v with mbox := List.replicate n (5, 7) } }
def ld (arm : Bool) (crc : Word) (b : Bool) : State := let s : State := { r0 with units := Tbl.set {} (Tbl.set {} r0.units 130 { r0.unit 130 with stalled := true}) 71 {r0.unit 71 with run := .wait}, mem := { prog := putWs [] (unitMemBase 71 + 32768) [1,2,3,4,5], sram := putWs [] stageBase [9,8,7,6] } }
  let l : Loadp := { tgt := 71, srcInEngine := b, src := 0, words := 4, crc := crc, bank := 1, arm := arm, started := 5000000, deadline := 6000000 }
  let l := if crc = 1 then { l with crc := word (crc32c (s.loadpBytes 2 l)) } else l
  { s with ces := [(2, { loadp := some l })] }
def scns3 : List State := [ (lp [0, 16, 7, 16] r0), (lp [0, 16, 7, 1] r0), (lp [0, 16, 7, 3] r0), (mb 71 4), (mb 71 3), {mb 71 0 with variant := 2}, (ld false 1 true), (ld true 1 false), (ld true 0 false), (let s := ld true 1 false; {s with units := Tbl.set {} s.units 71 {s.unit 71 with run := .halted}}),
 { withV r0 [(5, 0x100+60), (6, 0x100+60)] with variant := 2}]
def sc1 (k : Nat) : State := scns.getD k State.reset
def sc2 (k : Nat) : State := scns2.getD k State.reset
def sc3 (k : Nat) : State := scns3.getD k State.reset
/-- States and operands that meet the hypotheses of each clause of AtomicGroups (part 1 of 16). -/
theorem witness_AtomicGroups_1 :
    (((sc1 0).canIssue (128 + 2) = true) ∧ (((sc1 0).ce 2).grp = none)) := by and_intros <;> decide +kernel
/-- States and operands that meet the hypotheses of each clause of AtomicGroups (part 2 of 16). -/
theorem witness_AtomicGroups_2 :
    (∃ (g2 : Group), (((sc1 13).ce 2).grp = some g2) ∧ g2.expired = true ∧ ((sc1 13).canIssue (128 + 2) = true)) := by refine ⟨_, rfl, rfl, ?_⟩; decide +kernel
/-- States and operands that meet the hypotheses of each clause of AtomicGroups (part 3 of 16). -/
theorem witness_AtomicGroups_3 :
    (∃ (g2 : Group), (((sc1 3).ce 2).grp = some g2) ∧ g2.expired = false ∧ g2.failed = true ∧ ((sc1 3).canIssue (128 + 2) = true)) := by refine ⟨_, rfl, rfl, rfl, ?_⟩; decide +kernel
/-- States and operands that meet the hypotheses of each clause of AtomicGroups (part 4 of 16). -/
theorem witness_AtomicGroups_4 :
    (∃ (g2 : Group), (((sc1 2).ce 2).grp = some g2) ∧ g2.expired = false ∧ g2.failed = false ∧ (g2.members = [Member.take 7 ({ src := { kind := 4, path := 0, dev := 0, idx := 0, w := 0, fin := 0, gone := false }, commitT := 7, swLeft := 2, late := false, frames := 0, remote := false, salvo := none, lines := none, own := false } : PendTake), Member.anc 6 ({ set := { ctrl := 0x00000100#32, tcLoad := 0x00000000#32, rules := [], ins := [] }, commitT := 3, due := none } : PendAnc)]) ∧ ((sc1 2).canIssue (128 + 2) = true) ∧ 7 ≠ 6) := by refine ⟨_, rfl, rfl, rfl, rfl, ?_⟩; and_intros <;> decide +kernel
/-- States and operands that meet the hypotheses of each clause of AtomicGroups (part 5 of 16). -/
theorem witness_AtomicGroups_5 :
    (∃ (g2 : Group), (((sc1 4).ce 2).grp = some g2) ∧ g2.expired = false ∧ g2.failed = false ∧ (g2.members = List.map (fun (q : Nat × PendTake) => Member.take q.fst q.snd) ([(7, { src := { kind := 4, path := 0, dev := 0, idx := 0, w := 0, fin := 0, gone := false }, commitT := 7, swLeft := 2, late := false, frames := 0, remote := false, salvo := none, lines := none, own := false }), (6, { src := { kind := 4, path := 0, dev := 0, idx := 0, w := 0, fin := 0, gone := false }, commitT := 7, swLeft := 2, late := false, frames := 0, remote := false, salvo := none, lines := none, own := false })])) ∧ ((sc1 4).canIssue (128 + 2) = true) ∧ (List.map (Prod.fst : Nat × PendTake → Nat) ([(7, { src := { kind := 4, path := 0, dev := 0, idx := 0, w := 0, fin := 0, gone := false }, commitT := 7, swLeft := 2, late := false, frames := 0, remote := false, salvo := none, lines := none, own := false }), (6, { src := { kind := 4, path := 0, dev := 0, idx := 0, w := 0, fin := 0, gone := false }, commitT := 7, swLeft := 2, late := false, frames := 0, remote := false, salvo := none, lines := none, own := false })])).Nodup) := by refine ⟨_, rfl, rfl, rfl, rfl, ?_⟩; and_intros <;> decide +kernel
/-- States and operands that meet the hypotheses of each clause of AtomicGroups (part 6 of 16). -/
theorem witness_AtomicGroups_6 :
    (∃ (g2 : Group), (((sc1 5).ce 2).grp = some g2) ∧ g2.expired = false ∧ g2.failed = false ∧ (g2.members = [Member.fmt 7 ({ set := { ctrl := 0x00015000#32, cropOrg := 0x00000000#32, cropSize := 0x00000000#32, destOrg := 0x00000000#32, destSize := 0x00000000#32, bg := 0x20080040#32, colour := 0x01000000#32 }, swLeft := 2, geom := none, lines := none } : PendConv)]) ∧ ((sc1 5).canIssue (128 + 2) = true)) := by refine ⟨_, rfl, rfl, rfl, rfl, ?_⟩; decide +kernel
/-- States and operands that meet the hypotheses of each clause of AtomicGroups (part 7 of 16). -/
theorem witness_AtomicGroups_7 :
    (∃ (g2 : Group), (((sc1 10).ce 2).grp = some g2) ∧ g2.expired = false ∧ g2.failed = false ∧ (g2.members = [Member.tset 7 ({ set := { h0 := 0x07800210#32, h1 := 0x002c0094#32, v0 := 0x04380004#32, v1 := 0x00050024#32, ctrl := 0x00000002#32 }, commitT := 0, due := none, lines := none } : PendTim)]) ∧ ((sc1 10).canIssue (128 + 2) = true) ∧ (((sc1 10).out 7).scanning = true)) := by refine ⟨_, rfl, rfl, rfl, rfl, ?_⟩; and_intros <;> decide +kernel
/-- States and operands that meet the hypotheses of each clause of AtomicGroups (part 8 of 16). -/
theorem witness_AtomicGroups_8 :
    (∃ (g2 : Group), (((sc1 6).ce 2).grp = some g2) ∧ g2.expired = false ∧ g2.failed = false ∧ (g2.members = [Member.flip 7 1 ({ set := { ctrl := 0x00000ff0#32, org := 0x00000000#32, size := 0x00000000#32, stride := 0x00000000#32, base := 0 }, late := false, commitT := 0, due := none, lines := none } : PendFlip)]) ∧ ((sc1 6).canIssue (128 + 2) = true) ∧ 1 < 2) := by refine ⟨_, rfl, rfl, rfl, rfl, ?_⟩; and_intros <;> decide +kernel
/-- States and operands that meet the hypotheses of each clause of AtomicGroups (part 9 of 16). -/
theorem witness_AtomicGroups_9 :
    (∃ (g2 : Group), (((sc1 7).ce 2).grp = some g2) ∧ g2.expired = false ∧ g2.failed = false ∧ (g2.members = [Member.axf 3 1 (0x00000064#32)]) ∧ ((sc1 7).canIssue (128 + 2) = true)) := by refine ⟨_, rfl, rfl, rfl, rfl, ?_⟩; decide +kernel
/-- States and operands that meet the hypotheses of each clause of AtomicGroups (part 10 of 16). -/
theorem witness_AtomicGroups_10 :
    (∃ (g2 : Group), (((sc1 8).ce 2).grp = some g2) ∧ g2.expired = false ∧ g2.failed = false ∧ (g2.members = [Member.amap ({ oc := 3, count := 1, kind := 0, src := 3, ref := 7 } : AmapReq)]) ∧ ((sc1 8).canIssue (128 + 2) = true) ∧ ({ oc := 3, count := 1, kind := 0, src := 3, ref := 7 } : AmapReq).count = 1) := by refine ⟨_, rfl, rfl, rfl, rfl, ?_⟩; and_intros <;> decide +kernel
/-- States and operands that meet the hypotheses of each clause of AtomicGroups (part 11 of 16). -/
theorem witness_AtomicGroups_11 :
    (∃ (g2 : Group), (((sc1 9).ce 2).grp = some g2) ∧ g2.expired = false ∧ g2.failed = false ∧ (g2.members = [Member.ffmt 100 (0x00000000#32) (0x00000000#32) (0x00000005#32)]) ∧ ((sc1 9).canIssue (128 + 2) = true)) := by refine ⟨_, rfl, rfl, rfl, rfl, ?_⟩; decide +kernel
/-- States and operands that meet the hypotheses of each clause of AtomicGroups (part 12 of 16). -/
theorem witness_AtomicGroups_12 :
    (∃ (g2 : Group), (((sc1 13).ce 2).grp = some g2) ∧ g2.expired = true ∧ ((sc1 13).canIssue (128 + 2) = true) ∧ (readTarget (128 + 2) false ((sc1 13).v (128 + 2) (0x1#4)) = some (Target.out 7)) ∧ ((sc1 13).v (128 + 2) (0x2#4) = 0)) := by refine ⟨_, rfl, rfl, ?_⟩; and_intros <;> decide +kernel
/-- States and operands that meet the hypotheses of each clause of AtomicGroups (part 13 of 16). -/
theorem witness_AtomicGroups_13 :
    (∃ (g2 : Group), (((sc1 11).ce 2).grp = some g2) ∧ g2.expired = false ∧ ((sc1 11).canIssue (128 + 2) = true) ∧ (readTarget (128 + 2) false ((sc1 11).v (128 + 2) (0x1#4)) = some (Target.out 7)) ∧ ((sc1 11).v (128 + 2) (0x2#4) = 0) ∧ ((sc1 11).outPresent 7 = true) ∧ (((sc1 11).out 7).salvo = none) ∧ (((sc1 11).out 7).grpHold = none ∨ ((sc1 11).out 7).grpHold = some 2) ∧ g2.count < 64) := by refine ⟨_, rfl, rfl, ?_⟩; and_intros <;> decide +kernel
/-- States and operands that meet the hypotheses of each clause of AtomicGroups (part 14 of 16). -/
theorem witness_AtomicGroups_14 :
    (∃ (g2 : Group), (((sc1 12).ce 2).grp = some g2) ∧ g2.expired = false ∧ ((sc1 12).canIssue (128 + 2) = true) ∧ (readTarget (128 + 2) false ((sc1 12).v (128 + 2) (0x1#4)) = some (Target.out 7)) ∧ ((sc1 12).v (128 + 2) (0x2#4) = 0) ∧ ((sc1 12).outPresent 7 = true) ∧ (((sc1 12).out 7).salvo = none) ∧ (((sc1 12).out 7).grpHold = none ∨ ((sc1 12).out 7).grpHold = some 2) ∧ 64 ≤ g2.count) := by refine ⟨_, rfl, rfl, ?_⟩; and_intros <;> decide +kernel
/-- States and operands that meet the hypotheses of each clause of AtomicGroups (part 15 of 16). -/
theorem witness_AtomicGroups_15 :
    (∃ (g2 : Group), (((sc1 14).ce 2).grp = some g2) ∧ g2.expired = false ∧ ((sc1 14).canIssue (128 + 2) = true) ∧ (readTarget (128 + 2) false ((sc1 14).v (128 + 2) (0x3#4)) = some (Target.out 60)) ∧ ((sc1 14).v (128 + 2) (0x2#4) = 0) ∧ ((sc1 14).outPresent 60 = false) ∧ g2.count < 64) := by refine ⟨_, rfl, rfl, ?_⟩; and_intros <;> decide +kernel
/-- States and operands that meet the hypotheses of each clause of AtomicGroups (part 16 of 16). -/
theorem witness_AtomicGroups_16 :
    (∃ (g2 : Group), (((sc1 1).ce 2).grp = some g2) ∧ g2.expired = false) := ⟨_, rfl, rfl⟩
/-- States and operands that meet the hypotheses of each clause of EngineRegisterAccess (part 1 of 4). -/
theorem witness_EngineRegisterAccess_1 :
    (((sc2 0).canIssue (128 + 2) = true) ∧ (((sc2 0).ce 2).grp = none) ∧ (BitVec.toNat ((sc2 0).v (128 + 2) (0x0#4)) % 4 = 0) ∧ (ceWindow false (BitVec.toNat ((sc2 0).v (128 + 2) (0x0#4))) = true))
    ∧ (((sc2 0).canIssue (128 + 2) = true) ∧ (((sc2 0).ce 2).grp = none) ∧ (BitVec.toNat ((sc2 0).v (128 + 2) (0x0#4)) % 4 = 0) ∧ (ceWindow true (BitVec.toNat ((sc2 0).v (128 + 2) (0x0#4))) = false))
    ∧ (((sc2 0).canIssue (128 + 2) = true) ∧ (((sc2 0).ce 2).grp = none) ∧ (BitVec.toNat ((sc2 0).v (128 + 2) (0x4#4)) % 4 = 0) ∧ (ceWindow false (BitVec.toNat ((sc2 0).v (128 + 2) (0x4#4))) = false))
    ∧ (((sc2 0).canIssue (128 + 2) = true) ∧ (((sc2 0).ce 2).grp = none) ∧ (BitVec.toNat ((sc2 0).v (128 + 2) (0x3#4)) % 4 = 0) ∧ (ceWindow true (BitVec.toNat ((sc2 0).v (128 + 2) (0x3#4))) = true) ∧ ((((sc2 0).issued (128 + 2) true [(0x3#4), (0x1#4)]).writeBy (4 + 2) (BitVec.toNat ((sc2 0).v (128 + 2) (0x3#4))) ((sc2 0).v (128 + 2) (0x1#4))).snd.openGroup (128 + 2) = none) ∧ (KeepsV (128 + 2) (sc2 0) (((sc2 0).issued (128 + 2) true [(0x3#4), (0x1#4)]).writeBy (4 + 2) (BitVec.toNat ((sc2 0).v (128 + 2) (0x3#4))) ((sc2 0).v (128 + 2) (0x1#4))).snd))
    ∧ (((sc2 0).canIssue (128 + 2) = true) ∧ (((sc2 0).ce 2).grp = none) ∧ (BitVec.toNat ((sc2 0).v (128 + 2) (0x5#4)) % 4 ≠ 0))
    ∧ (((sc2 0).canIssue (128 + 2) = true) ∧ (((sc2 0).ce 2).grp = none) ∧ (((sc2 0).issued (128 + 2) true [(0x0#4)]).readRecord (128 + 2) (BitVec.toNat ((sc2 0).v (128 + 2) (0x0#4))) 4 = Except.ok ([0x00000000#32, 0x00000000#32, 0x00000000#32, 0x00000000#32])) ∧ (bits (wordAt ([0x00000000#32, 0x00000000#32, 0x00000000#32, 0x00000000#32]) 0) 31 24 = 0) ∧ (bits (wordAt ([0x00000000#32, 0x00000000#32, 0x00000000#32, 0x00000000#32]) 0) 7 0 < 16) ∧ (bits (wordAt ([0x00000000#32, 0x00000000#32, 0x00000000#32, 0x00000000#32]) 1) 31 13 = 0) ∧ (wordAt ([0x00000000#32, 0x00000000#32, 0x00000000#32, 0x00000000#32]) 3 = 0) ∧ (bits (wordAt ([0x00000000#32, 0x00000000#32, 0x00000000#32, 0x00000000#32]) 1) 12 0 = 0 ∨ 4096 < bits (wordAt ([0x00000000#32, 0x00000000#32, 0x00000000#32, 0x00000000#32]) 1) 12 0 ∨ bits (wordAt ([0x00000000#32, 0x00000000#32, 0x00000000#32, 0x00000000#32]) 0) 15 8 < 3 ∨ bits (wordAt ([0x00000000#32, 0x00000000#32, 0x00000000#32, 0x00000000#32]) 0) 15 8 ≤ bits (wordAt ([0x00000000#32, 0x00000000#32, 0x00000000#32, 0x00000000#32]) 0) 23 16)) := by and_intros <;> first | decide +kernel | exact okIs_eq (by decide +kernel) | (unfold KeepsV; decide +kernel)
/-- States and operands that meet the hypotheses of each clause of EngineRegisterAccess (part 2 of 4). -/
theorem witness_EngineRegisterAccess_2 :
    (∃ (ws5 : List Word), (((sc2 19).issued (128 + 2) true [(0x1#4)]).readRecord (128 + 2) (BitVec.toNat ((sc2 19).v (128 + 2) (0x1#4))) (4 + 4 * bits (wordAt ([0x00020304#32, 0x00000002#32, 0x0000004d#32, 0x00000000#32]) 1) 12 0) = Except.ok ws5) ∧ (salvoOk ws5 (bits (wordAt ([0x00020304#32, 0x00000002#32, 0x0000004d#32, 0x00000000#32]) 1) 12 0) = true) ∧ ((sc2 19).canIssue (128 + 2) = true) ∧ (((sc2 19).ce 2).grp = none) ∧ (((sc2 19).issued (128 + 2) true [(0x1#4)]).readRecord (128 + 2) (BitVec.toNat ((sc2 19).v (128 + 2) (0x1#4))) 4 = Except.ok ([0x00020304#32, 0x00000002#32, 0x0000004d#32, 0x00000000#32])) ∧ (bits (wordAt ([0x00020304#32, 0x00000002#32, 0x0000004d#32, 0x00000000#32]) 0) 31 24 = 0) ∧ (bits (wordAt ([0x00020304#32, 0x00000002#32, 0x0000004d#32, 0x00000000#32]) 0) 7 0 < 16) ∧ (bits (wordAt ([0x00020304#32, 0x00000002#32, 0x0000004d#32, 0x00000000#32]) 1) 31 13 = 0) ∧ (wordAt ([0x00020304#32, 0x00000002#32, 0x0000004d#32, 0x00000000#32]) 3 = 0) ∧ (1 ≤ bits (wordAt ([0x00020304#32, 0x00000002#32, 0x0000004d#32, 0x00000000#32]) 1) 12 0) ∧ (bits (wordAt ([0x00020304#32, 0x00000002#32, 0x0000004d#32, 0x00000000#32]) 1) 12 0 ≤ 4096) ∧ (3 ≤ bits (wordAt ([0x00020304#32, 0x00000002#32, 0x0000004d#32, 0x00000000#32]) 0) 15 8) ∧ (bits (wordAt ([0x00020304#32, 0x00000002#32, 0x0000004d#32, 0x00000000#32]) 0) 23 16 < bits (wordAt ([0x00020304#32, 0x00000002#32, 0x0000004d#32, 0x00000000#32]) 0) 15 8) ∧ ((sc2 19).groupEnabled (bits (wordAt ([0x00020304#32, 0x00000002#32, 0x0000004d#32, 0x00000000#32]) 0) 7 0) = false ∨ twice (salvoEntries ws5 (bits (wordAt ([0x00020304#32, 0x00000002#32, 0x0000004d#32, 0x00000000#32]) 1) 12 0)) = true)) := by refine ⟨_, rfl, rfl, ?_⟩; and_intros <;> first | decide +kernel | exact okIs_eq (by decide +kernel)
/-- States and operands that meet the hypotheses of each clause of EngineRegisterAccess (part 3 of 4). -/
theorem witness_EngineRegisterAccess_3 :
    (∃ (ws5 : List Word), (((sc2 16).issued (128 + 2) true [(0x1#4)]).readRecord (128 + 2) (BitVec.toNat ((sc2 16).v (128 + 2) (0x1#4))) (4 + 4 * bits (wordAt ([0x00020302#32, 0x00000002#32, 0x0000004d#32, 0x00000000#32]) 1) 12 0) = Except.ok ws5) ∧ (salvoOk ws5 (bits (wordAt ([0x00020302#32, 0x00000002#32, 0x0000004d#32, 0x00000000#32]) 1) 12 0) = true) ∧ (twice (salvoEntries ws5 (bits (wordAt ([0x00020302#32, 0x00000002#32, 0x0000004d#32, 0x00000000#32]) 1) 12 0)) = false) ∧ ((sc2 16).canIssue (128 + 2) = true) ∧ (((sc2 16).ce 2).grp = none) ∧ (((sc2 16).issued (128 + 2) true [(0x1#4)]).readRecord (128 + 2) (BitVec.toNat ((sc2 16).v (128 + 2) (0x1#4))) 4 = Except.ok ([0x00020302#32, 0x00000002#32, 0x0000004d#32, 0x00000000#32])) ∧ (bits (wordAt ([0x00020302#32, 0x00000002#32, 0x0000004d#32, 0x00000000#32]) 0) 31 24 = 0) ∧ (bits (wordAt ([0x00020302#32, 0x00000002#32, 0x0000004d#32, 0x00000000#32]) 0) 7 0 < 16) ∧ (bits (wordAt ([0x00020302#32, 0x00000002#32, 0x0000004d#32, 0x00000000#32]) 1) 31 13 = 0) ∧ (wordAt ([0x00020302#32, 0x00000002#32, 0x0000004d#32, 0x00000000#32]) 3 = 0) ∧ (1 ≤ bits (wordAt ([0x00020302#32, 0x00000002#32, 0x0000004d#32, 0x00000000#32]) 1) 12 0) ∧ (bits (wordAt ([0x00020302#32, 0x00000002#32, 0x0000004d#32, 0x00000000#32]) 1) 12 0 ≤ 4096) ∧ (3 ≤ bits (wordAt ([0x00020302#32, 0x00000002#32, 0x0000004d#32, 0x00000000#32]) 0) 15 8) ∧ (bits (wordAt ([0x00020302#32, 0x00000002#32, 0x0000004d#32, 0x00000000#32]) 0) 23 16 < bits (wordAt ([0x00020302#32, 0x00000002#32, 0x0000004d#32, 0x00000000#32]) 0) 15 8) ∧ ((sc2 16).groupEnabled (bits (wordAt ([0x00020302#32, 0x00000002#32, 0x0000004d#32, 0x00000000#32]) 0) 7 0) = true) ∧ (sc2 16).stk.master = none) := by refine ⟨_, rfl, rfl, rfl, ?_⟩; and_intros <;> first | decide +kernel | exact okIs_eq (by decide +kernel)
/-- States and operands that meet the hypotheses of each clause of EngineRegisterAccess (part 4 of 4). -/
theorem witness_EngineRegisterAccess_4 :
    (∃ (ws5 : List Word), (((sc2 17).issued (128 + 2) true [(0x1#4)]).readRecord (128 + 2) (BitVec.toNat ((sc2 17).v (128 + 2) (0x1#4))) (4 + 4 * bits (wordAt ([0x00020302#32, 0x00000002#32, 0x0000004d#32, 0x00000000#32]) 1) 12 0) = Except.ok ws5) ∧ (salvoOk ws5 (bits (wordAt ([0x00020302#32, 0x00000002#32, 0x0000004d#32, 0x00000000#32]) 1) 12 0) = true) ∧ (twice (salvoEntries ws5 (bits (wordAt ([0x00020302#32, 0x00000002#32, 0x0000004d#32, 0x00000000#32]) 1) 12 0)) = false) ∧ ((sc2 17).canIssue (128 + 2) = true) ∧ (((sc2 17).ce 2).grp = none) ∧ (((sc2 17).issued (128 + 2) true [(0x1#4)]).readRecord (128 + 2) (BitVec.toNat ((sc2 17).v (128 + 2) (0x1#4))) 4 = Except.ok ([0x00020302#32, 0x00000002#32, 0x0000004d#32, 0x00000000#32])) ∧ (bits (wordAt ([0x00020302#32, 0x00000002#32, 0x0000004d#32, 0x00000000#32]) 0) 31 24 = 0) ∧ (bits (wordAt ([0x00020302#32, 0x00000002#32, 0x0000004d#32, 0x00000000#32]) 0) 7 0 < 16) ∧ (bits (wordAt ([0x00020302#32, 0x00000002#32, 0x0000004d#32, 0x00000000#32]) 1) 31 13 = 0) ∧ (wordAt ([0x00020302#32, 0x00000002#32, 0x0000004d#32, 0x00000000#32]) 3 = 0) ∧ (1 ≤ bits (wordAt ([0x00020302#32, 0x00000002#32, 0x0000004d#32, 0x00000000#32]) 1) 12 0) ∧ (bits (wordAt ([0x00020302#32, 0x00000002#32, 0x0000004d#32, 0x00000000#32]) 1) 12 0 ≤ 4096) ∧ (3 ≤ bits (wordAt ([0x00020302#32, 0x00000002#32, 0x0000004d#32, 0x00000000#32]) 0) 15 8) ∧ (bits (wordAt ([0x00020302#32, 0x00000002#32, 0x0000004d#32, 0x00000000#32]) 0) 23 16 < bits (wordAt ([0x00020302#32, 0x00000002#32, 0x0000004d#32, 0x00000000#32]) 0) 15 8) ∧ ((sc2 17).groupEnabled (bits (wordAt ([0x00020302#32, 0x00000002#32, 0x0000004d#32, 0x00000000#32]) 0) 7 0) = true) ∧ ((sc2 17).stk.master = some (sc2 17).devId)) := by refine ⟨_, rfl, rfl, rfl, ?_⟩; and_intros <;> first | decide +kernel | exact okIs_eq (by decide +kernel)
/-- States and operands that meet the hypotheses of each clause of MailboxesAndProgramLoads (part 1 of 5). -/
theorem witness_MailboxesAndProgramLoads_1 :
    (((sc3 10).canIssue (128 + 2) = true) ∧ (((sc3 10).ce 2).grp = none) ∧ (readUnitWord ((sc3 10).v (128 + 2) (0x5#4)) = some 124) ∧ ((sc3 10).unitPresent 124 = false))
    ∧ (((sc3 3).canIssue (128 + 2) = true) ∧ (((sc3 3).ce 2).grp = none) ∧ (readUnitWord ((sc3 3).v (128 + 2) (0x5#4)) = some 71) ∧ ((sc3 3).unitPresent 71 = true) ∧ (4 ≤ ((sc3 3).unit 71).mbox.length))
    ∧ (((sc3 0).canIssue (128 + 2) = true) ∧ (((sc3 0).ce 2).grp = none) ∧ (readUnitWord ((sc3 0).v (128 + 2) (0x5#4)) = some 71) ∧ ((sc3 0).unitPresent 71 = true) ∧ (((sc3 0).unit 71).mbox.length < 4))
    ∧ (((sc3 1).canIssue (128 + 2) = true) ∧ (((sc3 1).ce 2).grp = none) ∧ (readUnitWord ((sc3 1).v (128 + 2) (0x6#4)) = some 69) ∧ (((sc3 1).issued (128 + 2) true [(0x6#4), (0x1#4)]).readRecord (128 + 2) (BitVec.toNat ((sc3 1).v (128 + 2) (0x1#4))) 4 = Except.ok ([0x00000000#32, 0x00000010#32, 0x00000007#32, 0x00000001#32])) ∧ (bits (wordAt ([0x00000000#32, 0x00000010#32, 0x00000007#32, 0x00000001#32]) 1) 31 14 = 0) ∧ (bits (wordAt ([0x00000000#32, 0x00000010#32, 0x00000007#32, 0x00000001#32]) 3) 31 5 = 0) ∧ (bits (wordAt ([0x00000000#32, 0x00000010#32, 0x00000007#32, 0x00000001#32]) 3) 3 2 = 0) ∧ (((sc3 1).issued (128 + 2) true [(0x6#4), (0x1#4)]).loadpRefusal 69 ([0x00000000#32, 0x00000010#32, 0x00000007#32, 0x00000001#32]) = some 4))
    ∧ (((sc3 0).canIssue (128 + 2) = true) ∧ (((sc3 0).ce 2).grp = none) ∧ (readUnitWord ((sc3 0).v (128 + 2) (0x5#4)) = some 71) ∧ (((sc3 0).issued (128 + 2) true [(0x5#4), (0x1#4)]).readRecord (128 + 2) (BitVec.toNat ((sc3 0).v (128 + 2) (0x1#4))) 4 = Except.ok ([0x00000000#32, 0x00000010#32, 0x00000007#32, 0x00000010#32])) ∧ (bits (wordAt ([0x00000000#32, 0x00000010#32, 0x00000007#32, 0x00000010#32]) 1) 31 14 = 0) ∧ (bits (wordAt ([0x00000000#32, 0x00000010#32, 0x00000007#32, 0x00000010#32]) 3) 31 5 = 0) ∧ (bits (wordAt ([0x00000000#32, 0x00000010#32, 0x00000007#32, 0x00000010#32]) 3) 3 2 = 0) ∧ (((sc3 0).issued (128 + 2) true [(0x5#4), (0x1#4)]).loadpRefusal 71 ([0x00000000#32, 0x00000010#32, 0x00000007#32, 0x00000010#32]) = none)) := by and_intros <;> first | decide +kernel | exact okIs_eq (by decide +kernel)
/-- States and operands that meet the hypotheses of each clause of MailboxesAndProgramLoads (part 2 of 5). -/
theorem witness_MailboxesAndProgramLoads_2 :
    (∃ (l2 : Loadp), (((sc3 6).ce 2).loadp = some l2) ∧ (word (crc32c ((sc3 6).loadpBytes 2 l2)) = l2.crc) ∧ l2.arm = false) := ⟨_, rfl, rfl, rfl⟩
/-- States and operands that meet the hypotheses of each clause of MailboxesAndProgramLoads (part 3 of 5). -/
theorem witness_MailboxesAndProgramLoads_3 :
    (∃ (l2 : Loadp), (((sc3 8).ce 2).loadp = some l2) ∧ (¬word (crc32c ((sc3 8).loadpBytes 2 l2)) = l2.crc)) := by refine ⟨_, rfl, ?_⟩; decide +kernel
/-- States and operands that meet the hypotheses of each clause of MailboxesAndProgramLoads (part 4 of 5). -/
theorem witness_MailboxesAndProgramLoads_4 :
    (∃ (l2 : Loadp), (((sc3 7).ce 2).loadp = some l2) ∧ (word (crc32c ((sc3 7).loadpBytes 2 l2)) = l2.crc) ∧ l2.arm = true ∧ (l2.tgt ≠ 128 + 2) ∧ (((sc3 7).unit l2.tgt).run = RunState.run ∨ ((sc3 7).unit l2.tgt).run = RunState.wait)) := by refine ⟨_, rfl, rfl, rfl, ?_⟩; and_intros <;> decide +kernel
/-- States and operands that meet the hypotheses of each clause of MailboxesAndProgramLoads (part 5 of 5). -/
theorem witness_MailboxesAndProgramLoads_5 :
    (∃ (l2 : Loadp), (((sc3 9).ce 2).loadp = some l2) ∧ (word (crc32c ((sc3 9).loadpBytes 2 l2)) = l2.crc) ∧ l2.arm = true ∧ (((sc3 9).unit l2.tgt).run ≠ RunState.run) ∧ (((sc3 9).unit l2.tgt).run ≠ RunState.wait)) := by refine ⟨_, rfl, rfl, rfl, ?_⟩; and_intros <;> decide +kernel
end ForAtomicGroups

namespace ForSequencerControl
def base : State := { State.reset with ttime := 5000000, boot := { State.reset.boot with ready := true } , units := [(1, {}), (2, {run := .safe, regs := regs1}), (3, {run := .halted}), (4, {run := .run, swapArmed := true, swapDue := true,regs := regs1, stack := [3]}), (5, {run := .wait, start := some ⟨false, 9000000⟩}), (6, {start := some ⟨false, 6000000⟩}), (7, {start := some ⟨true, 6000000⟩, regs := regs1}), (8, {start := some ⟨true, 6000000⟩, startDue := true, regs := regs1}),(9, {run := .wait, swapArmed := true, swapDue := true,wait := some ⟨.line, 1, 1,1,1,none⟩,regs := regs1})] }
def scns : List State := [{base with regs := (R.pwrPdReq 2, 0) :: base.regs},base]
def blk (cmd n : Nat) (w3 w4 w5 : Nat) : List Nat := [cmd + 256*n + (if cmd = 4 then 0 else 0), 77, 9, w3, w4, w5] ++ List.replicate 10 0 ++ List.replicate 16 5 ++ List.replicate 16 7
def q (c : Ce) (m : Memory) : State := { base with ces := [(2, c)], mem := { sram := m }, regs := [(R.ceqQCtrl 2, 0x80000000)] }
def qb (cmd n w3 w4 w5 : Nat) (c : Ce := {}) : State := q { c with qstate := 1, sqHead := 5, sqTail := 5 + n, cqTail := 9, cqHead := 4 } (Memory.writeBytes (putWs [] (2*0x100000 + 5*64) (blk cmd n w3 w4 w5)) (stageBase+12) (List.replicate 8 7))
def ex : Exec := { idx := 5, nblk := 2, cmd := 2, tag := 77, irq := true, stopOnErr := false, deadline := 7000000 }
def scns2 : List State := [(qb 1 2 0xFF000000 0 0), (qb 2 2 0xFF000040 0 0), (qb 3 3 0x03000000 0 0), (qb 4 1 0x03000100 12 8), (q {qstate := 2, sqHead := 5, sqTail := 5} []), (qb 2 2 0xFF000040 0 0 {exec := some ex, grp := some {}}),
 (let s := qb 2 2 0xFF000040 0 0 {exec := some ex, grp := some {}}; {s with units := (130, {run := .run}) :: s.units}), (q {qstate := 1, sqHead := 5, sqTail := 6, partialAt := some 5500000} (putWs [] (2*0x100000 + 5*64) (blk 1 2 0xFF000000 0 0))), (q {qstate := 1, sqHead := 5, sqTail := 5, waitCq := true, cqTail := 0x5000, cqHead := 0x2000} []), { q {qstate := 0} [] with regs := [] }]
def sc1 (k : Nat) : State := scns.getD k State.reset
def sc2 (k : Nat) : State := scns2.getD k State.reset
/-- States and operands that meet the hypotheses of each clause of SequencerControl (part 1 of 2). -/
theorem witness_SequencerControl_1 :
    (0 < 12 ∧ 1 < 128 ∧ ((sc1 1).writeGate 0 (R.seqCtrl 1) = Gate.pass) ∧ ((sc1 1).domAllowed (72 + 1 % 64 / 8) = true) ∧ (((sc1 1).unit 1).start = none) ∧ (((sc1 1).unit 1).run = RunState.idle) ∧ (sc1 1).isStandby = false)
    ∧ (0 < 12 ∧ 2 < 128 ∧ ((sc1 1).writeGate 0 (R.seqCtrl 2) = Gate.pass) ∧ ((sc1 1).domAllowed (72 + 2 % 64 / 8) = true) ∧ (((sc1 1).unit 2).start = none) ∧ (((sc1 1).unit 2).run = RunState.safe ∨ ((sc1 1).unit 2).run = RunState.halted))
    ∧ (0 < 12 ∧ 1 < 128 ∧ ((sc1 0).writeGate 0 (R.seqCtrl 1) = Gate.pass) ∧ (((sc1 0).unit 1).start.isSome = true ∨ ¬(sc1 0).domAllowed (72 + 1 % 64 / 8) = true))
    ∧ (0 < 12 ∧ 2 < 128 ∧ ((sc1 0).writeGate 0 (R.seqCtrl 2) = Gate.pass) ∧ (((sc1 0).unit 2).run ≠ RunState.idle ∨ (sc1 0).isStandby = true))
    ∧ (0 < 12 ∧ 1 < 128 ∧ ((sc1 0).writeGate 0 (R.seqCtrl 1) = Gate.pass) ∧ (((sc1 0).unit 1).run ≠ RunState.safe) ∧ (((sc1 0).unit 1).run ≠ RunState.halted))
    ∧ (0 < 12 ∧ 4 < 128 ∧ ((sc1 1).writeGate 0 (R.seqCtrl 4) = Gate.pass) ∧ (((sc1 1).unit 4).run = RunState.run ∨ ((sc1 1).unit 4).run = RunState.wait))
    ∧ (0 < 12 ∧ 1 < 128 ∧ ((sc1 0).writeGate 0 (R.seqCtrl 1) = Gate.pass) ∧ (((sc1 0).unit 1).run ≠ RunState.run) ∧ (((sc1 0).unit 1).run ≠ RunState.wait))
    ∧ (0 < 12 ∧ 1 < 132 ∧ ((sc1 0).writeGate 0 (R.seqKick 1) = Gate.pass) ∧ ((sc1 0).unitPresent 1 = true) ∧ (0x00000001#32) = 1)
    ∧ (0 < 12 ∧ 1 < 132 ∧ ((sc1 1).writeGate 0 (R.seqKick 1) = Gate.pass) ∧ ((sc1 1).unitPresent 1 = true) ∧ (1 < BitVec.toNat (0x00000002#32)))
    ∧ ((((sc1 1).unit 8).start = some ({ restart := true, limit := 6000000 } : StartReq)) ∧ (((sc1 1).unit 8).startDue = true))
    ∧ ((((sc1 1).unit 7).start = some ({ restart := true, limit := 6000000 } : StartReq)) ∧ (((sc1 1).unit 7).startDue = false) ∧ ({ restart := true, limit := 6000000 } : StartReq).restart = true)
    ∧ ((((sc1 1).unit 5).start = some ({ restart := false, limit := 9000000 } : StartReq)) ∧ (((sc1 1).unit 5).startDue = false) ∧ ({ restart := false, limit := 9000000 } : StartReq).restart = false) := by and_intros <;> decide +kernel
/-- States and operands that meet the hypotheses of each clause of SequencerControl (part 2 of 2). -/
theorem witness_SequencerControl_2 :
    ((((sc1 1).unit 4).swapDue = true) ∧ (((sc1 1).unit 4).swapArmed = true) ∧ (((sc1 1).unit 4).run = RunState.run ∨ ((sc1 1).unit 4).run = RunState.wait)) := by and_intros <;> decide +kernel
/-- States and operands that meet the hypotheses of each clause of HostQueues (part 1 of 4). -/
theorem witness_HostQueues_1 :
    (0 < 12 ∧ 2 < 4 ∧ ((sc2 0).writeGate 0 (R.ceqSqTail 2) = Gate.pass) ∧ (((sc2 0).ce 2).qstate ≠ 0) ∧ ((BitVec.toNat (0x00000006#32) % 32768 + 32768 - ((sc2 0).ce 2).sqHead) % 32768 ≤ 16384))
    ∧ (0 < 12 ∧ 2 < 4 ∧ ((sc2 0).writeGate 0 (R.ceqSqTail 2) = Gate.pass) ∧ (((sc2 0).ce 2).qstate = 0 ∨ 16384 < (BitVec.toNat (0x00008000#32) % 32768 + 32768 - ((sc2 0).ce 2).sqHead) % 32768))
    ∧ (0 < 12 ∧ 2 < 4 ∧ ((sc2 0).writeGate 0 (R.ceqCqHead 2) = Gate.pass) ∧ ((BitVec.toNat (0x00000006#32) % 32768 + 32768 - ((sc2 0).ce 2).cqHead) % 32768 ≤ ((sc2 0).ce 2).unread))
    ∧ (0 < 12 ∧ 2 < 4 ∧ ((sc2 0).writeGate 0 (R.ceqCqHead 2) = Gate.pass) ∧ (((sc2 0).ce 2).unread < (BitVec.toNat (0x00008000#32) % 32768 + 32768 - ((sc2 0).ce 2).cqHead) % 32768))
    ∧ (0 < 12 ∧ 1 < 4 ∧ ((sc2 0).writeGate 0 (R.ceqQCtrl 1) = Gate.pass) ∧ (bit (0x80000000#32) 31 = true) ∧ (bit ((sc2 0).reg (R.ceqQCtrl 1)) 31 = false))
    ∧ (0 < 12 ∧ 2 < 4 ∧ ((sc2 5).writeGate 0 (R.ceqQCtrl 2) = Gate.pass) ∧ (bit (0x00000006#32) 31 = false) ∧ (((sc2 5).ce 2).exec.isSome = true))
    ∧ (0 < 12 ∧ 2 < 4 ∧ ((sc2 0).writeGate 0 (R.ceqQCtrl 2) = Gate.pass) ∧ (bit (0x00000006#32) 31 = false) ∧ (((sc2 0).ce 2).exec = none))
    ∧ (0 < 12 ∧ 2 < 4 ∧ ((sc2 4).writeGate 0 (R.ceqQResume 2) = Gate.pass) ∧ (bit (0x00000001#32) 0 = true) ∧ (((sc2 4).ce 2).qstate = 2) ∧ (((sc2 4).ce 2).sqTail = ((sc2 4).ce 2).sqHead) ∧ (((sc2 4).ce 2).sqHead < 32768))
    ∧ (0 < 12 ∧ 2 < 4 ∧ ((sc2 4).writeGate 0 (R.ceqQResume 2) = Gate.pass) ∧ (bit (0x00000006#32) 0 = false) ∧ (((sc2 4).ce 2).qstate = 2))
    ∧ (0 < 12 ∧ 2 < 4 ∧ ((sc2 0).writeGate 0 (R.ceqQResume 2) = Gate.pass) ∧ (((sc2 0).ce 2).qstate ≠ 2))
    ∧ (2 < 4 ∧ ((sc2 0).headBlock 2 = BlockAt.ready) ∧ (bits ((sc2 0).blockWord 2 ((sc2 0).ce 2).sqHead 0 0) 7 0 = 1))
    ∧ (2 < 4 ∧ ((sc2 1).headBlock 2 = BlockAt.ready) ∧ (bits ((sc2 1).blockWord 2 ((sc2 1).ce 2).sqHead 0 0) 7 0 = 2)) := by and_intros <;> decide +kernel
/-- States and operands that meet the hypotheses of each clause of HostQueues (part 2 of 4). -/
theorem witness_HostQueues_2 :
    (2 < 4 ∧ ((sc2 2).headBlock 2 = BlockAt.ready) ∧ (bits ((sc2 2).blockWord 2 ((sc2 2).ce 2).sqHead 0 0) 7 0 = 3))
    ∧ (2 < 4 ∧ ((sc2 3).headBlock 2 = BlockAt.ready) ∧ (bits ((sc2 3).blockWord 2 ((sc2 3).ce 2).sqHead 0 0) 7 0 = 4))
    ∧ ((((sc2 7).ce 2).partialAt = some 5500000) ∧ ((sc2 7).headBlock 2 = BlockAt.partly))
    ∧ ((((sc2 8).ce 2).waitCq = true) ∧ (((sc2 8).ce 2).unread < 16384)) := by and_intros <;> decide +kernel
/-- States and operands that meet the hypotheses of each clause of HostQueues (part 3 of 4). -/
theorem witness_HostQueues_3 :
    (∃ (x3 : Exec), (((sc2 6).ce 2).exec = some x3) ∧ 0 < 12 ∧ 2 < 4 ∧ ((sc2 6).writeGate 0 (R.seqCtrl (128 + 2)) = Gate.pass) ∧ (((sc2 6).unit (128 + 2)).run = RunState.run ∨ ((sc2 6).unit (128 + 2)).run = RunState.wait) ∧ ((sc2 6).xbar.xacts.find (4 + 2) = none)) := by refine ⟨_, rfl, ?_⟩; and_intros <;> decide +kernel
/-- States and operands that meet the hypotheses of each clause of HostQueues (part 4 of 4). -/
theorem witness_HostQueues_4 :
    (∃ (x2 : Exec), (((sc2 5).ce 2).exec = some x2) ∧ ((sc2 5).xbar.xacts.find (4 + 2) = none)) := by refine ⟨_, rfl, ?_⟩; decide +kernel
end ForSequencerControl

namespace ForLatchedReads
def base : State := { media with ttime := 5000000, boot := { State.reset.boot with ready := true } , ces := [(1, { enableAt := some 5500000 }), (2, {enableAt := some 8000000}),(3, {qstate := 2})], groups := [(2, {running := true, fixed := true, frame := 2^40+5, lastStart := 2^33+7})], ctr := [(R.outTakeCnt 6, 5), (R.portPrbsErrLo 1 0, 2^40+3),(R.globalRangeRejectCnt, 7)] }
def scns : List State := [base, {base with ticks := 2}, {base with ticks := 5, xbar := {base.xbar with inReset := 2}}]
def scns2 : List State := [base, {base with tamperLock := true}, {base with regs := (R.xbarCxlWin, 0x3) :: base.regs}, {base with units := [(0, {run := .run, bank := 0, pc := 9})]}]
def sc1 (k : Nat) : State := scns.getD k State.reset
def sc2 (k : Nat) : State := scns2.getD k State.reset
/-- States and operands that meet the hypotheses of each clause of LatchedReads (part 1 of 2). -/
theorem witness_LatchedReads_1 :
    (0 < 12 ∧ ((sc1 0).readGate 0 R.globalTtimeLo = Gate.pass))
    ∧ (0 < 12 ∧ 2 < 16 ∧ ((sc1 0).readGate 0 (if (false) = true then R.tgrpLastStartLo 2 else R.tgrpFrameLo 2) = Gate.pass))
    ∧ ((sc1 0).pwr.upStep = none) := by and_intros <;> decide +kernel
/-- States and operands that meet the hypotheses of each clause of LatchedReads (part 2 of 2). -/
theorem witness_LatchedReads_2 :
    (∃ (h3 : RegHit), (findReg 1118260 = some h3) ∧ (ctrHome h3 1118260 = some (1118260, false)) ∧ ((sc1 0).hitHere h3 = true) ∧ 0 < 12 ∧ h3.row.acc ≠ Access.wo ∧ ((sc1 0).readGate 0 1118260 = Gate.pass)) := by refine ⟨_, rfl, rfl, rfl, ?_⟩; and_intros <;> decide +kernel
/-- States and operands that meet the hypotheses of each clause of RegisterWrites (part 1 of 3). -/
theorem witness_RegisterWrites_1 :
    (0 < 12 ∧ ((sc2 0).writeGate 0 134217744 = Gate.pass) ∧ (targetOf 134217744 = 22) ∧ (sramReserved 134217744 = false))
    ∧ (0 < 12 ∧ ((sc2 0).writeGate 0 1073741856 = Gate.pass) ∧ (targetOf 1073741856 = 23) ∧ ((sc2 0).apertureByte 1073741856 + 4 ≤ popBytes (sc2 0)))
    ∧ (0 < 12 ∧ ((sc2 0).writeGate 0 16777280 = Gate.pass) ∧ (18 ≤ targetOf 16777280) ∧ (targetOf 16777280 ≤ 20) ∧ ((sc2 0).progWritable 16777280 = true))
    ∧ (0 < 12 ∧ ((sc2 3).writeGate 0 16777280 = Gate.pass) ∧ (18 ≤ targetOf 16777280) ∧ (targetOf 16777280 ≤ 20) ∧ ((sc2 3).progWritable 16777280 = false))
    ∧ (0 < 12 ∧ ((sc2 1).writeGate 0 72 = Gate.reject))
    ∧ (0 < 12 ∧ 2 < 4 ∧ (72 = R.globalScratch 2) ∧ ((sc2 0).writeGate 0 72 = Gate.pass)) := by and_intros <;> decide +kernel
/-- States and operands that meet the hypotheses of each clause of RegisterWrites (part 2 of 3). -/
theorem witness_RegisterWrites_2 :
    (∃ (h4 : RegHit), (findReg 6488320 = some h4) ∧ (((sc2 0).writeHit 0 h4 6488320 (0x12345678#32)).snd = false) ∧ 0 < 12 ∧ ((sc2 0).writeGate 0 6488320 = Gate.pass)) := by refine ⟨_, rfl, rfl, ?_⟩; and_intros <;> decide +kernel
/-- States and operands that meet the hypotheses of each clause of RegisterWrites (part 3 of 3). -/
theorem witness_RegisterWrites_3 :
    (∃ (h4 : RegHit), (findReg 72 = some h4) ∧ (((sc2 0).writeHit 0 h4 72 (0x12345678#32)).snd = true) ∧ 0 < 12 ∧ ((sc2 0).writeGate 0 72 = Gate.pass)) := by refine ⟨_, rfl, rfl, ?_⟩; and_intros <;> decide +kernel
end ForLatchedReads

namespace ForTimingGroups
def base : State := { media with ttime := 5000000, units := [(129, un {regs := regs1, timing := 7})], boot := { State.reset.boot with ready := true }, groups := [(2, {running := true, fixed := true, frame := 5, lastStart := 4000000, epoch := 100, fixT := 50}), (3, {waiting := some 5500000}), (7, {waiting := some 7000000, fixT := 4000000}), (4, {fixed := true, epoch := 500, fixT := 6000000}), (5, {running := true, lastStart := 4900000})], madder := { State.reset.madder with sel := 5 }, regs := [(R.tgrpCtrl 7, w_ (2^31 + 8*2^16 + 256)), (R.tgrpCtrl 3, w_ (2^31 + 8*2^16 + 3*256)), (R.tgrpCtrl 4, w_ (2^31 + 8*2^16)), (R.tgrpCtrl 5, w_ (2^31 + 8*2^16)), (R.tgrpPhaseOfs 6, 100)] ++ media.regs }
def scns : List State := [base, { base with units := [(129, un {regs := regs1, timing := 4})], flows := [(100, {vflow 6 with alignGroup := 5, aligned := true})] }]
def pl (b : Nat) : PlaneSet := { ctrl := 0x80000FF0, org := 0, size := w_ (64*65536+64), stride := 256, base := b }
def fp (b : Nat) : PendFlip := { set := pl b, commitT := 3000000 }
def o7 : Out := { (media.out 7) with frameT := 3000000, frame := 9, line := 3, swSeen := true, latchSeen := true, p0 := {cap := some (fp 4096)}, p1 := {pend := some (fp 8192)} , cur := {kind := 3, idx := 2}, seen := {kind := 3, idx := 2}, shown := .picture }
def tp (t : TimSet) (c : Nat := 3000000) : PendTim := { set := t, commitT := c }
def t2 : TimSet := { tim 2 with v1 := w_ (5*2^16+37) }
def tk (k : Nat) (sw : Nat) (l : Option Nat := none) : PendTake := { src := {kind := k, idx := if k = 1 then 100 else 2, path := if k = 1 then 1 else 0}, commitT := 3000000, swLeft := sw, lines := l }
def oq : Out := { o7 with swSeen := false, latchSeen := false, sw := 6, p0 := {pend := some (fp 4096)}, p1 := {pend := some (fp 8192)}, timPend := some (tp t2), ancPend := some { set := {} } }
def ol (o : Out) (f : State → State := id) : State := f (base.setOut 7 o)
def wait9 (s : State) : State := s.setOut 9 { o7 with pend := some (tk 3 1 (some 7)), convPend := some { set := {ctrl := 5}, swLeft := 1, lines := some 7}, p0 := {pend := some {fp 64 with lines := some 7}}, timPend := some {tp t2 with lines := some 7} }
def lock (n : Nat) (s : State) : State := s.setFlow 100 { s.flow 100 with det := .locked, slots := [{seq := 4, commitT := 5}, {seq := n, commitT := 60}] }
def scns3 : List State := [ol oq, ol { oq with pend := some (tk 3 1), convPend := some { set := {}, swLeft := 2}, lut := {swapLeft := some 2}}, ol { oq with pend := some (tk 4 2), convPend := some { set := {ctrl := 5}, swLeft := 1}, lut := {swapLeft := some 1}},
 ol { oq with pend := some (tk 1 1), taken := true} , ol { oq with cur := {kind := 1, path := 1, idx := 100} } (lock 5), ol { oq with timPend := some { set := t2, commitT := 4999000}, p0 := {pend := some {fp 4096 with commitT := 4999000}}, ancPend := some { set := {}, commitT := 4999000} } (fun s => { s with twin := { s.twin with phase := .paired } }),
 ol oq wait9, ol { oq with pend := some { tk 5 1 with frames := 1 } }, ol { oq with pend := some { tk 2 1 with remote := true } }, ol { oq with cutWait := true, pend := some (tk 3 1 (some 9)), p0 := {pend := some {fp 64 with lines := some 9}}, timPend := some {tp t2 with lines := some 9} },
 ol { oq with cur := {kind := 1, path := 1, idx := 100}, sel := some (100, 5), selBlack := false } (lock 5), ol { oq with cur := {kind := 1, path := 1, idx := 100}, sel := some (100, 5), selBlack := false } (lock 9), ol { oq with safe := some .hold, cur := {kind := 1, path := 1, idx := 100} }, ol { oq with cur := {kind := 4}, seen := {kind := 4}, shown := .black }, ol { oq with cutWait := true }, ol { oq with cur := {kind := 1, path := 1, idx := 100} }]
/-- a load whose image lacks the magic -/
def noLut : State := base.setOut 7 { base.out 7 with lut := {loading := some 7000000, src := 4096} }
def tl (en : Bool) (pend : Bool) (c : Nat) (sc : Bool := true) : State := { base with regs := (R.tileCtrl 1, if en then 0x80000000 else 0) :: (R.tileMembersLo 1, w_ (2^9 + 2^10)) :: base.regs, outs := [(9, {(base.out 7) with scanning := sc, timPend := if pend then some (tp t2) else none}), (10, {(base.out 7) with group := c, scanning := sc})] }
def pd (s : State) : State := { s with regs := (R.pwrPdReq 0, 0xFFFFFFFF) :: (R.pwrPdReq 1, 0xFFFFFFFF):: (R.pwrPdReq 2, 0xFFFFFFFF) :: s.regs }
def scns4 : List State := [noLut, noLut, (tl false false 2), (tl true false 2), (tl true true 2), (tl false false 3), (tl false false 2 false), { pd base with poolLost := 1, pwr := { base.pwr with domOn := 2^80 }, flows := [], outs := [(7, { base.out 7 with conv := { ctrl := 0x02015000 } })]}, { pd base with flows := [], regs := [(R.portMode 8, 9), (R.portMode 9, 1)] ++ (pd base).regs }]
def sc1 (k : Nat) : State := scns.getD k State.reset
def sc2 (k : Nat) : State := scns3.getD k State.reset
def sc3 (k : Nat) : State := scns4.getD k State.reset
def lutMem (c : Nat) : Memory := [(4096, 0x4C), (4097, 0x55), (4098, 0x54), (4099, 0x33), (4100, 0x21), (4101, 1), (4104, BitVec.ofNat 8 c), (4105, BitVec.ofNat 8 (c / 256)), (4106, BitVec.ofNat 8 (c / 65536)), (4107, BitVec.ofNat 8 (c / 16777216))]
def lutSt (c : Nat) : State := ({ State.reset with mem := { cxl := lutMem c } } : State).setOut 7 { State.reset.out 7 with lut := { loading := some 7000000, src := 4096 } }
theorem lut_zero (c a : Nat) (h : a < 4104 ∧ 4102 ≤ a ∨ 4108 ≤ a) : Memory.read (lutMem c) a = 0 := by
  have hk (k : Nat) (v : Byte) (m : Memory) (hk : k ≠ a) : Tbl.find ((k, v) :: m) a = Tbl.find m a := by rw [Tbl.find, if_neg (Ne.symm hk)]
  have : Tbl.find (lutMem c) a = none := by
    unfold lutMem
    rw [hk, hk, hk, hk, hk, hk, hk, hk, hk, hk] <;> first | rfl | omega
  rw [Memory.read, Tbl.get, this]; rfl
theorem lut_zeros (c a n : Nat) (h : 4108 ≤ a) : Memory.readBytes (lutMem c) a n = List.replicate n 0 := by
  apply List.ext_getElem
  · simp [Memory.readBytes]
  · intro i h1 h2
    simp only [Memory.readBytes, List.getElem_map, List.getElem_range, List.getElem_replicate]
    exact lut_zero c _ (by omega)
theorem le_zeros (n : Nat) : ofLeBytes (List.replicate n (0 : Byte)) = 0 := by
  induction n with
  | zero => rfl
  | succ n ih => rw [List.replicate_succ, ofLeBytes, ih]; rfl
theorem lut_head (c : Nat) : Memory.readLe (lutMem c) 4096 4 = 0x3354554C ∧ Memory.readLe (lutMem c) (4096 + 4) 4 = 0x121
    ∧ Memory.readLe (lutMem c) (4096 + 8) 4 = c % 256 + 256 * (c / 256 % 256 + 256 * (c / 65536 % 256 + 256 * (c / 16777216 % 256))) := by
  simp [Memory.readLe, Memory.readBytes, List.range, List.range.loop, Memory.read, Tbl.get, lutMem, Tbl.find, ofLeBytes, Memory.unlisted]
theorem lut_ok (c n : Nat) (hn : lutBytes - 64 = n) (h : crc32c (List.replicate n (0 : Byte)) = c) : (lutSt c).lutImage 7 = stOk := by
  have h1 : ((lutSt c).out 7).lut.src = 4096 := by simp [lutSt]
  have h4 : (lutSt c).mem.cxl = lutMem c := by simp [lutSt, State.setOut]
  have h5 : crc32c ((lutSt c).lutData 7) = c := by
    rw [State.lutData, h1, h4, hn]; exact (congrArg crc32c (lut_zeros c _ _ (by omega))).trans h
  have h6 : word (c % 256 + 256 * (c / 256 % 256 + 256 * (c / 65536 % 256 + 256 * (c / 16777216 % 256)))) = word c := by
    apply BitVec.eq_of_toNat_eq; simp only [word, BitVec.toNat_ofNat]; omega
  have h7 (a k : Nat) (h : 4108 ≤ a) : Memory.readLe (lutMem c) a k = 0 := by rw [Memory.readLe, lut_zeros c a k h, le_zeros]
  unfold State.lutImage State.cxlLe
  simp only [h1, h4, h5, lut_head, h6]
  rw [if_neg, if_neg]
  · exact fun h => h rfl
  · rintro (h | h | h | h)
    · exact h rfl
    · exact h rfl
    · exact h (h7 _ _ (by omega))
    · obtain ⟨e, _, h⟩ := List.any_eq_true.1 h
      exact of_decide_eq_true h (h7 _ _ (by omega))
/-- States and operands that meet the hypotheses of each clause of TimingGroups. -/
theorem witness_TimingGroups :
    (0 < 12 ∧ 2 < 16 ∧ ((sc1 0).writeGate 0 (R.tgrpCtrl 2) = Gate.pass) ∧ (bit (0x80080000#32) 31 = true) ∧ (bits (0x80080000#32) 13 12 = 3 ∨ 4 < bits (0x80080000#32) 10 8 ∨ (sc1 0).groupOutputs 2 ≠ 0 ∨ bit (0x80080000#32) 31 = true ∧ (rateNum (bits (0x80080000#32) 23 16) = 0 ∨ phaseOk ((sc1 0).phaseOfs 2) (rateNum (bits (0x80080000#32) 23 16)) = false) ∨ bit (0x80080000#32) 31 = true ∧ bit ((sc1 0).reg (R.tgrpCtrl 2)) 31 = true ∧ maskWrite ((sc1 0).reg (R.tgrpCtrl 2)) (0x80080000#32) 2164209408 ≠ (sc1 0).reg (R.tgrpCtrl 2)))
    ∧ (0 < 12 ∧ 2 < 16 ∧ ((sc1 0).writeGate 0 (R.tgrpCtrl 2) = Gate.pass) ∧ (bit (0x00080000#32) 31 = false) ∧ (bits (0x00080000#32) 13 12 = 3 ∨ 4 < bits (0x00080000#32) 10 8 ∨ (sc1 0).groupOutputs 2 ≠ 0 ∨ bit (0x00080000#32) 31 = true ∧ (rateNum (bits (0x00080000#32) 23 16) = 0 ∨ phaseOk ((sc1 0).phaseOfs 2) (rateNum (bits (0x00080000#32) 23 16)) = false) ∨ bit (0x00080000#32) 31 = true ∧ bit ((sc1 0).reg (R.tgrpCtrl 2)) 31 = true ∧ maskWrite ((sc1 0).reg (R.tgrpCtrl 2)) (0x00080000#32) 2164209408 ≠ (sc1 0).reg (R.tgrpCtrl 2)))
    ∧ (0 < 12 ∧ 6 < 16 ∧ ((sc1 0).writeGate 0 (R.tgrpCtrl 6) = Gate.pass) ∧ (bit (0x80080000#32) 31 = true) ∧ (bit ((sc1 0).reg (R.tgrpCtrl 6)) 31 = false) ∧ (¬(bits (0x80080000#32) 13 12 = 3 ∨ 4 < bits (0x80080000#32) 10 8 ∨ (sc1 0).groupOutputs 6 ≠ 0 ∨ bit (0x80080000#32) 31 = true ∧ (rateNum (bits (0x80080000#32) 23 16) = 0 ∨ phaseOk ((sc1 0).phaseOfs 6) (rateNum (bits (0x80080000#32) 23 16)) = false) ∨ bit (0x80080000#32) 31 = true ∧ bit ((sc1 0).reg (R.tgrpCtrl 6)) 31 = true ∧ maskWrite ((sc1 0).reg (R.tgrpCtrl 6)) (0x80080000#32) 2164209408 ≠ (sc1 0).reg (R.tgrpCtrl 6))) ∧ (bits (0x80080000#32) 10 8 = 0))
    ∧ (0 < 12 ∧ 6 < 16 ∧ ((sc1 0).writeGate 0 (R.tgrpCtrl 6) = Gate.pass) ∧ (bit (0x80080100#32) 31 = true) ∧ (bit ((sc1 0).reg (R.tgrpCtrl 6)) 31 = false) ∧ (¬(bits (0x80080100#32) 13 12 = 3 ∨ 4 < bits (0x80080100#32) 10 8 ∨ (sc1 0).groupOutputs 6 ≠ 0 ∨ bit (0x80080100#32) 31 = true ∧ (rateNum (bits (0x80080100#32) 23 16) = 0 ∨ phaseOk ((sc1 0).phaseOfs 6) (rateNum (bits (0x80080100#32) 23 16)) = false) ∨ bit (0x80080100#32) 31 = true ∧ bit ((sc1 0).reg (R.tgrpCtrl 6)) 31 = true ∧ maskWrite ((sc1 0).reg (R.tgrpCtrl 6)) (0x80080100#32) 2164209408 ≠ (sc1 0).reg (R.tgrpCtrl 6))) ∧ (bits (0x80080100#32) 10 8 ≠ 0))
    ∧ (0 < 12 ∧ 4 < 16 ∧ ((sc1 0).writeGate 0 (R.tgrpCtrl 4) = Gate.pass) ∧ (bit (0x80080000#32) 31 = true) ∧ (bit ((sc1 0).reg (R.tgrpCtrl 4)) 31 = true) ∧ (¬(bits (0x80080000#32) 13 12 = 3 ∨ 4 < bits (0x80080000#32) 10 8 ∨ (sc1 0).groupOutputs 4 ≠ 0 ∨ bit (0x80080000#32) 31 = true ∧ (rateNum (bits (0x80080000#32) 23 16) = 0 ∨ phaseOk ((sc1 0).phaseOfs 4) (rateNum (bits (0x80080000#32) 23 16)) = false) ∨ bit (0x80080000#32) 31 = true ∧ bit ((sc1 0).reg (R.tgrpCtrl 4)) 31 = true ∧ maskWrite ((sc1 0).reg (R.tgrpCtrl 4)) (0x80080000#32) 2164209408 ≠ (sc1 0).reg (R.tgrpCtrl 4))))
    ∧ (0 < 12 ∧ 6 < 16 ∧ ((sc1 0).writeGate 0 (R.tgrpCtrl 6) = Gate.pass) ∧ (bit (0x00080000#32) 31 = false) ∧ (bit ((sc1 0).reg (R.tgrpCtrl 6)) 31 = false) ∧ (¬(bits (0x00080000#32) 13 12 = 3 ∨ 4 < bits (0x00080000#32) 10 8 ∨ (sc1 0).groupOutputs 6 ≠ 0 ∨ bit (0x00080000#32) 31 = true ∧ (rateNum (bits (0x00080000#32) 23 16) = 0 ∨ phaseOk ((sc1 0).phaseOfs 6) (rateNum (bits (0x00080000#32) 23 16)) = false) ∨ bit (0x00080000#32) 31 = true ∧ bit ((sc1 0).reg (R.tgrpCtrl 6)) 31 = true ∧ maskWrite ((sc1 0).reg (R.tgrpCtrl 6)) (0x00080000#32) 2164209408 ≠ (sc1 0).reg (R.tgrpCtrl 6))))
    ∧ (0 < 12 ∧ 3 < 16 ∧ ((sc1 0).writeGate 0 (R.tgrpCtrl 3) = Gate.pass) ∧ (bit (0x00080000#32) 31 = false) ∧ (bit ((sc1 0).reg (R.tgrpCtrl 3)) 31 = true) ∧ (¬(bits (0x00080000#32) 13 12 = 3 ∨ 4 < bits (0x00080000#32) 10 8 ∨ (sc1 0).groupOutputs 3 ≠ 0 ∨ bit (0x00080000#32) 31 = true ∧ (rateNum (bits (0x00080000#32) 23 16) = 0 ∨ phaseOk ((sc1 0).phaseOfs 3) (rateNum (bits (0x00080000#32) 23 16)) = false) ∨ bit (0x00080000#32) 31 = true ∧ bit ((sc1 0).reg (R.tgrpCtrl 3)) 31 = true ∧ maskWrite ((sc1 0).reg (R.tgrpCtrl 3)) (0x00080000#32) 2164209408 ≠ (sc1 0).reg (R.tgrpCtrl 3))))
    ∧ (7 < 16 ∧ (((sc1 0).group 7).waiting.isSome = true) ∧ ((sc1 0).sourceCompat 7 = true) ∧ (((sc1 0).group 7).fixT ≤ 4000000) ∧ 4000000 ≤ (sc1 0).ttime)
    ∧ ((((sc1 0).group 3).waiting = some 5500000))
    ∧ (2 < 16 ∧ ((sc1 0).groupEnabled 2 = true) ∧ (((sc1 0).group 2).fixed = true)) := by and_intros <;> decide +kernel
/-- States and operands that meet the hypotheses of each clause of OutputLines. -/
theorem witness_OutputLines :
    ((((sc2 0).out 7).scanning = true))
    ∧ ((((sc2 0).out 7).scanning = true) ∧ (0 < ((sc2 0).out 7).tim.vTotal)) := by and_intros <;> decide +kernel
/-- States and operands that meet the hypotheses of each clause of TilesLutsPoolsPorts (part 1 of 2). -/
theorem witness_TilesLutsPoolsPorts_1 :
    (0 < 12 ∧ 1 < 16 ∧ ((sc3 2).writeGate 0 (R.tileCtrl 1) = Gate.pass) ∧ (bit (0x80000000#32) 31 = true) ∧ ((sc3 2).tileEnabled 1 = false) ∧ ((sc3 2).tileOk 1 = true))
    ∧ (0 < 12 ∧ 1 < 16 ∧ ((sc3 3).writeGate 0 (R.tileCtrl 1) = Gate.pass) ∧ (bit (0x00000000#32) 31 = false) ∧ ((sc3 3).tileEnabled 1 = true) ∧ ((((sc3 3).tileMembers 1).any fun n => ((sc3 3).out n).timPend.isSome || ((sc3 3).out n).timCap.isSome) = false))
    ∧ (0 < 12 ∧ 0 < 16 ∧ ((sc3 0).writeGate 0 (R.tileCtrl 0) = Gate.pass) ∧ (bit (0x00000000#32) 31 = (sc3 0).tileEnabled 0))
    ∧ (0 < 12 ∧ 0 < 16 ∧ ((sc3 0).writeGate 0 (R.tileCtrl 0) = Gate.pass) ∧ (bit (0x80000000#32) 31 = true) ∧ ((sc3 0).tileEnabled 0 = false) ∧ ((sc3 0).tileOk 0 = false))
    ∧ (0 < 12 ∧ 1 < 16 ∧ ((sc3 4).writeGate 0 (R.tileCtrl 1) = Gate.pass) ∧ (bit (0x00000000#32) 31 = false) ∧ ((sc3 4).tileEnabled 1 = true) ∧ ((((sc3 4).tileMembers 1).any fun n => ((sc3 4).out n).timPend.isSome || ((sc3 4).out n).timCap.isSome) = true))
    ∧ ((((sc3 1).out 7).lut.loading.isSome = true) ∧ ((sc3 1).lutImage 7 ≠ stOk))
    ∧ ((((sc3 0).out 7).lut.loading = some 7000000))
    ∧ (0 < 8 ∧ ((sc3 7).poolLost.testBit 0 = true) ∧ ((sc3 7).poolPresent 0 = true) ∧ ((sc3 7).pwr.domOn.testBit (80 + 0) = true))
    ∧ (0 < 12 ∧ 6 < 64 ∧ ((sc3 0).portPresent 6 = true) ∧ ((sc3 0).writeGate 0 (R.portMode 6) = Gate.pass) ∧ (10 < bits (0x00000000#32) 3 0 ∨ 5 < bits (0x00000000#32) 6 4 ∨ bits (0x00000000#32) 6 4 ≠ 0 ∧ (bits (0x00000000#32) 3 0 = 0 ∨ 3 < bits (0x00000000#32) 3 0) ∨ (sc3 0).portFlows 6 ≠ 0 ∨ 6 % 2 = 1 ∧ (sc3 0).regBits (R.portMode (6 - 1)) 3 0 = 9 ∨ (sc3 0).isFabric = true ∧ bits (0x00000000#32) 3 0 ≠ 10 ∨ bits (0x00000000#32) 3 0 ≠ 0 ∧ ((sc3 0).domAllowed 6 = false ∨ (sc3 0).domAllowed (72 + 6 / 8) = false) ∨ bits (0x00000000#32) 3 0 = 9 ∧ (6 % 2 = 1 ∨ (sc3 0).portFlows (6 / 2 * 2 + 1) ≠ 0)))
    ∧ (0 < 12 ∧ 7 < 64 ∧ ((sc3 0).portPresent 7 = true) ∧ ((sc3 0).writeGate 0 (R.portMode 7) = Gate.pass) ∧ (¬(10 < bits (0x00000000#32) 3 0 ∨ 5 < bits (0x00000000#32) 6 4 ∨ bits (0x00000000#32) 6 4 ≠ 0 ∧ (bits (0x00000000#32) 3 0 = 0 ∨ 3 < bits (0x00000000#32) 3 0) ∨ (sc3 0).portFlows 7 ≠ 0 ∨ 7 % 2 = 1 ∧ (sc3 0).regBits (R.portMode (7 - 1)) 3 0 = 9 ∨ (sc3 0).isFabric = true ∧ bits (0x00000000#32) 3 0 ≠ 10 ∨ bits (0x00000000#32) 3 0 ≠ 0 ∧ ((sc3 0).domAllowed 7 = false ∨ (sc3 0).domAllowed (72 + 7 / 8) = false) ∨ bits (0x00000000#32) 3 0 = 9 ∧ (7 % 2 = 1 ∨ (sc3 0).portFlows (7 / 2 * 2 + 1) ≠ 0)))) := by and_intros <;> decide +kernel
/-- States and operands that meet the hypotheses of each clause of TilesLutsPoolsPorts (part 2 of 2). -/
theorem witness_TilesLutsPoolsPorts_2 :
    (∃ c, (((lutSt c).out 7).lut.loading.isSome = true) ∧ ((lutSt c).lutImage 7 = stOk)) := ⟨_, by simp [lutSt], lut_ok _ _ rfl rfl⟩
end ForTimingGroups

namespace ForOutputFrames
def base : State := { media with ttime := 5000000, units := [(129, un {regs := regs1, timing := 7})], boot := { State.reset.boot with ready := true }, groups := [(2, {running := true, fixed := true, frame := 5, lastStart := 4000000, epoch := 100, fixT := 50}), (3, {waiting := some 5500000}), (7, {waiting := some 7000000, fixT := 4000000}), (4, {fixed := true, epoch := 500, fixT := 6000000}), (5, {running := true, lastStart := 4900000})], madder := { State.reset.madder with sel := 5 }, regs := [(R.tgrpCtrl 7, w_ (2^31 + 8*2^16 + 256)), (R.tgrpCtrl 3, w_ (2^31 + 8*2^16 + 3*256)), (R.tgrpCtrl 4, w_ (2^31 + 8*2^16)), (R.tgrpCtrl 5, w_ (2^31 + 8*2^16)), (R.tgrpPhaseOfs 6, 100)] ++ media.regs }
def pl (b : Nat) : PlaneSet := { ctrl := 0x80000FF0, org := 0, size := w_ (64*65536+64), stride := 256, base := b }
def fp (b : Nat) : PendFlip := { set := pl b, commitT := 3000000 }
def o7 : Out := { (media.out 7) with frameT := 3000000, frame := 9, line := 3, swSeen := true, latchSeen := true, p0 := {cap := some (fp 4096)}, p1 := {pend := some (fp 8192)} , cur := {kind := 3, idx := 2}, seen := {kind := 3, idx := 2}, shown := .picture }
def so (o : Out) (f : State → State := id) : State := f (base.setOut 7 o)
def tp (t : TimSet) (c : Nat := 3000000) : PendTim := { set := t, commitT := c }
def t2 : TimSet := { tim 2 with v1 := w_ (5*2^16+37) }
def stopped (s : State) : State := { s with pwr := { s.pwr with stopOuts := [7, 9] } }
def same (s : State) : State := { s with groups := (5, {running := true, lastStart := 4000000}) :: s.groups.filter (·.1 ≠ 5) }
def scns2 : List State := [so o7, so { o7 with timCap := some (tp (tim 2)) }, so { o7 with timCap := some (tp t2)}, so { o7 with scanning := false, group := 255, timCap := some (tp (tim 2)), p0 := {pend := some (fp 4096)}, p1 := {cap := some (fp 8192)}}, so { o7 with scanning := false, group := 255, timCap := some (tp (tim 2)), p0 := {}, p1 := {cap := some (fp 8192), pend := some (fp 64)}}, so { o7 with cutWait := true, timCap := some (tp (tim 5)) }, so { o7 with resume := true }, so {o7 with cur := {kind := 1, idx := 100}, taken := true},
  so { o7 with timCap := some (tp (tim 255)) }, so { o7 with timCap := some (tp (tim 255)), timPend := some (tp (tim 5)) }, so { o7 with timCap := some (tp (tim 5)) }, so { o7 with timCap := some (tp (tim 5)) } same, so o7 stopped, so { o7 with cutWait := true, timCap := some (tp (tim 5)) } same]
def sc1 (k : Nat) : State := scns2.getD k State.reset
/-- States and operands that meet the hypotheses of each clause of OutputFrames (part 1 of 7). -/
theorem witness_OutputFrames_1 :
    (((sc1 0).outPresent 7 = true) ∧ ((sc1 0).pwr.stopOuts.contains 7 = false) ∧ (((sc1 0).out 7).scanning = true) ∧ (((sc1 0).out 7).frameT < ((sc1 0).group ((sc1 0).out 7).group).lastStart) ∧ (((sc1 0).out 7).timCap = none))
    ∧ (((sc1 12).outPresent 7 = true) ∧ ((sc1 12).pwr.stopOuts.contains 7 = true) ∧ (((sc1 12).out 7).scanning = true) ∧ (((sc1 12).out 7).frameT < ((sc1 12).group ((sc1 12).out 7).group).lastStart)) := by and_intros <;> decide +kernel
/-- States and operands that meet the hypotheses of each clause of OutputFrames (part 2 of 7). -/
theorem witness_OutputFrames_2 :
    (∃ (p3 : PendTim), (((sc1 1).out 7).timCap = some p3) ∧ (p3.set.group = ((sc1 1).out 7).group) ∧ ((sc1 1).outPresent 7 = true) ∧ ((sc1 1).pwr.stopOuts.contains 7 = false) ∧ (((sc1 1).out 7).scanning = true) ∧ (((sc1 1).out 7).frameT < ((sc1 1).group ((sc1 1).out 7).group).lastStart) ∧ (((sc1 1).out 7).cutWait = false)) := by refine ⟨_, rfl, rfl, ?_⟩; and_intros <;> decide +kernel
/-- States and operands that meet the hypotheses of each clause of OutputFrames (part 3 of 7). -/
theorem witness_OutputFrames_3 :
    (∃ (p3 : PendTim), (((sc1 8).out 7).timCap = some p3) ∧ p3.set.group = 255 ∧ ((sc1 8).outPresent 7 = true) ∧ ((sc1 8).pwr.stopOuts.contains 7 = false) ∧ (((sc1 8).out 7).scanning = true) ∧ (((sc1 8).out 7).frameT < ((sc1 8).group ((sc1 8).out 7).group).lastStart) ∧ (p3.set.group ≠ ((sc1 8).out 7).group ∨ ((sc1 8).out 7).cutWait = true)) := by refine ⟨_, rfl, rfl, ?_⟩; and_intros <;> decide +kernel
/-- States and operands that meet the hypotheses of each clause of OutputFrames (part 4 of 7). -/
theorem witness_OutputFrames_4 :
    (∃ (p3 : PendTim), (((sc1 11).out 7).timCap = some p3) ∧ ((sc1 11).startsAt p3.set.group ((sc1 11).group ((sc1 11).out 7).group).lastStart = true) ∧ ((sc1 11).outPresent 7 = true) ∧ ((sc1 11).pwr.stopOuts.contains 7 = false) ∧ (((sc1 11).out 7).scanning = true) ∧ (((sc1 11).out 7).frameT < ((sc1 11).group ((sc1 11).out 7).group).lastStart) ∧ (p3.set.group ≠ ((sc1 11).out 7).group ∨ ((sc1 11).out 7).cutWait = true) ∧ p3.set.group ≠ 255) := by refine ⟨_, rfl, rfl, ?_⟩; and_intros <;> decide +kernel
/-- States and operands that meet the hypotheses of each clause of OutputFrames (part 5 of 7). -/
theorem witness_OutputFrames_5 :
    (∃ (p3 : PendTim), (((sc1 5).out 7).timCap = some p3) ∧ ((sc1 5).startsAt p3.set.group ((sc1 5).group ((sc1 5).out 7).group).lastStart = false) ∧ ((sc1 5).outPresent 7 = true) ∧ ((sc1 5).pwr.stopOuts.contains 7 = false) ∧ (((sc1 5).out 7).scanning = true) ∧ (((sc1 5).out 7).frameT < ((sc1 5).group ((sc1 5).out 7).group).lastStart) ∧ (p3.set.group ≠ ((sc1 5).out 7).group ∨ ((sc1 5).out 7).cutWait = true) ∧ p3.set.group ≠ 255) := by refine ⟨_, rfl, rfl, ?_⟩; and_intros <;> decide +kernel
/-- States and operands that meet the hypotheses of each clause of OutputFrames (part 6 of 7). -/
theorem witness_OutputFrames_6 :
    (∃ (p3 : PendTim), (((sc1 3).out 7).timCap = some p3) ∧ (((sc1 3).group p3.set.group).running = true) ∧ ((sc1 3).outPresent 7 = true) ∧ ((sc1 3).pwr.stopOuts.contains 7 = false) ∧ (((sc1 3).out 7).scanning = false) ∧ p3.set.group < 16 ∧ (p3.commitT ≤ ((sc1 3).group p3.set.group).lastStart)) := by refine ⟨_, rfl, rfl, ?_⟩; and_intros <;> decide +kernel
/-- States and operands that meet the hypotheses of each clause of OutputFrames (part 7 of 7). -/
theorem witness_OutputFrames_7 :
    (∃ (p3 : PendTim), (((sc1 5).out 7).timCap = some p3) ∧ (((sc1 5).group p3.set.group).running = true) ∧ (((sc1 5).out 7).cutWait = true) ∧ (((sc1 5).out 7).frameT ≤ ((sc1 5).group p3.set.group).lastStart)) := by refine ⟨_, rfl, rfl, ?_⟩; and_intros <;> decide +kernel
end ForOutputFrames

namespace ForReception
def ipf (p : Nat) (pr : Bool) : Flow := { vflow p with info := w_ (2^31 + 2^27 + (if pr then 2^23 else 0) + 2^21 + 2^8 * (p+1) + p), matchA := some 3, igmp := {due := some 9000000} }
def base : State := { media with ttime := 5000000, ports := [(6, { payload := [1,2,3,4], trsOk := 1 }), (8, { table := [(3, [0xEF010203, 0x0A000001, 4000, w_ (2^31+20)]), (4, [0xEF010204, 0, w_ (4000+2^23+96*2^16), w_ (2^31+2^30+21)]), (5, [0xEF010205, 0x0A000001, 4000, w_ (2^31+22)])] })], flows := [(100, vflow 6), (22, {ipf 8 false with sa := 9}), (20, {ipf 8 false with nextSeq := some 7}), (21, {ipf 8 true with matchA := some 4, sa := 0, mrg := {seen := [10, 11]}, legAUp := true, legBUp := true, legALast := 4000000, legBLast := 4500000})] }
def mac (s : State) : State := { s with woad := { s.woad with slots := [(9, { Slot17.reset with key := [1] })], macAn := [(9, (0, false))] } }
def scns : List State := [base, base, { base with regs := (R.portMode 6, 2) :: base.regs }, (mac base), base, base, (base.setFlow 21 { base.flow 21 with skewMax := 1 }), base, (base.setFlow 21 {base.flow 21 with igmp := {}})]
def fb (x : Flow) : State := { base with flows := [(100, vflow 6), (30, x)], outs := [(7, {cur := {kind := 1, idx := 30, path := 1}})] }
def sf (x : Flow) (g : State → State := id) : State := g (fb x)
def v7 : Flow := { vflow 7 with det := .locked, slots := [{seq := 4, commitT := 10}, {writing := true}, {seq := 5, commitT := 20}, {seq := 3, commitT := 6}], commitSeq := 5, lastRef := 4000000, acquireT := 3000000, refOk := true, lastGood := 4900000 }
def lit (s : State) : State := ({ s with ports := [(7, { trsOk := 1, payload := [5] , pids := 1, linkNo := [0]})] } : State).setLane 60 { s.lane 60 with cdr := true }
def quad (s : State) : State := { lit s with regs := (R.portMode 7, 2) :: s.regs }
def v8 : Flow := { v7 with fmt1 := w_ (8 * 2^24 + 2^12) }
def scns2 : List State := [sf v7, sf { v7 with releasing := some 8000000 }, sf { v7 with fmtPend := some (1,2,3), slots := [] , storeW := 0x0202}, sf { v7 with fmtPend := some (1,2,3)} (fun s => { s with units := [(7, { s.unit 7 with run := .safe })] }), sf { v7 with det := .acquire, good := 200 } lit, sf { v7 with det := .unstable, good := 0 } lit, sf v7 lit, sf {ipf 7 false with det := .acquire, refOk := true}, sf {v7 with det := .unstable, good := 3}, sf { v7 with valid := false, landing := some (5,6) }, sf { v7 with det := .noSignal, partialLinks := true }, sf {ipf 7 true with det := .acquire, legAUp := true}, sf v8 quad, sf { v8 with partialLinks := true } lit, sf { v7 with badLast := true, inFrame := true }, sf { v7 with storeW := 0x0102, slots := [{seq := 4}] }, sf { v7 with slots := [{seq := 4}, {seq := 5}, {seq := 6}] } (fun s => { s with outs := [(7, { (s.out 7) with sel := some (30, 4), held := [4,5] })] }), sf { v7 with anc := [{ line := 9, words := [0x161, 0x101, 0x101, 5, 6] }] }]
def lf : Flow := { valid := true, landing := some (5, 33), exchange := some 6000000, ready := true, failed := 0 }
def rb (x : Flow) : State := { base with flows := [(30, x)], outs := [(7, { pend := some { src := {kind := 2, dev := 5, idx := 33}, commitT := 5, remote := true } }), (8, { pend := some { src := {kind := 2, dev := 5, idx := 34}, commitT := 5, remote := true } }), (9, {})] }
def sr (x : Flow) : State := rb x
def scns3 : List State := [sr lf, sr { lf with ready := false }, sr { lf with ready := false, failed := 5 }, sr { lf with lost := true, retryAt := 6000000 }, sr {lf with exchange := none}]
def sc1 (k : Nat) : State := scns.getD k State.reset
def sc2 (k : Nat) : State := scns2.getD k State.reset
def sc3 (k : Nat) : State := scns3.getD k State.reset
/-- States and operands that meet the hypotheses of each clause of Reception (part 1 of 2). -/
theorem witness_Reception_1 :
    (((sc1 0).portPresent 6 = true) ∧ (((sc1 0).port 6).shedHold = false) ∧ ((sc1 0).portIsSdi 6 = true) ∧ (0 < modeLinks ((sc1 0).portMode 6)))
    ∧ (((sc1 1).portPresent 8 = true) ∧ (((sc1 1).port 8).shedHold = false) ∧ ((sc1 1).portIsEth 8 = true) ∧ ({ sa := 0, an := 0, seq := 10, beyond := false, marker := none, line := none, stamp := 0, aes3 := false, nonPcm := false, lvl := 0, fcsBad := true, pix := [], anc := [] } : PacketInfo).fcsBad = true)
    ∧ (((sc1 0).portPresent 8 = true) ∧ (((sc1 0).port 8).shedHold = false) ∧ ((sc1 0).portIsEth 8 = true) ∧ ({ sa := 0, an := 0, seq := 10, beyond := false, marker := none, line := none, stamp := 0, aes3 := false, nonPcm := false, lvl := 0, fcsBad := false, pix := [], anc := [] } : PacketInfo).fcsBad = false ∧ ((sc1 0).matchPacket 8 (0xef010206#32) (0x0a000001#32) 4000 96 = none))
    ∧ (((sc1 0).portPresent 8 = true) ∧ (((sc1 0).port 8).shedHold = false) ∧ ((sc1 0).portIsEth 8 = true) ∧ ({ sa := 0, an := 0, seq := 10, beyond := false, marker := none, line := none, stamp := 0, aes3 := false, nonPcm := false, lvl := 0, fcsBad := false, pix := [], anc := [] } : PacketInfo).fcsBad = false ∧ ((sc1 0).matchPacket 8 (0xef010205#32) (0x0a000001#32) 4000 96 = some (22, 0)) ∧ (¬(((sc1 0).flow 22).sa = 0 ∨ ((sc1 0).flow 22).sa = ({ sa := 0, an := 0, seq := 10, beyond := false, marker := none, line := none, stamp := 0, aes3 := false, nonPcm := false, lvl := 0, fcsBad := false, pix := [], anc := [] } : PacketInfo).sa ∧ (sc1 0).macAccepts ((sc1 0).flow 22).sa ({ sa := 0, an := 0, seq := 10, beyond := false, marker := none, line := none, stamp := 0, aes3 := false, nonPcm := false, lvl := 0, fcsBad := false, pix := [], anc := [] } : PacketInfo).an = true)))
    ∧ (((sc1 7).portPresent 8 = true) ∧ (((sc1 7).port 8).shedHold = false) ∧ ((sc1 7).portIsEth 8 = true) ∧ ({ sa := 0, an := 0, seq := 10, beyond := true, marker := none, line := none, stamp := 0, aes3 := false, nonPcm := false, lvl := 0, fcsBad := false, pix := [], anc := [] } : PacketInfo).fcsBad = false ∧ ((sc1 7).matchPacket 8 (0xef010203#32) (0x0a000001#32) 4000 96 = some (20, 0)) ∧ (((sc1 7).flow 20).sa = 0 ∨ ((sc1 7).flow 20).sa = ({ sa := 0, an := 0, seq := 10, beyond := true, marker := none, line := none, stamp := 0, aes3 := false, nonPcm := false, lvl := 0, fcsBad := false, pix := [], anc := [] } : PacketInfo).sa ∧ (sc1 7).macAccepts ((sc1 7).flow 20).sa ({ sa := 0, an := 0, seq := 10, beyond := true, marker := none, line := none, stamp := 0, aes3 := false, nonPcm := false, lvl := 0, fcsBad := false, pix := [], anc := [] } : PacketInfo).an = true) ∧ (((sc1 7).flow 20).valid = true) ∧ ({ sa := 0, an := 0, seq := 10, beyond := true, marker := none, line := none, stamp := 0, aes3 := false, nonPcm := false, lvl := 0, fcsBad := false, pix := [], anc := [] } : PacketInfo).beyond = true)
    ∧ (((sc1 0).portPresent 8 = true) ∧ (((sc1 0).port 8).shedHold = false) ∧ ((sc1 0).portIsEth 8 = true) ∧ ({ sa := 0, an := 0, seq := 10, beyond := false, marker := none, line := none, stamp := 0, aes3 := false, nonPcm := false, lvl := 0, fcsBad := false, pix := [], anc := [] } : PacketInfo).fcsBad = false ∧ ((sc1 0).matchPacket 8 (0xef010203#32) (0x0a000001#32) 4000 96 = some (20, 0)) ∧ (((sc1 0).flow 20).sa = 0 ∨ ((sc1 0).flow 20).sa = ({ sa := 0, an := 0, seq := 10, beyond := false, marker := none, line := none, stamp := 0, aes3 := false, nonPcm := false, lvl := 0, fcsBad := false, pix := [], anc := [] } : PacketInfo).sa ∧ (sc1 0).macAccepts ((sc1 0).flow 20).sa ({ sa := 0, an := 0, seq := 10, beyond := false, marker := none, line := none, stamp := 0, aes3 := false, nonPcm := false, lvl := 0, fcsBad := false, pix := [], anc := [] } : PacketInfo).an = true) ∧ (((sc1 0).flow 20).valid = true) ∧ ({ sa := 0, an := 0, seq := 10, beyond := false, marker := none, line := none, stamp := 0, aes3 := false, nonPcm := false, lvl := 0, fcsBad := false, pix := [], anc := [] } : PacketInfo).beyond = false ∧ (((sc1 0).flow 20).prot = false))
    ∧ (((sc1 6).portPresent 8 = true) ∧ (((sc1 6).port 8).shedHold = false) ∧ ((sc1 6).portIsEth 8 = true) ∧ ({ sa := 0, an := 0, seq := 77, beyond := false, marker := some 5, line := none, stamp := 0, aes3 := false, nonPcm := false, lvl := 0, fcsBad := false, pix := [], anc := [] } : PacketInfo).fcsBad = false ∧ ((sc1 6).matchPacket 8 (0xef010204#32) (0x0a000001#32) 4000 96 = some (21, 1)) ∧ (((sc1 6).flow 21).sa = 0 ∨ ((sc1 6).flow 21).sa = ({ sa := 0, an := 0, seq := 77, beyond := false, marker := some 5, line := none, stamp := 0, aes3 := false, nonPcm := false, lvl := 0, fcsBad := false, pix := [], anc := [] } : PacketInfo).sa ∧ (sc1 6).macAccepts ((sc1 6).flow 21).sa ({ sa := 0, an := 0, seq := 77, beyond := false, marker := some 5, line := none, stamp := 0, aes3 := false, nonPcm := false, lvl := 0, fcsBad := false, pix := [], anc := [] } : PacketInfo).an = true) ∧ (((sc1 6).flow 21).valid = true) ∧ ({ sa := 0, an := 0, seq := 77, beyond := false, marker := some 5, line := none, stamp := 0, aes3 := false, nonPcm := false, lvl := 0, fcsBad := false, pix := [], anc := [] } : PacketInfo).beyond = false ∧ (((sc1 6).flow 21).prot = true) ∧ (∃ m, ({ sa := 0, an := 0, seq := 77, beyond := false, marker := some 5, line := none, stamp := 0, aes3 := false, nonPcm := false, lvl := 0, fcsBad := false, pix := [], anc := [] } : PacketInfo).marker = some m ∧ m + ((sc1 6).flow 21).skewMax * 1600000 < (sc1 6).ttime))
    ∧ (((sc1 0).portPresent 8 = true) ∧ (((sc1 0).port 8).shedHold = false) ∧ ((sc1 0).portIsEth 8 = true) ∧ ({ sa := 0, an := 0, seq := 10, beyond := false, marker := none, line := none, stamp := 0, aes3 := false, nonPcm := false, lvl := 0, fcsBad := false, pix := [], anc := [] } : PacketInfo).fcsBad = false ∧ ((sc1 0).matchPacket 8 (0xef010204#32) (0x0a000001#32) 4000 96 = some (21, 1)) ∧ (((sc1 0).flow 21).sa = 0 ∨ ((sc1 0).flow 21).sa = ({ sa := 0, an := 0, seq := 10, beyond := false, marker := none, line := none, stamp := 0, aes3 := false, nonPcm := false, lvl := 0, fcsBad := false, pix := [], anc := [] } : PacketInfo).sa ∧ (sc1 0).macAccepts ((sc1 0).flow 21).sa ({ sa := 0, an := 0, seq := 10, beyond := false, marker := none, line := none, stamp := 0, aes3 := false, nonPcm := false, lvl := 0, fcsBad := false, pix := [], anc := [] } : PacketInfo).an = true) ∧ (((sc1 0).flow 21).valid = true) ∧ ({ sa := 0, an := 0, seq := 10, beyond := false, marker := none, line := none, stamp := 0, aes3 := false, nonPcm := false, lvl := 0, fcsBad := false, pix := [], anc := [] } : PacketInfo).beyond = false ∧ (((sc1 0).flow 21).prot = true) ∧ (¬∃ m, ({ sa := 0, an := 0, seq := 10, beyond := false, marker := none, line := none, stamp := 0, aes3 := false, nonPcm := false, lvl := 0, fcsBad := false, pix := [], anc := [] } : PacketInfo).marker = some m ∧ m + ((sc1 0).flow 21).skewMax * 1600000 < (sc1 0).ttime) ∧ (({ sa := 0, an := 0, seq := 10, beyond := false, marker := none, line := none, stamp := 0, aes3 := false, nonPcm := false, lvl := 0, fcsBad := false, pix := [], anc := [] } : PacketInfo).seq ∈ ((sc1 0).flow 21).mrg.seen))
    ∧ (((sc1 4).portPresent 8 = true) ∧ (((sc1 4).port 8).shedHold = false) ∧ ((sc1 4).portIsEth 8 = true) ∧ ({ sa := 0, an := 0, seq := 12, beyond := false, marker := none, line := none, stamp := 0, aes3 := false, nonPcm := false, lvl := 0, fcsBad := false, pix := [], anc := [] } : PacketInfo).fcsBad = false ∧ ((sc1 4).matchPacket 8 (0xef010204#32) (0x0a000001#32) 4000 96 = some (21, 1)) ∧ (((sc1 4).flow 21).sa = 0 ∨ ((sc1 4).flow 21).sa = ({ sa := 0, an := 0, seq := 12, beyond := false, marker := none, line := none, stamp := 0, aes3 := false, nonPcm := false, lvl := 0, fcsBad := false, pix := [], anc := [] } : PacketInfo).sa ∧ (sc1 4).macAccepts ((sc1 4).flow 21).sa ({ sa := 0, an := 0, seq := 12, beyond := false, marker := none, line := none, stamp := 0, aes3 := false, nonPcm := false, lvl := 0, fcsBad := false, pix := [], anc := [] } : PacketInfo).an = true) ∧ (((sc1 4).flow 21).valid = true) ∧ ({ sa := 0, an := 0, seq := 12, beyond := false, marker := none, line := none, stamp := 0, aes3 := false, nonPcm := false, lvl := 0, fcsBad := false, pix := [], anc := [] } : PacketInfo).beyond = false ∧ (((sc1 4).flow 21).prot = true) ∧ (¬∃ m, ({ sa := 0, an := 0, seq := 12, beyond := false, marker := none, line := none, stamp := 0, aes3 := false, nonPcm := false, lvl := 0, fcsBad := false, pix := [], anc := [] } : PacketInfo).marker = some m ∧ m + ((sc1 4).flow 21).skewMax * 1600000 < (sc1 4).ttime) ∧ (¬({ sa := 0, an := 0, seq := 12, beyond := false, marker := none, line := none, stamp := 0, aes3 := false, nonPcm := false, lvl := 0, fcsBad := false, pix := [], anc := [] } : PacketInfo).seq ∈ ((sc1 4).flow 21).mrg.seen))
    ∧ ((((sc1 0).flow 21).valid = true) ∧ (((sc1 0).flow 21).prot = true) ∧ (10 ∈ ((sc1 0).flow 21).mrg.seen))
    ∧ ((((sc1 0).flow 21).valid = true) ∧ (((sc1 0).flow 21).prot = true) ∧ (¬12 ∈ ((sc1 0).flow 21).mrg.seen))
    ∧ ((((sc1 0).flow 21).valid = true) ∧ (((sc1 0).flow 21).prot = true) ∧ (((sc1 0).flow 21).legAUp = true ∨ ((sc1 0).flow 21).legANoted = false)) := by and_intros <;> decide +kernel
/-- States and operands that meet the hypotheses of each clause of Reception (part 2 of 2). -/
theorem witness_Reception_2 :
    ((((sc1 0).flow 21).valid = true) ∧ (((sc1 0).flow 21).prot = true) ∧ (((sc1 0).flow 21).legBUp = true ∨ ((sc1 0).flow 21).legBNoted = false))
    ∧ ((((sc1 0).flow 20).igmp.due.isSome = true)) := by and_intros <;> decide +kernel
/-- States and operands that meet the hypotheses of each clause of FramesAndDetection. -/
theorem witness_FramesAndDetection :
    ((((sc2 1).flow 30).releasing.isSome = true))
    ∧ ((((sc2 0).flow 30).releasing = none) ∧ (((sc2 0).flow 30).valid = true ∨ ((sc2 0).flow 30).landing.isSome = true))
    ∧ ((List.findIdx? (fun y => y.writing) ((sc2 0).flow 30).slots = some 1) ∧ (((sc2 0).flow 30).overflowed = false) ∧ (((sc2 0).flow 30).landing = none) ∧ (((sc2 0).flow 30).usable = true) ∧ (((sc2 0).flow 30).det = Det.locked) ∧ (((sc2 0).flow 30).badLast = false))
    ∧ ((List.findIdx? (fun y => y.writing) ((sc2 1).flow 30).slots = some 1) ∧ (((sc2 1).flow 30).overflowed = false) ∧ (((sc2 1).flow 30).landing = none) ∧ (((sc2 1).flow 30).usable = false ∨ ((sc2 1).flow 30).det ≠ Det.locked ∨ ((sc2 1).flow 30).badLast = true))
    ∧ ((List.findIdx? (fun y => y.writing) ((sc2 9).flow 30).slots = some 1) ∧ (((sc2 9).flow 30).overflowed = false) ∧ (((sc2 9).flow 30).landing = some ((5, 6))) ∧ (((sc2 9).flow 30).base ≠ 0))
    ∧ ((((sc2 0).flow 30).usable = true) ∧ (((sc2 0).flow 30).isVideo = true) ∧ (((sc2 0).flow 30).det ≠ Det.noSignal))
    ∧ ((((sc2 10).flow 30).usable = true) ∧ (((sc2 10).flow 30).isVideo = true) ∧ (((sc2 10).flow 30).det = Det.noSignal))
    ∧ ((((sc2 0).flow 30).usable = true) ∧ (((sc2 0).flow 30).det ≠ Det.noSignal) ∧ (((sc2 0).flow 30).det ≠ Det.idle) ∧ (((sc2 0).flow 30).prot = false ∨ ((sc2 0).flow 30).legAUp = false ∧ ((sc2 0).flow 30).legBUp = false))
    ∧ ((((sc2 11).flow 30).prot = true) ∧ (((sc2 11).flow 30).legAUp = true ∨ ((sc2 11).flow 30).legBUp = true))
    ∧ ((((sc2 0).flow 30).usable = true) ∧ (((sc2 0).flow 30).isVideo = true) ∧ (((sc2 0).flow 30).refOk = true) ∧ (((sc2 0).flow 30).det = Det.acquire ∨ ((sc2 0).flow 30).det = Det.locked)) := by and_intros <;> decide +kernel
/-- States and operands that meet the hypotheses of each clause of RemoteExchange. -/
theorem witness_RemoteExchange :
    ((((sc3 0).flow 30).landing = some (5, 33)) ∧ (((sc3 0).flow 30).exchange = some 6000000) ∧ (((sc3 0).flow 30).ready = true) ∧ (sc3 0).stk.parts = [])
    ∧ ((((sc3 0).flow 30).landing = some (5, 33)) ∧ (((sc3 0).flow 30).exchange = some 6000000))
    ∧ ((((sc3 0).flow 30).landing = some (5, 33)) ∧ (((sc3 0).flow 30).ready = true) ∧ (((sc3 0).flow 30).lost = false))
    ∧ ((((sc3 3).flow 30).landing = some (5, 33)) ∧ (((sc3 3).flow 30).lost = true)) := by and_intros <;> decide +kernel
end ForReception

namespace ForAudioMatrix
def pm (r sw : Nat) (t : Option Nat) : PendMap := { src := 77, ref := r, swLeft := sw, fromT := t }
def base : State := { media with ttime := 5000000, outs := [(7, {(media.out 7) with takeTtime := 4999000})], flows := [(100, {vflow 6 with info := w_ (2^31 + 2^28 + 6*2^8+6), audioCount := 2, audioBase := 300, asrc := true})], audio := { ocs := [(5, { pend := some (pm 7 0 (some 4999900)), src := 6 }), (6, {pend := some (pm 7 0 (some 4999950)), outgoing := [{src := 3, weight := 50}]}), (9, {pend := some (pm 7 1 none)}), (10, {src := 0x4000+7*256+3, followDue := some 4999000}), (11, {src := 0x4000+7*256+4, followDue := some 4999000, pend := some (pm 254 0 (some 4990000))}), (12, {tapLen := 480, tapStart := 800})],  ics := [(300, {valid := true, flow := 100, state := 1, since := 5}), (301, {valid := true, flow := 100, chan := 1, state := 1, since := 5}), (8160, {state := 1, since := 0, source := 1}), (8161, {state := 1}), (8162, {since := 9, valid := true}), (8163, {}), (40, {valid := true, flow := 3})], aes := [(1, {lock := true, rate := 48000})] }, regs := [(R.audioAesInCtrl 0, 3), (R.audioAesInCtrl 1, 1), (R.audioDest1 0, 8), (R.audioDest0 1, 0x80060000)] ++ media.regs }
def scns : List State := [base, { base with audio := { base.audio with ics := [(300, {valid := true, flow := 100, since := 7})], ocs := [(5, {pend := some (pm 254 0 (some 4999000))})] } }]
def sc1 (k : Nat) : State := scns.getD k State.reset
/-- States and operands that meet the hypotheses of each clause of AudioMatrix. -/
theorem witness_AudioMatrix :
    ((4999900 ∈ List.map Prod.snd ((sc1 0).dueMaps 7)) ∧ (∀ (d : Nat × Nat), d ∈ (sc1 0).dueMaps 7 → 4999900 ≤ d.snd))
    ∧ ((4999000 ∈ List.map Prod.snd ((sc1 0).dueFollows 7)) ∧ (∀ (d : Nat × Nat), d ∈ (sc1 0).dueFollows 7 → 4999000 ≤ d.snd))
    ∧ (0 < 12 ∧ 13 < 8192 ∧ ((sc1 0).writeGate 0 (R.audioOcDelay 13) = Gate.pass) ∧ (¬((sc1 0).delayMax < bits (0x00000032#32) 17 0 ∨ ((sc1 0).oc 13).tapLen ≠ 0 ∧ (sc1 0).sampleAt (sc1 0).ttime < ((sc1 0).oc 13).tapStart + ((sc1 0).oc 13).tapLen)))
    ∧ (0 < 12 ∧ 12 < 8192 ∧ ((sc1 0).writeGate 0 (R.audioOcDelay 12) = Gate.pass) ∧ ((sc1 0).delayMax < bits (0x00000032#32) 17 0 ∨ ((sc1 0).oc 12).tapLen ≠ 0 ∧ (sc1 0).sampleAt (sc1 0).ttime < ((sc1 0).oc 12).tapStart + ((sc1 0).oc 12).tapLen))
    ∧ (0 < 12 ∧ 0 < 512 ∧ ((sc1 0).writeGate 0 (R.audioDest0 0) = Gate.pass) ∧ (bit (0x00000032#32) 31 = false ∨ bit ((sc1 0).dest 0) 31 = false ∧ (sc1 0).destOk 0 (0x00000032#32) = true))
    ∧ (0 < 12 ∧ 0 < 512 ∧ ((sc1 0).writeGate 0 (R.audioDest0 0) = Gate.pass) ∧ (bit (0x80060000#32) 31 = true) ∧ (bit ((sc1 0).dest 0) 31 = true ∨ (sc1 0).destOk 0 (0x80060000#32) = false))
    ∧ (((sc1 0).audioIcs (true) 1 ≠ []) ∧ (((sc1 0).ic (((sc1 0).audioIcs (true) 1).headD 0)).state ≠ 1) ∧ ((true) = false ∨ ((sc1 0).aes 1).lock = true))
    ∧ (((sc1 0).audioIcs (false) 100 ≠ []) ∧ ((false) = true ∧ ((sc1 0).aes 100).lock = false ∨ ((sc1 0).ic (((sc1 0).audioIcs (false) 100).headD 0)).state = 1 ∨ ((sc1 0).ic (((sc1 0).audioIcs (false) 100).headD 0)).muted = true) ∧ ((false) = true → bit ((sc1 0).reg (R.audioAesInCtrl 100)) 0 = true) ∧ (State.audioRateOk ((sc1 0).audioAsrc (false) 100) 48000 = true))
    ∧ (((sc1 0).audioIcs (false) 100 ≠ []) ∧ ((sc1 0).audioAsrc (false) 100 = true) ∧ (((sc1 0).ic (((sc1 0).audioIcs (false) 100).headD 0)).muted = false))
    ∧ (40 < 8160 ∧ (((sc1 0).ic 40).valid = true) ∧ (((sc1 0).flow ((sc1 0).ic 40).flow).asrc = false))
    ∧ (8160 ≤ 8162 ∧ 8162 < 8192 ∧ (bit ((sc1 0).reg (R.audioAesInCtrl ((8162 - 8160) / 2))) 1 = false))
    ∧ (1 < 16 ∧ (((sc1 0).aes 1).lock = true)) := by and_intros <;> decide +kernel
end ForAudioMatrix

namespace ForBulkJobs
def A : Nat := 4096
def desc (op flags len : Nat) (fmt : Nat := 0) (dst : Nat := 0x4000) : List Nat := [flags * 2^28 + op * 2^24 + fmt, len, 0x3000, 0, dst, 0, 0xAA, 0xBB]
def bm (d : List Nat) (src : List Nat) (dcap : Nat) (dst : Nat := 0x4000) (daddr : Nat := 0x8000) : Memory :=
  putWs (putWs (Memory.writeBytes (putWs [] A d) 0x6000 (src.map (BitVec.ofNat 8))) 0x3000 [0x6000, 0, src.length, 2^31]) dst [daddr, 0, dcap, 2^31 + 5]
def st (j : Nat) (m : Memory) (started : Bool := true) : State := { media with ttime := 5000000, mem := { cxl := m }, obs := if started then [(j, {started := some 4000000})] else [], regs := [(R.ochreObRingBaseLo j, 4096), (R.ochreObRingSize j, 16), (R.ochreObTail j, 1), (R.ochreObCtrl j, 0x80000000), (R.ochreObJobTimeout j, 3)] ++ media.regs }
def stm (j : Nat) (m : Memory) (x : ObStream) : State := { st j m with obs := [(j, {started := some 4000000, stream := some x})] }
def data : List Nat := List.replicate 300 0
def fx : Nat := 2*2^20 + 64
def encD : List Nat := List.replicate 319 0
def src2 : List Nat := List.replicate 640 0
def encF : List Nat := List.replicate 256 0
def scns : List State := [(st 2 (bm (desc 1 2 300 fx) data 1000)),(st 2 (bm (desc 2 2 300 fx) data 1000)),(st 2 (bm (desc 4 2 300) data 1000)),(st 2 (bm (desc 3 3 300) data 1000)), (st 2 (bm (desc 3 3 300) data 40)), (st 2 (bm (desc 1 3 640 fx) src2 4000)), (st 2 (bm (desc 4 3 encD.length) encD 4000)), (st 2 (bm (desc 2 3 encF.length fx) encF 4000)), (st 2 (bm (desc 4 3 20) (data.take 20) 4000)), (st 2 (bm (desc 5 3 20) data 4000)),
  (st 2 (bm (desc 3 1 200) data 1000)), (st 2 (bm (desc 3 2 300) data 1000)), (st 2 (bm (desc 3 3 300) data 1000 0x4000 (A+20))), (st 2 (bm (desc 3 3 300) data 1000 0x4000 0x3FF0)), (st 2 (bm (desc 3 3 300) data 1000) false), { st 2 (bm (desc 3 3 300) data 1000) with regs := (R.ochreObTail 2, 3) :: (st 2 []).regs}, (st 7 (bm (desc 3 3 300) data 1000) false), (stm 2 (bm (desc 3 2 100) data 1000) { op := 3, fmt := ⟨0,0,0,0⟩, buf := [1,2], total := 130, coded := 128, hdrAt := some 0x8100 }),
  (st 2 (bm (desc 1 1 4 fx) [1, 2, 3, 4] 100)), (st 2 (bm (desc 2 1 4 fx) [1, 2, 3, 4] 100)), (st 2 (bm (desc 3 1 4) [1, 2, 3, 4] 100)), (st 2 (bm (desc 4 1 4) [1, 2, 3, 4] 100))]
def sc1 (k : Nat) : State := scns.getD k State.reset
set_option maxRecDepth 100000 in
/-- States and operands that meet the hypotheses of each clause of BulkJobs (part 1 of 2). -/
theorem witness_BulkJobs_1 :
    (0 < 12 ∧ ((sc1 0).obPresent 2 = true) ∧ ((sc1 0).writeGate 0 (R.ochreObTail 2) = Gate.pass) ∧ ((sc1 0).obSize 2 ≤ BitVec.toNat (0x00000011#32) % 8192 % 4096 ∨ (sc1 0).obSize 2 < ringCount ((sc1 0).obSize 2) ((sc1 0).obHead 2) (BitVec.toNat (0x00000011#32) % 8192) ∨ 6 ≤ 2 ∧ 4 ≤ 0))
    ∧ (0 < 12 ∧ ((sc1 0).obPresent 2 = true) ∧ ((sc1 0).writeGate 0 (R.ochreObTail 2) = Gate.pass) ∧ (BitVec.toNat (0x00000000#32) % 8192 % 4096 < (sc1 0).obSize 2) ∧ (ringCount ((sc1 0).obSize 2) ((sc1 0).obHead 2) (BitVec.toNat (0x00000000#32) % 8192) ≤ (sc1 0).obSize 2) ∧ (2 < 6 ∨ 0 < 4) ∧ ((sc1 0).obEnabled 2 = false ∨ ((sc1 0).ob 2).started.isSome = true ∨ ringCount ((sc1 0).obSize 2) ((sc1 0).obHead 2) (BitVec.toNat (0x00000000#32) % 8192) = 0))
    ∧ (0 < 12 ∧ ((sc1 14).obPresent 2 = true) ∧ ((sc1 14).writeGate 0 (R.ochreObTail 2) = Gate.pass) ∧ (BitVec.toNat (0x00000001#32) % 8192 % 4096 < (sc1 14).obSize 2) ∧ (ringCount ((sc1 14).obSize 2) ((sc1 14).obHead 2) (BitVec.toNat (0x00000001#32) % 8192) ≤ (sc1 14).obSize 2) ∧ (2 < 6 ∨ 0 < 4) ∧ ((sc1 14).obEnabled 2 = true) ∧ (((sc1 14).ob 2).started = none) ∧ (ringCount ((sc1 14).obSize 2) ((sc1 14).obHead 2) (BitVec.toNat (0x00000001#32) % 8192) ≠ 0) ∧ ((obJob ((sc1 14).obDesc 2)).length ≠ 0) ∧ (∃ p, (sc1 14).obCheck 2 (obJob ((sc1 14).obDesc 2)) = Except.ok p))
    ∧ (2 < 8 ∧ (((sc1 0).ob 2).started = some 4000000) ∧ ((sc1 0).bulkIn ((sc1 0).obDescAt 2) 32 = true) ∧ ((obJob ((sc1 0).obDesc 2)).op = 1) ∧ ((sc1 0).obCheck 2 (obJob ((sc1 0).obDesc 2)) = Except.error 1))
    ∧ (((State.obUnits obAllUnits (obJob ((sc1 18).obDesc 2)).flush ((sc1 18).movedTo (sc1 18).ttime) ({ if (obJob ((sc1 18).obDesc 2)).start = true then { op := (obJob ((sc1 18).obDesc 2)).op, fmt := (obJob ((sc1 18).obDesc 2)).fmt } else ((sc1 18).ob 2).stream.getD { op := (obJob ((sc1 18).obDesc 2)).op, fmt := (obJob ((sc1 18).obDesc 2)).fmt } with buf := (if (obJob ((sc1 18).obDesc 2)).start = true then { op := (obJob ((sc1 18).obDesc 2)).op, fmt := (obJob ((sc1 18).obDesc 2)).fmt } else ((sc1 18).ob 2).stream.getD { op := (obJob ((sc1 18).obDesc 2)).op, fmt := (obJob ((sc1 18).obDesc 2)).fmt }).buf ++ (sc1 18).chainBytes ([{ entry := 12288, addr := 24576, size := 4 }]) (obJob ((sc1 18).obDesc 2)).length, total := (if (obJob ((sc1 18).obDesc 2)).start = true then { op := (obJob ((sc1 18).obDesc 2)).op, fmt := (obJob ((sc1 18).obDesc 2)).fmt } else ((sc1 18).ob 2).stream.getD { op := (obJob ((sc1 18).obDesc 2)).op, fmt := (obJob ((sc1 18).obDesc 2)).fmt }).total + (obJob ((sc1 18).obDesc 2)).length } : ObStream) { rest := ([{ entry := 16384, addr := 32768, size := 100 }]) } : State × ObStream × Dest × ObStop).2.2.2 = ObStop.all) ∧ 2 < 8 ∧ (((sc1 18).ob 2).started = some 4000000) ∧ ((sc1 18).bulkIn ((sc1 18).obDescAt 2) 32 = true) ∧ ((obJob ((sc1 18).obDesc 2)).op = 1) ∧ ((sc1 18).obCheck 2 (obJob ((sc1 18).obDesc 2)) = Except.ok (([{ entry := 12288, addr := 24576, size := 4 }]), ([{ entry := 16384, addr := 32768, size := 100 }]))))
    ∧ (2 < 8 ∧ (((sc1 1).ob 2).started = some 4000000) ∧ ((sc1 1).bulkIn ((sc1 1).obDescAt 2) 32 = true) ∧ ((obJob ((sc1 1).obDesc 2)).op = 2) ∧ ((sc1 1).obCheck 2 (obJob ((sc1 1).obDesc 2)) = Except.error 1))
    ∧ (((State.obUnits obAllUnits (obJob ((sc1 19).obDesc 2)).flush ((sc1 19).movedTo (sc1 19).ttime) ({ if (obJob ((sc1 19).obDesc 2)).start = true then { op := (obJob ((sc1 19).obDesc 2)).op, fmt := (obJob ((sc1 19).obDesc 2)).fmt } else ((sc1 19).ob 2).stream.getD { op := (obJob ((sc1 19).obDesc 2)).op, fmt := (obJob ((sc1 19).obDesc 2)).fmt } with buf := (if (obJob ((sc1 19).obDesc 2)).start = true then { op := (obJob ((sc1 19).obDesc 2)).op, fmt := (obJob ((sc1 19).obDesc 2)).fmt } else ((sc1 19).ob 2).stream.getD { op := (obJob ((sc1 19).obDesc 2)).op, fmt := (obJob ((sc1 19).obDesc 2)).fmt }).buf ++ (sc1 19).chainBytes ([{ entry := 12288, addr := 24576, size := 4 }]) (obJob ((sc1 19).obDesc 2)).length, total := (if (obJob ((sc1 19).obDesc 2)).start = true then { op := (obJob ((sc1 19).obDesc 2)).op, fmt := (obJob ((sc1 19).obDesc 2)).fmt } else ((sc1 19).ob 2).stream.getD { op := (obJob ((sc1 19).obDesc 2)).op, fmt := (obJob ((sc1 19).obDesc 2)).fmt }).total + (obJob ((sc1 19).obDesc 2)).length } : ObStream) { rest := ([{ entry := 16384, addr := 32768, size := 100 }]) } : State × ObStream × Dest × ObStop).2.2.2 = ObStop.all) ∧ 2 < 8 ∧ (((sc1 19).ob 2).started = some 4000000) ∧ ((sc1 19).bulkIn ((sc1 19).obDescAt 2) 32 = true) ∧ ((obJob ((sc1 19).obDesc 2)).op = 2) ∧ ((sc1 19).obCheck 2 (obJob ((sc1 19).obDesc 2)) = Except.ok (([{ entry := 12288, addr := 24576, size := 4 }]), ([{ entry := 16384, addr := 32768, size := 100 }]))))
    ∧ (2 < 8 ∧ (((sc1 11).ob 2).started = some 4000000) ∧ ((sc1 11).bulkIn ((sc1 11).obDescAt 2) 32 = true) ∧ ((obJob ((sc1 11).obDesc 2)).op = 3) ∧ ((sc1 11).obCheck 2 (obJob ((sc1 11).obDesc 2)) = Except.error 1))
    ∧ (((State.obUnits obAllUnits (obJob ((sc1 20).obDesc 2)).flush ((sc1 20).movedTo (sc1 20).ttime) ({ if (obJob ((sc1 20).obDesc 2)).start = true then { op := (obJob ((sc1 20).obDesc 2)).op, fmt := (obJob ((sc1 20).obDesc 2)).fmt } else ((sc1 20).ob 2).stream.getD { op := (obJob ((sc1 20).obDesc 2)).op, fmt := (obJob ((sc1 20).obDesc 2)).fmt } with buf := (if (obJob ((sc1 20).obDesc 2)).start = true then { op := (obJob ((sc1 20).obDesc 2)).op, fmt := (obJob ((sc1 20).obDesc 2)).fmt } else ((sc1 20).ob 2).stream.getD { op := (obJob ((sc1 20).obDesc 2)).op, fmt := (obJob ((sc1 20).obDesc 2)).fmt }).buf ++ (sc1 20).chainBytes ([{ entry := 12288, addr := 24576, size := 4 }]) (obJob ((sc1 20).obDesc 2)).length, total := (if (obJob ((sc1 20).obDesc 2)).start = true then { op := (obJob ((sc1 20).obDesc 2)).op, fmt := (obJob ((sc1 20).obDesc 2)).fmt } else ((sc1 20).ob 2).stream.getD { op := (obJob ((sc1 20).obDesc 2)).op, fmt := (obJob ((sc1 20).obDesc 2)).fmt }).total + (obJob ((sc1 20).obDesc 2)).length } : ObStream) { rest := ([{ entry := 16384, addr := 32768, size := 100 }]) } : State × ObStream × Dest × ObStop).2.2.2 = ObStop.all) ∧ 2 < 8 ∧ (((sc1 20).ob 2).started = some 4000000) ∧ ((sc1 20).bulkIn ((sc1 20).obDescAt 2) 32 = true) ∧ ((obJob ((sc1 20).obDesc 2)).op = 3) ∧ ((sc1 20).obCheck 2 (obJob ((sc1 20).obDesc 2)) = Except.ok (([{ entry := 12288, addr := 24576, size := 4 }]), ([{ entry := 16384, addr := 32768, size := 100 }]))))
    ∧ (2 < 8 ∧ (((sc1 2).ob 2).started = some 4000000) ∧ ((sc1 2).bulkIn ((sc1 2).obDescAt 2) 32 = true) ∧ ((obJob ((sc1 2).obDesc 2)).op = 4) ∧ ((sc1 2).obCheck 2 (obJob ((sc1 2).obDesc 2)) = Except.error 1))
    ∧ (((State.obUnits obAllUnits (obJob ((sc1 21).obDesc 2)).flush ((sc1 21).movedTo (sc1 21).ttime) ({ if (obJob ((sc1 21).obDesc 2)).start = true then { op := (obJob ((sc1 21).obDesc 2)).op, fmt := (obJob ((sc1 21).obDesc 2)).fmt } else ((sc1 21).ob 2).stream.getD { op := (obJob ((sc1 21).obDesc 2)).op, fmt := (obJob ((sc1 21).obDesc 2)).fmt } with buf := (if (obJob ((sc1 21).obDesc 2)).start = true then { op := (obJob ((sc1 21).obDesc 2)).op, fmt := (obJob ((sc1 21).obDesc 2)).fmt } else ((sc1 21).ob 2).stream.getD { op := (obJob ((sc1 21).obDesc 2)).op, fmt := (obJob ((sc1 21).obDesc 2)).fmt }).buf ++ (sc1 21).chainBytes ([{ entry := 12288, addr := 24576, size := 4 }]) (obJob ((sc1 21).obDesc 2)).length, total := (if (obJob ((sc1 21).obDesc 2)).start = true then { op := (obJob ((sc1 21).obDesc 2)).op, fmt := (obJob ((sc1 21).obDesc 2)).fmt } else ((sc1 21).ob 2).stream.getD { op := (obJob ((sc1 21).obDesc 2)).op, fmt := (obJob ((sc1 21).obDesc 2)).fmt }).total + (obJob ((sc1 21).obDesc 2)).length } : ObStream) { rest := ([{ entry := 16384, addr := 32768, size := 100 }]) } : State × ObStream × Dest × ObStop).2.2.2 = ObStop.all) ∧ 2 < 8 ∧ (((sc1 21).ob 2).started = some 4000000) ∧ ((sc1 21).bulkIn ((sc1 21).obDescAt 2) 32 = true) ∧ ((obJob ((sc1 21).obDesc 2)).op = 4) ∧ ((sc1 21).obCheck 2 (obJob ((sc1 21).obDesc 2)) = Except.ok (([{ entry := 12288, addr := 24576, size := 4 }]), ([{ entry := 16384, addr := 32768, size := 100 }]))))
    ∧ (2 < 8 ∧ (((sc1 0).ob 2).started = some 4000000) ∧ ((sc1 0).bulkIn ((sc1 0).obDescAt 2) 32 = true) ∧ ((sc1 0).obCheck 2 (obJob ((sc1 0).obDesc 2)) = Except.error 1)) := by and_intros <;> first | decide +kernel | exact errIs_eq (by decide +kernel) | exact okIs_eq (by decide +kernel) | exact ok_some (by decide +kernel)
set_option maxRecDepth 100000 in
/-- States and operands that meet the hypotheses of each clause of BulkJobs (part 2 of 2). -/
theorem witness_BulkJobs_2 :
    (((State.obUnits 0 (obJob ((sc1 3).obDesc 2)).flush ((sc1 3).movedTo (max (sc1 3).ttime (ticksAfter 4000000 (BitVec.toNat ((sc1 3).reg (R.ochreObJobTimeout 2)))))) ({ if (obJob ((sc1 3).obDesc 2)).start = true then { op := (obJob ((sc1 3).obDesc 2)).op, fmt := (obJob ((sc1 3).obDesc 2)).fmt } else ((sc1 3).ob 2).stream.getD { op := (obJob ((sc1 3).obDesc 2)).op, fmt := (obJob ((sc1 3).obDesc 2)).fmt } with buf := (if (obJob ((sc1 3).obDesc 2)).start = true then { op := (obJob ((sc1 3).obDesc 2)).op, fmt := (obJob ((sc1 3).obDesc 2)).fmt } else ((sc1 3).ob 2).stream.getD { op := (obJob ((sc1 3).obDesc 2)).op, fmt := (obJob ((sc1 3).obDesc 2)).fmt }).buf ++ (sc1 3).chainBytes ([{ entry := 12288, addr := 24576, size := 300 }]) (obJob ((sc1 3).obDesc 2)).length, total := (if (obJob ((sc1 3).obDesc 2)).start = true then { op := (obJob ((sc1 3).obDesc 2)).op, fmt := (obJob ((sc1 3).obDesc 2)).fmt } else ((sc1 3).ob 2).stream.getD { op := (obJob ((sc1 3).obDesc 2)).op, fmt := (obJob ((sc1 3).obDesc 2)).fmt }).total + (obJob ((sc1 3).obDesc 2)).length } : ObStream) { rest := ([{ entry := 16384, addr := 32768, size := 1000 }]) } : State × ObStream × Dest × ObStop).2.2.2 = ObStop.limit) ∧ 2 < 8 ∧ (((sc1 3).ob 2).started = some 4000000) ∧ ((sc1 3).bulkIn ((sc1 3).obDescAt 2) 32 = true) ∧ ((sc1 3).obCheck 2 (obJob ((sc1 3).obDesc 2)) = Except.ok (([{ entry := 12288, addr := 24576, size := 300 }]), ([{ entry := 16384, addr := 32768, size := 1000 }])))) := by and_intros <;> first | decide +kernel | exact okIs_eq (by decide +kernel)
end ForBulkJobs

namespace ForLaneBringUp
def lk (hi : Nat) : Word := w_ (2^31 + 15*2^20 + hi)
def base : State := { media with ttime := 5000000, devId := 40, outs := [], flows := [], regs := [(lkRegs 8, lk 0), (lkRegs 12, lk 0)] ++ media.regs }
def ln (x : Lane) (f : State → State := id) : State := f { base with ser := { base.ser with lane := [(9, x)] } }
def ll (s : State) (y : Link) : State := { s with ser := { s.ser with link := [(8, y)] } }
def msg (bs : List Nat) (s : State) : State := { s with ser := { s.ser with msgs := [(9, [9]), (9, pad20 bs), (8, pad20 [0x10])] } }
def cap (dev : Nat) (v : Nat := 1) : List Nat := [0x10, v, 0xF, 15, 3, 7, dev % 256, dev / 256, 0x80+5, 1, 3]
def cf : LinkCfg := { rate := 2, mask := 15, precode := true, detectOnly := false, cipher := true }
def scns : List State := [(ln {comma := true}), (ln {state := .detect}), (ln {state := .train, unanswered := some ([1,2],5000)}), (ln {state := .step, rate := 2}), (msg (cap 40) (ln {state := .negotiate})), (msg (cap 50) (ln {state := .negotiate})), (msg (cap 30) (ln {state := .negotiate})),
 (msg cf.bytes (ln {state := .negotiate, partner := 30})), (msg ([0x12] ++ cf.bytes) (ln {state := .negotiate, partner := 30, unanswered := some (pad20 cf.bytes, 700)})), (msg ([0x12] ++ cf.bytes) (ln {state := .negotiate, partner := 60, unanswered := some (pad20 cf.bytes, 700)})), (msg ([0x12,0x13,2]) (ln {state := .step, partner := 60, unanswered := some (pad20 [0x13,2], 700)})),
 (msg [0x13,2] (ln {state := .step})), (ln {state := .step, stepTo := some 2}), (msg cf.bytes (ll (ln {state := .negotiate, partner := 30}) {lanes := [8], rate := 1})), (msg cf.bytes (ll (ln {state := .negotiate, partner := 30}) {lanes := [8], rate := 2})), (msg cf.bytes (ll (ln {state := .negotiate, partner := 30}) {lanes := [8], rate := 2, precode := true, cipher := true})), (ln {state := .step, rate := 2, doneRx := true, cfg := some cf}), (ln {state := .step, rate := 1, doneRx := true, cfg := some cf, partner := 60}), (msg [0x14,1] (ln {state := .step, rate := 1, doneTx := true, cfg := some cf, partner := 60})), (msg [0x14,2] (ln {state := .step, rate := 2})), (msg [0x14,2] (ln {state := .step, rate := 2, doneTx := true, cfg := some cf}))]
def scns2 : List State := [(ln {state := .verify, rate := 2, cfg := some cf}), (ln {state := .verify, rate := 2, vresPeer := some true, cfg := some cf, fails := 3, partner := 30}), (ln {state := .verify, rate := 2, vresPeer := some false, fails := 14, lossDue := true}), (msg [0x15,1] (ln {state := .verify})), (msg [0x15,1] (ln {state := .verify, vresOwn := some true})), (msg [0x15,0] (ln {state := .verify, vresOwn := some true})), (msg [0x16,1,5,6] (ln {state := .active})), (ll (ln {state := .active, joinAt := some 7}) {lanes := [8,10,11]}), (ll (ln {state := .active, joinAt := some 7}) {lanes := [10]}),
 (ln {state := .train}), { ln {} with ser := { base.ser with lane := [(33, {state := .backoff, deadline := 9000000})] }, ports := [(0, {synWait := true})] }, (ln {state := .detect, deadline := 9000000}), (ln {state := .train, deadline := 9000000, fails := 5}), (ln {state := .negotiate, deadline := 9000000}), (ln {state := .step, deadline := 9000000}), (ln {state := .backoff, deadline := 9000000, fails := 3}), (ll (ln {state := .active}) {lanes := [9,10], rate := 2}), (msg [0x17,1] (ll (ln {state := .active}) {lanes := [9], rate := 2}))]
def sc1 (k : Nat) : State := scns.getD k State.reset
def sc2 (k : Nat) : State := scns2.getD k State.reset
/-- States and operands that meet the hypotheses of each clause of LaneBringUp (part 1 of 16). -/
theorem witness_LaneBringUp_1 :
    (((sc1 0).lanePresent 9 = true) ∧ ((sc1 0).laneRsl 9 = true) ∧ (((sc1 0).lane 9).comma = true) ∧ (commaOk (0x0000000000000005#64).toNat = false))
    ∧ (((sc1 0).lanePresent 9 = true) ∧ ((sc1 0).laneRsl 9 = true) ∧ (((sc1 0).lane 9).comma = true) ∧ (commaOk (0xa0f5a0f5a0000107#64).toNat = true) ∧ (fieldOf (0xa0f5a0f5a0000107#64).toNat 12 8 = 1 ∨ fieldOf (0xa0f5a0f5a0000107#64).toNat 12 8 = 2) ∧ (bodyOk ([0x01#8, 0x02#8]) = false))
    ∧ (((sc1 0).lanePresent 9 = true) ∧ ((sc1 0).laneRsl 9 = true) ∧ (((sc1 0).lane 9).comma = true) ∧ (commaOk (0xa0f5a0f5a0000309#64).toNat = true) ∧ (2 < fieldOf (0xa0f5a0f5a0000309#64).toNat 12 8))
    ∧ (((sc1 0).lanePresent 9 = true) ∧ ((sc1 0).laneRsl 9 = true) ∧ (((sc1 0).lane 9).comma = true) ∧ (commaOk (0xa0f5a0f5a0000107#64).toNat = true) ∧ (fieldOf (0xa0f5a0f5a0000107#64).toNat 12 8 = 1) ∧ (byteAt (List.map BitVec.toNat (List.take 20 (([0x42#8] ++ List.replicate 19 0x00#8 ++ [0xb9#8, 0x4c#8, 0x81#8, 0x3f#8])))) 0 < 16 ∨ 27 < byteAt (List.map BitVec.toNat (List.take 20 (([0x42#8] ++ List.replicate 19 0x00#8 ++ [0xb9#8, 0x4c#8, 0x81#8, 0x3f#8])))) 0))
    ∧ (((sc1 0).lanePresent 9 = true) ∧ ((sc1 0).laneRsl 9 = true) ∧ (((sc1 0).lane 9).comma = true) ∧ (commaOk (0xa0f5a0f5a0000000#64).toNat = true) ∧ (fieldOf (0xa0f5a0f5a0000000#64).toNat 12 8 = 0) ∧ (0 = 0 ∨ 2 < 0))
    ∧ (((sc1 0).lanePresent 9 = true) ∧ ((sc1 0).laneRsl 9 = true) ∧ (((sc1 0).lane 9).comma = true) ∧ (commaOk (0xa0f5a0f5a0000000#64).toNat = true) ∧ (fieldOf (0xa0f5a0f5a0000000#64).toNat 12 8 = 0) ∧ (1 = 1 ∨ 1 = 2))
    ∧ (((sc1 0).lanePresent 9 = true) ∧ ((sc1 0).laneRsl 9 = true) ∧ (((sc1 0).lane 9).comma = true) ∧ (commaOk (0xa0f5a0f5a0000107#64).toNat = true) ∧ (fieldOf (0xa0f5a0f5a0000107#64).toNat 12 8 = 1) ∧ (bodyOk (([0x10#8, 0x01#8, 0x02#8] ++ List.replicate 17 0x00#8 ++ [0x4c#8, 0xfe#8, 0x27#8, 0x61#8])) = true) ∧ (16 ≤ byteAt (List.map BitVec.toNat (List.take 20 (([0x10#8, 0x01#8, 0x02#8] ++ List.replicate 17 0x00#8 ++ [0x4c#8, 0xfe#8, 0x27#8, 0x61#8])))) 0) ∧ (byteAt (List.map BitVec.toNat (List.take 20 (([0x10#8, 0x01#8, 0x02#8] ++ List.replicate 17 0x00#8 ++ [0x4c#8, 0xfe#8, 0x27#8, 0x61#8])))) 0 ≤ 27))
    ∧ (((sc1 0).lanePresent 9 = true) ∧ ((sc1 0).laneRsl 9 = true) ∧ (((sc1 0).lane 9).comma = true) ∧ (commaOk (0xa0f5a0f5a000020e#64).toNat = true) ∧ (fieldOf (0xa0f5a0f5a000020e#64).toNat 12 8 = 2) ∧ (bodyOk (([0x10#8, 0x01#8, 0x02#8] ++ List.replicate 17 0x00#8 ++ [0x4c#8, 0xfe#8, 0x27#8, 0x61#8])) = true))
    ∧ ((((sc1 1).lane 9).state = LaneState.detect))
    ∧ ((((sc1 2).lane 9).state = LaneState.train))
    ∧ ((((sc1 3).lane 9).state = LaneState.step) ∧ (((sc1 3).lane 9).comma = false) ∧ (((sc1 3).lane 9).rate ≠ 7) ∧ (((sc1 3).lane 9).doneRx = false))
    ∧ ((((sc1 12).lane 9).state = LaneState.step) ∧ (((sc1 12).lane 9).stepTo = some 2)) := by and_intros <;> decide +kernel
/-- States and operands that meet the hypotheses of each clause of LaneBringUp (part 2 of 16). -/
theorem witness_LaneBringUp_2 :
    ((((sc1 2).lane 9).unanswered = some (([1, 2]), 5000))) := by decide +kernel
/-- States and operands that meet the hypotheses of each clause of LaneBringUp (part 3 of 16). -/
theorem witness_LaneBringUp_3 :
    (∃ (c2 : LinkCfg), (((sc1 16).lane 9).cfg = some c2) ∧ (c2.rate = ((sc1 16).lane 9).rate) ∧ (((sc1 16).lane 9).state = LaneState.step) ∧ (((sc1 16).lane 9).comma = false) ∧ (((sc1 16).lane 9).rate ≠ 7) ∧ (((sc1 16).lane 9).doneRx = true)) := by refine ⟨_, rfl, rfl, ?_⟩; and_intros <;> decide +kernel
/-- States and operands that meet the hypotheses of each clause of LaneBringUp (part 4 of 16). -/
theorem witness_LaneBringUp_4 :
    (∃ (c2 : LinkCfg), (((sc1 17).lane 9).cfg = some c2) ∧ (((sc1 17).lane 9).state = LaneState.step) ∧ (((sc1 17).lane 9).comma = false) ∧ (((sc1 17).lane 9).rate ≠ 7) ∧ (((sc1 17).lane 9).doneRx = true) ∧ (c2.rate ≠ ((sc1 17).lane 9).rate)) := by refine ⟨_, rfl, ?_⟩; and_intros <;> decide +kernel
/-- States and operands that meet the hypotheses of each clause of LaneBringUp (part 5 of 16). -/
theorem witness_LaneBringUp_5 :
    (∃ (m2 : Nat × List Nat), (List.find? (fun q => decide (q.fst = 9 ∧ byteAt q.snd 0 = 16)) (sc1 4).ser.msgs = some m2) ∧ (byteAt m2.snd 1 = 1) ∧ ((sc1 4).negotiate 9 m2.snd = Except.error 8) ∧ (((sc1 4).lane 9).state = LaneState.negotiate)) := by refine ⟨_, rfl, rfl, rfl, ?_⟩; first | decide +kernel | exact errIs_eq (by decide +kernel)
/-- States and operands that meet the hypotheses of each clause of LaneBringUp (part 6 of 16). -/
theorem witness_LaneBringUp_6 :
    (∃ (m2 : Nat × List Nat) (c3 : LinkCfg), (List.find? (fun q => decide (q.fst = 9 ∧ byteAt q.snd 0 = 16)) (sc1 5).ser.msgs = some m2) ∧ (byteAt m2.snd 1 = 1) ∧ ((sc1 5).negotiate 9 m2.snd = Except.ok c3) ∧ ((sc1 5).leads ((sc1 5).linkOf 9) (byte2 m2.snd 6) = true) ∧ (((sc1 5).lane 9).state = LaneState.negotiate)) := by refine ⟨_, _, rfl, rfl, rfl, rfl, ?_⟩; first | decide +kernel | exact okIs_eq (by decide +kernel)
/-- States and operands that meet the hypotheses of each clause of LaneBringUp (part 7 of 16). -/
theorem witness_LaneBringUp_7 :
    (∃ (m2 : Nat × List Nat) (c3 : LinkCfg), (List.find? (fun q => decide (q.fst = 9 ∧ byteAt q.snd 0 = 16)) (sc1 6).ser.msgs = some m2) ∧ (byteAt m2.snd 1 = 1) ∧ ((sc1 6).negotiate 9 m2.snd = Except.ok c3) ∧ ((sc1 6).leads ((sc1 6).linkOf 9) (byte2 m2.snd 6) = false) ∧ (((sc1 6).lane 9).state = LaneState.negotiate)) := by refine ⟨_, _, rfl, rfl, rfl, rfl, ?_⟩; first | decide +kernel | exact okIs_eq (by decide +kernel)
/-- States and operands that meet the hypotheses of each clause of LaneBringUp (part 8 of 16). -/
theorem witness_LaneBringUp_8 :
    (∃ (m2 : Nat × List Nat), (List.find? (fun q => decide (q.fst = 9 ∧ byteAt q.snd 0 = 17)) (sc1 13).ser.msgs = some m2) ∧ (((sc1 13).lane 9).state = LaneState.negotiate) ∧ (¬(sc1 13).leads ((sc1 13).linkOf 9) ((sc1 13).lane 9).partner = true) ∧ ((sc1 13).linkUp ((sc1 13).linkOf 9) = true) ∧ (((sc1 13).link ((sc1 13).linkOf 9)).rate ≠ (cfgOf m2.snd).rate)) := by refine ⟨_, rfl, ?_⟩; and_intros <;> decide +kernel
/-- States and operands that meet the hypotheses of each clause of LaneBringUp (part 9 of 16). -/
theorem witness_LaneBringUp_9 :
    (∃ (m2 : Nat × List Nat), (List.find? (fun q => decide (q.fst = 9 ∧ byteAt q.snd 0 = 17)) (sc1 14).ser.msgs = some m2) ∧ (((sc1 14).link ((sc1 14).linkOf 9)).rate = (cfgOf m2.snd).rate) ∧ (((sc1 14).lane 9).state = LaneState.negotiate) ∧ (¬(sc1 14).leads ((sc1 14).linkOf 9) ((sc1 14).lane 9).partner = true) ∧ ((sc1 14).linkUp ((sc1 14).linkOf 9) = true) ∧ (((sc1 14).link ((sc1 14).linkOf 9)).precode ≠ (cfgOf m2.snd).precode ∨ ((sc1 14).link ((sc1 14).linkOf 9)).detectOnly ≠ (cfgOf m2.snd).detectOnly ∨ ((sc1 14).link ((sc1 14).linkOf 9)).cipher ≠ (cfgOf m2.snd).cipher)) := by refine ⟨_, rfl, rfl, ?_⟩; and_intros <;> decide +kernel
/-- States and operands that meet the hypotheses of each clause of LaneBringUp (part 10 of 16). -/
theorem witness_LaneBringUp_10 :
    (∃ (m2 : Nat × List Nat), (List.find? (fun q => decide (q.fst = 9 ∧ byteAt q.snd 0 = 17)) (sc1 7).ser.msgs = some m2) ∧ (((sc1 7).lane 9).state = LaneState.negotiate) ∧ (¬(sc1 7).leads ((sc1 7).linkOf 9) ((sc1 7).lane 9).partner = true) ∧ ((sc1 7).linkUp ((sc1 7).linkOf 9) = true → ((sc1 7).link ((sc1 7).linkOf 9)).rate = (cfgOf m2.snd).rate ∧ ((sc1 7).link ((sc1 7).linkOf 9)).precode = (cfgOf m2.snd).precode ∧ ((sc1 7).link ((sc1 7).linkOf 9)).detectOnly = (cfgOf m2.snd).detectOnly ∧ ((sc1 7).link ((sc1 7).linkOf 9)).cipher = (cfgOf m2.snd).cipher)) := by refine ⟨_, rfl, ?_⟩; and_intros <;> decide +kernel
/-- States and operands that meet the hypotheses of each clause of LaneBringUp (part 11 of 16). -/
theorem witness_LaneBringUp_11 :
    (∃ (m2 : Nat × List Nat) (q3 : List Nat), (List.find? (fun q => decide (q.fst = 9 ∧ byteAt q.snd 0 = 18)) (sc1 10).ser.msgs = some m2) ∧ (((sc1 10).lane 9).unanswered = some (q3, 700)) ∧ (byteAt q3 0 = byteAt m2.snd 1) ∧ (List.take 18 (List.drop 2 m2.snd) = List.take 18 (List.drop 1 q3)) ∧ (byteAt q3 0 ≠ 17)) := by refine ⟨_, _, rfl, rfl, rfl, rfl, ?_⟩; decide +kernel
/-- States and operands that meet the hypotheses of each clause of LaneBringUp (part 12 of 16). -/
theorem witness_LaneBringUp_12 :
    (∃ (m2 : Nat × List Nat) (q3 : List Nat), (List.find? (fun q => decide (q.fst = 9 ∧ byteAt q.snd 0 = 18)) (sc1 8).ser.msgs = some m2) ∧ (((sc1 8).lane 9).unanswered = some (q3, 700)) ∧ (byteAt q3 0 = byteAt m2.snd 1) ∧ (List.take 18 (List.drop 2 m2.snd) = List.take 18 (List.drop 1 q3)) ∧ (byteAt q3 0 = 17) ∧ (((sc1 8).lane 9).state = LaneState.negotiate)) := by refine ⟨_, _, rfl, rfl, rfl, rfl, rfl, ?_⟩; decide +kernel
/-- States and operands that meet the hypotheses of each clause of LaneBringUp (part 13 of 16). -/
theorem witness_LaneBringUp_13 :
    (∃ (m2 : Nat × List Nat), (List.find? (fun q => decide (q.fst = 9 ∧ byteAt q.snd 0 = 19)) (sc1 11).ser.msgs = some m2) ∧ (((sc1 11).lane 9).state = LaneState.step) ∧ (byteAt m2.snd 1 ≤ 3)) := by refine ⟨_, rfl, ?_⟩; and_intros <;> decide +kernel
/-- States and operands that meet the hypotheses of each clause of LaneBringUp (part 14 of 16). -/
theorem witness_LaneBringUp_14 :
    (∃ (m2 : Nat × List Nat), (List.find? (fun q => decide (q.fst = 9 ∧ byteAt q.snd 0 = 20)) (sc1 19).ser.msgs = some m2) ∧ (byteAt m2.snd 1 = ((sc1 19).lane 9).rate) ∧ (((sc1 19).lane 9).state = LaneState.step) ∧ (((sc1 19).lane 9).doneTx = false)) := by refine ⟨_, rfl, rfl, ?_⟩; and_intros <;> decide +kernel
/-- States and operands that meet the hypotheses of each clause of LaneBringUp (part 15 of 16). -/
theorem witness_LaneBringUp_15 :
    (∃ (m2 : Nat × List Nat) (c3 : LinkCfg), (List.find? (fun q => decide (q.fst = 9 ∧ byteAt q.snd 0 = 20)) (sc1 18).ser.msgs = some m2) ∧ (byteAt m2.snd 1 = ((sc1 18).lane 9).rate) ∧ (((sc1 18).lane 9).cfg = some c3) ∧ (((sc1 18).lane 9).state = LaneState.step) ∧ (((sc1 18).lane 9).doneTx = true) ∧ (c3.rate ≠ ((sc1 18).lane 9).rate)) := by refine ⟨_, _, rfl, rfl, rfl, ?_⟩; and_intros <;> decide +kernel
/-- States and operands that meet the hypotheses of each clause of LaneBringUp (part 16 of 16). -/
theorem witness_LaneBringUp_16 :
    (∃ (m2 : Nat × List Nat) (c3 : LinkCfg), (List.find? (fun q => decide (q.fst = 9 ∧ byteAt q.snd 0 = 20)) (sc1 20).ser.msgs = some m2) ∧ (byteAt m2.snd 1 = ((sc1 20).lane 9).rate) ∧ (((sc1 20).lane 9).cfg = some c3) ∧ (c3.rate = ((sc1 20).lane 9).rate) ∧ (((sc1 20).lane 9).state = LaneState.step) ∧ (((sc1 20).lane 9).doneTx = true)) := by refine ⟨_, _, rfl, rfl, rfl, rfl, ?_⟩; and_intros <;> decide +kernel
/-- States and operands that meet the hypotheses of each clause of LaneVerifyAndLoss (part 1 of 4). -/
theorem witness_LaneVerifyAndLoss_1 :
    (((sc2 0).lanePresent 9 = true) ∧ (((sc2 0).lane 9).state = LaneState.verify) ∧ (((sc2 0).lane 9).vresOwn = none))
    ∧ (((sc2 7).lanePresent 9 = true) ∧ (((sc2 7).lane 9).state = LaneState.active) ∧ (((sc2 7).lane 9).joinAt ≠ none) ∧ (¬9 ∈ ((sc2 7).link ((sc2 7).linkOf 9)).lanes) ∧ 5 ≤ 128)
    ∧ (((sc2 7).lanePresent 9 = true) ∧ (((sc2 7).lane 9).state = LaneState.active) ∧ (((sc2 7).lane 9).joinAt ≠ none) ∧ (¬9 ∈ ((sc2 7).link ((sc2 7).linkOf 9)).lanes) ∧ 128 < 200)
    ∧ (((sc2 11).lanePresent 9 = true) ∧ (((sc2 11).lane 9).state = LaneState.detect))
    ∧ (((sc2 9).lanePresent 9 = true) ∧ (((sc2 9).lane 9).state = LaneState.train))
    ∧ (((sc2 13).lanePresent 9 = true) ∧ (((sc2 13).lane 9).state = LaneState.negotiate))
    ∧ (((sc2 14).lanePresent 9 = true) ∧ (((sc2 14).lane 9).state = LaneState.step))
    ∧ (((sc2 0).lanePresent 9 = true) ∧ (((sc2 0).lane 9).state = LaneState.verify))
    ∧ (((sc2 10).lanePresent 33 = true) ∧ (((sc2 10).lane 33).state = LaneState.backoff) ∧ ((sc2 10).laneHeld 33 = true))
    ∧ (((sc2 0).lanePresent 9 = true) ∧ (((sc2 0).lane 9).state = LaneState.train ∨ ((sc2 0).lane 9).state = LaneState.negotiate ∨ ((sc2 0).lane 9).state = LaneState.step ∨ ((sc2 0).lane 9).state = LaneState.verify))
    ∧ (((sc2 15).lanePresent 9 = true) ∧ (((sc2 15).lane 9).state = LaneState.backoff) ∧ ((sc2 15).laneHeld 9 = false))
    ∧ (((sc2 6).lanePresent 9 = true) ∧ (((sc2 6).lane 9).state = LaneState.active) ∧ 1 ≤ 1 ∧ 1 ≤ 4) := by and_intros <;> decide +kernel
/-- States and operands that meet the hypotheses of each clause of LaneVerifyAndLoss (part 2 of 4). -/
theorem witness_LaneVerifyAndLoss_2 :
    (∃ (m2 : Nat × List Nat), (List.find? (fun q => decide (q.fst = 9 ∧ byteAt q.snd 0 = 21)) (sc2 3).ser.msgs = some m2) ∧ ((sc2 3).lanePresent 9 = true) ∧ (((sc2 3).lane 9).state = LaneState.verify)) := by refine ⟨_, rfl, ?_⟩; and_intros <;> decide +kernel
/-- States and operands that meet the hypotheses of each clause of LaneVerifyAndLoss (part 3 of 4). -/
theorem witness_LaneVerifyAndLoss_3 :
    (∃ (m2 : Nat × List Nat), (List.find? (fun q => decide (q.fst = 9 ∧ byteAt q.snd 0 = 22)) (sc2 6).ser.msgs = some m2) ∧ (((sc2 6).lane (9 / 4 * 4 + byteAt m2.snd 1 % 4)).state = LaneState.active) ∧ ((sc2 6).linkOf (9 / 4 * 4 + byteAt m2.snd 1 % 4) = (sc2 6).linkOf 9) ∧ ((sc2 6).lanePresent 9 = true)) := by refine ⟨_, rfl, rfl, rfl, ?_⟩; decide +kernel
/-- States and operands that meet the hypotheses of each clause of LaneVerifyAndLoss (part 4 of 4). -/
theorem witness_LaneVerifyAndLoss_4 :
    (∃ (m2 : Nat × List Nat), (List.find? (fun q => decide (q.fst = 9 ∧ byteAt q.snd 0 = 23)) (sc2 17).ser.msgs = some m2) ∧ (((sc2 17).lane (9 / 4 * 4 + byteAt m2.snd 1 % 4)).state = LaneState.active) ∧ ((sc2 17).linkOf (9 / 4 * 4 + byteAt m2.snd 1 % 4) = (sc2 17).linkOf 9) ∧ ((sc2 17).lanePresent 9 = true)) := by refine ⟨_, rfl, rfl, rfl, ?_⟩; decide +kernel
end ForLaneBringUp

namespace ForLaneRegisters
def lk (hi : Nat) : Word := w_ (2^31 + 15*2^20 + hi)
def base : State := { media with ttime := 5000000, boot := { State.reset.boot with ready := true }, devId := 40, outs := [], flows := [], regs := [(lkRegs 8, lk 0), (lkRegs 12, lk 0),(R.pwrPdReq 2, 0xFFFFFFFF)] ++ media.regs }
def ln (x : Lane) (f : State → State := id) : State := f { base with ser := { base.ser with lane := [(9, x)] } }
def ll (s : State) (y : Link) : State := { s with ser := { s.ser with link := [(8, y)] } }
def rv (s : State) : State := { s with stk := { s.stk with resvs := [{ dev := 3, flow := 5, link := 8, mbps := 100, dst := 7 }, { dev := 3, flow := 5, link := 12, mbps := 100, dst := 7 }] } }
def scns : List State := [(ln {state := .down, fails := 16, cdr := true}), { ln {} with ser := { base.ser with lane := [(33, {state := .down, fails := 3})] }, ports := [(0, {synWait := true})], regs := (R.portMode 0, 10) :: base.regs }, (rv (ll (ln {state := .active}) {lanes := [9]})), (ll (ln {state := .active}) {lanes := [9]}),
 {ln {state := .test} with regs := (lnRegs 9, 16) :: base.regs}, {ln {state := .test} with regs := [(lnRegs 9, 16)]},
 {base with regs := (R.pwrPdReq 2, 0xFFFFFFFF) :: media.regs}, { base with ser := { base.ser with lane := [(8, {state := .active}),(9,{state := .down})], link := [(8, {lanes := [8]})]} }, base, (let s := base; {s with ser := {s.ser with lane := [(32+24, {cdr := true})]}})]
def ls : List Nat := [9,10]
def lks (p : Nat) (asked : Option (Nat × Nat)) (st : LaneState) (reg : Nat) (f : State → State := id) : State := f { base with regs := (lkRegs 8, lk reg) :: base.regs, ser := { base.ser with lane := [(9, {state := st}), (10, {state := st})], link := [(8, {lanes := ls, power := p, asked := asked, partner := 50})] } }
def msg (bs : List Nat) (s : State) : State := { s with ser := { s.ser with msgs := [(9, [9]), (9, pad20 bs), (8, pad20 [0x10])] } }
def landf (s : State) : State := { s with flows := [(30, { landing := some (3,5), base := 4096, slotBytes := 100, rxPos := 5, slots := [{seq := 4}, {writing := true}] })] }
def scns2 : List State := [(lks 0 none .active 0), (lks 1 none .l1 0x80000), (lks 2 none .l2 0x40000), (msg [0x18] (lks 0 none .active 0)), (msg [0x18] (rv (lks 0 none .active 0))), (msg [0x1A] (lks 0 none .active 0)), (msg [0x1A] (rv (lks 0 none .active 0))), (msg [0x19] (lks 0 (some (1,5600000)) .active 0x80000)), (msg [0x1B] (lks 0 (some (2,5600000)) .active 0x40000)), (lks 0 none .active 100), (landf (rv (lks 0 none .active 0))), (msg [0x19] (lks 0 none .active 0)), (msg [0x1B] (lks 0 none .active 0)), (rv (landf (lks 0 none .active 0) )), (msg [0x18] (lks 0 (some (1,5600000)) .active 0x80000))]
def sc1 (k : Nat) : State := scns.getD k State.reset
def sc2 (k : Nat) : State := scns2.getD k State.reset
/-- States and operands that meet the hypotheses of each clause of LaneRegisters (part 1 of 2). -/
theorem witness_LaneRegisters_1 :
    (0 < 12 ∧ ((sc1 0).lanePresent 9 = true) ∧ ((sc1 0).writeGate 0 (lnRegs 9 + 8) = Gate.pass) ∧ (bit (0x00000001#32) 0 = true) ∧ (((sc1 0).lane 9).state = LaneState.down) ∧ ((sc1 0).laneHeld 9 = false))
    ∧ (0 < 12 ∧ ((sc1 1).lanePresent 33 = true) ∧ ((sc1 1).writeGate 0 (lnRegs 33 + 8) = Gate.pass) ∧ (bit (0x00000001#32) 0 = true) ∧ (((sc1 1).lane 33).state = LaneState.down) ∧ ((sc1 1).laneHeld 33 = true))
    ∧ (0 < 12 ∧ ((sc1 2).lanePresent 9 = true) ∧ ((sc1 2).writeGate 0 (lnRegs 9 + 8) = Gate.pass) ∧ (bit (0x00000001#32) 0 = true) ∧ (((sc1 2).lane 9).state ≠ LaneState.down))
    ∧ (0 < 12 ∧ ((sc1 0).lanePresent 9 = true) ∧ ((sc1 0).writeGate 0 (lnRegs 9 + 8) = Gate.pass) ∧ (bit (0x00000000#32) 0 = false))
    ∧ (0 < 12 ∧ ((sc1 2).lanePresent 9 = true) ∧ ((sc1 2).writeGate 0 (lnRegs 9) = Gate.pass) ∧ (bit (0x00000010#32) 4 = true) ∧ (bit ((sc1 2).reg (lnRegs 9)) 4 = false) ∧ (((sc1 2).lane 9).state = LaneState.active) ∧ ((sc1 2).resvsOn ((sc1 2).linkOf 9) ≠ []))
    ∧ (0 < 12 ∧ ((sc1 0).lanePresent 9 = true) ∧ ((sc1 0).writeGate 0 (lnRegs 9) = Gate.pass) ∧ (bit (0x00000010#32) 4 = true) ∧ (bit ((sc1 0).reg (lnRegs 9)) 4 = false) ∧ (((sc1 0).lane 9).state ≠ LaneState.active ∨ (sc1 0).resvsOn ((sc1 0).linkOf 9) = []))
    ∧ (0 < 12 ∧ ((sc1 0).lanePresent 9 = true) ∧ ((sc1 0).writeGate 0 (lnRegs 9) = Gate.pass) ∧ (bit (0x00000000#32) 4 = bit ((sc1 0).reg (lnRegs 9)) 4))
    ∧ (0 < 12 ∧ ((sc1 4).lanePresent 9 = true) ∧ ((sc1 4).writeGate 0 (lnRegs 9) = Gate.pass) ∧ (bit (0x00000000#32) 4 = false) ∧ (bit ((sc1 4).reg (lnRegs 9)) 4 = true))
    ∧ (0 < 12 ∧ ((sc1 0).lanePresent 9 = true) ∧ ((sc1 0).writeGate 0 (lnRegs 9 + 44) = Gate.pass) ∧ (4 < bits (0x50000000#32) 30 28 ∨ bits (0x50000000#32) 30 28 = 2 ∧ bits (0x50000000#32) 23 16 = 0 ∨ bits (0x50000000#32) 30 28 = 4 ∧ (bits (0x50000000#32) 13 8 < 10 ∨ 40 < bits (0x50000000#32) 13 8)))
    ∧ (0 < 12 ∧ ((sc1 0).lanePresent 9 = true) ∧ ((sc1 0).writeGate 0 (lnRegs 9 + 44) = Gate.pass) ∧ (¬(4 < bits (0x00000000#32) 30 28 ∨ bits (0x00000000#32) 30 28 = 2 ∧ bits (0x00000000#32) 23 16 = 0 ∨ bits (0x00000000#32) 30 28 = 4 ∧ (bits (0x00000000#32) 13 8 < 10 ∨ 40 < bits (0x00000000#32) 13 8))) ∧ (bit (0x00000000#32) 0 = false ∨ bits (0x00000000#32) 30 28 = 0 ∨ bits (0x00000000#32) 30 28 = 4 ∨ ((sc1 0).lane 9).injPending = true))
    ∧ (0 < 12 ∧ ((sc1 0).lanePresent 9 = true) ∧ ((sc1 0).writeGate 0 (lnRegs 9 + 44) = Gate.pass) ∧ (1 ≤ bits (0x10000001#32) 30 28) ∧ (bits (0x10000001#32) 30 28 ≤ 3) ∧ (bits (0x10000001#32) 30 28 = 2 → bits (0x10000001#32) 23 16 ≠ 0) ∧ (bit (0x10000001#32) 0 = true) ∧ (((sc1 0).lane 9).injPending = false) ∧ (((sc1 0).lane 9).state ∈ [LaneState.disabled, LaneState.l1, LaneState.l2, LaneState.down]))
    ∧ (0 < 12 ∧ ((sc1 2).lanePresent 9 = true) ∧ ((sc1 2).writeGate 0 (lnRegs 9 + 44) = Gate.pass) ∧ (1 ≤ bits (0x10000001#32) 30 28) ∧ (bits (0x10000001#32) 30 28 ≤ 3) ∧ (bits (0x10000001#32) 30 28 = 2 → bits (0x10000001#32) 23 16 ≠ 0) ∧ (bit (0x10000001#32) 0 = true) ∧ (((sc1 2).lane 9).injPending = false) ∧ (¬((sc1 2).lane 9).state ∈ [LaneState.disabled, LaneState.l1, LaneState.l2, LaneState.down])) := by and_intros <;> decide +kernel
/-- States and operands that meet the hypotheses of each clause of LaneRegisters (part 2 of 2). -/
theorem witness_LaneRegisters_2 :
    (0 < 12 ∧ ((sc1 6).lanePresent 8 = true) ∧ ((sc1 6).writeGate 0 (lkRegs 8) = Gate.pass) ∧ (bit (0x80000000#32) 31 ≠ bit ((sc1 6).lkCtrl 8) 31) ∧ ((sc1 6).lkCtrlOk 8 (0x80000000#32) = false))
    ∧ (0 < 12 ∧ ((sc1 6).lanePresent 8 = true) ∧ ((sc1 6).writeGate 0 (lkRegs 8) = Gate.pass) ∧ (bit (0x80f00000#32) 31 ≠ bit ((sc1 6).lkCtrl 8) 31) ∧ ((sc1 6).lkCtrlOk 8 (0x80f00000#32) = true) ∧ (bit (0x80f00000#32) 31 = true))
    ∧ (0 < 12 ∧ ((sc1 7).lanePresent 8 = true) ∧ ((sc1 7).writeGate 0 (lkRegs 8) = Gate.pass) ∧ (bit (0x00f00000#32) 31 ≠ bit ((sc1 7).lkCtrl 8) 31) ∧ ((sc1 7).lkCtrlOk 8 (0x00f00000#32) = true) ∧ (bit (0x00f00000#32) 31 = false))
    ∧ (0 < 12 ∧ ((sc1 8).lanePresent 56 = true) ∧ 32 ≤ 56 ∧ ((sc1 8).laneRsl 56 = false) ∧ (((sc1 8).portLanes ((56 - 32) / 4)).contains (56 % 4) = true) ∧ ((sc1 8).laneHeld 56 = false) ∧ (((sc1 8).lane 56).cdr ≠ (true))) := by and_intros <;> decide +kernel
/-- States and operands that meet the hypotheses of each clause of LinkPowerAndBlocks (part 1 of 9). -/
theorem witness_LinkPowerAndBlocks_1 :
    (0 < 12 ∧ ((sc2 0).lanePresent 8 = true) ∧ ((sc2 0).writeGate 0 (lkRegs 8) = Gate.pass) ∧ ((sc2 0).lkCtrlOk 8 (0x80f80000#32) = true) ∧ (bit (0x80f80000#32) 31 = bit ((sc2 0).lkCtrl 8) 31) ∧ (bit (0x80f80000#32) 19 = true) ∧ (bit ((sc2 0).lkCtrl 8) 19 = false) ∧ (bit (0x80f80000#32) 18 = bit ((sc2 0).lkCtrl 8) 18) ∧ (((sc2 0).link 8).power = 0) ∧ (((sc2 0).link 8).lanes = 9 :: ([10])))
    ∧ (0 < 12 ∧ ((sc2 1).lanePresent 8 = true) ∧ ((sc2 1).writeGate 0 (lkRegs 8) = Gate.pass) ∧ ((sc2 1).lkCtrlOk 8 (0x80f00000#32) = true) ∧ (bit (0x80f00000#32) 31 = bit ((sc2 1).lkCtrl 8) 31) ∧ (bit (0x80f00000#32) 19 = false) ∧ (bit ((sc2 1).lkCtrl 8) 19 = true) ∧ (bit (0x80f00000#32) 18 = bit ((sc2 1).lkCtrl 8) 18) ∧ (((sc2 1).link 8).power = 1))
    ∧ (0 < 12 ∧ ((sc2 0).lanePresent 8 = true) ∧ ((sc2 0).writeGate 0 (lkRegs 8) = Gate.pass) ∧ ((sc2 0).lkCtrlOk 8 (0x80f40000#32) = true) ∧ (bit (0x80f40000#32) 31 = bit ((sc2 0).lkCtrl 8) 31) ∧ (bit (0x80f40000#32) 18 = true) ∧ (bit ((sc2 0).lkCtrl 8) 18 = false) ∧ (bit (0x80f40000#32) 19 = bit ((sc2 0).lkCtrl 8) 19) ∧ (((sc2 0).link 8).power = 0) ∧ (((sc2 0).link 8).lanes = 9 :: ([10])))
    ∧ (0 < 12 ∧ ((sc2 2).lanePresent 8 = true) ∧ ((sc2 2).writeGate 0 (lkRegs 8) = Gate.pass) ∧ ((sc2 2).lkCtrlOk 8 (0x80f00000#32) = true) ∧ (bit (0x80f00000#32) 31 = bit ((sc2 2).lkCtrl 8) 31) ∧ (bit (0x80f00000#32) 18 = false) ∧ (bit ((sc2 2).lkCtrl 8) 18 = true) ∧ (bit (0x80f00000#32) 19 = bit ((sc2 2).lkCtrl 8) 19) ∧ (((sc2 2).link 8).power = 2))
    ∧ (0 < 12 ∧ ((sc2 0).lanePresent 8 = true) ∧ ((sc2 0).writeGate 0 (lkRegs 8) = Gate.pass) ∧ ((sc2 0).lkCtrlOk 8 (0x80080000#32) = false) ∧ (bit (0x80080000#32) 19 ≠ bit ((sc2 0).lkCtrl 8) 19))
    ∧ (0 < 12 ∧ ((sc2 0).lanePresent 8 = true) ∧ ((sc2 0).writeGate 0 (lkRegs 8) = Gate.pass) ∧ ((sc2 0).lkCtrlOk 8 (0x80040000#32) = false) ∧ (bit (0x80040000#32) 18 ≠ bit ((sc2 0).lkCtrl 8) 18))
    ∧ ((((sc2 7).link 8).asked = some (1, 5600000)))
    ∧ ((bits ((sc2 9).lkCtrl 8) 15 0 ≠ 0) ∧ (((sc2 9).link 8).lanes = 9 :: ([10])) ∧ (((sc2 9).link 8).power = 0) ∧ (((sc2 9).link 8).asked = none) ∧ ((sc2 9).resvsOn 8 = []))
    ∧ ((((sc2 1).link 8).power = 1))
    ∧ ((((sc2 2).link 8).power = 2))
    ∧ (((sc2 2).linkUp 8 = false ∨ 2 ≤ ((sc2 2).link 8).power))
    ∧ (((sc2 0).linkUp 8 = true) ∧ (((sc2 0).link 8).power < 2)) := by and_intros <;> decide +kernel
/-- States and operands that meet the hypotheses of each clause of LinkPowerAndBlocks (part 2 of 9). -/
theorem witness_LinkPowerAndBlocks_2 :
    (∃ (q3 : Nat × List Nat), (List.find? (fun q => decide (q.fst = 9 ∧ byteAt q.snd 0 = 24)) (sc2 3).ser.msgs = some q3) ∧ ((sc2 3).linkOf 9 = 8) ∧ (((sc2 3).link 8).lanes ≠ [] ∧ ((sc2 3).link 8).power = 0 ∧ (sc2 3).resvsOn 8 = [] ∧ (Option.map Prod.fst ((sc2 3).link 8).asked = some 1 → (sc2 3).leads 8 ((sc2 3).link 8).partner = false))) := by refine ⟨_, rfl, ?_⟩; and_intros <;> decide +kernel
/-- States and operands that meet the hypotheses of each clause of LinkPowerAndBlocks (part 3 of 9). -/
theorem witness_LinkPowerAndBlocks_3 :
    (∃ (q3 : Nat × List Nat), (List.find? (fun q => decide (q.fst = 9 ∧ byteAt q.snd 0 = 24)) (sc2 4).ser.msgs = some q3) ∧ ((sc2 4).linkOf 9 = 8) ∧ (¬(((sc2 4).link 8).lanes ≠ [] ∧ ((sc2 4).link 8).power = 0 ∧ (sc2 4).resvsOn 8 = [] ∧ (Option.map Prod.fst ((sc2 4).link 8).asked = some 1 → (sc2 4).leads 8 ((sc2 4).link 8).partner = false)))) := by refine ⟨_, rfl, ?_⟩; and_intros <;> decide +kernel
/-- States and operands that meet the hypotheses of each clause of LinkPowerAndBlocks (part 4 of 9). -/
theorem witness_LinkPowerAndBlocks_4 :
    (∃ (q3 : Nat × List Nat), (List.find? (fun q => decide (q.fst = 9 ∧ byteAt q.snd 0 = 26)) (sc2 5).ser.msgs = some q3) ∧ ((sc2 5).linkOf 9 = 8) ∧ (((sc2 5).link 8).lanes ≠ [] ∧ ((sc2 5).link 8).power = 0 ∧ (sc2 5).resvsOn 8 = [] ∧ (Option.map Prod.fst ((sc2 5).link 8).asked = some 2 → (sc2 5).leads 8 ((sc2 5).link 8).partner = false))) := by refine ⟨_, rfl, ?_⟩; and_intros <;> decide +kernel
/-- States and operands that meet the hypotheses of each clause of LinkPowerAndBlocks (part 5 of 9). -/
theorem witness_LinkPowerAndBlocks_5 :
    (∃ (q3 : Nat × List Nat), (List.find? (fun q => decide (q.fst = 9 ∧ byteAt q.snd 0 = 26)) (sc2 6).ser.msgs = some q3) ∧ ((sc2 6).linkOf 9 = 8) ∧ (¬(((sc2 6).link 8).lanes ≠ [] ∧ ((sc2 6).link 8).power = 0 ∧ (sc2 6).resvsOn 8 = [] ∧ (Option.map Prod.fst ((sc2 6).link 8).asked = some 2 → (sc2 6).leads 8 ((sc2 6).link 8).partner = false)))) := by refine ⟨_, rfl, ?_⟩; and_intros <;> decide +kernel
/-- States and operands that meet the hypotheses of each clause of LinkPowerAndBlocks (part 6 of 9). -/
theorem witness_LinkPowerAndBlocks_6 :
    (∃ (q3 : Nat × List Nat), (List.find? (fun q => decide (q.fst = 9 ∧ byteAt q.snd 0 = 25)) (sc2 11).ser.msgs = some q3) ∧ ((sc2 11).linkOf 9 = 8) ∧ (Option.map Prod.fst ((sc2 11).link 8).asked ≠ some 1)) := by refine ⟨_, rfl, ?_⟩; and_intros <;> decide +kernel
/-- States and operands that meet the hypotheses of each clause of LinkPowerAndBlocks (part 7 of 9). -/
theorem witness_LinkPowerAndBlocks_7 :
    (∃ (q3 : Nat × List Nat), (List.find? (fun q => decide (q.fst = 9 ∧ byteAt q.snd 0 = 27)) (sc2 12).ser.msgs = some q3) ∧ ((sc2 12).linkOf 9 = 8) ∧ (Option.map Prod.fst ((sc2 12).link 8).asked ≠ some 2)) := by refine ⟨_, rfl, ?_⟩; and_intros <;> decide +kernel
/-- States and operands that meet the hypotheses of each clause of LinkPowerAndBlocks (part 8 of 9). -/
theorem witness_LinkPowerAndBlocks_8 :
    (∃ (q3 : Nat × List Nat), (List.find? (fun q => decide (q.fst = 9 ∧ byteAt q.snd 0 = 25)) (sc2 7).ser.msgs = some q3) ∧ ((sc2 7).linkOf 9 = 8) ∧ (((sc2 7).link 8).asked = some (1, 5600000))) := by refine ⟨_, rfl, ?_⟩; and_intros <;> decide +kernel
/-- States and operands that meet the hypotheses of each clause of LinkPowerAndBlocks (part 9 of 9). -/
theorem witness_LinkPowerAndBlocks_9 :
    (∃ (q3 : Nat × List Nat), (List.find? (fun q => decide (q.fst = 9 ∧ byteAt q.snd 0 = 27)) (sc2 8).ser.msgs = some q3) ∧ ((sc2 8).linkOf 9 = 8) ∧ (((sc2 8).link 8).asked = some (2, 5600000))) := by refine ⟨_, rfl, ?_⟩; and_intros <;> decide +kernel
end ForLaneRegisters

namespace ForRoutesAndReservations
def rw_ (l : Nat) : Nat := 2^31 + 2^28 + 2*2^22 + l
def base : State := { media with ttime := 5000000, boot := { State.reset.boot with ready := true }, devId := 40, outs := [(7, {})], flows := [(100, vflow 6), (30, {landing := some (41,5)})], units := [], regs := [(R.stkRoute 82, w_ (rw_ 8)), (R.stkRoute 60, w_ (rw_ 12)), (R.stkRoute 100, w_ (rw_ 8)), (R.stkRoute 101, w_ (rw_ 12)), (R.stkRoute 84, w_ (rw_ 8))] ++ media.regs, ser := { State.reset.ser with link := [(8, {lanes := [8,9], rate := 2, partner := 41}), (12, {lanes := [12], rate := 2, partner := 30})] } }
def hd (id m h l : Nat) (t : Nat := 4000000) : Heard := { id := id, fabric := false, capable := true, standby := false, master := m, hops := h, t := t, link := l }
def raw (dst src ty rh seq : Nat) (pay : List Nat) : List Nat := leNats 2 dst ++ leNats 2 src ++ [ty, rh] ++ leNats 2 seq ++ pay12 pay
def rx (bs : List Nat) (f : State → State := id) : State := f { base with stk := { base.stk with rx := [(8, 4900000, bs), (12, 5, [1])], seen := [(41, [7])] } }
def mg (ty : Nat) (pay : List Nat) (src : Nat := 41) (dst : Nat := 40) (link : Nat := 8) : StkMsg := { link := link, t := 4900000, dst := dst, src := src, type := ty, rh := 2, seq := 9, pay := pay12 pay }
def ib (ms : List StkMsg) (f : Stk → Stk := id) : State := { base with stk := f { base.stk with inbox := mg 9 [] :: ms ++ [mg 0x10 [7]] } }
def ms : List StkMsg := [mg 0x13 (exchPay 100 9 0 500 0 41), mg 0x13 (exchPay 99 9 0 500 0 30), mg 0x13 (exchPay 98 9 0 500 0 30), mg 0x13 (exchPay 97 9 0 500 0 41), mg 0x14 (exchPay 100 0 0 500 7 30),mg 1 [6, 255, 255, 0], mg 1 [2, 30, 0, 0] 30, mg 1 [3,41,0,0] 40, mg 2 ([0,0x40,0x4C,0] ++ [0,0,0,0]), mg 2 [0,0x40,0x4C,0] 30 40 12, mg 3 [], mg 4 (leNats 8 0 ++ leNats 4 100), mg 5 ([2, 8] ++ leNats 6 5 ++ leNats 4 4900000) 32, mg 5 ([4, 8] ++ leNats 6 5 ++ leNats 4 4900000) 41,
  mg 6 (leNats 2 50 ++ leNats 4 (rw_ 12) ++ leNats 4 (rw_ 8) ++ leNats 2 3), mg 7 (leNats 4 3 ++ leNats 4 9), mg 0x10 (leNats 2 100 ++ [0,0] ++ leNats 4 0 ++ leNats 2 7 ++ leNats 2 41), mg 0x10 (leNats 2 101), mg 0x11 (exchPay 5 0 0 2000 7 40), mg 0x11 (exchPay 5 4 0 2000 7 40),
  mg 0x12 (exchPay 100 0 0 500 7 41), mg 0x12 (exchPay 5 0 0 500 7 40), mg 0x12 (exchPay 100 0 1 500 7 41) 41 30, mg 0x12 (exchPay 100 0 0 500 7 41) 41 30, mg 0x12 (exchPay 100 0 0 5000000 7 41) 41 30, mg 0x13 (exchPay 100 0 1 500 7 40), mg 0x13 (exchPay 5 9 1 500 7 40), mg 0x14 (exchPay 100 0 0 500 7 41), mg 0x14 (exchPay 100 0 0 500 7 41) 41 30]
def el2 (m : Nat) (k : Stk) : Stk := { k with master := some m, exports := [] }
def all1 (f : Stk → Stk) (g : State → State := id) : List State := ms.map (fun m => g (ib [m] f))
def el (m : Nat) : Stk → Stk := fun k => { k with master := some m, heard := [hd 41 40 1 8, hd 30 41 1 12, hd 50 50 0 8 10], reqSent := [(8, 4000000)], delays := [(8, 50)], exports := [{flow := 100, dev := 41}], resvs := [{link := 8, dev := 41, flow := 98, dst := 30, mbps := 100, tried := [12,13], up := some 8}, {link := 8, dev := 41, flow := 97, dst := 41, mbps := 100, tried := [8,9]},{link := 12, dev := 41, flow := 99, dst := 30, mbps := 100}, {link := 8, dev := 40, flow := 100, dst := 41, mbps := 100}], staged := [{d := 50, w0 := w_ (rw_ 12), w1 := w_ (rw_ 8), version := 3}, {d := 51, w0 := 5, w1 := 6, version := 4}] }
def scns : List State := (all1 (el2 41) ++ ([raw 40 41 1 2 7 [], raw 40 41 1 2 8 [], raw 0x8000 41 1 2 8 [], raw 30 41 1 10 8 [], raw 30 41 0x12 2 8 [], raw 30 41 0x10 2 8 [5], raw 31 41 0x10 2 8 [5], raw 40 41 0xFF 2 8 []].map (fun b => rx b)) ++ (all1 (el 41)) ++ (all1 (el 40)) ++ all1 (el 41) (fun s => {s with groups := [(2,{waiting := some 7, epoch := 3})], flows := [], regs := (R.tgrpCtrl 4, 0x00080400) :: (R.tgrpCtrl 2, 0x00080400) :: s.regs}) ++ [{ib [] (el 41) with stk := { (el 41) base.stk with commit := some (0x10003, 9) }}, {ib [] (el 40) with devId := 32, groups := [(2,{running := true, frame := 4, lastStart := 77})], stk := { (el 32) base.stk with heard := [] }}]).map (id)
def sc1 (k : Nat) : State := scns.getD k State.reset
/-- States and operands that meet the hypotheses of each clause of RoutesAndReservations (part 1 of 30). -/
theorem witness_RoutesAndReservations_1 :
    ((8 ∈ (sc1 0).hopOrder (hopLinks ((sc1 0).hopWord ({ link := 0, dev := 40, flow := 100, dst := 41, out := 0, mbps := 700, route := 0, tried := [], up := none } : Resv).dst ({ link := 0, dev := 40, flow := 100, dst := 41, out := 0, mbps := 700, route := 0, tried := [], up := none } : Resv).route)) ({ link := 0, dev := 40, flow := 100, dst := 41, out := 0, mbps := 700, route := 0, tried := [], up := none } : Resv).dev ({ link := 0, dev := 40, flow := 100, dst := 41, out := 0, mbps := 700, route := 0, tried := [], up := none } : Resv).flow))
    ∧ ((8 ∈ hopLinks ((sc1 0).hopWord ({ link := 0, dev := 40, flow := 100, dst := 41, out := 0, mbps := 700, route := 0, tried := [], up := none } : Resv).dst ({ link := 0, dev := 40, flow := 100, dst := 41, out := 0, mbps := 700, route := 0, tried := [], up := none } : Resv).route)) ∧ ((sc1 0).linkUp 8 = true) ∧ ((sc1 0).twinOwns 8 = false))
    ∧ (((sc1 0).reserveHop ({ link := 0, dev := 40, flow := 100, dst := 41, out := 0, mbps := 7000000, route := 0, tried := [], up := none } : Resv) = none) ∧ (({ link := 0, dev := 40, flow := 100, dst := 41, out := 0, mbps := 7000000, route := 0, tried := [], up := none } : Resv).route ≠ 0 ∨ bit ((sc1 0).route ({ link := 0, dev := 40, flow := 100, dst := 41, out := 0, mbps := 7000000, route := 0, tried := [], up := none } : Resv).dst 1) 31 = false ∨ (sc1 0).reserveHop ({ ({ link := 0, dev := 40, flow := 100, dst := 41, out := 0, mbps := 7000000, route := 0, tried := [], up := none } : Resv) with route := 1, tried := [] } : Resv) = none))
    ∧ (((sc1 124).stk.commit = some (65539, 9)) ∧ (1 ≠ 0 ∨ List.filter (fun e => decide (e.version = 65539 % 65536)) (sc1 124).stk.staged = []))
    ∧ (((sc1 124).stk.commit = some (65539, 9)) ∧ 0 = 0 ∧ (List.filter (fun e => decide (e.version = 65539 % 65536)) (sc1 124).stk.staged ≠ [])) := by and_intros <;> decide +kernel
/-- States and operands that meet the hypotheses of each clause of RoutesAndReservations (part 2 of 30). -/
theorem witness_RoutesAndReservations_2 :
    (∃ (q2 : Resv) (t3 : Machine.State), ((sc1 37).reserveHop ({ link := 0, dev := 40, flow := 100, dst := 41, out := 0, mbps := 700, route := 0, tried := [], up := none } : Resv) = some (q2, t3)) ∧ ((sc1 37).carries q2.link ({ link := 0, dev := 40, flow := 100, dst := 41, out := 0, mbps := 700, route := 0, tried := [], up := none } : Resv).dev ({ link := 0, dev := 40, flow := 100, dst := 41, out := 0, mbps := 700, route := 0, tried := [], up := none } : Resv).flow = true)) := ⟨_, _, rfl, rfl⟩
/-- States and operands that meet the hypotheses of each clause of RoutesAndReservations (part 3 of 30). -/
theorem witness_RoutesAndReservations_3 :
    (∃ (q2 : Resv) (t3 : Machine.State), ((sc1 0).reserveHop ({ link := 0, dev := 40, flow := 100, dst := 41, out := 0, mbps := 700, route := 0, tried := [], up := none } : Resv) = some (q2, t3)) ∧ ((sc1 0).carries q2.link ({ link := 0, dev := 40, flow := 100, dst := 41, out := 0, mbps := 700, route := 0, tried := [], up := none } : Resv).dev ({ link := 0, dev := 40, flow := 100, dst := 41, out := 0, mbps := 700, route := 0, tried := [], up := none } : Resv).flow = false)) := ⟨_, _, rfl, rfl⟩
/-- States and operands that meet the hypotheses of each clause of RoutesAndReservations (part 4 of 30). -/
theorem witness_RoutesAndReservations_4 :
    (∃ (q2 : Resv) (t3 : Machine.State), ((sc1 0).reserveHop ({ link := 0, dev := 40, flow := 100, dst := 41, out := 0, mbps := 700, route := 0, tried := [], up := none } : Resv) = some (q2, t3))) := ⟨_, _, rfl⟩
/-- States and operands that meet the hypotheses of each clause of RoutesAndReservations (part 5 of 30). -/
theorem witness_RoutesAndReservations_5 :
    (∃ (q2 : Resv) (t3 : Machine.State), ((sc1 0).reserveHop ({ ({ link := 0, dev := 40, flow := 102, dst := 50, out := 0, mbps := 300, route := 0, tried := [8], up := none } : Resv) with route := 1, tried := [] } : Resv) = some (q2, t3)) ∧ ((sc1 0).reserveHop ({ link := 0, dev := 40, flow := 102, dst := 50, out := 0, mbps := 300, route := 0, tried := [8], up := none } : Resv) = none) ∧ ({ link := 0, dev := 40, flow := 102, dst := 50, out := 0, mbps := 300, route := 0, tried := [8], up := none } : Resv).route = 0 ∧ (bit ((sc1 0).route ({ link := 0, dev := 40, flow := 102, dst := 50, out := 0, mbps := 300, route := 0, tried := [8], up := none } : Resv).dst 1) 31 = true)) := by refine ⟨_, _, rfl, ?_⟩; and_intros <;> decide +kernel
/-- States and operands that meet the hypotheses of each clause of RoutesAndReservations (part 6 of 30). -/
theorem witness_RoutesAndReservations_6 :
    (∃ (m1 : StkMsg), (List.find? (fun q => decide (q.type = 6)) (sc1 14).stk.inbox = some m1) ∧ ((sc1 14).stk.master = some m1.src)) := ⟨_, rfl, rfl⟩
/-- States and operands that meet the hypotheses of each clause of RoutesAndReservations (part 7 of 30). -/
theorem witness_RoutesAndReservations_7 :
    (∃ (m1 : StkMsg), (List.find? (fun q => decide (q.type = 6)) (sc1 80).stk.inbox = some m1) ∧ ((sc1 80).stk.master ≠ some m1.src)) := by refine ⟨_, rfl, ?_⟩; decide +kernel
/-- States and operands that meet the hypotheses of each clause of RoutesAndReservations (part 8 of 30). -/
theorem witness_RoutesAndReservations_8 :
    (∃ (m1 : StkMsg), (List.find? (fun q => decide (q.type = 7)) (sc1 15).stk.inbox = some m1) ∧ ((sc1 15).stk.master = some m1.src)) := ⟨_, rfl, rfl⟩
/-- States and operands that meet the hypotheses of each clause of RoutesAndReservations (part 9 of 30). -/
theorem witness_RoutesAndReservations_9 :
    (∃ (m1 : StkMsg), (List.find? (fun q => decide (q.type = 7)) (sc1 81).stk.inbox = some m1) ∧ ((sc1 81).stk.master ≠ some m1.src)) := by refine ⟨_, rfl, ?_⟩; decide +kernel
/-- States and operands that meet the hypotheses of each clause of RoutesAndReservations (part 10 of 30). -/
theorem witness_RoutesAndReservations_10 :
    (∃ (m1 : StkMsg), (List.find? (fun q => decide (q.type = 16)) (sc1 16).stk.inbox = some m1)) := ⟨_, rfl⟩
/-- States and operands that meet the hypotheses of each clause of RoutesAndReservations (part 11 of 30). -/
theorem witness_RoutesAndReservations_11 :
    (∃ (m1 : StkMsg), (List.find? (fun q => decide (q.type = 17)) (sc1 113).stk.inbox = some m1) ∧ ((sc1 113).landingOf m1.src m1.xFlow = none)) := ⟨_, rfl, rfl⟩
/-- States and operands that meet the hypotheses of each clause of RoutesAndReservations (part 12 of 30). -/
theorem witness_RoutesAndReservations_12 :
    (∃ (m1 : StkMsg), (List.find? (fun q => decide (q.type = 17)) (sc1 19).stk.inbox = some m1) ∧ ((sc1 19).landingOf m1.src m1.xFlow = some 30) ∧ m1.xStatus ≠ stOk) := by refine ⟨_, rfl, rfl, ?_⟩; decide +kernel
/-- States and operands that meet the hypotheses of each clause of RoutesAndReservations (part 13 of 30). -/
theorem witness_RoutesAndReservations_13 :
    (∃ (m1 : StkMsg), (List.find? (fun q => decide (q.type = 17)) (sc1 18).stk.inbox = some m1) ∧ ((sc1 18).landingOf m1.src m1.xFlow = some 30) ∧ m1.xStatus = stOk) := ⟨_, rfl, rfl, rfl⟩
/-- States and operands that meet the hypotheses of each clause of RoutesAndReservations (part 14 of 30). -/
theorem witness_RoutesAndReservations_14 :
    (∃ (m1 : StkMsg), (List.find? (fun q => decide (q.type = 18)) (sc1 22).stk.inbox = some m1) ∧ m1.dst ≠ (sc1 22).devId ∧ m1.route ≠ m1.xRoute) := by refine ⟨_, rfl, ?_⟩; and_intros <;> decide +kernel
/-- States and operands that meet the hypotheses of each clause of RoutesAndReservations (part 15 of 30). -/
theorem witness_RoutesAndReservations_15 :
    (∃ (m1 : StkMsg) (q2 : Resv) (t13 : Machine.State), (List.find? (fun q => decide (q.type = 18)) (sc1 23).stk.inbox = some m1) ∧ m1.route = m1.xRoute ∧ (({ (sc1 23) with stk := ({ (sc1 23).stk with inbox := (sc1 23).stk.inbox.erase m1 } : Stk) } : State).reserveHop { link := 0, dev := m1.src, flow := m1.xFlow, dst := m1.dst, out := m1.xOut, mbps := m1.xRate, route := m1.xRoute, up := some m1.link } = some (q2, t13)) ∧ m1.dst ≠ (sc1 23).devId) := by refine ⟨_, _, _, rfl, rfl, rfl, ?_⟩; decide +kernel
/-- States and operands that meet the hypotheses of each clause of RoutesAndReservations (part 16 of 30). -/
theorem witness_RoutesAndReservations_16 :
    (∃ (m1 : StkMsg), (List.find? (fun q => decide (q.type = 18)) (sc1 24).stk.inbox = some m1) ∧ m1.route = m1.xRoute ∧ (({ (sc1 24) with stk := ({ (sc1 24).stk with inbox := (sc1 24).stk.inbox.erase m1 } : Stk) } : State).reserveHop { link := 0, dev := m1.src, flow := m1.xFlow, dst := m1.dst, out := m1.xOut, mbps := m1.xRate, route := m1.xRoute, up := some m1.link } = none) ∧ m1.dst ≠ (sc1 24).devId) := by refine ⟨_, rfl, rfl, rfl, ?_⟩; decide +kernel
/-- States and operands that meet the hypotheses of each clause of RoutesAndReservations (part 17 of 30). -/
theorem witness_RoutesAndReservations_17 :
    (∃ (m1 : StkMsg), (List.find? (fun q => decide (q.type = 18)) (sc1 20).stk.inbox = some m1) ∧ m1.dst = (sc1 20).devId ∧ m1.xDev = m1.src ∧ (∀ (e : Export), e ∈ (sc1 20).stk.exports → ¬(e.flow = m1.xFlow ∧ e.dev = m1.src))) := by refine ⟨_, rfl, rfl, rfl, ?_⟩; decide +kernel
/-- States and operands that meet the hypotheses of each clause of RoutesAndReservations (part 18 of 30). -/
theorem witness_RoutesAndReservations_18 :
    (∃ (m1 : StkMsg), (List.find? (fun q => decide (q.type = 18)) (sc1 57).stk.inbox = some m1) ∧ m1.dst = (sc1 57).devId ∧ m1.xDev = m1.src ∧ (∃ e, e ∈ (sc1 57).stk.exports ∧ e.flow = m1.xFlow ∧ e.dev = m1.src)) := by refine ⟨_, rfl, rfl, rfl, ?_⟩; decide +kernel
/-- States and operands that meet the hypotheses of each clause of RoutesAndReservations (part 19 of 30). -/
theorem witness_RoutesAndReservations_19 :
    (∃ (m1 : StkMsg), (List.find? (fun q => decide (q.type = 18)) (sc1 116).stk.inbox = some m1) ∧ m1.dst = (sc1 116).devId ∧ ((sc1 116).landingOf m1.src m1.xFlow = none) ∧ m1.xDev ≠ m1.src) := by refine ⟨_, rfl, rfl, rfl, ?_⟩; decide +kernel
/-- States and operands that meet the hypotheses of each clause of RoutesAndReservations (part 20 of 30). -/
theorem witness_RoutesAndReservations_20 :
    (∃ (m1 : StkMsg), (List.find? (fun q => decide (q.type = 18)) (sc1 21).stk.inbox = some m1) ∧ m1.dst = (sc1 21).devId ∧ ((sc1 21).landingOf m1.src m1.xFlow = some 30) ∧ m1.xDev ≠ m1.src) := by refine ⟨_, rfl, rfl, rfl, ?_⟩; decide +kernel
/-- States and operands that meet the hypotheses of each clause of RoutesAndReservations (part 21 of 30). -/
theorem witness_RoutesAndReservations_21 :
    (∃ (m1 : StkMsg), (List.find? (fun q => decide (q.type = 19)) (sc1 25).stk.inbox = some m1) ∧ m1.xStatus = stOk) := ⟨_, rfl, rfl⟩
/-- States and operands that meet the hypotheses of each clause of RoutesAndReservations (part 22 of 30). -/
theorem witness_RoutesAndReservations_22 :
    (∃ (m1 : StkMsg) (r2 : Resv), (List.find? (fun q => decide (q.type = 19)) (sc1 37).stk.inbox = some m1) ∧ (List.find? (fun r => decide (r.flow = m1.xFlow ∧ r.dst = m1.xDev ∧ r.out = m1.xOut)) (sc1 37).stk.resvs = some r2) ∧ r2.dev = (sc1 37).devId ∧ m1.xStatus ≠ stOk) := by refine ⟨_, _, rfl, rfl, rfl, ?_⟩; decide +kernel
/-- States and operands that meet the hypotheses of each clause of RoutesAndReservations (part 23 of 30). -/
theorem witness_RoutesAndReservations_23 :
    (∃ (m1 : StkMsg) (r2 : Resv) (q3 : Resv) (t14 : Machine.State), (List.find? (fun q => decide (q.type = 19)) (sc1 38).stk.inbox = some m1) ∧ (List.find? (fun r => decide (r.flow = m1.xFlow ∧ r.dst = m1.xDev ∧ r.out = m1.xOut)) (sc1 38).stk.resvs = some r2) ∧ ((({ (sc1 38) with stk := ({ (sc1 38).stk with inbox := (sc1 38).stk.inbox.erase m1 } : Stk) } : State).dropResv r2).reserveHop r2 = some (q3, t14)) ∧ m1.xStatus ≠ stOk ∧ r2.dev ≠ (sc1 38).devId) := by refine ⟨_, _, _, _, rfl, rfl, rfl, ?_⟩; and_intros <;> decide +kernel
/-- States and operands that meet the hypotheses of each clause of RoutesAndReservations (part 24 of 30). -/
theorem witness_RoutesAndReservations_24 :
    (∃ (m1 : StkMsg) (r2 : Resv), (List.find? (fun q => decide (q.type = 19)) (sc1 39).stk.inbox = some m1) ∧ (List.find? (fun r => decide (r.flow = m1.xFlow ∧ r.dst = m1.xDev ∧ r.out = m1.xOut)) (sc1 39).stk.resvs = some r2) ∧ ((({ (sc1 39) with stk := ({ (sc1 39).stk with inbox := (sc1 39).stk.inbox.erase m1 } : Stk) } : State).dropResv r2).reserveHop r2 = none) ∧ (r2.up = some 8) ∧ m1.xStatus ≠ stOk ∧ r2.dev ≠ (sc1 39).devId) := by refine ⟨_, _, rfl, rfl, rfl, rfl, ?_⟩; and_intros <;> decide +kernel
/-- States and operands that meet the hypotheses of each clause of RoutesAndReservations (part 25 of 30). -/
theorem witness_RoutesAndReservations_25 :
    (∃ (m1 : StkMsg) (r2 : Resv), (List.find? (fun q => decide (q.type = 19)) (sc1 40).stk.inbox = some m1) ∧ (List.find? (fun r => decide (r.flow = m1.xFlow ∧ r.dst = m1.xDev ∧ r.out = m1.xOut)) (sc1 40).stk.resvs = some r2) ∧ ((({ (sc1 40) with stk := ({ (sc1 40).stk with inbox := (sc1 40).stk.inbox.erase m1 } : Stk) } : State).dropResv r2).reserveHop r2 = none) ∧ r2.up = none ∧ m1.xStatus ≠ stOk ∧ r2.dev ≠ (sc1 40).devId) := by refine ⟨_, _, rfl, rfl, rfl, rfl, ?_⟩; and_intros <;> decide +kernel
/-- States and operands that meet the hypotheses of each clause of RoutesAndReservations (part 26 of 30). -/
theorem witness_RoutesAndReservations_26 :
    (∃ (m1 : StkMsg), (List.find? (fun q => decide (q.type = 19)) (sc1 0).stk.inbox = some m1) ∧ (List.find? (fun r => decide (r.flow = m1.xFlow ∧ r.dst = m1.xDev ∧ r.out = m1.xOut)) (sc1 0).stk.resvs = none) ∧ ((sc1 0).landingOf m1.src m1.xFlow = none) ∧ m1.xStatus ≠ stOk) := by refine ⟨_, rfl, rfl, rfl, ?_⟩; decide +kernel
/-- States and operands that meet the hypotheses of each clause of RoutesAndReservations (part 27 of 30). -/
theorem witness_RoutesAndReservations_27 :
    (∃ (m1 : StkMsg), (List.find? (fun q => decide (q.type = 19)) (sc1 26).stk.inbox = some m1) ∧ (List.find? (fun r => decide (r.flow = m1.xFlow ∧ r.dst = m1.xDev ∧ r.out = m1.xOut)) (sc1 26).stk.resvs = none) ∧ ((sc1 26).landingOf m1.src m1.xFlow = some 30) ∧ m1.xStatus ≠ stOk) := by refine ⟨_, rfl, rfl, rfl, ?_⟩; decide +kernel
/-- States and operands that meet the hypotheses of each clause of RoutesAndReservations (part 28 of 30). -/
theorem witness_RoutesAndReservations_28 :
    (∃ (m1 : StkMsg), (List.find? (fun q => decide (q.type = 20)) (sc1 27).stk.inbox = some m1) ∧ m1.dst = (sc1 27).devId ∧ m1.xDev = m1.src) := ⟨_, rfl, rfl, rfl⟩
/-- States and operands that meet the hypotheses of each clause of RoutesAndReservations (part 29 of 30). -/
theorem witness_RoutesAndReservations_29 :
    (∃ (m1 : StkMsg), (List.find? (fun q => decide (q.type = 20)) (sc1 4).stk.inbox = some m1) ∧ m1.dst = (sc1 4).devId ∧ m1.xDev ≠ m1.src) := by refine ⟨_, rfl, rfl, ?_⟩; decide +kernel
/-- States and operands that meet the hypotheses of each clause of RoutesAndReservations (part 30 of 30). -/
theorem witness_RoutesAndReservations_30 :
    (∃ (m1 : StkMsg), (List.find? (fun q => decide (q.type = 20)) (sc1 28).stk.inbox = some m1) ∧ m1.dst ≠ (sc1 28).devId) := by refine ⟨_, rfl, ?_⟩; decide +kernel
end ForRoutesAndReservations

namespace ForStackMastersAndTime
def rw_ (l : Nat) : Nat := 2^31 + 2^28 + 2*2^22 + l
def base : State := { media with ttime := 5000000, boot := { State.reset.boot with ready := true }, devId := 40, outs := [(7, {})], flows := [(100, vflow 6), (30, {landing := some (41,5)})], units := [], regs := [(R.stkRoute 82, w_ (rw_ 8)), (R.stkRoute 60, w_ (rw_ 12)), (R.stkRoute 100, w_ (rw_ 8)), (R.stkRoute 84, w_ (rw_ 8))] ++ media.regs, ser := { State.reset.ser with link := [(8, {lanes := [8,9], rate := 2, partner := 41}), (12, {lanes := [12], rate := 2, partner := 30})] } }
def hd (id m h l : Nat) (t : Nat := 4000000) : Heard := { id := id, fabric := false, capable := true, standby := false, master := m, hops := h, t := t, link := l }
def raw (dst src ty rh seq : Nat) (pay : List Nat) : List Nat := leNats 2 dst ++ leNats 2 src ++ [ty, rh] ++ leNats 2 seq ++ pay12 pay
def rx (bs : List Nat) (f : State → State := id) : State := f { base with stk := { base.stk with rx := [(8, 4900000, bs), (12, 5, [1])], seen := [(41, [7])] } }
def mg (ty : Nat) (pay : List Nat) (src : Nat := 41) (dst : Nat := 40) (link : Nat := 8) : StkMsg := { link := link, t := 4900000, dst := dst, src := src, type := ty, rh := 2, seq := 9, pay := pay12 pay }
def ib (ms : List StkMsg) (f : Stk → Stk := id) : State := { base with stk := f { base.stk with inbox := mg 9 [] :: ms ++ [mg 0x10 [7]] } }
def ms : List StkMsg := [mg 1 [6, 255, 255, 0], mg 1 [2, 30, 0, 0] 30, mg 1 [3,41,0,0] 40, mg 2 ([0,0x40,0x4C,0] ++ [0,0,0,0]), mg 2 [0,0x40,0x4C,0] 30 40 12, mg 3 [], mg 4 (leNats 8 0 ++ leNats 4 100), mg 5 ([2, 8] ++ leNats 6 5 ++ leNats 4 4900000) 32, mg 5 ([4, 8] ++ leNats 6 5 ++ leNats 4 4900000) 41,
  mg 6 (leNats 2 50 ++ leNats 4 (rw_ 12) ++ leNats 4 (rw_ 8) ++ leNats 2 3), mg 7 (leNats 4 3 ++ leNats 4 9), mg 0x10 (leNats 2 100 ++ [0,0] ++ leNats 4 0 ++ leNats 2 7 ++ leNats 2 41), mg 0x10 (leNats 2 101), mg 0x11 (exchPay 5 0 0 2000 7 40), mg 0x11 (exchPay 5 4 0 2000 7 40),
  mg 0x12 (exchPay 100 0 0 500 7 41), mg 0x12 (exchPay 5 0 0 500 7 40), mg 0x12 (exchPay 100 0 1 500 7 41) 41 30, mg 0x12 (exchPay 100 0 0 500 7 41) 41 30, mg 0x12 (exchPay 100 0 0 5000000 7 41) 41 30, mg 0x13 (exchPay 100 0 1 500 7 40), mg 0x13 (exchPay 5 9 1 500 7 40), mg 0x14 (exchPay 100 0 0 500 7 41), mg 0x14 (exchPay 100 0 0 500 7 41) 41 30]
def el2 (m : Nat) (k : Stk) : Stk := { k with master := some m, exports := [] }
def all1 (f : Stk → Stk) (g : State → State := id) : List State := ms.map (fun m => g (ib [m] f))
def el (m : Nat) : Stk → Stk := fun k => { k with master := some m, heard := [hd 41 40 1 8, hd 30 41 1 12, hd 50 50 0 8 10], reqSent := [(8, 4000000)], delays := [(8, 50)], exports := [{flow := 100, dev := 41}], resvs := [{link := 12, dev := 41, flow := 99, dst := 30, mbps := 100}, {link := 8, dev := 40, flow := 100, dst := 41, mbps := 100}], staged := [{d := 50, w0 := w_ (rw_ 12), w1 := w_ (rw_ 8), version := 3}, {d := 51, w0 := 5, w1 := 6, version := 4}] }
def scns : List State := (all1 (el2 41) ++ ([raw 40 41 1 2 7 [], raw 40 41 1 2 8 [], raw 0x8000 41 1 2 8 [], raw 30 41 1 10 8 [], raw 30 41 0x12 2 8 [], raw 30 41 0x10 2 8 [5], raw 31 41 0x10 2 8 [5], raw 40 41 0xFF 2 8 []].map (fun b => rx b)) ++ (all1 (el 41)) ++ (all1 (el 40)) ++ all1 (el 41) (fun s => {s with groups := [(2,{waiting := some 7, epoch := 3})], flows := [], regs := (R.tgrpCtrl 4, 0x00080400) :: (R.tgrpCtrl 2, 0x00080400) :: s.regs}) ++ [{ib [] (el 41) with stk := { (el 41) base.stk with commit := some (0x10003, 9) }}, {ib [] (el 40) with devId := 32, groups := [(2,{running := true, frame := 4, lastStart := 77})], stk := { (el 32) base.stk with heard := [] }}]).map (id)
def sc1 (k : Nat) : State := scns.getD k State.reset
/-- States and operands that meet the hypotheses of each clause of StackMastersAndTime (part 1 of 16). -/
theorem witness_StackMastersAndTime_1 :
    (((sc1 24).stk.master = none ∨ (sc1 24).stk.master = some (sc1 24).devId))
    ∧ (((sc1 0).stk.master = some 41) ∧ 41 ≠ (sc1 0).devId) := by and_intros <;> decide +kernel
/-- States and operands that meet the hypotheses of each clause of StackMastersAndTime (part 2 of 16). -/
theorem witness_StackMastersAndTime_2 :
    (∃ (bs3 : List Nat), ((sc1 31).stk.rx = (8, 4900000, bs3) :: ([(12, 5, [1])])) ∧ ((stkMsgOf 8 4900000 bs3).ok = false)) := ⟨_, rfl, rfl⟩
/-- States and operands that meet the hypotheses of each clause of StackMastersAndTime (part 3 of 16). -/
theorem witness_StackMastersAndTime_3 :
    (∃ (bs3 : List Nat), ((sc1 24).stk.rx = (8, 4900000, bs3) :: ([(12, 5, [1])])) ∧ ((stkMsgOf 8 4900000 bs3).ok = true) ∧ ((sc1 24).seenSeq (stkMsgOf 8 4900000 bs3).src (stkMsgOf 8 4900000 bs3).seq = true) ∧ ((stkMsgOf 8 4900000 bs3).local = true ∨ (stkMsgOf 8 4900000 bs3).dst = (sc1 24).devId)) := by refine ⟨_, rfl, rfl, rfl, ?_⟩; decide +kernel
/-- States and operands that meet the hypotheses of each clause of StackMastersAndTime (part 4 of 16). -/
theorem witness_StackMastersAndTime_4 :
    (∃ (bs3 : List Nat), ((sc1 25).stk.rx = (8, 4900000, bs3) :: ([(12, 5, [1])])) ∧ ((stkMsgOf 8 4900000 bs3).ok = true) ∧ ((sc1 25).seenSeq (stkMsgOf 8 4900000 bs3).src (stkMsgOf 8 4900000 bs3).seq = false) ∧ ((stkMsgOf 8 4900000 bs3).local = true ∨ (stkMsgOf 8 4900000 bs3).dst = (sc1 25).devId)) := by refine ⟨_, rfl, rfl, rfl, ?_⟩; decide +kernel
/-- States and operands that meet the hypotheses of each clause of StackMastersAndTime (part 5 of 16). -/
theorem witness_StackMastersAndTime_5 :
    (∃ (bs3 : List Nat), ((sc1 27).stk.rx = (8, 4900000, bs3) :: ([(12, 5, [1])])) ∧ ((stkMsgOf 8 4900000 bs3).ok = true) ∧ ((stkMsgOf 8 4900000 bs3).hops = 5) ∧ (¬((stkMsgOf 8 4900000 bs3).local = true ∨ (stkMsgOf 8 4900000 bs3).dst = (sc1 27).devId))) := by refine ⟨_, rfl, rfl, rfl, ?_⟩; decide +kernel
/-- States and operands that meet the hypotheses of each clause of StackMastersAndTime (part 6 of 16). -/
theorem witness_StackMastersAndTime_6 :
    (∃ (bs3 : List Nat), ((sc1 28).stk.rx = (8, 4900000, bs3) :: ([(12, 5, [1])])) ∧ ((stkMsgOf 8 4900000 bs3).ok = true) ∧ (¬((stkMsgOf 8 4900000 bs3).local = true ∨ (stkMsgOf 8 4900000 bs3).dst = (sc1 28).devId)) ∧ ((stkMsgOf 8 4900000 bs3).hops ≠ 5) ∧ ((stkMsgOf 8 4900000 bs3).type = 18 ∨ (stkMsgOf 8 4900000 bs3).type = 20)) := by refine ⟨_, rfl, rfl, ?_⟩; and_intros <;> decide +kernel
/-- States and operands that meet the hypotheses of each clause of StackMastersAndTime (part 7 of 16). -/
theorem witness_StackMastersAndTime_7 :
    (∃ (bs3 : List Nat), ((sc1 29).stk.rx = (8, 4900000, bs3) :: ([(12, 5, [1])])) ∧ ((stkMsgOf 8 4900000 bs3).ok = true) ∧ ((sc1 29).hopOut ((stkMsgOf 8 4900000 bs3).dst % 2048) (stkMsgOf 8 4900000 bs3).route = some 12) ∧ (¬((stkMsgOf 8 4900000 bs3).local = true ∨ (stkMsgOf 8 4900000 bs3).dst = (sc1 29).devId)) ∧ ((stkMsgOf 8 4900000 bs3).hops ≠ 5) ∧ ((stkMsgOf 8 4900000 bs3).type ≠ 18) ∧ ((stkMsgOf 8 4900000 bs3).type ≠ 20)) := by refine ⟨_, rfl, rfl, rfl, ?_⟩; and_intros <;> decide +kernel
/-- States and operands that meet the hypotheses of each clause of StackMastersAndTime (part 8 of 16). -/
theorem witness_StackMastersAndTime_8 :
    (∃ (bs3 : List Nat), ((sc1 30).stk.rx = (8, 4900000, bs3) :: ([(12, 5, [1])])) ∧ ((stkMsgOf 8 4900000 bs3).ok = true) ∧ ((sc1 30).hopOut ((stkMsgOf 8 4900000 bs3).dst % 2048) (stkMsgOf 8 4900000 bs3).route = none) ∧ (¬((stkMsgOf 8 4900000 bs3).local = true ∨ (stkMsgOf 8 4900000 bs3).dst = (sc1 30).devId)) ∧ ((stkMsgOf 8 4900000 bs3).hops ≠ 5) ∧ ((stkMsgOf 8 4900000 bs3).type ≠ 18) ∧ ((stkMsgOf 8 4900000 bs3).type ≠ 20)) := by refine ⟨_, rfl, rfl, rfl, ?_⟩; and_intros <;> decide +kernel
/-- States and operands that meet the hypotheses of each clause of StackMastersAndTime (part 9 of 16). -/
theorem witness_StackMastersAndTime_9 :
    (∃ (m1 : StkMsg), (List.find? (fun q => decide (q.type = 1)) (sc1 0).stk.inbox = some m1)) := ⟨_, rfl⟩
/-- States and operands that meet the hypotheses of each clause of StackMastersAndTime (part 10 of 16). -/
theorem witness_StackMastersAndTime_10 :
    (∃ (m1 : StkMsg), (List.find? (fun q => decide (q.type = 3)) (sc1 5).stk.inbox = some m1)) := ⟨_, rfl⟩
/-- States and operands that meet the hypotheses of each clause of StackMastersAndTime (part 11 of 16). -/
theorem witness_StackMastersAndTime_11 :
    (∃ (m1 : StkMsg), (List.find? (fun q => decide (q.type = 4)) (sc1 6).stk.inbox = some m1) ∧ ((sc1 6).stk.reqSent.find m1.link = none)) := ⟨_, rfl, rfl⟩
/-- States and operands that meet the hypotheses of each clause of StackMastersAndTime (part 12 of 16). -/
theorem witness_StackMastersAndTime_12 :
    (∃ (m1 : StkMsg), (List.find? (fun q => decide (q.type = 4)) (sc1 38).stk.inbox = some m1) ∧ ((sc1 38).stk.reqSent.find m1.link = some 4000000)) := ⟨_, rfl, rfl⟩
/-- States and operands that meet the hypotheses of each clause of StackMastersAndTime (part 13 of 16). -/
theorem witness_StackMastersAndTime_13 :
    (∃ (m1 : StkMsg), (List.find? (fun q => decide (q.type = 2)) (sc1 83).stk.inbox = some m1) ∧ ((sc1 83).nearer m1.link = true) ∧ (sc1 83).mayLoad = true) := by refine ⟨_, rfl, rfl, ?_⟩; decide +kernel
/-- States and operands that meet the hypotheses of each clause of StackMastersAndTime (part 14 of 16). -/
theorem witness_StackMastersAndTime_14 :
    (∃ (m1 : StkMsg), (List.find? (fun q => decide (q.type = 2)) (sc1 35).stk.inbox = some m1) ∧ ((sc1 35).nearer m1.link = true) ∧ (sc1 35).mayLoad = false) := by refine ⟨_, rfl, rfl, ?_⟩; decide +kernel
/-- States and operands that meet the hypotheses of each clause of StackMastersAndTime (part 15 of 16). -/
theorem witness_StackMastersAndTime_15 :
    (∃ (m1 : StkMsg), (List.find? (fun q => decide (q.type = 2)) (sc1 3).stk.inbox = some m1) ∧ ((sc1 3).nearer m1.link = false)) := ⟨_, rfl, rfl⟩
/-- States and operands that meet the hypotheses of each clause of StackMastersAndTime (part 16 of 16). -/
theorem witness_StackMastersAndTime_16 :
    (∃ (m1 : StkMsg), (List.find? (fun q => decide (q.type = 5)) (sc1 7).stk.inbox = some m1)) := ⟨_, rfl⟩
end ForStackMastersAndTime

namespace ForSalvos
def rw_ (l : Nat) : Nat := 2^31 + 2^28 + 2*2^22 + l
def base : State := { media with ttime := 5000000, boot := { State.reset.boot with ready := true }, devId := 40, flows := [(100, vflow 6)], groups := [(2, {running := true, fixed := true, frame := 100, lastStart := 4000000})], regs := [(R.stkRoute 82, w_ (rw_ 8)), (R.stkRoute 60, w_ (rw_ 12))] ++ media.regs, ces := [(1, { salvo := some { vd := 3, id := 77, group := 2, target := 101 } })], units := [(129, un {regs := regs1, stalled := true})] }
def mg (ty : Nat) (pay : List Nat) (src : Nat := 41) (dst : Nat := 40) (link : Nat := 8) : StkMsg := { link := link, t := 4900000, dst := dst, src := src, type := ty, rh := 2, seq := 9, pay := pay12 pay }
def ib (f : Stk → Stk) (m : StkMsg) : State := { base with stk := f { base.stk with inbox := [mg 9 [], m, mg 0x10 [7]] } }
def I (n : Nat) : List Nat := leNats 4 n
def ms : List StkMsg := [mg 0x20 (I 77 ++ leNats 6 110 ++ [2,3]), mg 0x21 (I 77 ++ leNats 6 110 ++ [2,2]), mg 0x22 (I 77 ++ leNats 2 41 ++ [7] ++ leNats 4 0x30000002 ++ [0]), mg 0x22 (I 77 ++ leNats 2 41 ++ [7] ++ leNats 4 0x30000002 ++ [1]), mg 0x23 (I 77), mg 0x24 (I 77 ++ [4, 2]), mg 0x25 (I 77 ++ I 110), mg 0x26 (I 77 ++ [1]), mg 0x27 (I 77 ++ [0]), mg 0x28 (I 77)]
def sv : Salvo := { id := 77, issuer := 41, frame := 103, group := 2, deadline := 3, entries := [(30, 5, 0x40000000)], answers := [{dev := 41, answer := 1}, {dev := 30, answer := 1}] }
def so_ : SalvoOut := { out := 7, word := 0x30000002, take := some { src := {kind := 3, idx := 2}, commitT := 5, salvo := some 77 } }
def pt : Part := { id := 77, master := 41, frame := 101, group := 2, count := 2, outs := [so_] }
def K (v : List Salvo) (p : List Part) (m : Nat := 40) : Stk → Stk := fun k => { k with master := some m, salvos := v, parts := p }
def Ks : List (Stk → Stk) := [K [] [{pt with count := 3}], K [] [], K [] [] 41, K [sv] [], K [{sv with whole := true}] [], K [] [pt], K [] [{pt with count := 1, outs := []}], K [] [{pt with count := 1, outs := [{so_ with out := 8}]}], K [] [{pt with phase := .ready}], K [] [{pt with phase := .ready, split := true}], K [] [{pt with phase := .committed}], K [] [{pt with frame := 98, phase := .taken}]]
def one : List State := [ib (K [{sv with whole := true}] []) (mg 1 []), ib (K [{sv with whole := true, frame := 110}] []) (mg 1 []), ib (K [{sv with whole := true, answers := [{dev := 30, answer := 2}]}] []) (mg 1 []), ib (K [{sv with decided := some true, frame := 99, answers := [{dev := 30, ack := 1}]}] []) (mg 1 []), ib (K [{sv with decided := some true, frame := 99, answers := [{dev := 30, ack := 2}, {dev := 41}]}] []) (mg 1 []), (ib (K [] [{pt with phase := .ready}]) (mg 1 [])).setOut 7 { base.out 7 with latchSeen := true, salvo := some 77, scanning := true }, ib (K [] [{pt with phase := .committed, frame := 100}]) (mg 1 [])]
def tw (s : State) : State := { s with twin := { s.twin with phase := .paired } }
def stby (s : State) : State := { s with twin := { s.twin with phase := .paired, standby := true } }
def loc (s : State) : State := { s with devId := 41, stk := { s.stk with master := some 41 } }
def hs (s : State) : State := { s with stk := { s.stk with heard := [{ id := 41, fabric := false, capable := true, standby := true, master := 41, hops := 0, t := 4900000, link := 12 }] } }
def outs7 (f : Out → Out) (s : State) : State := s.setOut 7 (f (base.out 7))
def sp : Source := {kind := 3, idx := 2}
def pc : Part := { pt with frame := 99, phase := .taken, comp := true }
def pars : List State := [
  ib (K [] [{pt with phase := .preparing}]) (mg 1 []), ib (K [] [{pt with phase := .preparing, outs := [{so_ with take := none}]}]) (mg 1 []), ib (K [] [{pt with phase := .preparing, outs := [{so_ with take := some { src := {kind := 2, dev := 41, idx := 5}, commitT := 5 }}]}]) (mg 1 []),
  outs7 (fun o => { o with scanning := true, salvo := some 77 }) (ib (K [] [{pt with phase := .committed}]) (mg 1 [])),
  outs7 (fun o => { o with scanning := true, salvo := some 77, pend := none, cur := sp }) (ib (K [] [pc]) (mg 1 [])),
  outs7 (fun o => { o with scanning := true, salvo := some 77, pend := none, cur := sp }) (ib (K [] [{pc with frame := 98}]) (mg 1 [])),
  outs7 (fun o => { o with scanning := true, salvo := some 77 }) (ib (K [] [{pc with frame := 98, orphan := true, split := true}]) (mg 1 [])),
  outs7 (fun o => { o with scanning := true, salvo := some 77 }) ((ib (K [] [{pc with frame := 98, outs := [so_, {so_ with out := 8}]}]) (mg 1 [])).setOut 8 { salvo := some 77 }),
  (ib (K [] [{pt with phase := .ready}]) (mg 0x26 (I 77) (src := 40))), (ib (K [] [{pt with phase := .committed, frame := 100, outs := [{so_ with faulted := true}]}]) (mg 1 [])) ]
def scns : List State := ((ms.flatMap (fun m => Ks.map (fun f => ib f m)) ++ one ++ pars) ++ (one ++ pars).flatMap (fun s => [tw s, stby s, loc s, hs s]) ++ ms.flatMap (fun m => (Ks.drop 3).flatMap (fun f => [tw (ib f m)]))).map id
def sc1 (k : Nat) : State := scns.getD k State.reset
/-- States and operands that meet the hypotheses of each clause of Salvos (part 1 of 54). -/
theorem witness_Salvos_1 :
    (((sc1 0).takeCheck 4096 none ({ out := 7, word := 0xf0000002#32, take := none, pre := { kind := 4, path := 0, dev := 0, idx := 0, w := 0, fin := 0, gone := false }, faulted := false, undone := false } : SalvoOut).out ({ out := 7, word := 0xf0000002#32, take := none, pre := { kind := 4, path := 0, dev := 0, idx := 0, w := 0, fin := 0, gone := false }, faulted := false, undone := false } : SalvoOut).out ({ out := 7, word := 0xf0000002#32, take := none, pre := { kind := 4, path := 0, dev := 0, idx := 0, w := 0, fin := 0, gone := false }, faulted := false, undone := false } : SalvoOut).word true = Except.error 4))
    ∧ (((sc1 0).entryCheck ({ id := 77, master := 41, frame := 101, group := 2, count := 2, phase := Sys2Proof.Machine.PartPhase.gathering, outs := [{ out := 7, word := 0x30000002#32, take := some { src := { kind := 3, path := 0, dev := 0, idx := 2, w := 0, fin := 0, gone := false }, commitT := 5, swLeft := 2, late := false, frames := 0, remote := false, salvo := some 77, lines := none, own := false }, pre := { kind := 4, path := 0, dev := 0, idx := 0, w := 0, fin := 0, gone := false }, faulted := false, undone := false }], split := false, acked := false, comp := false, orphan := false } : Part) ({ out := 9, word := 0x30000002#32, take := none, pre := { kind := 4, path := 0, dev := 0, idx := 0, w := 0, fin := 0, gone := false }, faulted := false, undone := false } : SalvoOut) = Except.error 4))
    ∧ (((sc1 0).outPresent 7 = true) ∧ (((sc1 0).out 7).scanning = true))
    ∧ ((¬∃ w, ((sc1 0).ce 2).salvo = some w ∧ ((sc1 0).group w.group).running = true ∧ w.target ≤ ((sc1 0).group w.group).frame + 1))
    ∧ ((∃ w, ((sc1 0).ce 1).salvo = some w ∧ ((sc1 0).group w.group).running = true ∧ w.target ≤ ((sc1 0).group w.group).frame + 1)) := by and_intros <;> first | decide +kernel | exact errIs_eq (by decide +kernel)
/-- States and operands that meet the hypotheses of each clause of Salvos (part 2 of 54). -/
theorem witness_Salvos_2 :
    (∃ (u3 : Machine.State) (q4 : PendTake), ((sc1 125).takeCheck 4096 none ({ out := 7, word := 0x30000002#32, take := some { src := { kind := 3, path := 0, dev := 0, idx := 2, w := 0, fin := 0, gone := false }, commitT := 5, swLeft := 2, late := false, frames := 0, remote := false, salvo := some 77, lines := none, own := false }, pre := { kind := 4, path := 0, dev := 0, idx := 0, w := 0, fin := 0, gone := false }, faulted := false, undone := false } : SalvoOut).out ({ out := 7, word := 0x30000002#32, take := some { src := { kind := 3, path := 0, dev := 0, idx := 2, w := 0, fin := 0, gone := false }, commitT := 5, swLeft := 2, late := false, frames := 0, remote := false, salvo := some 77, lines := none, own := false }, pre := { kind := 4, path := 0, dev := 0, idx := 0, w := 0, fin := 0, gone := false }, faulted := false, undone := false } : SalvoOut).out ({ out := 7, word := 0x30000002#32, take := some { src := { kind := 3, path := 0, dev := 0, idx := 2, w := 0, fin := 0, gone := false }, commitT := 5, swLeft := 2, late := false, frames := 0, remote := false, salvo := some 77, lines := none, own := false }, pre := { kind := 4, path := 0, dev := 0, idx := 0, w := 0, fin := 0, gone := false }, faulted := false, undone := false } : SalvoOut).word true = Except.ok (u3, q4)) ∧ (¬(((sc1 125).out ({ out := 7, word := 0x30000002#32, take := some { src := { kind := 3, path := 0, dev := 0, idx := 2, w := 0, fin := 0, gone := false }, commitT := 5, swLeft := 2, late := false, frames := 0, remote := false, salvo := some 77, lines := none, own := false }, pre := { kind := 4, path := 0, dev := 0, idx := 0, w := 0, fin := 0, gone := false }, faulted := false, undone := false } : SalvoOut).out).salvo = none ∧ ((sc1 125).out ({ out := 7, word := 0x30000002#32, take := some { src := { kind := 3, path := 0, dev := 0, idx := 2, w := 0, fin := 0, gone := false }, commitT := 5, swLeft := 2, late := false, frames := 0, remote := false, salvo := some 77, lines := none, own := false }, pre := { kind := 4, path := 0, dev := 0, idx := 0, w := 0, fin := 0, gone := false }, faulted := false, undone := false } : SalvoOut).out).grpHold = none ∧ ((sc1 125).out ({ out := 7, word := 0x30000002#32, take := some { src := { kind := 3, path := 0, dev := 0, idx := 2, w := 0, fin := 0, gone := false }, commitT := 5, swLeft := 2, late := false, frames := 0, remote := false, salvo := some 77, lines := none, own := false }, pre := { kind := 4, path := 0, dev := 0, idx := 0, w := 0, fin := 0, gone := false }, faulted := false, undone := false } : SalvoOut).out).pend = none))) := by refine ⟨_, _, rfl, ?_⟩; first | decide +kernel | exact okIs_eq (by decide +kernel)
/-- States and operands that meet the hypotheses of each clause of Salvos (part 3 of 54). -/
theorem witness_Salvos_3 :
    (∃ (u3 : Machine.State) (q4 : PendTake), ((sc1 0).takeCheck 4096 none ({ out := 9, word := 0x30000002#32, take := none, pre := { kind := 4, path := 0, dev := 0, idx := 0, w := 0, fin := 0, gone := false }, faulted := false, undone := false } : SalvoOut).out ({ out := 9, word := 0x30000002#32, take := none, pre := { kind := 4, path := 0, dev := 0, idx := 0, w := 0, fin := 0, gone := false }, faulted := false, undone := false } : SalvoOut).out ({ out := 9, word := 0x30000002#32, take := none, pre := { kind := 4, path := 0, dev := 0, idx := 0, w := 0, fin := 0, gone := false }, faulted := false, undone := false } : SalvoOut).word true = Except.ok (u3, q4)) ∧ (((sc1 0).out ({ out := 9, word := 0x30000002#32, take := none, pre := { kind := 4, path := 0, dev := 0, idx := 0, w := 0, fin := 0, gone := false }, faulted := false, undone := false } : SalvoOut).out).salvo = none ∧ ((sc1 0).out ({ out := 9, word := 0x30000002#32, take := none, pre := { kind := 4, path := 0, dev := 0, idx := 0, w := 0, fin := 0, gone := false }, faulted := false, undone := false } : SalvoOut).out).grpHold = none ∧ ((sc1 0).out ({ out := 9, word := 0x30000002#32, take := none, pre := { kind := 4, path := 0, dev := 0, idx := 0, w := 0, fin := 0, gone := false }, faulted := false, undone := false } : SalvoOut).out).pend = none) ∧ ((sc1 0).groupAgrees ({ out := 9, word := 0x30000002#32, take := none, pre := { kind := 4, path := 0, dev := 0, idx := 0, w := 0, fin := 0, gone := false }, faulted := false, undone := false } : SalvoOut).out ({ id := 77, master := 41, frame := 101, group := 2, count := 2, phase := Sys2Proof.Machine.PartPhase.gathering, outs := [{ out := 7, word := 0x30000002#32, take := some { src := { kind := 3, path := 0, dev := 0, idx := 2, w := 0, fin := 0, gone := false }, commitT := 5, swLeft := 2, late := false, frames := 0, remote := false, salvo := some 77, lines := none, own := false }, pre := { kind := 4, path := 0, dev := 0, idx := 0, w := 0, fin := 0, gone := false }, faulted := false, undone := false }], split := false, acked := false, comp := false, orphan := false } : Part) = false)) := by refine ⟨_, _, rfl, ?_⟩; and_intros <;> first | decide +kernel | exact okIs_eq (by decide +kernel)
/-- States and operands that meet the hypotheses of each clause of Salvos (part 4 of 54). -/
theorem witness_Salvos_4 :
    (∃ (u3 : Machine.State) (q4 : PendTake), ((sc1 0).takeCheck 4096 none ({ out := 7, word := 0x30000002#32, take := some { src := { kind := 3, path := 0, dev := 0, idx := 2, w := 0, fin := 0, gone := false }, commitT := 5, swLeft := 2, late := false, frames := 0, remote := false, salvo := some 77, lines := none, own := false }, pre := { kind := 4, path := 0, dev := 0, idx := 0, w := 0, fin := 0, gone := false }, faulted := false, undone := false } : SalvoOut).out ({ out := 7, word := 0x30000002#32, take := some { src := { kind := 3, path := 0, dev := 0, idx := 2, w := 0, fin := 0, gone := false }, commitT := 5, swLeft := 2, late := false, frames := 0, remote := false, salvo := some 77, lines := none, own := false }, pre := { kind := 4, path := 0, dev := 0, idx := 0, w := 0, fin := 0, gone := false }, faulted := false, undone := false } : SalvoOut).out ({ out := 7, word := 0x30000002#32, take := some { src := { kind := 3, path := 0, dev := 0, idx := 2, w := 0, fin := 0, gone := false }, commitT := 5, swLeft := 2, late := false, frames := 0, remote := false, salvo := some 77, lines := none, own := false }, pre := { kind := 4, path := 0, dev := 0, idx := 0, w := 0, fin := 0, gone := false }, faulted := false, undone := false } : SalvoOut).word true = Except.ok (u3, q4)) ∧ (((sc1 0).out ({ out := 7, word := 0x30000002#32, take := some { src := { kind := 3, path := 0, dev := 0, idx := 2, w := 0, fin := 0, gone := false }, commitT := 5, swLeft := 2, late := false, frames := 0, remote := false, salvo := some 77, lines := none, own := false }, pre := { kind := 4, path := 0, dev := 0, idx := 0, w := 0, fin := 0, gone := false }, faulted := false, undone := false } : SalvoOut).out).salvo = none ∧ ((sc1 0).out ({ out := 7, word := 0x30000002#32, take := some { src := { kind := 3, path := 0, dev := 0, idx := 2, w := 0, fin := 0, gone := false }, commitT := 5, swLeft := 2, late := false, frames := 0, remote := false, salvo := some 77, lines := none, own := false }, pre := { kind := 4, path := 0, dev := 0, idx := 0, w := 0, fin := 0, gone := false }, faulted := false, undone := false } : SalvoOut).out).grpHold = none ∧ ((sc1 0).out ({ out := 7, word := 0x30000002#32, take := some { src := { kind := 3, path := 0, dev := 0, idx := 2, w := 0, fin := 0, gone := false }, commitT := 5, swLeft := 2, late := false, frames := 0, remote := false, salvo := some 77, lines := none, own := false }, pre := { kind := 4, path := 0, dev := 0, idx := 0, w := 0, fin := 0, gone := false }, faulted := false, undone := false } : SalvoOut).out).pend = none) ∧ ((sc1 0).groupAgrees ({ out := 7, word := 0x30000002#32, take := some { src := { kind := 3, path := 0, dev := 0, idx := 2, w := 0, fin := 0, gone := false }, commitT := 5, swLeft := 2, late := false, frames := 0, remote := false, salvo := some 77, lines := none, own := false }, pre := { kind := 4, path := 0, dev := 0, idx := 0, w := 0, fin := 0, gone := false }, faulted := false, undone := false } : SalvoOut).out ({ id := 77, master := 41, frame := 101, group := 2, count := 2, phase := Sys2Proof.Machine.PartPhase.gathering, outs := [{ out := 7, word := 0x30000002#32, take := some { src := { kind := 3, path := 0, dev := 0, idx := 2, w := 0, fin := 0, gone := false }, commitT := 5, swLeft := 2, late := false, frames := 0, remote := false, salvo := some 77, lines := none, own := false }, pre := { kind := 4, path := 0, dev := 0, idx := 0, w := 0, fin := 0, gone := false }, faulted := false, undone := false }], split := false, acked := false, comp := false, orphan := false } : Part) = true)) := by refine ⟨_, _, rfl, ?_⟩; and_intros <;> first | decide +kernel | exact okIs_eq (by decide +kernel)
/-- States and operands that meet the hypotheses of each clause of Salvos (part 5 of 54). -/
theorem witness_Salvos_5 :
    (∃ (u5 : Machine.State) (y6 : SalvoOut), ((sc1 0).entryCheck ({ id := 77, master := 41, frame := 101, group := 2, count := 2, phase := Sys2Proof.Machine.PartPhase.gathering, outs := [{ out := 7, word := 0x30000002#32, take := some { src := { kind := 3, path := 0, dev := 0, idx := 2, w := 0, fin := 0, gone := false }, commitT := 5, swLeft := 2, late := false, frames := 0, remote := false, salvo := some 77, lines := none, own := false }, pre := { kind := 4, path := 0, dev := 0, idx := 0, w := 0, fin := 0, gone := false }, faulted := false, undone := false }], split := false, acked := false, comp := false, orphan := false } : Part) ({ out := 7, word := 0x30000002#32, take := some { src := { kind := 3, path := 0, dev := 0, idx := 2, w := 0, fin := 0, gone := false }, commitT := 5, swLeft := 2, late := false, frames := 0, remote := false, salvo := some 77, lines := none, own := false }, pre := { kind := 4, path := 0, dev := 0, idx := 0, w := 0, fin := 0, gone := false }, faulted := false, undone := false } : SalvoOut) = Except.ok (u5, y6))) := ⟨_, _, rfl⟩
/-- States and operands that meet the hypotheses of each clause of Salvos (part 6 of 54). -/
theorem witness_Salvos_6 :
    (∃ (m1 : StkMsg), (List.find? (fun q => decide (q.type = 32)) (sc1 0).stk.inbox = some m1) ∧ ((sc1 0).salvo (byte4 m1.pay 0) = none) ∧ (sc1 0).isMaster = true) := by refine ⟨_, rfl, rfl, ?_⟩; decide +kernel
/-- States and operands that meet the hypotheses of each clause of Salvos (part 7 of 54). -/
theorem witness_Salvos_7 :
    (∃ (m1 : StkMsg), (List.find? (fun q => decide (q.type = 32)) (sc1 2).stk.inbox = some m1) ∧ ((sc1 2).isMaster = false ∨ ((sc1 2).salvo (byte4 m1.pay 0)).isSome = true)) := by refine ⟨_, rfl, ?_⟩; decide +kernel
/-- States and operands that meet the hypotheses of each clause of Salvos (part 8 of 54). -/
theorem witness_Salvos_8 :
    (∃ (m1 : StkMsg) (v2 : Salvo), ((sc1 51).salvo (byte4 m1.pay 0) = some v2) ∧ (List.find? (fun q => decide (q.type = 35)) (sc1 51).stk.inbox = some m1)) := ⟨_, _, rfl, rfl⟩
/-- States and operands that meet the hypotheses of each clause of Salvos (part 9 of 54). -/
theorem witness_Salvos_9 :
    (∃ (m1 : StkMsg) (v2 : Salvo), ((sc1 63).salvo (byte4 m1.pay 0) = some v2) ∧ (List.find? (fun q => decide (q.type = 36)) (sc1 63).stk.inbox = some m1)) := ⟨_, _, rfl, rfl⟩
/-- States and operands that meet the hypotheses of each clause of Salvos (part 10 of 54). -/
theorem witness_Salvos_10 :
    (∃ (m1 : StkMsg) (v2 : Salvo), ((sc1 99).salvo (byte4 m1.pay 0) = some v2) ∧ (List.find? (fun q => decide (q.type = 39)) (sc1 99).stk.inbox = some m1)) := ⟨_, _, rfl, rfl⟩
/-- States and operands that meet the hypotheses of each clause of Salvos (part 11 of 54). -/
theorem witness_Salvos_11 :
    (∃ (m1 : StkMsg), ((sc1 48).salvo (byte4 m1.pay 0) = none) ∧ (List.find? (fun q => decide (q.type = 35)) (sc1 48).stk.inbox = some m1)) := ⟨_, rfl, rfl⟩
/-- States and operands that meet the hypotheses of each clause of Salvos (part 12 of 54). -/
theorem witness_Salvos_12 :
    (∃ (m1 : StkMsg), ((sc1 60).salvo (byte4 m1.pay 0) = none) ∧ (List.find? (fun q => decide (q.type = 36)) (sc1 60).stk.inbox = some m1)) := ⟨_, rfl, rfl⟩
/-- States and operands that meet the hypotheses of each clause of Salvos (part 13 of 54). -/
theorem witness_Salvos_13 :
    (∃ (m1 : StkMsg), ((sc1 96).salvo (byte4 m1.pay 0) = none) ∧ (List.find? (fun q => decide (q.type = 39)) (sc1 96).stk.inbox = some m1)) := ⟨_, rfl, rfl⟩
/-- States and operands that meet the hypotheses of each clause of Salvos (part 14 of 54). -/
theorem witness_Salvos_14 :
    (∃ (v3 : Salvo), ((sc1 121).salvo 77 = some v3) ∧ (¬(v3.decided = none ∧ (sc1 121).isMaster = true ∧ ((sc1 121).group v3.group).running = true ∧ v3.decideAt ≤ ((sc1 121).group v3.group).frame))) := by refine ⟨_, rfl, ?_⟩; decide +kernel
/-- States and operands that meet the hypotheses of each clause of Salvos (part 15 of 54). -/
theorem witness_Salvos_15 :
    (∃ (v3 : Salvo), ((sc1 4).salvo 77 = some v3) ∧ ((v3.whole && v3.answers.all fun a => decide (a.answer = 1)) = true) ∧ (v3.decided = none ∧ (sc1 4).isMaster = true ∧ ((sc1 4).group v3.group).running = true ∧ v3.decideAt ≤ ((sc1 4).group v3.group).frame)) := by refine ⟨_, rfl, rfl, ?_⟩; decide +kernel
/-- States and operands that meet the hypotheses of each clause of Salvos (part 16 of 54). -/
theorem witness_Salvos_16 :
    (∃ (v3 : Salvo), ((sc1 3).salvo 77 = some v3) ∧ ((v3.whole && v3.answers.all fun a => decide (a.answer = 1)) = false) ∧ (v3.decided = none ∧ (sc1 3).isMaster = true ∧ ((sc1 3).group v3.group).running = true ∧ v3.decideAt ≤ ((sc1 3).group v3.group).frame)) := by refine ⟨_, rfl, rfl, ?_⟩; decide +kernel
/-- States and operands that meet the hypotheses of each clause of Salvos (part 17 of 54). -/
theorem witness_Salvos_17 :
    (∃ (v3 : Salvo), ((sc1 3).salvo 77 = some v3) ∧ (¬(v3.decided = some true ∧ ((sc1 3).group v3.group).running = true ∧ v3.frame + 1 ≤ ((sc1 3).group v3.group).frame))) := by refine ⟨_, rfl, ?_⟩; decide +kernel
/-- States and operands that meet the hypotheses of each clause of Salvos (part 18 of 54). -/
theorem witness_Salvos_18 :
    (∃ (v3 : Salvo), ((sc1 123).salvo 77 = some v3) ∧ (v3.decided = some true ∧ ((sc1 123).group v3.group).running = true ∧ v3.frame + 1 ≤ ((sc1 123).group v3.group).frame)) := by refine ⟨_, rfl, ?_⟩; decide +kernel
/-- States and operands that meet the hypotheses of each clause of Salvos (part 19 of 54). -/
theorem witness_Salvos_19 :
    (∃ (m1 : StkMsg), (List.find? (fun q => decide (q.type = 33)) (sc1 12).stk.inbox = some m1)) := ⟨_, rfl⟩
/-- States and operands that meet the hypotheses of each clause of Salvos (part 20 of 54). -/
theorem witness_Salvos_20 :
    (∃ (m1 : StkMsg) (v2 : Salvo), (List.find? (fun q => decide (q.type = 34)) (sc1 27).stk.inbox = some m1) ∧ ((sc1 27).salvo (byte4 m1.pay 0) = some v2) ∧ v2.whole = false ∧ m1.src = v2.issuer ∧ ((byteAt m1.pay 11).testBit 0 = false)) := ⟨_, _, rfl, rfl, rfl, rfl, rfl⟩
/-- States and operands that meet the hypotheses of each clause of Salvos (part 21 of 54). -/
theorem witness_Salvos_21 :
    (∃ (m1 : StkMsg) (v2 : Salvo), (List.find? (fun q => decide (q.type = 34)) (sc1 39).stk.inbox = some m1) ∧ ((sc1 39).salvo (byte4 m1.pay 0) = some v2) ∧ v2.whole = false ∧ m1.src = v2.issuer ∧ ((byteAt m1.pay 11).testBit 0 = true)) := ⟨_, _, rfl, rfl, rfl, rfl, rfl⟩
/-- States and operands that meet the hypotheses of each clause of Salvos (part 22 of 54). -/
theorem witness_Salvos_22 :
    (∃ (m1 : StkMsg), (List.find? (fun q => decide (q.type = 34)) (sc1 25).stk.inbox = some m1) ∧ (∀ (v : Salvo), (sc1 25).salvo (byte4 m1.pay 0) = some v → v.whole = true ∨ m1.src ≠ v.issuer) ∧ (∀ (p : Part), (sc1 25).part (byte4 m1.pay 0) = some p → p.phase ≠ PartPhase.gathering ∨ p.master ≠ m1.src)) := by refine ⟨_, rfl, ?_⟩; and_intros <;> decide +kernel
/-- States and operands that meet the hypotheses of each clause of Salvos (part 23 of 54). -/
theorem witness_Salvos_23 :
    (∃ (m1 : StkMsg) (p2 : Part), (List.find? (fun q => decide (q.type = 34)) (sc1 24).stk.inbox = some m1) ∧ ((sc1 24).part (byte4 m1.pay 0) = some p2) ∧ p2.phase = PartPhase.gathering ∧ p2.master = m1.src ∧ (∀ (v : Salvo), (sc1 24).salvo (byte4 m1.pay 0) = some v → v.whole = true ∨ m1.src ≠ v.issuer) ∧ (({ p2 with outs := p2.outs ++ [{ out := byteAt m1.pay 6, word := word (byte4 m1.pay 7) }] } : Part).outs.length < p2.count)) := by refine ⟨_, _, rfl, rfl, rfl, rfl, ?_⟩; and_intros <;> decide +kernel
/-- States and operands that meet the hypotheses of each clause of Salvos (part 24 of 54). -/
theorem witness_Salvos_24 :
    (∃ (m1 : StkMsg) (p2 : Part), (List.find? (fun q => decide (q.type = 34)) (sc1 31).stk.inbox = some m1) ∧ ((sc1 31).part (byte4 m1.pay 0) = some p2) ∧ p2.phase = PartPhase.gathering ∧ p2.master = m1.src ∧ (State.entryChecks ({ p2 with outs := p2.outs ++ [{ out := byteAt m1.pay 6, word := word (byte4 m1.pay 7) }] } : Part) ({ p2 with outs := p2.outs ++ [{ out := byteAt m1.pay 6, word := word (byte4 m1.pay 7) }] } : Part).outs [] ({ (sc1 31) with stk := ({ (sc1 31).stk with inbox := (sc1 31).stk.inbox.erase m1 } : Stk) } : State) = Except.error (4, 8)) ∧ (∀ (v : Salvo), (sc1 31).salvo (byte4 m1.pay 0) = some v → v.whole = true ∨ m1.src ≠ v.issuer) ∧ (p2.count ≤ ({ p2 with outs := p2.outs ++ [{ out := byteAt m1.pay 6, word := word (byte4 m1.pay 7) }] } : Part).outs.length)) := by refine ⟨_, _, rfl, rfl, rfl, rfl, rfl, ?_⟩; and_intros <;> first | decide +kernel | exact errIs_eq (by decide +kernel)
/-- States and operands that meet the hypotheses of each clause of Salvos (part 25 of 54). -/
theorem witness_Salvos_25 :
    (∃ (m1 : StkMsg) (p2 : Part) (t13 : Machine.State) (outs4 : List SalvoOut), (List.find? (fun q => decide (q.type = 34)) (sc1 29).stk.inbox = some m1) ∧ ((sc1 29).part (byte4 m1.pay 0) = some p2) ∧ p2.phase = PartPhase.gathering ∧ p2.master = m1.src ∧ (State.entryChecks ({ p2 with outs := p2.outs ++ [{ out := byteAt m1.pay 6, word := word (byte4 m1.pay 7) }] } : Part) ({ p2 with outs := p2.outs ++ [{ out := byteAt m1.pay 6, word := word (byte4 m1.pay 7) }] } : Part).outs [] ({ (sc1 29) with stk := ({ (sc1 29).stk with inbox := (sc1 29).stk.inbox.erase m1 } : Stk) } : State) = Except.ok (t13, outs4)) ∧ (∀ (v : Salvo), (sc1 29).salvo (byte4 m1.pay 0) = some v → v.whole = true ∨ m1.src ≠ v.issuer) ∧ (p2.count ≤ ({ p2 with outs := p2.outs ++ [{ out := byteAt m1.pay 6, word := word (byte4 m1.pay 7) }] } : Part).outs.length)) := by refine ⟨_, _, _, _, rfl, rfl, rfl, rfl, rfl, ?_⟩; and_intros <;> first | decide +kernel | exact okIs_eq (by decide +kernel)
/-- States and operands that meet the hypotheses of each clause of Salvos (part 26 of 54). -/
theorem witness_Salvos_26 :
    (∃ (p3 : Part), ((sc1 0).part 77 = some p3) ∧ (¬(p3.phase = PartPhase.preparing ∧ ∀ (x : SalvoOut), x ∈ p3.outs → ∃ q, x.take = some q ∧ (q.src.kind = 2 → (sc1 0).landingReady q.src.dev q.src.idx = true)))) := by refine ⟨_, rfl, ?_⟩; decide +kernel
/-- States and operands that meet the hypotheses of each clause of Salvos (part 27 of 54). -/
theorem witness_Salvos_27 :
    (∃ (p3 : Part), ((sc1 127).part 77 = some p3) ∧ (p3.phase = PartPhase.preparing ∧ ∀ (x : SalvoOut), x ∈ p3.outs → ∃ q, x.take = some q ∧ (q.src.kind = 2 → (sc1 127).landingReady q.src.dev q.src.idx = true)) ∧ (78 ≠ ({ p3 with phase := PartPhase.ready, outs := List.map (fun x => { out := x.out, word := x.word, take := Option.map (fun y => { src := y.src, commitT := y.commitT, swLeft := y.swLeft, late := y.late, frames := y.frames, salvo := y.salvo, lines := y.lines, own := y.own }) x.take, pre := ((sc1 127).out x.out).cur, faulted := x.faulted, undone := x.undone }) p3.outs } : Part).id)) := by refine ⟨_, rfl, ?_⟩; and_intros <;> decide +kernel
/-- States and operands that meet the hypotheses of each clause of Salvos (part 28 of 54). -/
theorem witness_Salvos_28 :
    (∃ (p3 : Part), ((sc1 127).part 77 = some p3) ∧ (p3.phase = PartPhase.preparing ∧ ∀ (x : SalvoOut), x ∈ p3.outs → ∃ q, x.take = some q ∧ (q.src.kind = 2 → (sc1 127).landingReady q.src.dev q.src.idx = true)) ∧ ({ out := 7, word := 0x30000002#32, take := some { src := { kind := 3, path := 0, dev := 0, idx := 2, w := 0, fin := 0, gone := false }, commitT := 5, swLeft := 2, late := false, frames := 0, remote := false, salvo := some 77, lines := none, own := false }, pre := { kind := 4, path := 0, dev := 0, idx := 0, w := 0, fin := 0, gone := false }, faulted := false, undone := false } : SalvoOut) ∈ p3.outs) := by refine ⟨_, rfl, ?_⟩; and_intros <;> decide +kernel
/-- States and operands that meet the hypotheses of each clause of Salvos (part 29 of 54). -/
theorem witness_Salvos_29 :
    (∃ (p3 : Part), ((sc1 127).part 77 = some p3) ∧ (p3.phase = PartPhase.preparing ∧ ∀ (x : SalvoOut), x ∈ p3.outs → ∃ q, x.take = some q ∧ (q.src.kind = 2 → (sc1 127).landingReady q.src.dev q.src.idx = true)) ∧ (∀ (x : SalvoOut), x ∈ p3.outs → x.out ≠ 8)) := by refine ⟨_, rfl, ?_⟩; and_intros <;> decide +kernel
/-- States and operands that meet the hypotheses of each clause of Salvos (part 30 of 54). -/
theorem witness_Salvos_30 :
    (∃ (p3 : Part), ((sc1 127).part 77 = some p3) ∧ ((sc1 127).hasRoute p3.master = true) ∧ (p3.phase = PartPhase.preparing ∧ ∀ (x : SalvoOut), x ∈ p3.outs → ∃ q, x.take = some q ∧ (q.src.kind = 2 → (sc1 127).landingReady q.src.dev q.src.idx = true)) ∧ p3.master ≠ (sc1 127).devId) := by refine ⟨_, rfl, rfl, ?_⟩; and_intros <;> decide +kernel
/-- States and operands that meet the hypotheses of each clause of Salvos (part 31 of 54). -/
theorem witness_Salvos_31 :
    (∃ (p3 : Part), ((sc1 167).part 77 = some p3) ∧ p3.master = (sc1 167).devId ∧ (p3.phase = PartPhase.preparing ∧ ∀ (x : SalvoOut), x ∈ p3.outs → ∃ q, x.take = some q ∧ (q.src.kind = 2 → (sc1 167).landingReady q.src.dev q.src.idx = true))) := by refine ⟨_, rfl, rfl, ?_⟩; decide +kernel
/-- States and operands that meet the hypotheses of each clause of Salvos (part 32 of 54). -/
theorem witness_Salvos_32 :
    (∃ (m1 : StkMsg), (List.find? (fun q => decide (q.type = 37)) (sc1 72).stk.inbox = some m1)) := ⟨_, rfl⟩
/-- States and operands that meet the hypotheses of each clause of Salvos (part 33 of 54). -/
theorem witness_Salvos_33 :
    (∃ (m1 : StkMsg), (List.find? (fun q => decide (q.type = 38)) (sc1 84).stk.inbox = some m1)) := ⟨_, rfl⟩
/-- States and operands that meet the hypotheses of each clause of Salvos (part 34 of 54). -/
theorem witness_Salvos_34 :
    (∃ (p3 : Part), ((sc1 0).part 77 = some p3) ∧ (¬(p3.phase = PartPhase.ready ∧ p3.split = false ∧ (sc1 0).latchPassed p3 = true ∧ (sc1 0).isStandby = false))) := by refine ⟨_, rfl, ?_⟩; decide +kernel
/-- States and operands that meet the hypotheses of each clause of Salvos (part 35 of 54). -/
theorem witness_Salvos_35 :
    (∃ (p3 : Part), ((sc1 125).part 77 = some p3) ∧ (p3.phase = PartPhase.ready ∧ p3.split = false ∧ (sc1 125).latchPassed p3 = true ∧ (sc1 125).isStandby = false)) := by refine ⟨_, rfl, ?_⟩; decide +kernel
/-- States and operands that meet the hypotheses of each clause of Salvos (part 36 of 54). -/
theorem witness_Salvos_36 :
    (∃ (p3 : Part), ((sc1 0).part 77 = some p3) ∧ (¬(p3.phase = PartPhase.committed ∧ ((sc1 0).group p3.group).running = true ∧ p3.frame ≤ ((sc1 0).group p3.group).frame))) := by refine ⟨_, rfl, ?_⟩; decide +kernel
/-- States and operands that meet the hypotheses of each clause of Salvos (part 37 of 54). -/
theorem witness_Salvos_37 :
    (∃ (p3 : Part), ((sc1 126).part 77 = some p3) ∧ (p3.phase = PartPhase.committed ∧ ((sc1 126).group p3.group).running = true ∧ p3.frame ≤ ((sc1 126).group p3.group).frame)) := by refine ⟨_, rfl, ?_⟩; decide +kernel
/-- States and operands that meet the hypotheses of each clause of Salvos (part 38 of 54). -/
theorem witness_Salvos_38 :
    (∃ (m1 : StkMsg), (List.find? (fun q => decide (q.type = 40)) (sc1 108).stk.inbox = some m1) ∧ (∀ (p : Part), (sc1 108).part (byte4 m1.pay 0) = some p → p.split = true ∨ p.comp = true ∨ p.phase = PartPhase.gathering ∨ p.phase = PartPhase.preparing ∨ p.phase = PartPhase.ready)) := by refine ⟨_, rfl, ?_⟩; decide +kernel
/-- States and operands that meet the hypotheses of each clause of Salvos (part 39 of 54). -/
theorem witness_Salvos_39 :
    (∃ (m1 : StkMsg) (p2 : Part), (List.find? (fun q => decide (q.type = 40)) (sc1 118).stk.inbox = some m1) ∧ ((sc1 118).part (byte4 m1.pay 0) = some p2) ∧ p2.split = false ∧ p2.comp = false ∧ (p2.phase = PartPhase.committed ∨ p2.phase = PartPhase.taken ∨ p2.phase = PartPhase.released)) := by refine ⟨_, _, rfl, rfl, rfl, rfl, ?_⟩; decide +kernel
/-- States and operands that meet the hypotheses of each clause of Salvos (part 40 of 54). -/
theorem witness_Salvos_40 :
    (∃ (p3 : Part), (sc1 0).stk.parts = [p3] ∧ (¬(p3.phase = PartPhase.committed ∧ p3.acked = false ∧ (sc1 0).isStandby = false ∧ (∃ x, x ∈ p3.outs ∧ x.out = 7) ∧ p3.frame ≤ ((sc1 0).group p3.group).frame + 1))) := by refine ⟨_, rfl, ?_⟩; decide +kernel
/-- States and operands that meet the hypotheses of each clause of Salvos (part 41 of 54). -/
theorem witness_Salvos_41 :
    (∃ (p3 : Part), (sc1 10).stk.parts = [p3] ∧ (p3.phase = PartPhase.committed ∧ p3.acked = false ∧ (sc1 10).isStandby = false ∧ (∃ x, x ∈ p3.outs ∧ x.out = 7) ∧ p3.frame ≤ ((sc1 10).group p3.group).frame + 1) ∧ (78 ≠ ({ p3 with acked := true } : Part).id)) := by refine ⟨_, rfl, ?_⟩; and_intros <;> decide +kernel
/-- States and operands that meet the hypotheses of each clause of Salvos (part 42 of 54). -/
theorem witness_Salvos_42 :
    (∃ (p3 : Part), (sc1 10).stk.parts = [p3] ∧ ((sc1 10).hasRoute p3.master = true) ∧ (p3.phase = PartPhase.committed ∧ p3.acked = false ∧ (sc1 10).isStandby = false ∧ (∃ x, x ∈ p3.outs ∧ x.out = 7) ∧ p3.frame ≤ ((sc1 10).group p3.group).frame + 1) ∧ p3.master ≠ (sc1 10).devId) := by refine ⟨_, rfl, rfl, ?_⟩; and_intros <;> decide +kernel
/-- States and operands that meet the hypotheses of each clause of Salvos (part 43 of 54). -/
theorem witness_Salvos_43 :
    (∃ (p3 : Part), (sc1 164).stk.parts = [p3] ∧ ({ id := 41, fabric := false, capable := true, standby := true, master := 41, hops := 0, t := 4900000, link := 12 } : Heard).id = p3.master ∧ (p3.phase = PartPhase.committed ∧ p3.acked = false ∧ (sc1 164).isStandby = false ∧ (∃ x, x ∈ p3.outs ∧ x.out = 7) ∧ p3.frame ≤ ((sc1 164).group p3.group).frame + 1) ∧ ({ id := 41, fabric := false, capable := true, standby := true, master := 41, hops := 0, t := 4900000, link := 12 } : Heard) ∈ (sc1 164).stk.heard ∧ ({ id := 41, fabric := false, capable := true, standby := true, master := 41, hops := 0, t := 4900000, link := 12 } : Heard).standby = true ∧ ((sc1 164).ttime ≤ ({ id := 41, fabric := false, capable := true, standby := true, master := 41, hops := 0, t := 4900000, link := 12 } : Heard).t + 48 * tickLen)) := by refine ⟨_, rfl, rfl, ?_⟩; and_intros <;> decide +kernel
/-- States and operands that meet the hypotheses of each clause of Salvos (part 44 of 54). -/
theorem witness_Salvos_44 :
    (∃ (p4 : Part) (x5 : SalvoOut), ((sc1 0).part 77 = some p4) ∧ (List.find? (fun y => decide (y.out = 7)) p4.outs = some x5) ∧ (¬(p4.comp = true ∧ x5.undone = false ∧ x5.faulted = false ∧ (sc1 0).untouched x5 = true ∧ (x5.pre.kind = 2 → (sc1 0).landingOf x5.pre.dev x5.pre.idx ≠ none) ∧ (p4.phase = PartPhase.taken ∨ p4.phase = PartPhase.released)))) := by refine ⟨_, _, rfl, rfl, ?_⟩; decide +kernel
/-- States and operands that meet the hypotheses of each clause of Salvos (part 45 of 54). -/
theorem witness_Salvos_45 :
    (∃ (p4 : Part) (x5 : SalvoOut), ((sc1 131).part 77 = some p4) ∧ (List.find? (fun y => decide (y.out = 7)) p4.outs = some x5) ∧ (p4.comp = true ∧ x5.undone = false ∧ x5.faulted = false ∧ (sc1 131).untouched x5 = true ∧ (x5.pre.kind = 2 → (sc1 131).landingOf x5.pre.dev x5.pre.idx ≠ none) ∧ (p4.phase = PartPhase.taken ∨ p4.phase = PartPhase.released)) ∧ 5 ≠ 7) := by refine ⟨_, _, rfl, rfl, ?_⟩; and_intros <;> decide +kernel
/-- States and operands that meet the hypotheses of each clause of Salvos (part 46 of 54). -/
theorem witness_Salvos_46 :
    (∃ (p4 : Part) (x5 : SalvoOut), ((sc1 131).part 77 = some p4) ∧ (List.find? (fun y => decide (y.out = 7)) p4.outs = some x5) ∧ (p4.comp = true ∧ x5.undone = false ∧ x5.faulted = false ∧ (sc1 131).untouched x5 = true ∧ (x5.pre.kind = 2 → (sc1 131).landingOf x5.pre.dev x5.pre.idx ≠ none) ∧ (p4.phase = PartPhase.taken ∨ p4.phase = PartPhase.released)) ∧ (78 ≠ ({ p4 with outs := List.map (fun y => if y.out = 7 then { out := y.out, word := y.word, take := y.take, pre := y.pre, faulted := y.faulted, undone := true } else y) p4.outs } : Part).id)) := by refine ⟨_, _, rfl, rfl, ?_⟩; and_intros <;> decide +kernel
/-- States and operands that meet the hypotheses of each clause of Salvos (part 47 of 54). -/
theorem witness_Salvos_47 :
    (∃ (p4 : Part), ((sc1 0).part 77 = some p4) ∧ (¬(((sc1 0).out 7).salvo = some p4.id ∧ p4.frame + 2 ≤ ((sc1 0).group p4.group).frame))) := by refine ⟨_, rfl, ?_⟩; decide +kernel
/-- States and operands that meet the hypotheses of each clause of Salvos (part 48 of 54). -/
theorem witness_Salvos_48 :
    (∃ (p4 : Part), ((sc1 132).part 77 = some p4) ∧ (((sc1 132).out 7).salvo = some p4.id ∧ p4.frame + 2 ≤ ((sc1 132).group p4.group).frame) ∧ 5 ≠ 7) := by refine ⟨_, rfl, ?_⟩; and_intros <;> decide +kernel
/-- States and operands that meet the hypotheses of each clause of Salvos (part 49 of 54). -/
theorem witness_Salvos_49 :
    (∃ (p4 : Part), ((sc1 134).part 77 = some p4) ∧ (((sc1 134).out 7).salvo = some p4.id ∧ p4.frame + 2 ≤ ((sc1 134).group p4.group).frame) ∧ (¬∀ (x : SalvoOut), x ∈ p4.outs → x.out ≠ 7 → ¬((sc1 134).out x.out).salvo = some p4.id)) := by refine ⟨_, rfl, ?_⟩; and_intros <;> decide +kernel
/-- States and operands that meet the hypotheses of each clause of Salvos (part 50 of 54). -/
theorem witness_Salvos_50 :
    (∃ (p4 : Part), ((sc1 133).part 77 = some p4) ∧ p4.orphan = true ∧ (((sc1 133).out 7).salvo = some p4.id ∧ p4.frame + 2 ≤ ((sc1 133).group p4.group).frame) ∧ (∀ (x : SalvoOut), x ∈ p4.outs → x.out ≠ 7 → ¬((sc1 133).out x.out).salvo = some p4.id) ∧ (sc1 133).isStandby = false) := by refine ⟨_, rfl, rfl, ?_⟩; and_intros <;> decide +kernel
/-- States and operands that meet the hypotheses of each clause of Salvos (part 51 of 54). -/
theorem witness_Salvos_51 :
    (∃ (p4 : Part), ((sc1 132).part 77 = some p4) ∧ (((sc1 132).out 7).salvo = some p4.id ∧ p4.frame + 2 ≤ ((sc1 132).group p4.group).frame) ∧ (∀ (x : SalvoOut), x ∈ p4.outs → x.out ≠ 7 → ¬((sc1 132).out x.out).salvo = some p4.id) ∧ (p4.orphan = false ∨ (sc1 132).isStandby = true)) := by refine ⟨_, rfl, ?_⟩; and_intros <;> decide +kernel
/-- States and operands that meet the hypotheses of each clause of Salvos (part 52 of 54). -/
theorem witness_Salvos_52 :
    (∃ (p4 : Part), ((sc1 132).part 77 = some p4) ∧ (((sc1 132).out 7).salvo = some p4.id ∧ p4.frame + 2 ≤ ((sc1 132).group p4.group).frame) ∧ (∀ (x : SalvoOut), x ∈ p4.outs → x.out ≠ 7 → ¬((sc1 132).out x.out).salvo = some p4.id) ∧ 78 ≠ p4.id) := by refine ⟨_, rfl, ?_⟩; and_intros <;> decide +kernel
/-- States and operands that meet the hypotheses of each clause of Salvos (part 53 of 54). -/
theorem witness_Salvos_53 :
    (∃ (p4 : Part), ((sc1 133).part 77 = some p4) ∧ p4.split = true ∧ (((sc1 133).out 7).salvo = some p4.id ∧ p4.frame + 2 ≤ ((sc1 133).group p4.group).frame) ∧ (∀ (x : SalvoOut), x ∈ p4.outs → x.out ≠ 7 → ¬((sc1 133).out x.out).salvo = some p4.id)) := by refine ⟨_, rfl, rfl, ?_⟩; and_intros <;> decide +kernel
/-- States and operands that meet the hypotheses of each clause of Salvos (part 54 of 54). -/
theorem witness_Salvos_54 :
    (∃ (p4 : Part), ((sc1 132).part 77 = some p4) ∧ p4.split = false ∧ (((sc1 132).out 7).salvo = some p4.id ∧ p4.frame + 2 ≤ ((sc1 132).group p4.group).frame) ∧ (∀ (x : SalvoOut), x ∈ p4.outs → x.out ≠ 7 → ¬((sc1 132).out x.out).salvo = some p4.id)) := by refine ⟨_, rfl, rfl, ?_⟩; and_intros <;> decide +kernel
end ForSalvos

namespace ForTwinPairing
def base : State := { media with ttime := 5000000, boot := { State.reset.boot with ready := true, image := [1,2,3] }, devId := 40, mem := {prog := [(0x1000000, 7)]}, ser := { State.reset.ser with link := [(28, {lanes := [28]})] } }
def tw (x : Twin) (c : Nat) (f : State → State := id) : State := f { base with twin := x, regs := (R.twinCtrl, w_ c) :: base.regs }
def ptp : Part := { id := 77, master := 41, frame := 101, group := 2, count := 1, phase := .ready, outs := [{ out := 7, word := 0x30000002 }] }
def scns : List State := [(tw {} 0), (tw {phase := .solo, peerPresent := true, peerSolo := true, peerIdle := true} 0x80000100), (tw {phase := .paired} 0x80000100), (tw {phase := .auth, phaseT := 4000000, source := true, peerPresent := true} 0x80000100), (tw {phase := .copy, standby := true, phaseT := 7} 0x80000100), (tw {phase := .sync, source := true} 0x80000100), (tw {phase := .sync, standby := true, mirrorQ := 4, recopy := true} 0x80000100), (tw {phase := .paired, planned := some 8} 0x80000100)]
def allTwinPairing : List State := (scns ++ [({ (tw {} 0) with variant := 2 })])
def lines (s : State) : State := (s.setOut 7 { s.out 7 with frame := 100, frameT := 4990000 }).setOut 6 {s.out 6 with muted := true}
def scns2 : List State := [(tw {} 0), (tw {phase := .solo} 0x80000000), (tw {phase := .paired, epoch := 5, lastHb := some 3000000, downSince := some 100, roleDue := [6,7]} 0x80000000), (tw {phase := .paired, standby := true, epoch := 5, lastHb := some 3000000,  roleDue := [6,7]} 0xA0000000 lines), (tw {phase := .paired, standby := true, downSince := some 4000000, planned := some 6000000, switchAt := some 6000000} 0xA0000000 (fun s => {s with ser := State.reset.ser})), (tw {phase := .paired, standby := false, planned := some 6000000, switchAt := some 6000000, peerForce := true} 0xA0000000), (tw {phase := .paired, standby := true, lastHb := some 3000000} 0xA0000000 (fun s => {s with ser := State.reset.ser}))]
def scns3 : List State := scns2 ++ [(tw {phase := .paired, standby := true} 0xA0000000 (fun s => {lines s with stk := { s.stk with parts := [ptp] }, outs := (7, { (s.out 7) with salvo := some 77, scanning := true, frame := 99, latchSeen := true }) :: s.outs })), (tw {phase := .paired, standby := true, recopy := true} 0xA0000000), (tw {phase := .copy, standby := true} 0xA0000000)]
def sc1 (k : Nat) : State := allTwinPairing.getD k State.reset
def sc2 (k : Nat) : State := scns3.getD k State.reset
/-- States and operands that meet the hypotheses of each clause of TwinPairing (part 1 of 2). -/
theorem witness_TwinPairing_1 :
    (0 < 12 ∧ (sc1 1).twinHere = true ∧ ((sc1 1).writeGate 0 R.twinCtrl = Gate.pass) ∧ (bit ((sc1 1).reg R.twinCtrl) 31 = true) ∧ (bits (0x00000000#32) 25 8 ≠ bits ((sc1 1).reg R.twinCtrl) 25 8))
    ∧ (0 < 12 ∧ (sc1 0).twinHere = true ∧ ((sc1 0).writeGate 0 R.twinCtrl = Gate.pass) ∧ (bit ((sc1 0).reg R.twinCtrl) 31 = false) ∧ (bit (0x80000100#32) 31 = true))
    ∧ (0 < 12 ∧ (sc1 1).twinHere = true ∧ ((sc1 1).writeGate 0 R.twinCtrl = Gate.pass) ∧ (bit ((sc1 1).reg R.twinCtrl) 31 = true) ∧ (bit (0x00000100#32) 31 = false) ∧ (bits (0x00000100#32) 25 8 = bits ((sc1 1).reg R.twinCtrl) 25 8))
    ∧ (0 < 12 ∧ (sc1 0).twinHere = true ∧ ((sc1 0).writeGate 0 R.twinCtrl = Gate.pass) ∧ (bit ((sc1 0).reg R.twinCtrl) 31 = bit (0x00000000#32) 31) ∧ (bit ((sc1 0).reg R.twinCtrl) 31 = true → bits (0x00000000#32) 25 8 = bits ((sc1 0).reg R.twinCtrl) 25 8))
    ∧ (0 < 12 ∧ (sc1 1).twinHere = true ∧ ((sc1 1).writeGate 0 R.twinCmd = Gate.pass) ∧ (sc1 1).twin.phase = TwinPhase.solo ∧ (sc1 1).twin.peerPresent = true ∧ (sc1 1).twinLinkUp = true ∧ (sc1 1).twin.peerSolo = true ∧ (sc1 1).twin.peerIdle = true)
    ∧ (0 < 12 ∧ (sc1 0).twinHere = true ∧ ((sc1 0).writeGate 0 R.twinCmd = Gate.pass) ∧ ((sc1 0).twin.phase ≠ TwinPhase.solo ∨ (sc1 0).twin.peerPresent = false ∨ (sc1 0).twinLinkUp = false ∨ (sc1 0).twin.peerSolo = false ∨ (sc1 0).twin.peerIdle = false))
    ∧ (0 < 12 ∧ (sc1 0).twinHere = true ∧ ((sc1 0).writeGate 0 R.twinCmd = Gate.pass) ∧ (sc1 0).twin.phase ≠ TwinPhase.paired)
    ∧ (0 < 12 ∧ (sc1 2).twinHere = true ∧ ((sc1 2).writeGate 0 R.twinCmd = Gate.pass) ∧ (sc1 2).twin.phase = TwinPhase.paired ∧ (sc1 2).twin.planned = none)
    ∧ (0 < 12 ∧ (sc1 0).twinHere = true ∧ ((sc1 0).writeGate 0 R.twinCmd = Gate.pass) ∧ ((sc1 0).twin.phase ≠ TwinPhase.paired ∨ (sc1 0).twin.planned.isSome = true))
    ∧ ((sc1 8).twinHere = false ∧ 0 < 12 ∧ ((sc1 8).writeGate 0 R.twinCmd = Gate.pass) ∧ ((Sys2Proof.Instr.attach 0) = Instr.attach 0 ∨ (Sys2Proof.Instr.attach 0) = Instr.detach 0 ∨ (Sys2Proof.Instr.attach 0) = Instr.switch 0))
    ∧ ((¬((sc1 0).twin.phase = TwinPhase.auth ∨ (sc1 0).twin.phase = TwinPhase.solo ∧ (sc1 0).twinLinkUp = true ∧ (sc1 0).noWork = true)))
    ∧ (((sc1 3).twin.phase = TwinPhase.auth ∨ (sc1 3).twin.phase = TwinPhase.solo ∧ (sc1 3).twinLinkUp = true ∧ (sc1 3).noWork = true)) := by and_intros <;> decide +kernel
/-- States and operands that meet the hypotheses of each clause of TwinPairing (part 2 of 2). -/
theorem witness_TwinPairing_2 :
    ((sc1 4).twin.phase = TwinPhase.copy)
    ∧ ((sc1 6).twin.phase ≠ TwinPhase.copy ∧ (sc1 6).twin.recopy = true)
    ∧ ((sc1 0).twin.phase ≠ TwinPhase.copy ∧ (sc1 0).twin.recopy = false)
    ∧ ((sc1 5).twin.phase = TwinPhase.sync ∧ (sc1 5).twin.mirrorQ = 0)
    ∧ (((sc1 0).twin.phase ≠ TwinPhase.sync ∨ (sc1 0).twin.mirrorQ ≠ 0))
    ∧ ((((sc1 3).twin.phase = TwinPhase.auth ∨ (sc1 3).twin.phase = TwinPhase.copy ∨ (sc1 3).twin.phase = TwinPhase.sync) ∧ 1 ≤ 1 ∧ 1 ≤ 7))
    ∧ ((¬(((sc1 0).twin.phase = TwinPhase.auth ∨ (sc1 0).twin.phase = TwinPhase.copy ∨ (sc1 0).twin.phase = TwinPhase.sync) ∧ 1 ≤ 0 ∧ 0 ≤ 7))) := by and_intros <;> decide +kernel
/-- States and operands that meet the hypotheses of each clause of TwinSwitchover (part 1 of 5). -/
theorem witness_TwinSwitchover_1 :
    ((sc2 0).twin.phase = TwinPhase.disabled)
    ∧ ((sc2 1).twin.phase ≠ TwinPhase.disabled ∧ (sc2 1).twin.phase ≠ TwinPhase.paired)
    ∧ ((sc2 2).twin.phase ≠ TwinPhase.disabled ∧ (sc2 2).twin.phase = TwinPhase.paired ∧ (sc2 2).twin.standby = false ∧ ({ epoch := 3, fatal := false, solo := false, idle := false, force := false, plan := 0 } : Heartbeat).epoch ≤ (sc2 2).twin.epoch)
    ∧ ((sc2 2).twin.phase ≠ TwinPhase.disabled ∧ (sc2 2).twin.phase = TwinPhase.paired ∧ (sc2 2).twin.standby = false ∧ (sc2 2).twin.epoch < ({ epoch := 9, fatal := true, solo := true, idle := false, force := false, plan := 0 } : Heartbeat).epoch)
    ∧ ((sc2 3).twin.phase ≠ TwinPhase.disabled ∧ (sc2 3).twin.phase = TwinPhase.paired ∧ (sc2 3).twin.standby = true)
    ∧ (((sc2 2).twin.lastHb = some 3000000) ∧ (sc2 2).twin.phase = TwinPhase.paired ∧ (sc2 2).twin.lossNoted = false)
    ∧ (((sc2 0).twin.lastHb = none ∨ (sc2 0).twin.phase ≠ TwinPhase.paired ∨ (sc2 0).twin.lossNoted = true))
    ∧ (((sc2 4).twin.downSince = some 4000000) ∧ (sc2 4).twin.phase = TwinPhase.paired ∧ (sc2 4).twinLinkUp = false)
    ∧ (((sc2 0).twin.downSince = none ∨ (sc2 0).twin.phase ≠ TwinPhase.paired ∨ (sc2 0).twinLinkUp = true))
    ∧ (((sc2 0).filtered 3 0 = false))
    ∧ (((sc2 0).filtered 3 1000000 = true) ∧ ((false) = true ∨ (sc2 0).twin.phase ≠ TwinPhase.paired))
    ∧ (((sc2 2).filtered 3 1000000 = true) ∧ (false) = false ∧ (sc2 2).twin.phase = TwinPhase.paired) := by and_intros <;> decide +kernel
/-- States and operands that meet the hypotheses of each clause of TwinSwitchover (part 2 of 5). -/
theorem witness_TwinSwitchover_2 :
    (((sc2 5).filtered 3 1000000 = true) ∧ ((true) = true ∧ (sc2 5).twin.force = false) ∧ (sc2 5).twin.phase = TwinPhase.paired ∧ (sc2 5).twin.peerForce = true)
    ∧ (((sc2 3).filtered 3 1000000 = true) ∧ (((true) = true ∧ (sc2 3).twin.force = false) ∧ (sc2 3).twin.phase = TwinPhase.paired ∧ (sc2 3).twin.peerForce = false ∧ (sc2 3).twin.standby = true ∧ (sc2 3).twin.planned = none))
    ∧ (((sc2 0).filtered 3 1000000 = true) ∧ (¬(((false) = true ∧ (sc2 0).twin.force = false) ∧ (sc2 0).twin.phase = TwinPhase.paired ∧ (sc2 0).twin.peerForce = false ∧ (sc2 0).twin.standby = true ∧ (sc2 0).twin.planned = none)) ∧ (¬(((false) = true ∧ (sc2 0).twin.force = false) ∧ (sc2 0).twin.phase = TwinPhase.paired ∧ (sc2 0).twin.peerForce = true)))
    ∧ ((sc2 4).twin.planned.isSome = true ∧ (sc2 4).twin.phase = TwinPhase.paired)
    ∧ (((sc2 0).twin.planned = none ∨ (sc2 0).twin.phase ≠ TwinPhase.paired))
    ∧ (((sc2 4).twin.planned = some 6000000))
    ∧ ((sc2 0).twin.planned = none)
    ∧ (((sc2 4).twin.switchAt = some 6000000) ∧ (sc2 4).twin.phase = TwinPhase.paired)
    ∧ (((sc2 0).twin.switchAt = none ∨ (sc2 0).twin.phase ≠ TwinPhase.paired))
    ∧ (6 ∈ (sc2 2).twin.roleDue)
    ∧ (¬6 ∈ (sc2 0).twin.roleDue)
    ∧ ((¬((sc2 0).twin.standby = true ∧ ((sc2 0).twin.phase = TwinPhase.copy ∨ (sc2 0).twin.phase = TwinPhase.sync ∨ (sc2 0).twin.phase = TwinPhase.paired)))) := by and_intros <;> decide +kernel
/-- States and operands that meet the hypotheses of each clause of TwinSwitchover (part 3 of 5). -/
theorem witness_TwinSwitchover_3 :
    (((sc2 8).twin.standby = true ∧ ((sc2 8).twin.phase = TwinPhase.copy ∨ (sc2 8).twin.phase = TwinPhase.sync ∨ (sc2 8).twin.phase = TwinPhase.paired)) ∧ (sc2 8).twin.recopy = true)
    ∧ (((sc2 3).twin.standby = true ∧ ((sc2 3).twin.phase = TwinPhase.copy ∨ (sc2 3).twin.phase = TwinPhase.sync ∨ (sc2 3).twin.phase = TwinPhase.paired)) ∧ (sc2 3).twin.recopy = false ∧ 6 < 64)
    ∧ (((sc2 3).twin.standby = true ∧ ((sc2 3).twin.phase = TwinPhase.copy ∨ (sc2 3).twin.phase = TwinPhase.sync ∨ (sc2 3).twin.phase = TwinPhase.paired)) ∧ (sc2 3).twin.recopy = false ∧ 7 < 64 ∧ (((sc2 3).out 7).scanning = true))
    ∧ (((sc2 3).twin.standby = true ∧ ((sc2 3).twin.phase = TwinPhase.copy ∨ (sc2 3).twin.phase = TwinPhase.sync ∨ (sc2 3).twin.phase = TwinPhase.paired)) ∧ (sc2 3).twin.recopy = false ∧ 6 < 64 ∧ (((sc2 3).out 6).scanning = false))
    ∧ (((sc2 3).twin.standby = true ∧ ((sc2 3).twin.phase = TwinPhase.copy ∨ (sc2 3).twin.phase = TwinPhase.sync ∨ (sc2 3).twin.phase = TwinPhase.paired)) ∧ (sc2 3).twin.recopy = false ∧ 6 < 64 ∧ 0 < 2)
    ∧ (((sc2 3).twin.standby = true ∧ ((sc2 3).twin.phase = TwinPhase.copy ∨ (sc2 3).twin.phase = TwinPhase.sync ∨ (sc2 3).twin.phase = TwinPhase.paired)) ∧ (sc2 3).twin.recopy = false ∧ (254 = 254 ∨ ((sc2 3).out 254).scanning = false))
    ∧ (((sc2 3).twin.standby = true ∧ ((sc2 3).twin.phase = TwinPhase.copy ∨ (sc2 3).twin.phase = TwinPhase.sync ∨ (sc2 3).twin.phase = TwinPhase.paired)) ∧ (sc2 3).twin.recopy = false ∧ 7 ≠ 254 ∧ (((sc2 3).out 7).scanning = true))
    ∧ (((sc2 3).twin.standby = true ∧ ((sc2 3).twin.phase = TwinPhase.copy ∨ (sc2 3).twin.phase = TwinPhase.sync ∨ (sc2 3).twin.phase = TwinPhase.paired)) ∧ (sc2 3).twin.recopy = false)
    ∧ (((sc2 3).twin.standby = true ∧ ((sc2 3).twin.phase = TwinPhase.copy ∨ (sc2 3).twin.phase = TwinPhase.sync ∨ (sc2 3).twin.phase = TwinPhase.paired)) ∧ (sc2 3).twin.recopy = false ∧ (((sc2 3).flow 100).usable = true))
    ∧ (((sc2 3).twin.standby = true ∧ ((sc2 3).twin.phase = TwinPhase.copy ∨ (sc2 3).twin.phase = TwinPhase.sync ∨ (sc2 3).twin.phase = TwinPhase.paired)) ∧ (sc2 3).twin.recopy = false ∧ 1 ≤ 1 ∧ 1 < 256)
    ∧ (((sc2 3).twin.standby = true ∧ ((sc2 3).twin.phase = TwinPhase.copy ∨ (sc2 3).twin.phase = TwinPhase.sync ∨ (sc2 3).twin.phase = TwinPhase.paired)) ∧ (sc2 3).twin.recopy = false ∧ ((sc2 3).part 77 = none))
    ∧ ((bit ((sc2 1).reg R.twinCtrl) 31 = true)) := by and_intros <;> decide +kernel
/-- States and operands that meet the hypotheses of each clause of TwinSwitchover (part 4 of 5). -/
theorem witness_TwinSwitchover_4 :
    ((bit ((sc2 0).reg R.twinCtrl) 31 = false)) := by decide +kernel
/-- States and operands that meet the hypotheses of each clause of TwinSwitchover (part 5 of 5). -/
theorem witness_TwinSwitchover_5 :
    (∃ (p7 : Part), ((sc2 7).part 77 = some p7) ∧ ((sc2 7).twin.standby = true ∧ ((sc2 7).twin.phase = TwinPhase.copy ∨ (sc2 7).twin.phase = TwinPhase.sync ∨ (sc2 7).twin.phase = TwinPhase.paired)) ∧ (sc2 7).twin.recopy = false) := by refine ⟨_, rfl, ?_⟩; and_intros <;> decide +kernel
end ForTwinPairing

namespace ForReferenceCandidates
def cg (c rank : Nat) (port : Nat := 0) : Nat × Word := (R.madderCandCfg c, w_ (2^31 + rank*2^24 + port*2^16))
def base : State := { media with ttime := 5000000, flows := [], boot := { State.reset.boot with ready := true }, regs := [cg 0 1, cg 1 1, cg 2 2, (R.madderCandCfg 5, w_ (2^31 + 3*2^24 + 8*2^16 + 127*256)), cg 8 4, (R.madderSlope, 100)] ++ media.regs.filter (fun p => p.1 ≠ R.tgrpCtrl 2) }
def M0 : Madder := { st := 2, sel := 0, captured := true, lockOfs := 5, hist := [3,4,5], histValid := true, fcw := 77, cands := [(0, {st := 4, active := true, freq := 100, rejRun := 5000, pulse := some 4000000}), (1, {st := 4, active := true, freq := -500, apartRun := 5000}), (2, {st := 3, active := true, qtime := 0}), (5, {st := 1}), (8, {st := 5, active := true, good := some (4000000, 900)}), (9, {st := 4, active := true})] }
def mk (f : Madder → Madder) (g : State → State := id) : State := g { base with madder := f M0 }
def scns : List State := [(mk id), (mk (fun m => {m with sel := 15, cands := Tbl.set {} (Tbl.set {} m.cands 9 {st := 1}) 2 {st := 1} })), (mk (fun m => {m with disagree := some (0, 1, 8), backRun := 2000000})), (mk (fun m => {m with st := 0, sel := 9}))]
def scnsA : List State := scns ++ [(mk (fun m => {m with localOk := true})), (mk (fun m => {m with localOk := false})), (mk (fun m => {m with disagree := some (0, 1, 8), backRun := 2}))  , (mk id (fun s => {s with regs := (R.madderCandCfg 0, w_ (2^31 + 1*2^24 + 3*2^16)) :: s.regs}))]
def cands (l : List (Nat × Nat)) (m : Madder) : Madder := { m with cands := l.map (fun p => (p.1, {st := p.2, active := true, freq := 7})) }
def sl : Slope := { e := 500, start := 4000000, stop := 6000000, rate := 100 }
/-- a frequency history of n entries -/
def longHist (n : Nat) : State := mk (fun m => {m with hist := List.replicate n 3})
theorem longHist_length (n : Nat) : (longHist n).madder.hist.length = n := by simp [longHist, mk]
def scns2 : List State := [(mk (cands [(1,4),(9,4)])), (mk (fun m => {cands [(1,4),(9,4)] m with slope := some sl})), (mk (fun m => {cands [(0,4),(1,4),(9,4)] m with wtrAt := some 6000000, pend := 1})), (mk (fun m => {cands [(0,4),(1,2),(9,4)] m with wtrAt := some 6000000, pend := 1})),
 (mk (fun m => {m with fcw := 100*ppbUnits, st := 1, captured := false})), (mk (fun m => {m with fcw := 100*ppbUnits, st := 1})), (mk (fun m => {m with st := 4, slope := some sl})), (mk (fun m => {m with st := 4, slope := some {sl with due := some 1}})), (mk (fun m => {m with st := 4, okTicks := 20})), (mk (cands [])), (mk (fun m => {cands [] m with histValid := false})), (mk id), (mk (fun m => {m with st := 5, fcwNext := some 9, fcwT := 3500000})), (mk (fun m => {cands [] m with st := 5})), (mk (fun m => {m with st := 6, localT := 5})), (mk (fun m => {m with st := 6, slope := some sl})), (mk (fun m => {cands [] m with st := 6})), (mk id (fun s => {s with flows := [(100, vflow 6)]})), (mk (fun m => {cands [(9,4)] m with sel := 3, st := 0}))]
def allReferenceLoop : List State := (scns2 ++ [(mk (fun m => {cands [(0,4),(1,4),(9,4)] m with wtrAt := some 6000000, pend := 1, slope := some sl})), (mk (fun m => {m with st := 3, afterSoft := true}) (fun s => {s with regs := (R.madderCtrl, w_ (2^31)) :: s.regs})), (mk (fun m => {m with st := 4, slope := some {sl with due := some 15, lost := true}})), (mk (fun m => {cands [] m with st := 4, slope := some {sl with due := some 15, lost := true}}))])
def fp (f : Madder → Madder) (g : State → State := id) : State := mk (fun m => f { m with fpIn := [(0, {last := some 3000000, prev := some 1000000, accepted := true})], fpOut := [(1, {since := some 3, epoch := some 1000000, last := some 4000000, ofs := 3}), (2, {since := some 400000})] }) (fun s => g { s with regs := (R.madderFpCtrl 1, w_ (2^31 + 2^24 + 8*2^16 + 50)) :: s.regs })
def scns3 : List State := [(fp id), (fp (fun m => {m with fpIn := [(0, {last := some 3000000, prev := some 1000000, accepted := false})]}) (fun s => {s with ports := [(8, {synWait := true})], syns := []})), (fp id (fun s => {s with syns := (List.range 16).map (fun i => (i, {family := 1, users := [7]}))})), (fp id (fun s => {s with ports := [(8, {synWait := true})], syns := (List.range 16).map (fun i => (i, {family := 1, users := [7]}))}))]
def fpa : State := mk (fun m => { m with fpIn := [(0, {last := some 64000000, prev := some 32000000, accepted := true})], fpOut := [(1, {since := some 3, last := some 4000000, ofs := 3}), (2, {since := some 400000, epoch := some 9, flywheel := true})] }) (fun s => { s with ttime := 90000000, groups := [(2, {waiting := some 5}), (3, {waiting := some 5})], regs := (R.tgrpCtrl 2, w_ (2^31 + 7*2^16+2*2^8)) :: (R.tgrpCtrl 3, w_ (2^31 + 8*2^16+2*2^8)) :: (R.madderCandCfg 8, w_ (2^31+2^24+2^16)) :: (R.madderFpCtrl 1, w_ (2^31 + 2^24 + 7*2^16 + 50)) :: (R.madderFpCtrl 2, w_ (2^31 + 2^24 + 7*2^16 + 50)) :: s.regs})
def allFramePulses : List State := (scns3 ++ [(fpa)])
def sc1 (k : Nat) : State := scnsA.getD k State.reset
def sc2 (k : Nat) : State := allReferenceLoop.getD k State.reset
def sc3 (k : Nat) : State := allFramePulses.getD k State.reset
/-- States and operands that meet the hypotheses of each clause of ReferenceCandidates (part 1 of 2). -/
theorem witness_ReferenceCandidates_1 :
    (5 < 10 ∧ (((sc1 0).cand 5).active = false))
    ∧ (0 < 10 ∧ (((sc1 0).cand 0).active = true))
    ∧ (0 < 10 ∧ ({ cand := 0, freq := 33, phase := 5, fmt := 1, rate := 3, pulse := some 4900000 } : RefSample).cand = 0 ∧ (¬((0 < 2 → (sc1 7).regBits (R.madderCandCfg 0) 17 16 = 0 ∨ (sc1 7).regBits (R.madderCandCfg 0) 17 16 = ({ cand := 0, freq := 33, phase := 5, fmt := 1, rate := 3, pulse := some 4900000 } : RefSample).fmt) ∧ (4 ≤ 0 → 0 < 8 → (sc1 7).ptpPortOk 0 = true))))
    ∧ (0 < 10 ∧ ({ cand := 0, freq := 33, phase := 5, fmt := 1, rate := 3, pulse := some 4900000 } : RefSample).cand = 0 ∧ ((0 < 2 → (sc1 0).regBits (R.madderCandCfg 0) 17 16 = 0 ∨ (sc1 0).regBits (R.madderCandCfg 0) 17 16 = ({ cand := 0, freq := 33, phase := 5, fmt := 1, rate := 3, pulse := some 4900000 } : RefSample).fmt) ∧ (4 ≤ 0 → 0 < 8 → (sc1 0).ptpPortOk 0 = true)))
    ∧ (0 < 10 ∧ (¬(4 ≤ 0 ∧ 0 < 8 ∧ (sc1 0).candOn 0 = true ∧ (sc1 0).ptpPortOk 0 = true ∧ ({ kind := 0, domain := 127, interval := -3, best := true, ofs := none } : PtpMsg).domain = (sc1 0).regBits (R.madderCandCfg 0) 14 8 ∧ ({ kind := 0, domain := 127, interval := -3, best := true, ofs := none } : PtpMsg).best = true) ∨ 4 < ({ kind := 0, domain := 127, interval := -3, best := true, ofs := none } : PtpMsg).kind ∨ (({ kind := 0, domain := 127, interval := -3, best := true, ofs := none } : PtpMsg).kind = 1 ∨ ({ kind := 0, domain := 127, interval := -3, best := true, ofs := none } : PtpMsg).kind = 2) ∧ (({ kind := 0, domain := 127, interval := -3, best := true, ofs := none } : PtpMsg).interval < -7 ∨ 0 < ({ kind := 0, domain := 127, interval := -3, best := true, ofs := none } : PtpMsg).interval)))
    ∧ (5 < 10 ∧ (4 ≤ 5 ∧ 5 < 8 ∧ (sc1 0).candOn 5 = true ∧ (sc1 0).ptpPortOk 5 = true ∧ ({ kind := 0, domain := 127, interval := -3, best := true, ofs := none } : PtpMsg).domain = (sc1 0).regBits (R.madderCandCfg 5) 14 8 ∧ ({ kind := 0, domain := 127, interval := -3, best := true, ofs := none } : PtpMsg).best = true) ∧ ({ kind := 0, domain := 127, interval := -3, best := true, ofs := none } : PtpMsg).kind = 0)
    ∧ (5 < 10 ∧ (4 ≤ 5 ∧ 5 < 8 ∧ (sc1 0).candOn 5 = true ∧ (sc1 0).ptpPortOk 5 = true ∧ ({ kind := 1, domain := 127, interval := -3, best := true, ofs := some (5, 6, 7) } : PtpMsg).domain = (sc1 0).regBits (R.madderCandCfg 5) 14 8 ∧ ({ kind := 1, domain := 127, interval := -3, best := true, ofs := some (5, 6, 7) } : PtpMsg).best = true) ∧ (({ kind := 1, domain := 127, interval := -3, best := true, ofs := some (5, 6, 7) } : PtpMsg).kind = 1 ∨ ({ kind := 1, domain := 127, interval := -3, best := true, ofs := some (5, 6, 7) } : PtpMsg).kind = 2) ∧ -7 ≤ ({ kind := 1, domain := 127, interval := -3, best := true, ofs := some (5, 6, 7) } : PtpMsg).interval ∧ ({ kind := 1, domain := 127, interval := -3, best := true, ofs := some (5, 6, 7) } : PtpMsg).interval ≤ 0)
    ∧ (5 < 10 ∧ (4 ≤ 5 ∧ 5 < 8 ∧ (sc1 0).candOn 5 = true ∧ (sc1 0).ptpPortOk 5 = true ∧ ({ kind := 3, domain := 127, interval := -3, best := true, ofs := some (5, 6, 7) } : PtpMsg).domain = (sc1 0).regBits (R.madderCandCfg 5) 14 8 ∧ ({ kind := 3, domain := 127, interval := -3, best := true, ofs := some (5, 6, 7) } : PtpMsg).best = true) ∧ (({ kind := 3, domain := 127, interval := -3, best := true, ofs := some (5, 6, 7) } : PtpMsg).kind = 3 ∨ ({ kind := 3, domain := 127, interval := -3, best := true, ofs := some (5, 6, 7) } : PtpMsg).kind = 4))
    ∧ (5 < 10 ∧ (¬((sc1 0).candOn 5 = true ∧ ((sc1 0).cand 5).active = true ∧ (sc1 0).madder.st ≠ mFault)))
    ∧ (0 < 10 ∧ 1 ≠ 0)
    ∧ (2 < 10 ∧ ((sc1 0).candOn 2 = true ∧ ((sc1 0).cand 2).active = true ∧ (sc1 0).madder.st ≠ mFault) ∧ (((sc1 0).cand 2).st = cdUnqualified ∨ ((sc1 0).cand 2).st = cdQualifying))
    ∧ (0 < 10 ∧ ((sc1 0).candOn 0 = true ∧ ((sc1 0).cand 0).active = true ∧ (sc1 0).madder.st ≠ mFault) ∧ (((sc1 0).cand 0).st = cdQualified)) := by and_intros <;> decide +kernel
/-- States and operands that meet the hypotheses of each clause of ReferenceCandidates (part 2 of 2). -/
theorem witness_ReferenceCandidates_2 :
    (0 < 10 ∧ (¬(0 < 9 ∧ ((sc1 0).cand 0).st = cdQualifying ∧ ((sc1 0).cand 0).qtime = 0 ∧ (sc1 0).madder.st ≠ mFault)))
    ∧ (2 < 10 ∧ (2 < 9 ∧ ((sc1 0).cand 2).st = cdQualifying ∧ ((sc1 0).cand 2).qtime = 0 ∧ (sc1 0).madder.st ≠ mFault))
    ∧ (1 < 10 ∧ (¬(1 < 9 ∧ ((sc1 0).cand 1).st = cdQualified ∧ (sc1 0).rejectT 1 ≤ ((sc1 0).cand 1).rejRun ∧ (sc1 0).madder.st ≠ mFault)))
    ∧ (0 < 10 ∧ (0 < 9 ∧ ((sc1 0).cand 0).st = cdQualified ∧ (sc1 0).rejectT 0 ≤ ((sc1 0).cand 0).rejRun ∧ (sc1 0).madder.st ≠ mFault))
    ∧ (0 < 10 ∧ (¬(0 < 9 ∧ (sc1 0).madder.sel < 9 ∧ 0 ≠ (sc1 0).madder.sel ∧ ((sc1 0).cand 0).st = cdQualified ∧ ((sc1 0).cand (sc1 0).madder.sel).st = cdQualified ∧ (sc1 0).candRank 0 = (sc1 0).candRank (sc1 0).madder.sel ∧ (sc1 0).rejectT 0 ≤ ((sc1 0).cand 0).apartRun ∧ (sc1 0).madder.disagree = none)))
    ∧ (1 < 10 ∧ (1 < 9 ∧ (sc1 5).madder.sel < 9 ∧ 1 ≠ (sc1 5).madder.sel ∧ ((sc1 5).cand 1).st = cdQualified ∧ ((sc1 5).cand (sc1 5).madder.sel).st = cdQualified ∧ (sc1 5).candRank 1 = (sc1 5).candRank (sc1 5).madder.sel ∧ (sc1 5).rejectT 1 ≤ ((sc1 5).cand 1).apartRun ∧ (sc1 5).madder.disagree = none) ∧ ((sc1 5).madder.localOk = false ∨ (sc1 5).madder.st = mFault))
    ∧ (1 < 10 ∧ (1 < 9 ∧ (sc1 0).madder.sel < 9 ∧ 1 ≠ (sc1 0).madder.sel ∧ ((sc1 0).cand 1).st = cdQualified ∧ ((sc1 0).cand (sc1 0).madder.sel).st = cdQualified ∧ (sc1 0).candRank 1 = (sc1 0).candRank (sc1 0).madder.sel ∧ (sc1 0).rejectT 1 ≤ ((sc1 0).cand 1).apartRun ∧ (sc1 0).madder.disagree = none) ∧ (sc1 0).madder.localOk = true ∧ (sc1 0).madder.st ≠ mFault)
    ∧ (0 < 10 ∧ 0 < 12 ∧ 0 < 3 ∧ ((sc1 0).writeGate 0 (if 0 = 0 then R.madderCandCfg 0 else if 0 = 1 then R.madderCandLimits 0 else R.madderCandTimes 0) = Gate.pass) ∧ (candRegOk 0 0 (0x80000000#32) = false))
    ∧ (0 < 10 ∧ 0 < 12 ∧ 0 < 3 ∧ ((sc1 0).writeGate 0 (if 0 = 0 then R.madderCandCfg 0 else if 0 = 1 then R.madderCandLimits 0 else R.madderCandTimes 0) = Gate.pass) ∧ (candRegOk 0 0 (0x00000000#32) = true))
    ∧ (((sc1 6).madder.disagree = some (0, 1, 8)) ∧ ((sc1 6).madder.backRun < (sc1 6).acceptT (if 8 = noCand then 1 else 8)))
    ∧ (((sc1 2).madder.disagree = some (0, 1, 8)) ∧ ((sc1 2).acceptT (if 8 = noCand then 1 else 8) ≤ (sc1 2).madder.backRun))
    ∧ ((sc1 0).madder.disagree = none) := by and_intros <;> decide +kernel
/-- States and operands that meet the hypotheses of each clause of ReferenceLoop (part 1 of 8). -/
theorem witness_ReferenceLoop_1 :
    ((sc2 2).switchDue = none)
    ∧ (((sc2 0).switchDue = some 9) ∧ ((sc2 0).madder.st ≠ mSoftloop ∧ (sc2 0).madder.st ≠ mFault ∧ (sc2 0).madder.st ≠ mStopped) ∧ (sc2 0).madder.slope = none)
    ∧ ((sc2 0).madder.wtrAt = none)
    ∧ (((sc2 2).madder.wtrAt = some 6000000) ∧ ((sc2 2).qualified (sc2 2).madder.pend = true) ∧ ((sc2 2).madder.st ≠ mSoftloop ∧ (sc2 2).madder.st ≠ mFault ∧ (sc2 2).madder.st ≠ mStopped) ∧ (sc2 2).madder.slope = none)
    ∧ (((sc2 3).madder.wtrAt = some 6000000) ∧ ((sc2 3).qualified (sc2 3).madder.pend = false))
    ∧ (((sc2 0).madder.st ≠ mAcquire ∨ ¬absI ((sc2 0).madder.fcw - ((sc2 0).cand (sc2 0).madder.sel).freq * ppbUnits) ≤ 1000000))
    ∧ ((sc2 4).madder.st = mAcquire ∧ (absI ((sc2 4).madder.fcw - ((sc2 4).cand (sc2 4).madder.sel).freq * ppbUnits) ≤ 1000000) ∧ (sc2 4).madder.captured = false)
    ∧ ((sc2 5).madder.st = mAcquire ∧ (absI ((sc2 5).madder.fcw - ((sc2 5).cand (sc2 5).madder.sel).freq * ppbUnits) ≤ 1000000) ∧ (sc2 5).madder.captured = true)
    ∧ ((sc2 0).madder.st ≠ mAcquire)
    ∧ ((sc2 0).madder.slope = none)
    ∧ ((¬((sc2 0).madder.st = mSlew ∧ (sc2 0).madder.slope = none ∧ 16 ≤ (sc2 0).madder.okTicks)))
    ∧ (((sc2 8).madder.st = mSlew ∧ (sc2 8).madder.slope = none ∧ 16 ≤ (sc2 8).madder.okTicks)) := by and_intros <;> decide +kernel
/-- States and operands that meet the hypotheses of each clause of ReferenceLoop (part 2 of 8). -/
theorem witness_ReferenceLoop_2 :
    ((¬((sc2 0).qualified (sc2 0).madder.sel = false ∧ (sc2 0).bestCand = noCand ∧ (sc2 0).madder.slope = none ∧ ((sc2 0).madder.st = mAcquire ∨ (sc2 0).madder.st = mLocked ∨ (sc2 0).madder.st = mSlew))))
    ∧ (((sc2 9).qualified (sc2 9).madder.sel = false ∧ (sc2 9).bestCand = noCand ∧ (sc2 9).madder.slope = none ∧ ((sc2 9).madder.st = mAcquire ∨ (sc2 9).madder.st = mLocked ∨ (sc2 9).madder.st = mSlew)))
    ∧ ((sc2 0).madder.hist.length < 960000)
    ∧ (0 < 12 ∧ ((sc2 0).writeGate 0 R.madderCtrl = Gate.pass) ∧ (9 < bits (0xfffff000#32) 27 24 ∨ 12 < bits (0xfffff000#32) 19 16 ∨ bit (0xfffff000#32) 23 = true ∧ (sc2 0).candOn (bits (0xfffff000#32) 27 24) = false ∨ bit (0xfffff000#32) 31 = true ∧ ((sc2 0).madder.st = mSlew ∨ (sc2 0).madder.st = mAcquire) ∨ bit (0xfffff000#32) 29 = true ∧ (sc2 0).timeInUse = true))
    ∧ (0 < 12 ∧ ((sc2 0).writeGate 0 R.madderCtrl = Gate.pass) ∧ (¬(9 < bits (0x80000000#32) 27 24 ∨ 12 < bits (0x80000000#32) 19 16 ∨ bit (0x80000000#32) 23 = true ∧ (sc2 0).candOn (bits (0x80000000#32) 27 24) = false ∨ bit (0x80000000#32) 31 = true ∧ ((sc2 0).madder.st = mSlew ∨ (sc2 0).madder.st = mAcquire) ∨ bit (0x80000000#32) 29 = true ∧ (sc2 0).timeInUse = true)))
    ∧ (0 < 12 ∧ ((sc2 0).writeGate 0 R.madderCtrl = Gate.pass) ∧ (bit (0x00000000#32) 31 = false) ∧ (bit (0x00000000#32) 23 = false) ∧ (bits (0x00000000#32) 27 24 ≤ 9) ∧ (bits (0x00000000#32) 19 16 ≤ 12) ∧ (sc2 0).timeInUse = false)
    ∧ (0 < 12 ∧ ((sc2 17).writeGate 0 R.madderCtrl = Gate.pass) ∧ (sc2 17).timeInUse = true)
    ∧ (0 < 12 ∧ ((sc2 0).writeGate 0 R.madderFcw = Gate.pass))
    ∧ ((sc2 0).madder.st ≠ mSoftloop)
    ∧ ((sc2 12).madder.st = mSoftloop)
    ∧ ((sc2 0).madder.st ≠ mFault ∧ (sc2 0).madder.st ≠ mStopped)
    ∧ (((sc2 0).madder.st ≠ mFault ∨ (sc2 0).madder.localOk = false)) := by and_intros <;> decide +kernel
/-- States and operands that meet the hypotheses of each clause of ReferenceLoop (part 3 of 8). -/
theorem witness_ReferenceLoop_3 :
    ((sc2 14).madder.st = mFault ∧ (sc2 14).madder.localOk = true) := by and_intros <;> decide +kernel
/-- States and operands that meet the hypotheses of each clause of ReferenceLoop (part 4 of 8). -/
theorem witness_ReferenceLoop_4 :
    (∃ (x2 : Slope), ((sc2 1).madder.slope = some x2) ∧ ((sc2 1).switchDue = some 9) ∧ ((sc2 1).madder.st ≠ mSoftloop ∧ (sc2 1).madder.st ≠ mFault ∧ (sc2 1).madder.st ≠ mStopped)) := by refine ⟨_, rfl, ?_⟩; and_intros <;> decide +kernel
/-- States and operands that meet the hypotheses of each clause of ReferenceLoop (part 5 of 8). -/
theorem witness_ReferenceLoop_5 :
    (∃ (x2 : Slope), ((sc2 19).madder.slope = some x2) ∧ ((sc2 19).madder.wtrAt = some 6000000) ∧ ((sc2 19).qualified (sc2 19).madder.pend = true) ∧ ((sc2 19).madder.st ≠ mSoftloop ∧ (sc2 19).madder.st ≠ mFault ∧ (sc2 19).madder.st ≠ mStopped)) := by refine ⟨_, rfl, ?_⟩; and_intros <;> decide +kernel
/-- States and operands that meet the hypotheses of each clause of ReferenceLoop (part 6 of 8). -/
theorem witness_ReferenceLoop_6 :
    (∃ (x1 : Slope), ((sc2 1).madder.slope = some x1) ∧ (¬(x1.due ≠ none ∧ (sc2 1).madder.st = mSlew ∧ ((match x1.due with | some d => if (sc2 1).qualified d = true then d else (sc2 1).bestCand | none => noCand) ≠ (sc2 1).madder.sel ∨ x1.lost = true)))) := by refine ⟨_, rfl, ?_⟩; decide +kernel
/-- States and operands that meet the hypotheses of each clause of ReferenceLoop (part 7 of 8). -/
theorem witness_ReferenceLoop_7 :
    (∃ (x1 : Slope), ((sc2 7).madder.slope = some x1) ∧ (x1.due ≠ none ∧ (sc2 7).madder.st = mSlew ∧ ((match x1.due with | some d => if (sc2 7).qualified d = true then d else (sc2 7).bestCand | none => noCand) ≠ (sc2 7).madder.sel ∨ x1.lost = true))) := by refine ⟨_, rfl, ?_⟩; decide +kernel
/-- States and operands that meet the hypotheses of each clause of ReferenceLoop (part 8 of 8). -/
theorem witness_ReferenceLoop_8 :
    (960000 ≤ (longHist 960001).madder.hist.length) := by rw [longHist_length]; decide
/-- States and operands that meet the hypotheses of each clause of FramePulses (part 1 of 2). -/
theorem witness_FramePulses_1 :
    ((0 ≥ 2 ∨ (sc3 0).filtered 1 0 = false))
    ∧ (0 < 2 ∧ ((sc3 0).filtered 1 1000000 = true))
    ∧ ((0 ≥ 4 ∨ (sc3 0).fpNext 0 = none))
    ∧ (1 < 4 ∧ ((sc3 0).fpNext 1 = some 33000003))
    ∧ ((((sc3 0).fpOut 0).since = none ∨ ((sc3 0).fpOut 0).epoch.isSome = true))
    ∧ ((((sc3 0).fpOut 2).since = some 400000) ∧ (((sc3 0).fpOut 2).epoch = none))
    ∧ ((((sc3 0).fpOut 0).epoch = none ∨ ((sc3 0).fpOut 0).free = true))
    ∧ ((((sc3 0).fpOut 1).epoch.isSome = true) ∧ (((sc3 0).fpOut 1).free = false))
    ∧ ((¬(70 < 64 ∧ (sc3 0).portPresent 70 = true)))
    ∧ ((8 < 64 ∧ (sc3 2).portPresent 8 = true) ∧ (((sc3 2).port 8).synWait = false) ∧ ((sc3 2).takeSyns 8 ((sc3 2).portFamilies 8) = none))
    ∧ ((8 < 64 ∧ (sc3 3).portPresent 8 = true) ∧ (((sc3 3).port 8).synWait = true) ∧ ((sc3 3).takeSyns 8 ((sc3 3).portFamilies 8) = none)) := by and_intros <;> decide +kernel
/-- States and operands that meet the hypotheses of each clause of FramePulses (part 2 of 2). -/
theorem witness_FramePulses_2 :
    (∃ (t12 : Machine.State), ((sc3 0).takeSyns 6 ((sc3 0).portFamilies 6) = some t12) ∧ (6 < 64 ∧ (sc3 0).portPresent 6 = true)) := by refine ⟨_, rfl, ?_⟩; decide +kernel
end ForReferenceCandidates

namespace ForCxlPorts
def base : State := { media with ttime := 5000000, boot := { State.reset.boot with ready := true, stage := 10 }, cxlSet := 3, cx := [(0, {link := 2, checked := true, cap := 128}), (1, {link := 3, checked := true, cap := 128, downT := some 4000000}), (2, {link := 3, downT := some 4000000}) ], woad := { State.reset.woad with ideNext := [(1, [5,6])], ideKeys := [(1,[9])], slots := [(4, {attr := w_ (1*2^28 + 2^18), key := [1,2]})] }, mem := {cxl := putWs [] 0x1000 [7,8,9,0x06000000]}, regs := (R.cxlPortCtrl 3, w_ (2^31 + 4)) :: media.regs, outs := [(7, {media.out 7 with cur := {kind := 5}, lut := {loading := some 7}})], obs := [(2, {started := some 4000000})] }
def bs (s : State) : State := { s with regs := [(R.ochreObRingSize 2, 16), (R.ochreObTail 2, 1)] ++ s.regs }
def scns : List State := [(bs base), { base with ttime := 90000000, cx := (3, {link := 3, downT := some 4000000}) :: base.cx, flows := (3, {valid := true}) :: base.flows }, {base with cxlRebuild := true}, {base with cxlRebuild := true, cx := [(0, {link := 2, checked := true, cap := 16})], cxlSet := 1},  {base with popGib := 0}]
def sc1 (k : Nat) : State := scns.getD k State.reset
/-- States and operands that meet the hypotheses of each clause of CxlPorts (part 1 of 2). -/
theorem witness_CxlPorts_1 :
    (((sc1 0).cxlPresent 2 = true) ∧ (sc1 0).boot.stage = 10 ∧ (((sc1 0).cxPort 2).checked = false))
    ∧ (((sc1 0).cxlPresent 0 = true) ∧ ((sc1 0).boot.stage ≠ 10 ∨ ((sc1 0).cxPort 0).checked = true))
    ∧ (((sc1 0).cxlPresent 0 = true) ∧ 7 < 64)
    ∧ (((sc1 0).cxlPresent 0 = true))
    ∧ (((sc1 0).cxlPresent 0 = true) ∧ 7 < 64 ∧ (((sc1 0).out 7).lut.loading.isSome = true))
    ∧ (((sc1 0).cxlPresent 0 = true) ∧ (((sc1 0).out 8).lut.loading = none))
    ∧ (((sc1 0).cxlPresent 0 = true) ∧ (((sc1 0).ob 3).started = none))
    ∧ (((sc1 0).cxlPresent 0 = true) ∧ 2 < 8 ∧ (((sc1 0).ob 2).started.isSome = true) ∧ ((sc1 0).obTail 2 = ringNext ((sc1 0).obSize 2) ((sc1 0).obHead 2)) ∧ ((sc1 0).bulkIn ((sc1 0).obDescAt 2) 32 = true))
    ∧ (((sc1 0).cxlPresent 0 = true) ∧ (((sc1 0).flow 100).usable = true))
    ∧ (((sc1 0).cxlPresent 0 = true) ∧ (((sc1 0).flow 101).usable = false))
    ∧ (((sc1 0).cxlPresent 0 = true) ∧ (((sc1 0).cxPort 0).link = cxUp))
    ∧ (((sc1 0).cxlPresent 0 = true) ∧ (((sc1 0).cxPort 0).link ≠ cxRecovery ∨ ((sc1 0).cxPort 0).downT = none)) := by and_intros <;> decide +kernel
/-- States and operands that meet the hypotheses of each clause of CxlPorts (part 2 of 2). -/
theorem witness_CxlPorts_2 :
    (((sc1 0).cxlPresent 1 = true) ∧ (((sc1 0).cxPort 1).link = cxRecovery) ∧ (((sc1 0).cxPort 1).downT = some 4000000) ∧ ((sc1 0).ttime ≤ ticksAfter 4000000 32))
    ∧ (((sc1 1).cxlPresent 1 = true) ∧ (((sc1 1).cxPort 1).link = cxRecovery) ∧ (((sc1 1).cxPort 1).downT = some 4000000) ∧ (ticksAfter 4000000 32 < (sc1 1).ttime))
    ∧ (((sc1 0).cxlPresent 3 = true) ∧ (((sc1 0).cxPort 3).link ≠ cxUp) ∧ (((sc1 0).cxPort 3).link ≠ cxRecovery))
    ∧ (((sc1 0).cxlPresent 2 = true) ∧ (((sc1 0).cxPort 2).link = cxUp ∨ ((sc1 0).cxPort 2).link = cxRecovery) ∧ ((sc1 0).inSet 2 = false))
    ∧ (((sc1 0).cxlPresent 0 = true) ∧ (((sc1 0).cxPort 0).link = cxUp ∨ ((sc1 0).cxPort 0).link = cxRecovery) ∧ ((sc1 0).inSet 0 = true))
    ∧ ((((sc1 0).flow 100).usable = true) ∧ (((sc1 0).flow 100).storeEn = true))
    ∧ ((((sc1 0).flow 101).usable = false ∨ ((sc1 0).flow 101).storeEn = false))
    ∧ (((sc1 0).woad.ideNext.find 0 = none))
    ∧ (((sc1 0).cxlPresent 4 = false))
    ∧ (((sc1 0).woad.ideNext.find 1 = some ([0x05#8, 0x06#8]))) := by and_intros <;> decide +kernel
/-- States and operands that meet the hypotheses of each clause of CxlHeap. -/
theorem witness_CxlHeap :
    (0 < 12 ∧ ((sc1 0).writeGate 0 R.cxlHallocSize = Gate.pass) ∧ (BitVec.toNat (0x00000000#32) < 1 ∨ 33554431 < BitVec.toNat (0x00000000#32)))
    ∧ (0 < 12 ∧ ((sc1 0).writeGate 0 R.cxlHallocSize = Gate.pass) ∧ (1 ≤ BitVec.toNat (0x01ffffff#32)) ∧ (BitVec.toNat (0x01ffffff#32) ≤ 33554431) ∧ ((sc1 0).popGib = 0 ∨ heapFit (BitVec.toNat (0x01ffffff#32) * 65536) (popBytes (sc1 0)) heapStart (sc1 0).heap = none))
    ∧ (0 < 12 ∧ ((sc1 0).writeGate 0 R.cxlHallocSize = Gate.pass) ∧ (1 ≤ BitVec.toNat (0x00000001#32)) ∧ (BitVec.toNat (0x00000001#32) ≤ 33554431) ∧ (sc1 0).popGib ≠ 0 ∧ (heapFit (BitVec.toNat (0x00000001#32) * 65536) (popBytes (sc1 0)) heapStart (sc1 0).heap = some 6575947776) ∧ (6575947776 < 2 ^ 64))
    ∧ (0 < 12 ∧ ((sc1 0).writeGate 0 R.cxlHfree = Gate.pass) ∧ (∀ (e : Nat × Nat × Bool), e ∈ (sc1 0).heap → e.fst ≠ BitVec.toNat (0x00000000#32) * 65536 ∨ e.snd.snd = false))
    ∧ (0 < 12 ∧ ((sc1 0).writeGate 0 R.cxlHfree = Gate.pass) ∧ (∃ e, e ∈ (sc1 0).heap ∧ e.fst = BitVec.toNat (0x0001c700#32) * 65536 ∧ e.snd.snd = true))
    ∧ ((heapFit 65536 549755813888 6559891456 ([(6559891456, 65536, true)]) = some 6559956992) ∧ (List.Pairwise (fun x y => x.fst + roundAlloc x.snd.fst ≤ y.fst) ([(6559891456, 65536, true)])) ∧ (∀ (e : Nat × Nat × Bool), e ∈ ([(6559891456, 65536, true)]) → e.fst ≤ 549755813888) ∧ ((6559891456, 65536, true)) ∈ ([(6559891456, 65536, true)]))
    ∧ ((heapFit 65536 549755813888 0 ([(6559891456, 16000000, false), (7633633280, 1073741824, true)]) = some 0) ∧ (List.Pairwise (fun x y => x.fst + roundAlloc x.snd.fst ≤ y.fst) ([(6559891456, 16000000, false), (7633633280, 1073741824, true)])) ∧ (∀ (e : Nat × Nat × Bool), e ∈ ([(6559891456, 16000000, false), (7633633280, 1073741824, true)]) → e.fst ≤ 549755813888) ∧ 0 ≤ 5 ∧ (5 + 65536 ≤ 549755813888) ∧ (∀ (e : Nat × Nat × Bool), e ∈ ([(6559891456, 16000000, false), (7633633280, 1073741824, true)]) → 5 + 65536 ≤ e.fst ∨ e.fst + roundAlloc e.snd.fst ≤ 5))
    ∧ ((sc1 0).cxlRebuild = false)
    ∧ ((sc1 2).cxlRebuild = true ∧ (∀ (n : Nat), n ∈ (sc1 2).outs.keys → n < 64)) := by and_intros <;> decide +kernel
end ForCxlPorts

namespace ForPowerSequences
def base : State := { media with ttime := 5000000, boot := { State.reset.boot with ready := true, stage := 13 }, saff := { State.reset.saff with state := 1 }, outs := (8, {media.out 7 with sel := none}) :: media.outs }
def pw (p : Pwr) (f : State → State := id) : State := f { base with pwr := p }
def off : Pwr := {}
def slp : Pwr := { state := 4, acOk := true, source := 1, rails := 1 }
def on : Pwr := { state := 1, acOk := true, dcOk := true, source := 1, pwrEn := true, rails := 0x7FF, ioGood := true, pwrGood := true, domOn := 2^96-1 }
def ps : List Pwr := [off, slp, {slp with pwrEn := true, cause := 1}, {slp with needCool := true}, {slp with pwrEn := true, upStep := some 2, state := 8}, {slp with pwrEn := true, upStep := some 4, state := 8}, {slp with pwrEn := true, upStep := some 5, state := 8, acOk := false}, on, {on with acOk := false}, {on with dcOk := false, acOk := false}, {on with acOk := false, dcOk := false, ride := true, failT := 4999000, cause := 1}, {on with ride := true, failT := 4999000}, {on with ride := true, failT := 100}, {on with shut := some 1, state := 8}, {on with shut := some 2, state := 8}, {on with shut := some 3, state := 8}, {on with shut := some 4, state := 8}, {on with shut := some 5, state := 8}, {on with overT := some 4000000}, {slp with dcOk := false, acOk := true}]
def scns : List State := ps.map (fun p => (pw p)) ++ ps.map (fun p => (pw p (fun s => {s with saff := {s.saff with pieces := []}, regs := (R.pwrCtrl, 0x100) :: s.regs})))
def allPowerSequences : List State := (scns ++ [(pw {on with shut := some 3, overT := some 4000000}), (pw {on with shut := some 1, state := 8, needCool := true}), (pw {on with shut := some 2, state := 8} (fun s => {s with saff := {s.saff with state := 0}}))])
def trim : Pwr := { on with state := 2, idleT := [(6, 100)], domOn := 2^95 + 2^40 + 2^6}
def scns2 : List State := [(pw on), (pw trim), (pw {on with state := 3, kept := [(70, true)], keptScan := [7], domOn := 5}), (pw slp), (pw trim (fun s => { s with regs := s.regs.filter (fun p => p.1 ≠ R.portMode 6) })),
  (pw {on with ride := true}), (pw {on with upStep := some 4}), (pw {on with shut := some 2}), (pw {on with target := 1, state := 2, domOn := 2^95}),
  (pw {on with target := 3, stopOuts := [7], stopBy := 9000000}), (pw {on with target := 3, stopOuts := [7], stopBy := 4000000}),
  (let s := pw {on with target := 3, domOn := 0}; {s with pwr := {s.pwr with domOn := s.standbyDoms}}),
  (let s := pw {on with target := 1, state := 3, kept := [(70, true)], keptScan := [7], domOn := 0}; {s with pwr := {s.pwr with domOn := s.domGoal}}),
  (let s := pw {on with target := 2, state := 1, domOn := 0}; {s with pwr := {s.pwr with domOn := s.domGoal}}),
  (pw {trim with target := 2, switched := (5, 6)}), (pw {trim with switched := (4, 7)}), (let s := pw on; {s with boot := {s.boot with ready := false}}),
  (pw {on with target := 3, domOn := 2^96-1, switched := (5, 3)}), (pw {on with domOn := 2^95 + 2^3, state := 3}), (pw {trim with idleT := [(6, 4500000), (7, 1), (40, 1)], domOn := 2^95 + 2^40 + 2^6 + 2^7 + 2^8}),
  (pw {on with domShed := 2^81, state := 1} (fun s => {s with regs := (R.pwrPdReq 2, 0xFF000000) :: s.regs, poolShed := 7}))]
def sc1 (k : Nat) : State := allPowerSequences.getD k State.reset
def sc2 (k : Nat) : State := scns2.getD k State.reset
/-- States and operands that meet the hypotheses of each clause of PowerSequences (part 1 of 4). -/
theorem witness_PowerSequences_1 :
    (((if (false) = true then (sc1 0).pwr.dcOk else (sc1 0).pwr.acOk) = true ∨ 0 < 328))
    ∧ ((¬(if (false) = true then (sc1 0).pwr.dcOk else (sc1 0).pwr.acOk) = true) ∧ 328 ≤ 400)
    ∧ ((¬(if (false) = true then (sc1 0).pwr.dcOk else (sc1 0).pwr.acOk) = true))
    ∧ (((if (false) = true then (sc1 7).pwr.dcOk else (sc1 7).pwr.acOk) = true) ∧ ((if (false) = true then ({ (sc1 7).pwr with dcOk := false } : Pwr) else ({ (sc1 7).pwr with acOk := false } : Pwr)).acOk = true ∨ (if (false) = true then ({ (sc1 7).pwr with dcOk := false } : Pwr) else ({ (sc1 7).pwr with acOk := false } : Pwr)).dcOk = true))
    ∧ (((if (false) = true then (sc1 1).pwr.dcOk else (sc1 1).pwr.acOk) = true) ∧ ((if (false) = true then ({ (sc1 1).pwr with dcOk := false } : Pwr) else ({ (sc1 1).pwr with acOk := false } : Pwr)).acOk = false) ∧ ((if (false) = true then ({ (sc1 1).pwr with dcOk := false } : Pwr) else ({ (sc1 1).pwr with acOk := false } : Pwr)).dcOk = false))
    ∧ ((sc1 7).pwr.dcOk = true ∧ (sc1 7).pwr.source = 1 ∧ 328 ≤ 400)
    ∧ (((sc1 0).pwr.dcOk = false ∨ (sc1 0).pwr.source ≠ 1 ∨ 0 < 328))
    ∧ ((sc1 0).pwr.pwrEn = false ∧ ((sc1 0).filtered 3 10000000 = true))
    ∧ (((sc1 0).pwr.pwrEn = true ∨ (sc1 0).filtered 3 0 = false))
    ∧ (((sc1 0).pwr.pwrEn = false ∨ (sc1 0).filtered 3 0 = false))
    ∧ ((sc1 2).pwr.pwrEn = true ∧ ((sc1 2).filtered 3 10000000 = true) ∧ ((sc1 2).pwr.shut.isSome = true ∨ (sc1 2).pwr.ride = false ∧ (sc1 2).pwr.upStep = none ∧ (sc1 2).powered = false))
    ∧ ((sc1 10).pwr.pwrEn = true ∧ ((sc1 10).filtered 3 10000000 = true) ∧ (sc1 10).pwr.shut = none ∧ (sc1 10).pwr.ride = true) := by and_intros <;> decide +kernel
/-- States and operands that meet the hypotheses of each clause of PowerSequences (part 2 of 4). -/
theorem witness_PowerSequences_2 :
    ((sc1 4).pwr.pwrEn = true ∧ ((sc1 4).filtered 3 10000000 = true) ∧ (sc1 4).pwr.shut = none ∧ (sc1 4).pwr.ride = false ∧ (sc1 4).pwr.upStep.isSome = true)
    ∧ ((sc1 7).pwr.pwrEn = true ∧ ((sc1 7).filtered 3 10000000 = true) ∧ (sc1 7).pwr.shut = none ∧ (sc1 7).pwr.ride = false ∧ (sc1 7).pwr.upStep = none ∧ (sc1 7).powered = true)
    ∧ ((sc1 0).pwr.upStep = none)
    ∧ (((sc1 4).pwr.upStep = some 2) ∧ 2 ≤ 2 ∧ 2 ≤ 5)
    ∧ ((sc1 4).pwr.upStep.isSome = true)
    ∧ ((¬((sc1 0).powered = true ∧ (sc1 0).pwr.rails.testBit 0 = true ∧ 0 < 11)))
    ∧ (((sc1 7).powered = true ∧ (sc1 7).pwr.rails.testBit 0 = true ∧ 0 < 11) ∧ (sc1 7).pwr.shut = none)
    ∧ (((sc1 40).powered = true ∧ (sc1 40).pwr.rails.testBit 0 = true ∧ 0 < 11) ∧ (sc1 40).pwr.shut.isSome = true)
    ∧ ((¬((sc1 0).pwr.acOk = false ∧ (sc1 0).pwr.dcOk = false ∧ (sc1 0).pwr.ride = false ∧ (sc1 0).pwr.shut = none) ∨ (sc1 0).pwr.upStep = none ∧ (sc1 0).powered = false))
    ∧ (((sc1 6).pwr.acOk = false ∧ (sc1 6).pwr.dcOk = false ∧ (sc1 6).pwr.ride = false ∧ (sc1 6).pwr.shut = none) ∧ (sc1 6).pwr.upStep.isSome = true)
    ∧ (((sc1 9).pwr.acOk = false ∧ (sc1 9).pwr.dcOk = false ∧ (sc1 9).pwr.ride = false ∧ (sc1 9).pwr.shut = none) ∧ (sc1 9).pwr.upStep = none ∧ (sc1 9).powered = true)
    ∧ (((sc1 10).pwr.ride = true ∧ (sc1 10).ttime < (sc1 10).pwr.failT + 3200000 ∧ (if (false) = true then 160000 else 1600000) ≤ 10000000 ∧ 3600 < 3700)) := by and_intros <;> decide +kernel
/-- States and operands that meet the hypotheses of each clause of PowerSequences (part 3 of 4). -/
theorem witness_PowerSequences_3 :
    ((¬((sc1 0).pwr.ride = true ∧ (sc1 0).ttime < (sc1 0).pwr.failT + 3200000 ∧ (if (false) = true then 160000 else 1600000) ≤ 0 ∧ 3600 < 3000)))
    ∧ ((sc1 10).pwr.ride = true)
    ∧ ((sc1 0).pwr.ride = false)
    ∧ ((sc1 0).pwr.shut = none)
    ∧ (((sc1 13).pwr.shut = some 1) ∧ 1 < 6)
    ∧ (((sc1 13).pwr.shut = some 1))
    ∧ (((sc1 42).pwr.shut = some 2) ∧ (sc1 42).saff.state = 0)
    ∧ (((sc1 14).pwr.shut = some 2) ∧ (sc1 14).saff.state ≠ 0)
    ∧ (((sc1 15).pwr.shut = some 3))
    ∧ (((sc1 16).pwr.shut = some 4))
    ∧ (((sc1 17).pwr.shut = some 5))
    ∧ (((sc1 0).pwr.overT = none ∨ (sc1 0).powered = false)) := by and_intros <;> decide +kernel
/-- States and operands that meet the hypotheses of each clause of PowerSequences (part 4 of 4). -/
theorem witness_PowerSequences_4 :
    (((sc1 18).pwr.overT = some 4000000) ∧ (sc1 18).powered = true ∧ (sc1 18).pwr.shut = none ∧ (sc1 18).pwr.upStep = none)
    ∧ (((sc1 40).pwr.overT = some 4000000) ∧ (sc1 40).powered = true ∧ (sc1 40).pwr.shut.isSome = true)
    ∧ ((0 ≥ 32 ∨ (sc1 0).pwr.state = 0 ∨ (sc1 0).pwr.state = 4))
    ∧ (0 < 32 ∧ (sc1 7).pwr.state ≠ 0 ∧ (sc1 7).pwr.state ≠ 4 ∧ (sc1 7).pwr.shut = none ∧ ((sc1 7).pwr.ride = true ∨ (sc1 7).pwr.upStep = none))
    ∧ (0 < 32 ∧ (sc1 13).pwr.state ≠ 0 ∧ (sc1 13).pwr.state ≠ 4 ∧ (sc1 13).pwr.shut.isSome = true ∧ (sc1 13).pwr.needCool = false)
    ∧ (0 < 32 ∧ (sc1 41).pwr.state ≠ 0 ∧ (sc1 41).pwr.state ≠ 4 ∧ (sc1 41).pwr.shut.isSome = true ∧ (sc1 41).pwr.needCool = true)
    ∧ (0 < 32 ∧ (sc1 4).pwr.state ≠ 0 ∧ (sc1 4).pwr.state ≠ 4 ∧ (sc1 4).pwr.shut = none ∧ (sc1 4).pwr.ride = false ∧ (sc1 4).pwr.upStep.isSome = true) := by and_intros <;> decide +kernel
/-- States and operands that meet the hypotheses of each clause of PowerStatesAndDomains (part 1 of 3). -/
theorem witness_PowerStatesAndDomains_1 :
    (0 < 12 ∧ ((sc2 0).writeGate 0 R.pwrCtrl = Gate.pass) ∧ (¬((sc2 0).powered = true ∧ 1 ≤ bits (0x00000000#32) 3 0 ∧ bits (0x00000000#32) 3 0 ≤ 4 ∧ ((sc2 0).pwr.target = 0 ∨ bits (0x00000000#32) 3 0 = 4 ∨ bits (0x00000000#32) 3 0 = (sc2 0).pwr.target))))
    ∧ (0 < 12 ∧ ((sc2 0).writeGate 0 R.pwrCtrl = Gate.pass) ∧ ((sc2 0).powered = true ∧ 1 ≤ bits (0x00000001#32) 3 0 ∧ bits (0x00000001#32) 3 0 ≤ 4 ∧ ((sc2 0).pwr.target = 0 ∨ bits (0x00000001#32) 3 0 = 4 ∨ bits (0x00000001#32) 3 0 = (sc2 0).pwr.target)) ∧ (bits (0x00000001#32) 3 0 ≠ 4) ∧ (bits (0x00000001#32) 3 0 = (sc2 0).pwr.state ∨ bits (0x00000001#32) 3 0 = (sc2 0).pwr.target ∨ (sc2 0).boot.ready = false))
    ∧ (0 < 12 ∧ ((sc2 0).writeGate 0 R.pwrCtrl = Gate.pass) ∧ ((sc2 0).powered = true ∧ 1 ≤ bits (0x00000002#32) 3 0 ∧ bits (0x00000002#32) 3 0 ≤ 4 ∧ ((sc2 0).pwr.target = 0 ∨ bits (0x00000002#32) 3 0 = 4 ∨ bits (0x00000002#32) 3 0 = (sc2 0).pwr.target)) ∧ (bits (0x00000002#32) 3 0 < 3) ∧ (bits (0x00000002#32) 3 0 ≠ (sc2 0).pwr.state) ∧ (bits (0x00000002#32) 3 0 ≠ (sc2 0).pwr.target) ∧ (sc2 0).boot.ready = true)
    ∧ (0 < 12 ∧ ((sc2 0).writeGate 0 R.pwrCtrl = Gate.pass) ∧ ((sc2 0).powered = true ∧ 1 ≤ bits (0x00000003#32) 3 0 ∧ bits (0x00000003#32) 3 0 ≤ 4 ∧ ((sc2 0).pwr.target = 0 ∨ bits (0x00000003#32) 3 0 = 4 ∨ bits (0x00000003#32) 3 0 = (sc2 0).pwr.target)) ∧ (bits (0x00000003#32) 3 0 = 3) ∧ (bits (0x00000003#32) 3 0 ≠ (sc2 0).pwr.state) ∧ (bits (0x00000003#32) 3 0 ≠ (sc2 0).pwr.target) ∧ (sc2 0).boot.ready = true)
    ∧ (0 < 12 ∧ ((sc2 7).writeGate 0 R.pwrCtrl = Gate.pass) ∧ ((sc2 7).powered = true ∧ 1 ≤ bits (0x00000004#32) 3 0 ∧ bits (0x00000004#32) 3 0 ≤ 4 ∧ ((sc2 7).pwr.target = 0 ∨ bits (0x00000004#32) 3 0 = 4 ∨ bits (0x00000004#32) 3 0 = (sc2 7).pwr.target)) ∧ (bits (0x00000004#32) 3 0 = 4) ∧ (sc2 7).pwr.shut.isSome = true)
    ∧ (0 < 12 ∧ ((sc2 5).writeGate 0 R.pwrCtrl = Gate.pass) ∧ ((sc2 5).powered = true ∧ 1 ≤ bits (0x00000004#32) 3 0 ∧ bits (0x00000004#32) 3 0 ≤ 4 ∧ ((sc2 5).pwr.target = 0 ∨ bits (0x00000004#32) 3 0 = 4 ∨ bits (0x00000004#32) 3 0 = (sc2 5).pwr.target)) ∧ (bits (0x00000004#32) 3 0 = 4) ∧ (sc2 5).pwr.shut = none ∧ (sc2 5).pwr.ride = true)
    ∧ (0 < 12 ∧ ((sc2 6).writeGate 0 R.pwrCtrl = Gate.pass) ∧ ((sc2 6).powered = true ∧ 1 ≤ bits (0x00000004#32) 3 0 ∧ bits (0x00000004#32) 3 0 ≤ 4 ∧ ((sc2 6).pwr.target = 0 ∨ bits (0x00000004#32) 3 0 = 4 ∨ bits (0x00000004#32) 3 0 = (sc2 6).pwr.target)) ∧ (bits (0x00000004#32) 3 0 = 4) ∧ (sc2 6).pwr.shut = none ∧ (sc2 6).pwr.ride = false ∧ (sc2 6).pwr.upStep.isSome = true)
    ∧ (0 < 12 ∧ ((sc2 0).writeGate 0 R.pwrCtrl = Gate.pass) ∧ ((sc2 0).powered = true ∧ 1 ≤ bits (0x00000004#32) 3 0 ∧ bits (0x00000004#32) 3 0 ≤ 4 ∧ ((sc2 0).pwr.target = 0 ∨ bits (0x00000004#32) 3 0 = 4 ∨ bits (0x00000004#32) 3 0 = (sc2 0).pwr.target)) ∧ (bits (0x00000004#32) 3 0 = 4) ∧ (sc2 0).pwr.shut = none ∧ (sc2 0).pwr.ride = false ∧ (sc2 0).pwr.upStep = none)
    ∧ (((sc2 3).powered = false ∨ (sc2 3).boot.ready = false))
    ∧ ((sc2 8).powered = true ∧ (sc2 8).boot.ready = true ∧ (sc2 8).pwr.target ≠ 0 ∧ (sc2 8).pwr.target ≠ 2 ∧ (¬((sc2 8).pwr.target = 3 ∧ (sc2 8).pwr.stopOuts ≠ [] ∧ (sc2 8).ttime < (sc2 8).pwr.stopBy)) ∧ 72 < 96 ∧ ((sc2 8).switchTick.domIsOn 72 ≠ (sc2 8).domIsOn 72))
    ∧ ((sc2 2).powered = true ∧ (sc2 2).boot.ready = true ∧ (sc2 2).pwr.target = 0 ∧ (sc2 2).pwr.state ≠ 2 ∧ 88 < 96 ∧ ((sc2 2).switchTick.domIsOn 88 ≠ (sc2 2).domIsOn 88))
    ∧ ((sc2 1).powered = true ∧ (sc2 1).boot.ready = true ∧ (sc2 1).pwr.target = 0 ∧ (sc2 1).pwr.state = 2 ∧ ((sc2 1).switchTick.domIsOn 6 = true)) := by and_intros <;> decide +kernel
/-- States and operands that meet the hypotheses of each clause of PowerStatesAndDomains (part 2 of 3). -/
theorem witness_PowerStatesAndDomains_2 :
    ((sc2 14).powered = true ∧ (sc2 14).boot.ready = true ∧ (sc2 14).pwr.switched.fst = (sc2 14).tick)
    ∧ ((sc2 2).powered = true ∧ (sc2 2).boot.ready = true ∧ (∃ d, d < 96 ∧ (sc2 2).switchTick.domIsOn d = true ∧ (sc2 2).domIsOn d = false) ∧ 90 < 96 ∧ ((sc2 2).switchTick.domIsOn 90 = true))
    ∧ ((sc2 9).powered = true ∧ (sc2 9).boot.ready = true ∧ ((sc2 9).pwr.target = 3 ∧ (sc2 9).pwr.stopOuts ≠ [] ∧ (sc2 9).ttime < (sc2 9).pwr.stopBy))
    ∧ ((sc2 10).powered = true ∧ (sc2 10).boot.ready = true ∧ (sc2 10).pwr.target = 3 ∧ (¬((sc2 10).pwr.target = 3 ∧ (sc2 10).pwr.stopOuts ≠ [] ∧ (sc2 10).ttime < (sc2 10).pwr.stopBy)) ∧ 7 ∈ (sc2 10).pwr.stopOuts)
    ∧ ((sc2 12).powered = true ∧ (sc2 12).boot.ready = true ∧ (sc2 12).pwr.target ≠ 0 ∧ (sc2 12).pwr.target ≠ 3 ∧ (sc2 12).pwr.domOn = (sc2 12).domGoal ∧ (sc2 12).pwr.state = 3 ∧ 7 ∈ (sc2 12).pwr.keptScan)
    ∧ ((sc2 12).powered = true ∧ (sc2 12).boot.ready = true ∧ (sc2 12).pwr.target ≠ 0 ∧ (sc2 12).pwr.target ≠ 3 ∧ (sc2 12).pwr.domOn = (sc2 12).domGoal ∧ (sc2 12).pwr.state = 3 ∧ ((70, true)) ∈ (sc2 12).pwr.kept)
    ∧ ((sc2 13).powered = true ∧ (sc2 13).boot.ready = true ∧ (sc2 13).pwr.target ≠ 0 ∧ (sc2 13).pwr.target ≠ 3 ∧ (sc2 13).pwr.domOn = (sc2 13).domGoal ∧ (sc2 13).pwr.state ≠ 3)
    ∧ ((sc2 11).powered = true ∧ (sc2 11).boot.ready = true ∧ (sc2 11).pwr.target = 3 ∧ (sc2 11).pwr.stopOuts = [] ∧ (sc2 11).pwr.domOn = (sc2 11).standbyDoms)
    ∧ (6 < 96)
    ∧ (0 < 12 ∧ 0 < 3 ∧ ((sc2 0).writeGate 0 (R.pwrPdReq 0) = Gate.pass) ∧ (∃ d, d < 96 ∧ (d / 32 = 0 ∧ (sc2 0).domPresent d = true ∧ (sc2 0).domAllowed d = true ∧ bit (0x00000000#32) (d % 32) = false) ∧ (88 ≤ d ∨ (sc2 0).domInUse d = true ∧ ¬(80 ≤ d ∧ d < 88))))
    ∧ (0 < 12 ∧ 0 < 3 ∧ ((sc2 0).writeGate 0 (R.pwrPdReq 0) = Gate.pass) ∧ (∀ (d : Nat), d < 96 → d / 32 = 0 ∧ (sc2 0).domPresent d = true ∧ (sc2 0).domAllowed d = true ∧ bit (0xffffffff#32) (d % 32) = false → d < 88 ∧ ((sc2 0).domInUse d = true → 80 ≤ d)))
    ∧ (0 < 12 ∧ 0 < 3 ∧ ((sc2 0).writeGate 0 (R.pwrPdFault 0) = Gate.pass)) := by and_intros <;> decide +kernel
/-- States and operands that meet the hypotheses of each clause of PowerStatesAndDomains (part 3 of 3). -/
theorem witness_PowerStatesAndDomains_3 :
    (3 ≤ 7)
    ∧ (((sc2 1).pwr.state = 2 ∧ 7 < 96 ∧ (sc2 1).domMay 7 = true ∧ (sc2 1).domInUse 7 = true ∧ (sc2 1).domIsOn 7 = false ∧ (List.filter (fun e => (sc2 1).domMay e && !(sc2 1).domIsOn e) (domNeeds 7)).length < (sc2 1).switchRoom))
    ∧ ((¬((sc2 0).pwr.state = 2 ∧ 6 < 96 ∧ (sc2 0).domMay 6 = true ∧ (sc2 0).domInUse 6 = true ∧ (sc2 0).domIsOn 6 = false ∧ (List.filter (fun e => (sc2 0).domMay e && !(sc2 0).domIsOn e) (domNeeds 6)).length < (sc2 0).switchRoom)))
    ∧ (((sc2 4).pwr.idleT.find 6 = some 100) ∧ ((sc2 4).pwr.state = 2 ∧ (sc2 4).domInUse 6 = false ∧ (sc2 4).domIsOn 6 = true ∧ 0 < ((sc2 4).movedTo (max (sc2 4).ttime (ticksAfter (100 - 1) 16))).switchRoom))
    ∧ (((sc2 1).pwr.idleT.find 6 = some 100) ∧ (¬((sc2 1).pwr.state = 2 ∧ (sc2 1).domInUse 6 = false ∧ (sc2 1).domIsOn 6 = true ∧ 0 < ((sc2 1).movedTo (max (sc2 1).ttime (ticksAfter (100 - 1) 16))).switchRoom)))
    ∧ (((sc2 0).pwr.idleT.find 6 = none))
    ∧ ((96 ≤ 99 ∨ (sc2 0).domPresent 99 = false ∨ (sc2 0).domFault 99 = true ∨ (sc2 0).powered = false))
    ∧ (((sc2 0).domPresent 6 = true) ∧ ((sc2 0).domFault 6 = false) ∧ (sc2 0).powered = true) := by and_intros <;> decide +kernel
end ForPowerSequences

namespace ForResets
def base : State := { media with ttime := 5000000, saff := { State.reset.saff with state := 1 }, pwr := { State.reset.pwr with state := 3 }, woad := { State.reset.woad with slots := [(4, {key := [1]})] }, ctr := [(R.pwrPfeCnt, 4), (R.madderSwitchCnt, 7), (R.globalRangeRejectCnt, 9), (R.xbarUartDropCnt, 3), (R.xbarUartErrCnt, 3)] , regs := (R.globalScratch 1, 5) :: (R.madderWtr, 9) :: (R.pwrCtrl, 0x100) :: (R.tamperArm, 7) :: media.regs, mem := { nv := [(5,6)], sram := [(7,8)] , prog := [(0x1000000,6)]} }
def bt (b : Boot) (f : State → State := id) : State := f { base with boot := b }
def scns0 : List State := [(bt { stage := 13, ready := true, fuses := 5, lastService := 4999999 }), {bt { stage := 13, ready := true, lastService := 7 } with pwr := {state := 1, domOn := 5}}, {bt { stage := 13, ready := true } with pwr := {state := 4}, tamperLock := true}]
def scns : List State := [(bt {stage := 1}), (bt {stage := 1, strapBad := true}), (bt {stage := 5, src := 0, rest := [(1,false)], pushT := some 9000000}), (bt {stage := 5, src := 1, rest := [], pushT := some 9000000}), (bt {stage := 14}), (bt {stage := 2}), (bt {stage := 2} (fun s => {s with tamper := {s.tamper with latched := true}})), (bt {stage := 4}), (bt {stage := 6} (fun s => { s with aonEvents := [{code := 0x1003, sev := 1, kind := 0, index := 0, stamp := 5, aon := true}] })), (bt {stage := 7}), (bt {stage := 8}), (bt {stage := 9}), (bt {stage := 10} (fun s => {s with cx := (List.range 4).map (fun i => (i, {checked := true, cap := 64, link := 2}))})), (bt {stage := 11}), (bt {stage := 12}), (bt {stage := 13}), (bt {stage := 13, ready := true, rollback := 5, rbRecord := 3}), (bt {stage := 10} (fun s => {s with cx := (List.range 4).map (fun i => (i, {checked := false, cap := 64, link := 2}))})), (bt {stage := 10} (fun s => {s with cxlSet := 0, cx := (List.range 4).map (fun i => (i, {checked := true}))}))]
def scns2 : List State := [(bt {stage := 13, ready := true}), (bt {stage := 13, ready := true, attest := some (4000000, 0), attNv := base.mem.nv, attProg := base.mem.prog, attBanks := base.banks}), (bt {stage := 13, ready := true, attest := some (4000000, 2)}), (bt {stage := 13, ready := true, attest := some (4000000, 3)})]
def sc1 (k : Nat) : State := scns0.getD k State.reset
def sc2 (k : Nat) : State := scns.getD k State.reset
def sc3 (k : Nat) : State := scns2.getD k State.reset
/-- States and operands that meet the hypotheses of each clause of Resets. -/
theorem witness_Resets :
    ((1 ≤ 1 ∧ 1 ≤ 3 ∧ (1 = 2 → (sc1 0).filtered 0 0 = true)))
    ∧ ((¬(1 ≤ 0 ∧ 0 ≤ 3 ∧ (0 = 2 → (sc1 0).filtered 0 0 = true))))
    ∧ ((sc1 0).powered = true ∧ 6 ≤ (sc1 0).boot.stage)
    ∧ (((sc1 2).powered = false ∨ (sc1 2).boot.stage < 6)) := by and_intros <;> decide +kernel
/-- States and operands that meet the hypotheses of each clause of BootToReady (part 1 of 3). -/
theorem witness_BootToReady_1 :
    ((¬((sc2 1).boot.stage = 1 ∧ (sc2 1).boot.strapBad = false)))
    ∧ ((¬((sc2 0).boot.stage = 1 ∧ (sc2 0).boot.strapBad = true)))
    ∧ ((sc2 0).boot.stage = 1 ∧ (sc2 0).boot.strapBad = false ∧ (true) = true)
    ∧ ((sc2 0).boot.stage = 1 ∧ (sc2 0).boot.strapBad = false ∧ (false) = false ∧ ((1, 40, 3)) ≠ ((1, 41, 3)))
    ∧ ((sc2 0).boot.stage = 1 ∧ (sc2 0).boot.strapBad = false ∧ (false) = false ∧ ((1, 40, 3)) = ((1, 40, 3)))
    ∧ ((sc2 1).boot.stage = 1 ∧ (sc2 1).boot.strapBad = true ∧ (true) = true)
    ∧ ((sc2 1).boot.stage = 1 ∧ (sc2 1).boot.strapBad = true ∧ (false) = false ∧ ((1, 40, 3)) ≠ ((1, 41, 3)))
    ∧ ((sc2 1).boot.stage = 1 ∧ (sc2 1).boot.strapBad = true ∧ (false) = false ∧ ((1, 40, 3)) = ((1, 40, 3)))
    ∧ ((sc2 2).boot.stage = 5 ∧ (sc2 2).boot.src ≠ 1)
    ∧ (((sc2 0).boot.stage ≠ 5 ∨ (sc2 0).boot.src = 1))
    ∧ (0 < 12 ∧ ((sc2 0).writeGate 0 R.globalBootPush = Gate.pass) ∧ (BitVec.toNat (0x00000000#32) < 257 ∨ 33554432 < BitVec.toNat (0x00000000#32) ∨ ¬((sc2 0).boot.stage = 5 ∧ (sc2 0).boot.src = 1 ∨ (sc2 0).boot.stage = 14)))
    ∧ (0 < 12 ∧ ((sc2 3).writeGate 0 R.globalBootPush = Gate.pass) ∧ (257 ≤ BitVec.toNat (0x0000012c#32)) ∧ (BitVec.toNat (0x0000012c#32) ≤ 33554432) ∧ ((sc2 3).boot.stage = 5 ∧ (sc2 3).boot.src = 1 ∨ (sc2 3).boot.stage = 14)) := by and_intros <;> decide +kernel
/-- States and operands that meet the hypotheses of each clause of BootToReady (part 2 of 3). -/
theorem witness_BootToReady_2 :
    (((sc2 3).boot.pushT = some 9000000) ∧ (sc2 3).boot.stage = 5 ∧ (sc2 3).boot.src = 1)
    ∧ (((sc2 0).boot.pushT = none ∨ (sc2 0).boot.stage ≠ 5 ∨ (sc2 0).boot.src ≠ 1))
    ∧ ((sc2 5).boot.stage = 2 ∧ (sc2 5).tamper.latched = false)
    ∧ ((sc2 6).boot.stage = 2 ∧ (sc2 6).tamper.latched = true)
    ∧ ((sc2 7).boot.stage = 4)
    ∧ ((sc2 8).boot.stage = 6)
    ∧ ((sc2 9).boot.stage = 7)
    ∧ ((sc2 10).boot.stage = 8)
    ∧ ((sc2 11).boot.stage = 9)
    ∧ ((sc2 12).boot.stage = 10 ∧ (∀ (x : Nat), x < 4 → (sc2 12).cxlPresent x = true → ((sc2 12).cxPort x).checked = true))
    ∧ ((sc2 17).boot.stage = 10 ∧ (∃ x, x < 4 ∧ (sc2 17).cxlPresent x = true ∧ ((sc2 17).cxPort x).checked = false))
    ∧ ((sc2 13).boot.stage = 11) := by and_intros <;> decide +kernel
/-- States and operands that meet the hypotheses of each clause of BootToReady (part 3 of 3). -/
theorem witness_BootToReady_3 :
    ((sc2 14).boot.stage = 12)
    ∧ ((¬(sc2 0).boot.stage ∈ [2, 4, 6, 7, 8, 9, 10, 11, 12]))
    ∧ (((sc2 0).boot.stage ≠ 13 ∨ (sc2 0).boot.ready = true))
    ∧ ((sc2 15).boot.stage = 13 ∧ (sc2 15).boot.ready = false)
    ∧ (0 < 12 ∧ ((sc2 0).writeGate 0 R.globalRbCommit = Gate.pass) ∧ (bit (0x00000001#32) 0 = true))
    ∧ (0 < 12 ∧ ((sc2 0).writeGate 0 R.globalRbCommit = Gate.pass) ∧ (bit (0x00000002#32) 1 = true))
    ∧ ((bit (0x00000000#32) 0 = false))
    ∧ ((bit (0x00000000#32) 1 = false)) := by and_intros <;> decide +kernel
/-- States and operands that meet the hypotheses of each clause of Attestation. -/
theorem witness_Attestation :
    (0 < 12 ∧ ((sc3 0).writeGate 0 R.globalAttestCtrl = Gate.pass) ∧ (bit (0x00000001#32) 0 = true) ∧ (sc3 0).boot.attest = none)
    ∧ (0 < 12 ∧ ((sc3 1).writeGate 0 R.globalAttestCtrl = Gate.pass) ∧ (bit (0x00000001#32) 0 = true) ∧ (sc3 1).boot.attest.isSome = true)
    ∧ (0 < 12 ∧ ((sc3 0).writeGate 0 R.globalAttestCtrl = Gate.pass) ∧ (bit (0x00000000#32) 0 = false))
    ∧ (((sc3 1).boot.attest = some (4000000, 0)) ∧ ((sc3 1).boot.attProg = (sc3 1).mem.prog ∧ (sc3 1).boot.attNv = (sc3 1).mem.nv ∧ (sc3 1).boot.attBanks = (sc3 1).banks))
    ∧ (((sc3 2).boot.attest = some (4000000, 2)) ∧ (¬((sc3 2).boot.attProg = (sc3 2).mem.prog ∧ (sc3 2).boot.attNv = (sc3 2).mem.nv ∧ (sc3 2).boot.attBanks = (sc3 2).banks)) ∧ 2 < 3)
    ∧ (((sc3 3).boot.attest = some (4000000, 3)) ∧ (¬((sc3 3).boot.attProg = (sc3 3).mem.prog ∧ (sc3 3).boot.attNv = (sc3 3).mem.nv ∧ (sc3 3).boot.attBanks = (sc3 3).banks)) ∧ 3 ≤ 3)
    ∧ ((sc3 0).boot.attest = none) := by and_intros <;> decide +kernel
end ForResets

namespace ForVaultCommands
def on : Pwr := { state := 1, acOk := true, dcOk := true, source := 1, pwrEn := true, rails := 0x7FF, ioGood := true, pwrGood := true, domOn := 2^96-1 }
def base : State := { media with ttime := 5000000, pwr := on, boot := { State.reset.boot with ready := true, stage := 13 }, saff := { State.reset.saff with state := 1 }, cx := [(1, {ide := true, link := 2, checked := true})] }
def sl (typ eng : Nat) (k : Slot17 := {key := [1,2], kcv := 5}) : Slot17 := { k with attr := w_ (typ*2^29 + eng*2^16) }
def slots0 : Tbl Slot17 := [(1, sl 2 0x20), (2, sl 4 0x20), (3, sl 1 0x5F), (4, {attr := w_ (2^29 + 2^28 + 2^27), key := [3], kcv := 1}), (5, {attr := w_ (3*2^29 + 0x50*2^16 + 1), pub := [9], uses := 4096, kcv := 3}), (6, sl 1 0x40), (7, {attr := w_ (3*2^29 + 0x50*2^16), pub := [9], kcv := 3})]
def wd : Woad := { slots := slots0, tamperKek := [7], rslKey := [1], prov := false }
def keyin : Tbl Word := (List.range 18).map (fun k => (R.woadKeyIn 0 + 4*k, w_ (k * 16843009)))
def sh (i : Nat) (v : Bool) : Shadow := { slot := i, attr := w_ (2^29 + 2^16), key := [1,2,3], pub := [], expect := keyCheck 1 [1,2,3] [], verified := v, expires := 9000000 }
def a0 (src wrap force : Nat) : Word := w_ (force * 2^31 + src * 2^28 + wrap*2^8)
def st (a0 a1 : Word) (w : Woad := wd) (f : State → State := id) : State := f { base with woad := w, regs := [(R.woadArg0, a0), (R.woadArg1, a1), (R.woadArg2, 0x01AABBCC), (R.cxlPortCtrl 1, 6), (R.twinCtrl, 0x200)] ++ keyin ++ base.regs }
def att (typ eng : Nat) (o : Nat := 0) : Word := w_ (typ*2^29 + eng*2^16 + o)
def twinS (s : State) : State := { s with twin := { s.twin with standby := true, phase := .paired } }
def scns : List State := [(st (a0 0 3 0) (att 1 1)), (st (a0 1 0 0) (att 1 1)), (st (a0 2 6 0) (att 1 1)), (st (a0 3 0 0) (att 3 0x10)), (st (a0 3 0 0) (att 1 1)), (st (a0 1 0 0) (att 0 0)), (st (a0 1 0 0) (att 3 0x10)), (st (a0 1 0 0) (att 1 0x7f)), (st (a0 0 0 0) (att 3 0x10)), (st (a0 7 0 0) (att 5 0)),
 (st (a0 1 0 0) (att 1 1) {wd with shadow := some (sh 2 true)}), (st (a0 1 0 0) (att 1 1) {wd with shadow := some (sh 2 false)}), (st (a0 1 0 0) (att 1 1) {wd with shadow := some {sh 2 false with expect := 77}}), (st (a0 1 0 0) (att 1 1) {wd with shadow := some (sh 3 false)}),
 (st (a0 1 0 1) (att 1 1)), (st (a0 1 0 1) (att 1 1) {wd with op := some {op := 3, slot := 2, new := {}}}), (st (a0 1 0 1) (att 1 1) {wd with vaultShut := true}), (st (a0 1 0 1) (att 1 1) wd (fun s => {s with tamperLock := true})),
 (twinS (st (a0 1 0 1) (w_ (2^29+2^28)))), (st (a0 1 0 1) (att 2 0x20 5)), (st (a0 1 0 1) (att 4 0)), (st 0 0 {wd with op := some {op := 3, slot := 2, new := {key := [5]}, limit := 4000000}} (fun s => {s with saff := {s.saff with pieces := [{pages := [(1024, [])]}, {pages := [], fin := .woadA 2}]}})), (st 0 0 {wd with op := some {op := 5, slot := 4, new := {}, limit := 4000000, copyA := true}}), (st 0 0 {wd with op := some {op := 3, slot := 1, new := {key := [5], kcv := 8, attr := w_ (2^29+2^28)}, limit := 4000000, copyA := true}}), (st 0 0 {wd with op := some {op := 3, slot := 1, new := {key := [5], kcv := 8, attr := w_ (2^29+2^28)}, limit := 9000000, copyA := true}}), (st (a0 1 0 1) (att 1 1) wd (fun s => {s with pwr := {s.pwr with shut := some 2}})), (st (a0 1 0 1) (att 1 1) {wd with prov := true})]
def arm (s : State) (r : Bool := false) : State := { s with regs := (R.tamperArm, 0xF) :: (R.tamperCtrl, if r then 1 else 0) :: s.regs }
def wd4 : Woad := { wd with shadow := some (sh 2 true) }
def scns2 : List State := [(st 0 0 wd4), (arm (st 0 0 wd4)), (arm (st 0 0 wd4) true), (arm (st 0 0 wd4 (fun s => {s with tamperLock := true, boot := { s.boot with stage := 15, ready := false}}))), (arm (st 0 0 wd4 (fun s => {s with boot := { s.boot with stage := 5, ready := false}}))), (arm (st 0 0 wd4 (fun s => {s with pwr := {}, boot := {s.boot with stage := 0, ready := false}}))), (arm (st 0 0 wd4 (fun s => {s with pwr := {s.pwr with state := 3}}))), (arm (st 0 0 {wd4 with op := some {op := 6, slot := 4, new := {attr := w_ (2^29), key := [3]}}}) true),
 (st 0 0 wd4 (fun s => {s with tamper := { chal := some ([1,2], 6000000), latched := true, current := 4 }, saff := {s.saff with chal := some ([1,2], 6000000)}})), (st 0 0 wd4 (fun s => {s with tamper := { chalFrom := 9000000 }}))]
def sc1 (k : Nat) : State := scns.getD k State.reset
def sc2 (k : Nat) : State := scns2.getD k State.reset
/-- States and operands that meet the hypotheses of each clause of VaultCommands (part 1 of 16). -/
theorem witness_VaultCommands_1 :
    (0 < 12 ∧ ((sc1 5).writeGate 0 R.woadCmd = Gate.pass) ∧ ((sc1 5).regBits R.woadArg1 31 29 = 0 ∨ 4 < (sc1 5).regBits R.woadArg1 31 29))
    ∧ (0 < 12 ∧ ((sc1 0).writeGate 0 R.woadCmd = Gate.pass) ∧ (1 ≤ (sc1 0).regBits R.woadArg1 31 29) ∧ ((sc1 0).regBits R.woadArg1 31 29 ≤ 4) ∧ (¬((0 < 4 ∨ 0 = 8) ∧ bits (0x20000001#32) 31 28 = 1 ∧ bits (0x20000001#32) 27 8 = 0 ∧ bits (0x20000001#32) 7 0 ≠ 0 ∧ (1 = 1 → (sc1 0).regBits R.woadArg0 30 28 < 4))))
    ∧ (0 < 12 ∧ ((sc1 15).writeGate 0 R.woadCmd = Gate.pass) ∧ (1 ≤ (sc1 15).regBits R.woadArg1 31 29) ∧ ((sc1 15).regBits R.woadArg1 31 29 ≤ 4) ∧ ((0 < 4 ∨ 0 = 8) ∧ bits (0x10000001#32) 31 28 = 1 ∧ bits (0x10000001#32) 27 8 = 0 ∧ bits (0x10000001#32) 7 0 ≠ 0 ∧ (1 = 1 → (sc1 15).regBits R.woadArg0 30 28 < 4)) ∧ ((if (sc1 15).tamperLock = true then some stTamper else if (sc1 15).woad.vaultShut = true ∨ (sc1 15).pwr.shut.isSome = true then some stAborted else if (sc1 15).woad.op.isSome = true then some stBusy else none) = some 2))
    ∧ (0 < 12 ∧ ((sc1 18).writeGate 0 R.woadCmd = Gate.pass) ∧ (1 ≤ (sc1 18).regBits R.woadArg1 31 29) ∧ ((sc1 18).regBits R.woadArg1 31 29 ≤ 4) ∧ ((0 < 4 ∨ 0 = 8) ∧ bits (0x10000004#32) 31 28 = 1 ∧ bits (0x10000004#32) 27 8 = 0 ∧ bits (0x10000004#32) 7 0 ≠ 0 ∧ (1 = 1 → (sc1 18).regBits R.woadArg0 30 28 < 4)) ∧ ((if (sc1 18).tamperLock = true then some stTamper else if (sc1 18).woad.vaultShut = true ∨ (sc1 18).pwr.shut.isSome = true then some stAborted else if (sc1 18).woad.op.isSome = true then some stBusy else none) = none) ∧ ((sc1 18).woad.shadow = none ∨ 1 ≠ 1) ∧ ((sc1 18).isStandby = true ∧ bit ((sc1 18).slot (bits (0x10000004#32) 7 0)).attr 28 = true))
    ∧ (0 < 12 ∧ ((sc1 10).writeGate 0 R.woadCmd = Gate.pass) ∧ (1 ≤ (sc1 10).regBits R.woadArg1 31 29) ∧ ((sc1 10).regBits R.woadArg1 31 29 ≤ 4) ∧ ((0 < 4 ∨ 0 = 8) ∧ bits (0x10000001#32) 31 28 = 1 ∧ bits (0x10000001#32) 27 8 = 0 ∧ bits (0x10000001#32) 7 0 ≠ 0 ∧ (1 = 1 → (sc1 10).regBits R.woadArg0 30 28 < 4)) ∧ ((if (sc1 10).tamperLock = true then some stTamper else if (sc1 10).woad.vaultShut = true ∨ (sc1 10).pwr.shut.isSome = true then some stAborted else if (sc1 10).woad.op.isSome = true then some stBusy else none) = none) ∧ (sc1 10).woad.shadow.isSome = true)
    ∧ (0 < 12 ∧ ((sc1 0).writeGate 0 R.woadCmd = Gate.pass) ∧ (¬((0 < 4 ∨ 0 = 8) ∧ bits (0x10000001#32) 31 28 = 2 ∧ bits (0x10000001#32) 27 8 = 0 ∧ bits (0x10000001#32) 7 0 ≠ 0 ∧ (2 = 1 → (sc1 0).regBits R.woadArg0 30 28 < 4))))
    ∧ (0 < 12 ∧ ((sc1 15).writeGate 0 R.woadCmd = Gate.pass) ∧ ((0 < 4 ∨ 0 = 8) ∧ bits (0x20000001#32) 31 28 = 2 ∧ bits (0x20000001#32) 27 8 = 0 ∧ bits (0x20000001#32) 7 0 ≠ 0 ∧ (2 = 1 → (sc1 15).regBits R.woadArg0 30 28 < 4)) ∧ ((if (sc1 15).tamperLock = true then some stTamper else if (sc1 15).woad.vaultShut = true ∨ (sc1 15).pwr.shut.isSome = true then some stAborted else if (sc1 15).woad.op.isSome = true then some stBusy else none) = some 2))
    ∧ (0 < 12 ∧ ((sc1 18).writeGate 0 R.woadCmd = Gate.pass) ∧ ((0 < 4 ∨ 0 = 8) ∧ bits (0x20000004#32) 31 28 = 2 ∧ bits (0x20000004#32) 27 8 = 0 ∧ bits (0x20000004#32) 7 0 ≠ 0 ∧ (2 = 1 → (sc1 18).regBits R.woadArg0 30 28 < 4)) ∧ ((if (sc1 18).tamperLock = true then some stTamper else if (sc1 18).woad.vaultShut = true ∨ (sc1 18).pwr.shut.isSome = true then some stAborted else if (sc1 18).woad.op.isSome = true then some stBusy else none) = none) ∧ ((sc1 18).woad.shadow = none ∨ 2 ≠ 1) ∧ ((sc1 18).isStandby = true ∧ bit ((sc1 18).slot (bits (0x20000004#32) 7 0)).attr 28 = true))
    ∧ (0 < 12 ∧ ((sc1 0).writeGate 0 R.woadCmd = Gate.pass) ∧ (¬((0 < 4 ∨ 0 = 8) ∧ bits (0x10000001#32) 31 28 = 3 ∧ bits (0x10000001#32) 27 8 = 0 ∧ bits (0x10000001#32) 7 0 ≠ 0 ∧ (3 = 1 → (sc1 0).regBits R.woadArg0 30 28 < 4))))
    ∧ (0 < 12 ∧ ((sc1 15).writeGate 0 R.woadCmd = Gate.pass) ∧ ((0 < 4 ∨ 0 = 8) ∧ bits (0x30000001#32) 31 28 = 3 ∧ bits (0x30000001#32) 27 8 = 0 ∧ bits (0x30000001#32) 7 0 ≠ 0 ∧ (3 = 1 → (sc1 15).regBits R.woadArg0 30 28 < 4)) ∧ ((if (sc1 15).tamperLock = true then some stTamper else if (sc1 15).woad.vaultShut = true ∨ (sc1 15).pwr.shut.isSome = true then some stAborted else if (sc1 15).woad.op.isSome = true then some stBusy else none) = some 2))
    ∧ (0 < 12 ∧ ((sc1 18).writeGate 0 R.woadCmd = Gate.pass) ∧ ((0 < 4 ∨ 0 = 8) ∧ bits (0x30000004#32) 31 28 = 3 ∧ bits (0x30000004#32) 27 8 = 0 ∧ bits (0x30000004#32) 7 0 ≠ 0 ∧ (3 = 1 → (sc1 18).regBits R.woadArg0 30 28 < 4)) ∧ ((if (sc1 18).tamperLock = true then some stTamper else if (sc1 18).woad.vaultShut = true ∨ (sc1 18).pwr.shut.isSome = true then some stAborted else if (sc1 18).woad.op.isSome = true then some stBusy else none) = none) ∧ ((sc1 18).woad.shadow = none ∨ 3 ≠ 1) ∧ ((sc1 18).isStandby = true ∧ bit ((sc1 18).slot (bits (0x30000004#32) 7 0)).attr 28 = true))
    ∧ (0 < 12 ∧ ((sc1 0).writeGate 0 R.woadCmd = Gate.pass) ∧ (¬((0 < 4 ∨ 0 = 8) ∧ bits (0x10000001#32) 31 28 = 4 ∧ bits (0x10000001#32) 27 8 = 0 ∧ bits (0x10000001#32) 7 0 ≠ 0 ∧ (4 = 1 → (sc1 0).regBits R.woadArg0 30 28 < 4)))) := by and_intros <;> decide +kernel
/-- States and operands that meet the hypotheses of each clause of VaultCommands (part 2 of 16). -/
theorem witness_VaultCommands_2 :
    (0 < 12 ∧ ((sc1 15).writeGate 0 R.woadCmd = Gate.pass) ∧ ((0 < 4 ∨ 0 = 8) ∧ bits (0x40000001#32) 31 28 = 4 ∧ bits (0x40000001#32) 27 8 = 0 ∧ bits (0x40000001#32) 7 0 ≠ 0 ∧ (4 = 1 → (sc1 15).regBits R.woadArg0 30 28 < 4)) ∧ ((if (sc1 15).tamperLock = true then some stTamper else if (sc1 15).woad.vaultShut = true ∨ (sc1 15).pwr.shut.isSome = true then some stAborted else if (sc1 15).woad.op.isSome = true then some stBusy else none) = some 2))
    ∧ (0 < 12 ∧ ((sc1 18).writeGate 0 R.woadCmd = Gate.pass) ∧ ((0 < 4 ∨ 0 = 8) ∧ bits (0x40000004#32) 31 28 = 4 ∧ bits (0x40000004#32) 27 8 = 0 ∧ bits (0x40000004#32) 7 0 ≠ 0 ∧ (4 = 1 → (sc1 18).regBits R.woadArg0 30 28 < 4)) ∧ ((if (sc1 18).tamperLock = true then some stTamper else if (sc1 18).woad.vaultShut = true ∨ (sc1 18).pwr.shut.isSome = true then some stAborted else if (sc1 18).woad.op.isSome = true then some stBusy else none) = none) ∧ ((sc1 18).woad.shadow = none ∨ 4 ≠ 1) ∧ ((sc1 18).isStandby = true ∧ bit ((sc1 18).slot (bits (0x40000004#32) 7 0)).attr 28 = true))
    ∧ (0 < 12 ∧ ((sc1 0).writeGate 0 R.woadCmd = Gate.pass) ∧ (¬((0 < 4 ∨ 0 = 8) ∧ bits (0x10000001#32) 31 28 = 5 ∧ bits (0x10000001#32) 27 8 = 0 ∧ bits (0x10000001#32) 7 0 ≠ 0 ∧ (5 = 1 → (sc1 0).regBits R.woadArg0 30 28 < 4))))
    ∧ (0 < 12 ∧ ((sc1 15).writeGate 0 R.woadCmd = Gate.pass) ∧ ((0 < 4 ∨ 0 = 8) ∧ bits (0x50000001#32) 31 28 = 5 ∧ bits (0x50000001#32) 27 8 = 0 ∧ bits (0x50000001#32) 7 0 ≠ 0 ∧ (5 = 1 → (sc1 15).regBits R.woadArg0 30 28 < 4)) ∧ ((if (sc1 15).tamperLock = true then some stTamper else if (sc1 15).woad.vaultShut = true ∨ (sc1 15).pwr.shut.isSome = true then some stAborted else if (sc1 15).woad.op.isSome = true then some stBusy else none) = some 2))
    ∧ (0 < 12 ∧ ((sc1 18).writeGate 0 R.woadCmd = Gate.pass) ∧ ((0 < 4 ∨ 0 = 8) ∧ bits (0x50000004#32) 31 28 = 5 ∧ bits (0x50000004#32) 27 8 = 0 ∧ bits (0x50000004#32) 7 0 ≠ 0 ∧ (5 = 1 → (sc1 18).regBits R.woadArg0 30 28 < 4)) ∧ ((if (sc1 18).tamperLock = true then some stTamper else if (sc1 18).woad.vaultShut = true ∨ (sc1 18).pwr.shut.isSome = true then some stAborted else if (sc1 18).woad.op.isSome = true then some stBusy else none) = none) ∧ ((sc1 18).woad.shadow = none ∨ 5 ≠ 1) ∧ ((sc1 18).isStandby = true ∧ bit ((sc1 18).slot (bits (0x50000004#32) 7 0)).attr 28 = true))
    ∧ (0 < 12 ∧ ((sc1 0).writeGate 0 R.woadCmd = Gate.pass) ∧ (¬((0 < 4 ∨ 0 = 8) ∧ bits (0x10000001#32) 31 28 = 6 ∧ bits (0x10000001#32) 27 8 = 0 ∧ bits (0x10000001#32) 7 0 ≠ 0 ∧ (6 = 1 → (sc1 0).regBits R.woadArg0 30 28 < 4))))
    ∧ (0 < 12 ∧ ((sc1 15).writeGate 0 R.woadCmd = Gate.pass) ∧ ((0 < 4 ∨ 0 = 8) ∧ bits (0x60000001#32) 31 28 = 6 ∧ bits (0x60000001#32) 27 8 = 0 ∧ bits (0x60000001#32) 7 0 ≠ 0 ∧ (6 = 1 → (sc1 15).regBits R.woadArg0 30 28 < 4)) ∧ ((if (sc1 15).tamperLock = true then some stTamper else if (sc1 15).woad.vaultShut = true ∨ (sc1 15).pwr.shut.isSome = true then some stAborted else if (sc1 15).woad.op.isSome = true then some stBusy else none) = some 2))
    ∧ (0 < 12 ∧ ((sc1 18).writeGate 0 R.woadCmd = Gate.pass) ∧ ((0 < 4 ∨ 0 = 8) ∧ bits (0x60000004#32) 31 28 = 6 ∧ bits (0x60000004#32) 27 8 = 0 ∧ bits (0x60000004#32) 7 0 ≠ 0 ∧ (6 = 1 → (sc1 18).regBits R.woadArg0 30 28 < 4)) ∧ ((if (sc1 18).tamperLock = true then some stTamper else if (sc1 18).woad.vaultShut = true ∨ (sc1 18).pwr.shut.isSome = true then some stAborted else if (sc1 18).woad.op.isSome = true then some stBusy else none) = none) ∧ ((sc1 18).woad.shadow = none ∨ 6 ≠ 1) ∧ ((sc1 18).isStandby = true ∧ bit ((sc1 18).slot (bits (0x60000004#32) 7 0)).attr 28 = true))
    ∧ (0 < 12 ∧ ((sc1 0).writeGate 0 R.woadCmd = Gate.pass) ∧ (¬((0 < 4 ∨ 0 = 8) ∧ bits (0x10000001#32) 31 28 = 7 ∧ bits (0x10000001#32) 27 8 = 0 ∧ bits (0x10000001#32) 7 0 ≠ 0 ∧ (7 = 1 → (sc1 0).regBits R.woadArg0 30 28 < 4))))
    ∧ (0 < 12 ∧ ((sc1 15).writeGate 0 R.woadCmd = Gate.pass) ∧ ((0 < 4 ∨ 0 = 8) ∧ bits (0x70000001#32) 31 28 = 7 ∧ bits (0x70000001#32) 27 8 = 0 ∧ bits (0x70000001#32) 7 0 ≠ 0 ∧ (7 = 1 → (sc1 15).regBits R.woadArg0 30 28 < 4)) ∧ ((if (sc1 15).tamperLock = true then some stTamper else if (sc1 15).woad.vaultShut = true ∨ (sc1 15).pwr.shut.isSome = true then some stAborted else if (sc1 15).woad.op.isSome = true then some stBusy else none) = some 2))
    ∧ (0 < 12 ∧ ((sc1 18).writeGate 0 R.woadCmd = Gate.pass) ∧ ((0 < 4 ∨ 0 = 8) ∧ bits (0x70000004#32) 31 28 = 7 ∧ bits (0x70000004#32) 27 8 = 0 ∧ bits (0x70000004#32) 7 0 ≠ 0 ∧ (7 = 1 → (sc1 18).regBits R.woadArg0 30 28 < 4)) ∧ ((if (sc1 18).tamperLock = true then some stTamper else if (sc1 18).woad.vaultShut = true ∨ (sc1 18).pwr.shut.isSome = true then some stAborted else if (sc1 18).woad.op.isSome = true then some stBusy else none) = none) ∧ ((sc1 18).woad.shadow = none ∨ 7 ≠ 1) ∧ ((sc1 18).isStandby = true ∧ bit ((sc1 18).slot (bits (0x70000004#32) 7 0)).attr 28 = true))
    ∧ (0 < 12 ∧ ((sc1 0).writeGate 0 R.woadCmd = Gate.pass) ∧ (¬((0 < 4 ∨ 0 = 8) ∧ bits (0x10000001#32) 31 28 = 8 ∧ bits (0x10000001#32) 27 8 = 0 ∧ bits (0x10000001#32) 7 0 ≠ 0 ∧ (8 = 1 → (sc1 0).regBits R.woadArg0 30 28 < 4)))) := by and_intros <;> decide +kernel
/-- States and operands that meet the hypotheses of each clause of VaultCommands (part 3 of 16). -/
theorem witness_VaultCommands_3 :
    (0 < 12 ∧ ((sc1 15).writeGate 0 R.woadCmd = Gate.pass) ∧ ((0 < 4 ∨ 0 = 8) ∧ bits (0x80000001#32) 31 28 = 8 ∧ bits (0x80000001#32) 27 8 = 0 ∧ bits (0x80000001#32) 7 0 ≠ 0 ∧ (8 = 1 → (sc1 15).regBits R.woadArg0 30 28 < 4)) ∧ ((if (sc1 15).tamperLock = true then some stTamper else if (sc1 15).woad.vaultShut = true ∨ (sc1 15).pwr.shut.isSome = true then some stAborted else if (sc1 15).woad.op.isSome = true then some stBusy else none) = some 2))
    ∧ (0 < 12 ∧ ((sc1 18).writeGate 0 R.woadCmd = Gate.pass) ∧ ((0 < 4 ∨ 0 = 8) ∧ bits (0x80000004#32) 31 28 = 8 ∧ bits (0x80000004#32) 27 8 = 0 ∧ bits (0x80000004#32) 7 0 ≠ 0 ∧ (8 = 1 → (sc1 18).regBits R.woadArg0 30 28 < 4)) ∧ ((if (sc1 18).tamperLock = true then some stTamper else if (sc1 18).woad.vaultShut = true ∨ (sc1 18).pwr.shut.isSome = true then some stAborted else if (sc1 18).woad.op.isSome = true then some stBusy else none) = none) ∧ ((sc1 18).woad.shadow = none ∨ 8 ≠ 1) ∧ ((sc1 18).isStandby = true ∧ bit ((sc1 18).slot (bits (0x80000004#32) 7 0)).attr 28 = true))
    ∧ (0 < 12 ∧ ((sc1 7).writeGate 0 R.woadCmd = Gate.pass) ∧ (((0 < 4 ∨ 0 = 8) ∧ bits (0x10000001#32) 31 28 = 1 ∧ bits (0x10000001#32) 27 8 = 0 ∧ bits (0x10000001#32) 7 0 ≠ 0 ∧ (1 = 1 → (sc1 7).regBits R.woadArg0 30 28 < 4)) ∧ (if (sc1 7).tamperLock = true then some stTamper else if (sc1 7).woad.vaultShut = true ∨ (sc1 7).pwr.shut.isSome = true then some stAborted else if (sc1 7).woad.op.isSome = true then some stBusy else none) = none ∧ ¬((sc1 7).isStandby = true ∧ bit ((sc1 7).slot (bits (0x10000001#32) 7 0)).attr 28 = true) ∧ (1 = 1 → (sc1 7).woad.shadow = none)) ∧ (1 ≤ (sc1 7).regBits R.woadArg1 31 29) ∧ ((sc1 7).regBits R.woadArg1 31 29 ≤ 4) ∧ ((sc1 7).stageDenied ((sc1 7).reg R.woadArg1) ((sc1 7).regBits R.woadArg0 30 28) ((sc1 7).regBits R.woadArg0 15 8) = true))
    ∧ (0 < 12 ∧ ((sc1 4).writeGate 0 R.woadCmd = Gate.pass) ∧ (((0 < 4 ∨ 0 = 8) ∧ bits (0x10000001#32) 31 28 = 1 ∧ bits (0x10000001#32) 27 8 = 0 ∧ bits (0x10000001#32) 7 0 ≠ 0 ∧ (1 = 1 → (sc1 4).regBits R.woadArg0 30 28 < 4)) ∧ (if (sc1 4).tamperLock = true then some stTamper else if (sc1 4).woad.vaultShut = true ∨ (sc1 4).pwr.shut.isSome = true then some stAborted else if (sc1 4).woad.op.isSome = true then some stBusy else none) = none ∧ ¬((sc1 4).isStandby = true ∧ bit ((sc1 4).slot (bits (0x10000001#32) 7 0)).attr 28 = true) ∧ (1 = 1 → (sc1 4).woad.shadow = none)) ∧ (1 ≤ (sc1 4).regBits R.woadArg1 31 29) ∧ ((sc1 4).regBits R.woadArg1 31 29 ≤ 4) ∧ ((sc1 4).stageDenied ((sc1 4).reg R.woadArg1) ((sc1 4).regBits R.woadArg0 30 28) ((sc1 4).regBits R.woadArg0 15 8) = false) ∧ ((sc1 4).regBits R.woadArg0 30 28 = 0 ∨ (sc1 4).regBits R.woadArg0 30 28 = 3) ∧ ((sc1 4).regBits R.woadArg1 31 29 = 3 ↔ (sc1 4).regBits R.woadArg0 30 28 = 0))
    ∧ (0 < 12 ∧ ((sc1 1).writeGate 0 R.woadCmd = Gate.pass) ∧ (((0 < 4 ∨ 0 = 8) ∧ bits (0x10000001#32) 31 28 = 1 ∧ bits (0x10000001#32) 27 8 = 0 ∧ bits (0x10000001#32) 7 0 ≠ 0 ∧ (1 = 1 → (sc1 1).regBits R.woadArg0 30 28 < 4)) ∧ (if (sc1 1).tamperLock = true then some stTamper else if (sc1 1).woad.vaultShut = true ∨ (sc1 1).pwr.shut.isSome = true then some stAborted else if (sc1 1).woad.op.isSome = true then some stBusy else none) = none ∧ ¬((sc1 1).isStandby = true ∧ bit ((sc1 1).slot (bits (0x10000001#32) 7 0)).attr 28 = true) ∧ (1 = 1 → (sc1 1).woad.shadow = none)) ∧ (1 ≤ (sc1 1).regBits R.woadArg1 31 29) ∧ ((sc1 1).regBits R.woadArg1 31 29 ≤ 4) ∧ ((sc1 1).stageDenied ((sc1 1).reg R.woadArg1) ((sc1 1).regBits R.woadArg0 30 28) ((sc1 1).regBits R.woadArg0 15 8) = false) ∧ ((sc1 1).regBits R.woadArg0 30 28 = 1 ∨ (sc1 1).regBits R.woadArg0 30 28 = 3 ∧ (sc1 1).regBits R.woadArg1 31 29 = 3))
    ∧ (0 < 12 ∧ ((sc1 0).writeGate 0 R.woadCmd = Gate.pass) ∧ (((0 < 4 ∨ 0 = 8) ∧ bits (0x10000001#32) 31 28 = 1 ∧ bits (0x10000001#32) 27 8 = 0 ∧ bits (0x10000001#32) 7 0 ≠ 0 ∧ (1 = 1 → (sc1 0).regBits R.woadArg0 30 28 < 4)) ∧ (if (sc1 0).tamperLock = true then some stTamper else if (sc1 0).woad.vaultShut = true ∨ (sc1 0).pwr.shut.isSome = true then some stAborted else if (sc1 0).woad.op.isSome = true then some stBusy else none) = none ∧ ¬((sc1 0).isStandby = true ∧ bit ((sc1 0).slot (bits (0x10000001#32) 7 0)).attr 28 = true) ∧ (1 = 1 → (sc1 0).woad.shadow = none)) ∧ (1 ≤ (sc1 0).regBits R.woadArg1 31 29) ∧ ((sc1 0).regBits R.woadArg1 31 29 ≤ 4) ∧ ((sc1 0).stageDenied ((sc1 0).reg R.woadArg1) ((sc1 0).regBits R.woadArg0 30 28) ((sc1 0).regBits R.woadArg0 15 8) = false) ∧ ((sc1 0).regBits R.woadArg0 30 28 = 0) ∧ ((sc1 0).regBits R.woadArg1 31 29 ≠ 3))
    ∧ (0 < 12 ∧ ((sc1 2).writeGate 0 R.woadCmd = Gate.pass) ∧ (((0 < 4 ∨ 0 = 8) ∧ bits (0x10000001#32) 31 28 = 1 ∧ bits (0x10000001#32) 27 8 = 0 ∧ bits (0x10000001#32) 7 0 ≠ 0 ∧ (1 = 1 → (sc1 2).regBits R.woadArg0 30 28 < 4)) ∧ (if (sc1 2).tamperLock = true then some stTamper else if (sc1 2).woad.vaultShut = true ∨ (sc1 2).pwr.shut.isSome = true then some stAborted else if (sc1 2).woad.op.isSome = true then some stBusy else none) = none ∧ ¬((sc1 2).isStandby = true ∧ bit ((sc1 2).slot (bits (0x10000001#32) 7 0)).attr 28 = true) ∧ (1 = 1 → (sc1 2).woad.shadow = none)) ∧ (1 ≤ (sc1 2).regBits R.woadArg1 31 29) ∧ ((sc1 2).regBits R.woadArg1 31 29 ≤ 4) ∧ ((sc1 2).regBits R.woadArg0 30 28 = 2) ∧ ((sc1 2).stageDenied ((sc1 2).reg R.woadArg1) ((sc1 2).regBits R.woadArg0 30 28) ((sc1 2).regBits R.woadArg0 15 8) = false))
    ∧ (0 < 12 ∧ ((sc1 0).writeGate 0 R.woadCmd = Gate.pass) ∧ (((0 < 4 ∨ 0 = 8) ∧ bits (0x20000001#32) 31 28 = 2 ∧ bits (0x20000001#32) 27 8 = 0 ∧ bits (0x20000001#32) 7 0 ≠ 0 ∧ (2 = 1 → (sc1 0).regBits R.woadArg0 30 28 < 4)) ∧ (if (sc1 0).tamperLock = true then some stTamper else if (sc1 0).woad.vaultShut = true ∨ (sc1 0).pwr.shut.isSome = true then some stAborted else if (sc1 0).woad.op.isSome = true then some stBusy else none) = none ∧ ¬((sc1 0).isStandby = true ∧ bit ((sc1 0).slot (bits (0x20000001#32) 7 0)).attr 28 = true) ∧ (2 = 1 → (sc1 0).woad.shadow = none)) ∧ (sc1 0).woad.shadow = none)
    ∧ (0 < 12 ∧ ((sc1 0).writeGate 0 R.woadCmd = Gate.pass) ∧ (((0 < 4 ∨ 0 = 8) ∧ bits (0x30000001#32) 31 28 = 3 ∧ bits (0x30000001#32) 27 8 = 0 ∧ bits (0x30000001#32) 7 0 ≠ 0 ∧ (3 = 1 → (sc1 0).regBits R.woadArg0 30 28 < 4)) ∧ (if (sc1 0).tamperLock = true then some stTamper else if (sc1 0).woad.vaultShut = true ∨ (sc1 0).pwr.shut.isSome = true then some stAborted else if (sc1 0).woad.op.isSome = true then some stBusy else none) = none ∧ ¬((sc1 0).isStandby = true ∧ bit ((sc1 0).slot (bits (0x30000001#32) 7 0)).attr 28 = true) ∧ (3 = 1 → (sc1 0).woad.shadow = none)) ∧ (∀ (x : Shadow), (sc1 0).woad.shadow = some x → x.slot ≠ bits (0x30000001#32) 7 0 ∨ x.verified = false))
    ∧ (0 < 12 ∧ ((sc1 0).writeGate 0 R.woadCmd = Gate.pass) ∧ (((0 < 4 ∨ 0 = 8) ∧ bits (0x40000001#32) 31 28 = 4 ∧ bits (0x40000001#32) 27 8 = 0 ∧ bits (0x40000001#32) 7 0 ≠ 0 ∧ (4 = 1 → (sc1 0).regBits R.woadArg0 30 28 < 4)) ∧ (if (sc1 0).tamperLock = true then some stTamper else if (sc1 0).woad.vaultShut = true ∨ (sc1 0).pwr.shut.isSome = true then some stAborted else if (sc1 0).woad.op.isSome = true then some stBusy else none) = none ∧ ¬((sc1 0).isStandby = true ∧ bit ((sc1 0).slot (bits (0x40000001#32) 7 0)).attr 28 = true) ∧ (4 = 1 → (sc1 0).woad.shadow = none)))
    ∧ (0 < 12 ∧ ((sc1 0).writeGate 0 R.woadCmd = Gate.pass) ∧ (((0 < 4 ∨ 0 = 8) ∧ bits (0x50000002#32) 31 28 = 5 ∧ bits (0x50000002#32) 27 8 = 0 ∧ bits (0x50000002#32) 7 0 ≠ 0 ∧ (5 = 1 → (sc1 0).regBits R.woadArg0 30 28 < 4)) ∧ (if (sc1 0).tamperLock = true then some stTamper else if (sc1 0).woad.vaultShut = true ∨ (sc1 0).pwr.shut.isSome = true then some stAborted else if (sc1 0).woad.op.isSome = true then some stBusy else none) = none ∧ ¬((sc1 0).isStandby = true ∧ bit ((sc1 0).slot (bits (0x50000002#32) 7 0)).attr 28 = true) ∧ (5 = 1 → (sc1 0).woad.shadow = none)) ∧ ((sc1 0).slotBound (bits (0x50000002#32) 7 0) = true) ∧ (bit ((sc1 0).reg R.woadArg0) 31 = false))
    ∧ (0 < 12 ∧ ((sc1 0).writeGate 0 R.woadCmd = Gate.pass) ∧ (((0 < 4 ∨ 0 = 8) ∧ bits (0x50000001#32) 31 28 = 5 ∧ bits (0x50000001#32) 27 8 = 0 ∧ bits (0x50000001#32) 7 0 ≠ 0 ∧ (5 = 1 → (sc1 0).regBits R.woadArg0 30 28 < 4)) ∧ (if (sc1 0).tamperLock = true then some stTamper else if (sc1 0).woad.vaultShut = true ∨ (sc1 0).pwr.shut.isSome = true then some stAborted else if (sc1 0).woad.op.isSome = true then some stBusy else none) = none ∧ ¬((sc1 0).isStandby = true ∧ bit ((sc1 0).slot (bits (0x50000001#32) 7 0)).attr 28 = true) ∧ (5 = 1 → (sc1 0).woad.shadow = none)) ∧ ((sc1 0).slotBound (bits (0x50000001#32) 7 0) = false) ∧ (bit ((sc1 0).reg R.woadArg0) 31 = false)) := by and_intros <;> decide +kernel
/-- States and operands that meet the hypotheses of each clause of VaultCommands (part 4 of 16). -/
theorem witness_VaultCommands_4 :
    (0 < 12 ∧ ((sc1 14).writeGate 0 R.woadCmd = Gate.pass) ∧ (((0 < 4 ∨ 0 = 8) ∧ bits (0x50000001#32) 31 28 = 5 ∧ bits (0x50000001#32) 27 8 = 0 ∧ bits (0x50000001#32) 7 0 ≠ 0 ∧ (5 = 1 → (sc1 14).regBits R.woadArg0 30 28 < 4)) ∧ (if (sc1 14).tamperLock = true then some stTamper else if (sc1 14).woad.vaultShut = true ∨ (sc1 14).pwr.shut.isSome = true then some stAborted else if (sc1 14).woad.op.isSome = true then some stBusy else none) = none ∧ ¬((sc1 14).isStandby = true ∧ bit ((sc1 14).slot (bits (0x50000001#32) 7 0)).attr 28 = true) ∧ (5 = 1 → (sc1 14).woad.shadow = none)) ∧ (bit ((sc1 14).reg R.woadArg0) 31 = true))
    ∧ (0 < 12 ∧ ((sc1 0).writeGate 0 R.woadCmd = Gate.pass) ∧ (((0 < 4 ∨ 0 = 8) ∧ bits (0x60000001#32) 31 28 = 6 ∧ bits (0x60000001#32) 27 8 = 0 ∧ bits (0x60000001#32) 7 0 ≠ 0 ∧ (6 = 1 → (sc1 0).regBits R.woadArg0 30 28 < 4)) ∧ (if (sc1 0).tamperLock = true then some stTamper else if (sc1 0).woad.vaultShut = true ∨ (sc1 0).pwr.shut.isSome = true then some stAborted else if (sc1 0).woad.op.isSome = true then some stBusy else none) = none ∧ ¬((sc1 0).isStandby = true ∧ bit ((sc1 0).slot (bits (0x60000001#32) 7 0)).attr 28 = true) ∧ (6 = 1 → (sc1 0).woad.shadow = none)) ∧ (narrows ((sc1 0).slot (bits (0x60000001#32) 7 0)).attr ((sc1 0).reg R.woadArg1) = false))
    ∧ (0 < 12 ∧ ((sc1 0).writeGate 0 R.woadCmd = Gate.pass) ∧ (((0 < 4 ∨ 0 = 8) ∧ bits (0x60000003#32) 31 28 = 6 ∧ bits (0x60000003#32) 27 8 = 0 ∧ bits (0x60000003#32) 7 0 ≠ 0 ∧ (6 = 1 → (sc1 0).regBits R.woadArg0 30 28 < 4)) ∧ (if (sc1 0).tamperLock = true then some stTamper else if (sc1 0).woad.vaultShut = true ∨ (sc1 0).pwr.shut.isSome = true then some stAborted else if (sc1 0).woad.op.isSome = true then some stBusy else none) = none ∧ ¬((sc1 0).isStandby = true ∧ bit ((sc1 0).slot (bits (0x60000003#32) 7 0)).attr 28 = true) ∧ (6 = 1 → (sc1 0).woad.shadow = none)) ∧ (narrows ((sc1 0).slot (bits (0x60000003#32) 7 0)).attr ((sc1 0).reg R.woadArg1) = true))
    ∧ (0 < 12 ∧ ((sc1 0).writeGate 0 R.woadCmd = Gate.pass) ∧ (((0 < 4 ∨ 0 = 8) ∧ bits (0x70000002#32) 31 28 = 7 ∧ bits (0x70000002#32) 27 8 = 0 ∧ bits (0x70000002#32) 7 0 ≠ 0 ∧ (7 = 1 → (sc1 0).regBits R.woadArg0 30 28 < 4)) ∧ (if (sc1 0).tamperLock = true then some stTamper else if (sc1 0).woad.vaultShut = true ∨ (sc1 0).pwr.shut.isSome = true then some stAborted else if (sc1 0).woad.op.isSome = true then some stBusy else none) = none ∧ ¬((sc1 0).isStandby = true ∧ bit ((sc1 0).slot (bits (0x70000002#32) 7 0)).attr 28 = true) ∧ (7 = 1 → (sc1 0).woad.shadow = none)) ∧ ((sc1 0).slotUsable (bits (0x70000002#32) 7 0) 21 [2] = false))
    ∧ (0 < 12 ∧ ((sc1 0).writeGate 0 R.woadCmd = Gate.pass) ∧ (((0 < 4 ∨ 0 = 8) ∧ bits (0x70000001#32) 31 28 = 7 ∧ bits (0x70000001#32) 27 8 = 0 ∧ bits (0x70000001#32) 7 0 ≠ 0 ∧ (7 = 1 → (sc1 0).regBits R.woadArg0 30 28 < 4)) ∧ (if (sc1 0).tamperLock = true then some stTamper else if (sc1 0).woad.vaultShut = true ∨ (sc1 0).pwr.shut.isSome = true then some stAborted else if (sc1 0).woad.op.isSome = true then some stBusy else none) = none ∧ ¬((sc1 0).isStandby = true ∧ bit ((sc1 0).slot (bits (0x70000001#32) 7 0)).attr 28 = true) ∧ (7 = 1 → (sc1 0).woad.shadow = none)) ∧ ((sc1 0).slotUsable (bits (0x70000001#32) 7 0) 21 [2] = true))
    ∧ (0 < 12 ∧ ((sc1 0).writeGate 0 R.woadCmd = Gate.pass) ∧ (((0 < 4 ∨ 0 = 8) ∧ bits (0x80000001#32) 31 28 = 8 ∧ bits (0x80000001#32) 27 8 = 0 ∧ bits (0x80000001#32) 7 0 ≠ 0 ∧ (8 = 1 → (sc1 0).regBits R.woadArg0 30 28 < 4)) ∧ (if (sc1 0).tamperLock = true then some stTamper else if (sc1 0).woad.vaultShut = true ∨ (sc1 0).pwr.shut.isSome = true then some stAborted else if (sc1 0).woad.op.isSome = true then some stBusy else none) = none ∧ ¬((sc1 0).isStandby = true ∧ bit ((sc1 0).slot (bits (0x80000001#32) 7 0)).attr 28 = true) ∧ (8 = 1 → (sc1 0).woad.shadow = none)) ∧ ((sc1 0).slotUsable (bits (0x80000001#32) 7 0) 21 [4] = false))
    ∧ (0 < 12 ∧ ((sc1 0).writeGate 0 R.woadCmd = Gate.pass) ∧ (((0 < 4 ∨ 0 = 8) ∧ bits (0x80000002#32) 31 28 = 8 ∧ bits (0x80000002#32) 27 8 = 0 ∧ bits (0x80000002#32) 7 0 ≠ 0 ∧ (8 = 1 → (sc1 0).regBits R.woadArg0 30 28 < 4)) ∧ (if (sc1 0).tamperLock = true then some stTamper else if (sc1 0).woad.vaultShut = true ∨ (sc1 0).pwr.shut.isSome = true then some stAborted else if (sc1 0).woad.op.isSome = true then some stBusy else none) = none ∧ ¬((sc1 0).isStandby = true ∧ bit ((sc1 0).slot (bits (0x80000002#32) 7 0)).attr 28 = true) ∧ (8 = 1 → (sc1 0).woad.shadow = none)) ∧ ((sc1 0).slotUsable (bits (0x80000002#32) 7 0) 21 [4] = true))
    ∧ (0 < 12 ∧ ((sc1 0).writeGate 0 R.woadProvClose = Gate.pass) ∧ (¬(0 < 4 ∨ 0 = 8) ∨ BitVec.toNat (0x10000001#32) / 2 ≠ 0 ∨ (sc1 0).tamperLock = true))
    ∧ (0 < 12 ∧ ((sc1 0).writeGate 0 R.woadProvClose = Gate.pass) ∧ (¬(¬(0 < 4 ∨ 0 = 8) ∨ BitVec.toNat (0x00000000#32) / 2 ≠ 0 ∨ (sc1 0).tamperLock = true)))
    ∧ (((sc1 0).woad.shadow = none ∨ (sc1 0).woad.op.isSome = true))
    ∧ ((¬(16 ≤ 15 ∧ 15 ≤ 22 ∧ 0 < 256)))
    ∧ (16 ≤ 16 ∧ 16 ≤ 22 ∧ 3 < 256 ∧ ((sc1 0).slotUsable 3 16 (engineTypes 16) = true)) := by and_intros <;> decide +kernel
/-- States and operands that meet the hypotheses of each clause of VaultCommands (part 5 of 16). -/
theorem witness_VaultCommands_5 :
    (16 ≤ 16 ∧ 16 ≤ 22 ∧ 0 < 256 ∧ ((sc1 0).slotUsable 0 16 (engineTypes 16) = false)) := by and_intros <;> decide +kernel
/-- States and operands that meet the hypotheses of each clause of VaultCommands (part 6 of 16). -/
theorem witness_VaultCommands_6 :
    (∃ (x3 : Shadow), ((sc1 10).woad.shadow = some x3) ∧ (x3.slot = bits (0x20000002#32) 7 0) ∧ 0 < 12 ∧ ((sc1 10).writeGate 0 R.woadCmd = Gate.pass) ∧ (((0 < 4 ∨ 0 = 8) ∧ bits (0x20000002#32) 31 28 = 2 ∧ bits (0x20000002#32) 27 8 = 0 ∧ bits (0x20000002#32) 7 0 ≠ 0 ∧ (2 = 1 → (sc1 10).regBits R.woadArg0 30 28 < 4)) ∧ (if (sc1 10).tamperLock = true then some stTamper else if (sc1 10).woad.vaultShut = true ∨ (sc1 10).pwr.shut.isSome = true then some stAborted else if (sc1 10).woad.op.isSome = true then some stBusy else none) = none ∧ ¬((sc1 10).isStandby = true ∧ bit ((sc1 10).slot (bits (0x20000002#32) 7 0)).attr 28 = true) ∧ (2 = 1 → (sc1 10).woad.shadow = none))) := by refine ⟨_, rfl, rfl, ?_⟩; and_intros <;> decide +kernel
/-- States and operands that meet the hypotheses of each clause of VaultCommands (part 7 of 16). -/
theorem witness_VaultCommands_7 :
    (∃ (x3 : Shadow), ((sc1 10).woad.shadow = some x3) ∧ (x3.slot = bits (0x30000002#32) 7 0) ∧ x3.verified = true ∧ 0 < 12 ∧ ((sc1 10).writeGate 0 R.woadCmd = Gate.pass) ∧ (((0 < 4 ∨ 0 = 8) ∧ bits (0x30000002#32) 31 28 = 3 ∧ bits (0x30000002#32) 27 8 = 0 ∧ bits (0x30000002#32) 7 0 ≠ 0 ∧ (3 = 1 → (sc1 10).regBits R.woadArg0 30 28 < 4)) ∧ (if (sc1 10).tamperLock = true then some stTamper else if (sc1 10).woad.vaultShut = true ∨ (sc1 10).pwr.shut.isSome = true then some stAborted else if (sc1 10).woad.op.isSome = true then some stBusy else none) = none ∧ ¬((sc1 10).isStandby = true ∧ bit ((sc1 10).slot (bits (0x30000002#32) 7 0)).attr 28 = true) ∧ (3 = 1 → (sc1 10).woad.shadow = none))) := by refine ⟨_, rfl, rfl, rfl, ?_⟩; and_intros <;> decide +kernel
/-- States and operands that meet the hypotheses of each clause of VaultCommands (part 8 of 16). -/
theorem witness_VaultCommands_8 :
    (∃ (x1 : WoadOp), ((sc1 24).woad.op = some x1) ∧ (x1.op = 0 ∨ (sc1 24).ttime ≤ x1.limit)) := by refine ⟨_, rfl, ?_⟩; decide +kernel
/-- States and operands that meet the hypotheses of each clause of VaultCommands (part 9 of 16). -/
theorem witness_VaultCommands_9 :
    (∃ (x1 : WoadOp), ((sc1 15).woad.op = some x1) ∧ x1.copyA = false ∧ x1.op ≠ 0 ∧ x1.limit < (sc1 15).ttime ∧ 0 < 18) := by refine ⟨_, rfl, rfl, ?_⟩; and_intros <;> decide +kernel
/-- States and operands that meet the hypotheses of each clause of VaultCommands (part 10 of 16). -/
theorem witness_VaultCommands_10 :
    (∃ (x1 : WoadOp), ((sc1 15).woad.op = some x1) ∧ x1.copyA = false ∧ x1.op ≠ 0 ∧ x1.limit < (sc1 15).ttime ∧ stTimeout ≠ stOk) := by refine ⟨_, rfl, rfl, ?_⟩; and_intros <;> decide +kernel
/-- States and operands that meet the hypotheses of each clause of VaultCommands (part 11 of 16). -/
theorem witness_VaultCommands_11 :
    (∃ (x1 : WoadOp), ((sc1 15).woad.op = some x1) ∧ x1.copyA = false ∧ x1.op ≠ 0 ∧ x1.limit < (sc1 15).ttime ∧ 0 ≠ R.woadCmdResult ∧ (0 < R.woadKeyIn 0 ∨ R.woadKeyIn 0 + 72 ≤ 0) ∧ (0 < R.woadSigOut 0 ∨ R.woadSigOut 0 + 64 ≤ 0)) := by refine ⟨_, rfl, rfl, ?_⟩; and_intros <;> decide +kernel
/-- States and operands that meet the hypotheses of each clause of VaultCommands (part 12 of 16). -/
theorem witness_VaultCommands_12 :
    (∃ (x1 : WoadOp), ((sc1 22).woad.op = some x1) ∧ x1.copyA = true ∧ x1.op ≠ 0 ∧ x1.limit < (sc1 22).ttime ∧ 0 < 18) := by refine ⟨_, rfl, rfl, ?_⟩; and_intros <;> decide +kernel
/-- States and operands that meet the hypotheses of each clause of VaultCommands (part 13 of 16). -/
theorem witness_VaultCommands_13 :
    (∃ (x1 : WoadOp), ((sc1 22).woad.op = some x1) ∧ x1.copyA = true ∧ x1.op ≠ 0 ∧ x1.limit < (sc1 22).ttime ∧ stTimeout ≠ stOk) := by refine ⟨_, rfl, rfl, ?_⟩; and_intros <;> decide +kernel
/-- States and operands that meet the hypotheses of each clause of VaultCommands (part 14 of 16). -/
theorem witness_VaultCommands_14 :
    (∃ (x1 : WoadOp), ((sc1 22).woad.op = some x1) ∧ x1.copyA = true ∧ x1.op ≠ 0 ∧ x1.limit < (sc1 22).ttime ∧ 0 ≠ R.woadCmdResult ∧ (0 < R.woadKeyIn 0 ∨ R.woadKeyIn 0 + 72 ≤ 0) ∧ (0 < R.woadSigOut 0 ∨ R.woadSigOut 0 + 64 ≤ 0)) := by refine ⟨_, rfl, rfl, ?_⟩; and_intros <;> decide +kernel
/-- States and operands that meet the hypotheses of each clause of VaultCommands (part 15 of 16). -/
theorem witness_VaultCommands_15 :
    (∃ (x1 : WoadOp), ((sc1 22).woad.op = some x1) ∧ x1.copyA = true ∧ x1.op ≠ 0 ∧ x1.limit < (sc1 22).ttime ∧ 0 ≠ x1.slot) := by refine ⟨_, rfl, rfl, ?_⟩; and_intros <;> decide +kernel
/-- States and operands that meet the hypotheses of each clause of VaultCommands (part 16 of 16). -/
theorem witness_VaultCommands_16 :
    (∃ (x1 : Shadow), ((sc1 10).woad.shadow = some x1) ∧ (sc1 10).woad.op = none) := by refine ⟨_, rfl, ?_⟩; decide +kernel
/-- States and operands that meet the hypotheses of each clause of TamperAndUnlock (part 1 of 2). -/
theorem witness_TamperAndUnlock_1 :
    ((¬(0 ≤ 6 ∧ [33, 50, 2, 25000, 0, 0, 25000].getD 0 0 ≤ 0 ∧ (0 = 3 → (sc2 0).pwr.state = 0))))
    ∧ ((0 ≤ 6 ∧ [33, 50, 2, 25000, 0, 0, 25000].getD 0 0 ≤ 30000 ∧ (0 = 3 → (sc2 0).pwr.state = 0)) ∧ ((sc2 0).armed 0 = false))
    ∧ ((0 ≤ 6 ∧ [33, 50, 2, 25000, 0, 0, 25000].getD 0 0 ≤ 30000 ∧ (0 = 3 → (sc2 3).pwr.state = 0)) ∧ ((sc2 3).armed 0 = true) ∧ (sc2 3).tamperLock = true)
    ∧ ((0 ≤ 6 ∧ [33, 50, 2, 25000, 0, 0, 25000].getD 0 0 ≤ 30000 ∧ (0 = 3 → (sc2 4).pwr.state = 0)) ∧ ((sc2 4).armed 0 = true) ∧ (sc2 4).starting = true)
    ∧ ((0 ≤ 6 ∧ [33, 50, 2, 25000, 0, 0, 25000].getD 0 0 ≤ 30000 ∧ (0 = 3 → (sc2 2).pwr.state = 0)) ∧ ((sc2 2).armed 0 = true) ∧ (sc2 2).tamperLock = false ∧ (sc2 2).boot.ready = true ∧ (sc2 2).pwr.state ≠ 3 ∧ (bit ((sc2 2).reg R.tamperCtrl) 0 = true))
    ∧ ((4 ≤ 6 ∧ [33, 50, 2, 25000, 0, 0, 25000].getD 4 0 ≤ 0 ∧ (4 = 3 → (sc2 0).pwr.state = 0)) ∧ ((sc2 0).armed 4 = true) ∧ (sc2 0).tamperLock = false ∧ (sc2 0).boot.ready = true ∧ (sc2 0).pwr.state ≠ 3 ∧ (bit ((sc2 0).reg R.tamperCtrl) 0 = false))
    ∧ ((0 ≤ 6 ∧ [33, 50, 2, 25000, 0, 0, 25000].getD 0 0 ≤ 30000 ∧ (0 = 3 → (sc2 5).pwr.state = 0)) ∧ ((sc2 5).armed 0 = true) ∧ (sc2 5).tamperLock = false ∧ (sc2 5).starting = false ∧ ((sc2 5).boot.ready = false ∨ (sc2 5).pwr.state = 3))
    ∧ (0 < 12 ∧ ((sc2 9).writeGate 0 R.tamperUnlockCtrl = Gate.pass) ∧ (sc2 9).ttime < (sc2 9).tamper.chalFrom)
    ∧ (0 < 12 ∧ ((sc2 0).writeGate 0 R.tamperUnlockCtrl = Gate.pass) ∧ (sc2 0).tamper.chalFrom ≤ (sc2 0).ttime)
    ∧ (0 < 12 ∧ ((sc2 0).writeGate 0 R.tamperUnlockCtrl = Gate.pass))
    ∧ (((sc2 8).tamper.chal = some (([0x01#8, 0x02#8]), 6000000)))
    ∧ ((sc2 0).tamper.chal = none) := by and_intros <;> decide +kernel
/-- States and operands that meet the hypotheses of each clause of TamperAndUnlock (part 2 of 2). -/
theorem witness_TamperAndUnlock_2 :
    ((sc2 0).saff.chal = none)
    ∧ ((sc2 0).pwr.state ≠ 0)
    ∧ (((sc2 8).saff.chal = some (([0x01#8, 0x02#8]), 6000000)))
    ∧ ((sc2 5).pwr.state = 0) := by and_intros <;> decide +kernel
end ForVaultCommands

namespace ForSaffronStore
def on : Pwr := { state := 1, acOk := true, dcOk := true, source := 1, pwrEn := true, rails := 0x7FF, ioGood := true, pwrGood := true, domOn := 2^96-1 }
def sf : Saffron := { State.reset.saff with state := 1 }
def base : State := { media with ttime := 5000000, pwr := on, boot := { State.reset.boot with ready := true, stage := 13 }, mem := { media.mem with nv := [(0x40001, 7), (0x40005, 8), (0x50000,9)], nvOld := [(3,4)] } }
def mk (f : Saffron) (rs : Tbl Word := []) (g : State → State := id) : State := g { base with saff := f, regs := rs ++ base.regs }
def im (k : Nat) : List Byte := (List.range 256).map (fun j => BitVec.ofNat 8 (j * k))
def pc (q : Nat) : Piece := { pages := [(q, im 3)] }
def ro : Tbl Word := [(R.saffronWrAddr, 0x40010), (R.saffronRdAddr, 0x40004), (R.saffronRecLen, 9)]
def scns : List State := [(mk sf ro), (mk {sf with images := [(1024, im 5)]} ((R.saffronWrAddr, 0x40404) :: ro)), (mk {sf with spares := [2048]} ro), (mk {sf with bp := 3} ro), (mk {sf with pieces := [pc 1024, pc 1025]} ro), (mk {sf with pieces := [pc 1024], images := []} ro), (mk {sf with pieces := [{pc 1024 with worn := true}]} ro), (mk {sf with bad := [0x40004 / 64]} ((R.saffronRecLen, 241) :: ro)), (mk {sf with chal := some ([1,2], 6000000)} ro), (mk {sf with chal := some ([1,2], 6000000)} ((R.saffronBpMsg 12, 0x7) :: ro)), (mk {sf with chalFrom := 6000000} ro), (mk {sf with state := 0} ro), (mk {sf with state := 0, torn := true, older := some {map := [(1,2)], spares := [2050], bp := 1}} ro (fun s => {s with boot := {s.boot with stage := 3}})), (mk {sf with wear := [(2048, 3),(1030,20000)], prevSeal := some [5]} ro (fun s => {s with faultQ := [[w_ 1, w_ 2, w_ 3, w_ 4]]})), (mk sf ro (fun s => { s with twin := { s.twin with standby := true, phase := .paired } })), (mk sf ro (fun s => {s with tamperLock := true}))]
def pe (e : PieceEnd) : Piece := { pages := [], fin := e }
def wo (s : State) : State := { s with woad := { s.woad with op := some { op := 3, slot := 2, new := {key := [5], kcv := 7} } } }
def we (s : State) : State := { s with woad := { s.woad with op := some { op := 5, slot := 2, new := {}, copyA := true } } }
def scns3 : List State := [(mk {sf with pieces := [pe (.record 0x100 0 true)], ties := [(0x100,0)], lost := [(0x100,0)]} ro), (mk {sf with pieces := [pe (.woadA 2)]} ro wo), (mk {sf with pieces := [pe (.woadB 2)]} ro wo), (mk {sf with pieces := [pe (.woadB 3)]} ro wo), (mk {sf with pieces := [pe (.bp 2)]} ro), (mk {sf with pieces := [pe .reseal], prevSeal := some []} ro), (mk {sf with pieces := [pe (.woadB 2)]} ro we), (mk {sf with pieces := [pc 1030], spares := (List.range 25).map (·+2048)} ro (fun s => {s with faultQ := List.replicate 20 [w_ 1, w_ 2]})), (mk {sf with state := 4} ro)]
def allSaffronStore : List State := (scns ++ scns3)
def sc1 (k : Nat) : State := allSaffronStore.getD k State.reset
/-- States and operands that meet the hypotheses of each clause of SaffronStore (part 1 of 12). -/
theorem witness_SaffronStore_1 :
    ((sc1 0).saff.pieces = [])
    ∧ (0 < 12 ∧ ((sc1 3).writeGate 0 R.saffronWrData = Gate.pass) ∧ (¬((0 < 4 ∨ 0 = 8) ∧ (sc1 3).tamperLock = false ∧ (sc1 3).saff.state = 1) ∨ BitVec.toNat ((sc1 3).reg R.saffronWrAddr) / 256 < 1024 ∨ 2048 ≤ BitVec.toNat ((sc1 3).reg R.saffronWrAddr) / 256 ∨ bpProtects (sc1 3).saff.bp (BitVec.toNat ((sc1 3).reg R.saffronWrAddr) / 256) = true))
    ∧ (0 < 12 ∧ ((sc1 2).writeGate 0 R.saffronWrData = Gate.pass) ∧ (¬(¬((0 < 4 ∨ 0 = 8) ∧ (sc1 2).tamperLock = false ∧ (sc1 2).saff.state = 1) ∨ BitVec.toNat ((sc1 2).reg R.saffronWrAddr) / 256 < 1024 ∨ 2048 ≤ BitVec.toNat ((sc1 2).reg R.saffronWrAddr) / 256 ∨ bpProtects (sc1 2).saff.bp (BitVec.toNat ((sc1 2).reg R.saffronWrAddr) / 256) = true)) ∧ (sc1 2).saff.spares.length < 24)
    ∧ (0 < 12 ∧ ((sc1 0).writeGate 0 R.saffronWrData = Gate.pass) ∧ (¬(¬((0 < 4 ∨ 0 = 8) ∧ (sc1 0).tamperLock = false ∧ (sc1 0).saff.state = 1) ∨ BitVec.toNat ((sc1 0).reg R.saffronWrAddr) / 256 < 1024 ∨ 2048 ≤ BitVec.toNat ((sc1 0).reg R.saffronWrAddr) / 256 ∨ bpProtects (sc1 0).saff.bp (BitVec.toNat ((sc1 0).reg R.saffronWrAddr) / 256) = true)) ∧ 24 ≤ (sc1 0).saff.spares.length)
    ∧ (0 < 12 ∧ ((sc1 0).readGate 0 R.saffronRdData = Gate.pass))
    ∧ (11 < 12 ∧ ((sc1 0).readGate 11 R.saffronRdData = Gate.decode))
    ∧ (0 < 12 ∧ ((sc1 0).writeGate 0 R.saffronRecCmd = Gate.pass) ∧ (¬(((0 < 4 ∨ 0 = 8) ∧ (sc1 0).tamperLock = false ∧ (sc1 0).saff.state = 1) ∧ bits (0x00000002#32) 31 28 = 1 ∧ bits (0x00000002#32) 27 24 = 0)))
    ∧ (0 < 12 ∧ ((sc1 0).writeGate 0 R.saffronRecCmd = Gate.pass) ∧ (¬(((0 < 4 ∨ 0 = 8) ∧ (sc1 0).tamperLock = false ∧ (sc1 0).saff.state = 1) ∧ bits (0x00000002#32) 31 28 = 2 ∧ bits (0x00000002#32) 27 24 = 0)))
    ∧ (0 < 12 ∧ ((sc1 0).writeGate 0 R.saffronRecCmd = Gate.pass) ∧ (((0 < 4 ∨ 0 = 8) ∧ (sc1 0).tamperLock = false ∧ (sc1 0).saff.state = 1) ∧ bits (0x10000000#32) 31 28 = 1 ∧ bits (0x10000000#32) 27 24 = 0) ∧ (bits (0x10000000#32) 15 0 < 256 ∨ 319 < bits (0x10000000#32) 15 0 ∨ bits (0x10000000#32) 23 16 ≠ 0 ∨ (sc1 0).isStandby = true))
    ∧ (0 < 12 ∧ ((sc1 7).writeGate 0 R.saffronRecCmd = Gate.pass) ∧ (((0 < 4 ∨ 0 = 8) ∧ (sc1 7).tamperLock = false ∧ (sc1 7).saff.state = 1) ∧ bits (0x10000100#32) 31 28 = 1 ∧ bits (0x10000100#32) 27 24 = 0) ∧ (256 ≤ bits (0x10000100#32) 15 0) ∧ (bits (0x10000100#32) 15 0 ≤ 319) ∧ (bits (0x10000100#32) 23 16 = 0) ∧ (sc1 7).isStandby = false ∧ (240 < BitVec.toNat ((sc1 7).reg R.saffronRecLen)))
    ∧ (0 < 12 ∧ ((sc1 2).writeGate 0 R.saffronRecCmd = Gate.pass) ∧ (((0 < 4 ∨ 0 = 8) ∧ (sc1 2).tamperLock = false ∧ (sc1 2).saff.state = 1) ∧ bits (0x10000100#32) 31 28 = 1 ∧ bits (0x10000100#32) 27 24 = 0) ∧ (256 ≤ bits (0x10000100#32) 15 0) ∧ (bits (0x10000100#32) 15 0 ≤ 319) ∧ (bits (0x10000100#32) 23 16 = 0) ∧ (sc1 2).isStandby = false ∧ (BitVec.toNat ((sc1 2).reg R.saffronRecLen) ≤ 240) ∧ (sc1 2).saff.spares.length < 24)
    ∧ (0 < 12 ∧ ((sc1 3).writeGate 0 R.saffronRecCmd = Gate.pass) ∧ (((0 < 4 ∨ 0 = 8) ∧ (sc1 3).tamperLock = false ∧ (sc1 3).saff.state = 1) ∧ bits (0x10000100#32) 31 28 = 1 ∧ bits (0x10000100#32) 27 24 = 0) ∧ (256 ≤ bits (0x10000100#32) 15 0) ∧ (bits (0x10000100#32) 15 0 ≤ 319) ∧ (bits (0x10000100#32) 23 16 = 0) ∧ (sc1 3).isStandby = false ∧ (BitVec.toNat ((sc1 3).reg R.saffronRecLen) ≤ 240) ∧ 24 ≤ (sc1 3).saff.spares.length ∧ (sc1 3).saff.bp = 3) := by and_intros <;> decide +kernel
/-- States and operands that meet the hypotheses of each clause of SaffronStore (part 2 of 12). -/
theorem witness_SaffronStore_2 :
    (0 < 12 ∧ ((sc1 4).writeGate 0 R.saffronRecCmd = Gate.pass) ∧ (((0 < 4 ∨ 0 = 8) ∧ (sc1 4).tamperLock = false ∧ (sc1 4).saff.state = 1) ∧ bits (0x10000100#32) 31 28 = 1 ∧ bits (0x10000100#32) 27 24 = 0) ∧ (256 ≤ bits (0x10000100#32) 15 0) ∧ (bits (0x10000100#32) 15 0 ≤ 319) ∧ (bits (0x10000100#32) 23 16 = 0) ∧ (sc1 4).isStandby = false ∧ (BitVec.toNat ((sc1 4).reg R.saffronRecLen) ≤ 240) ∧ 24 ≤ (sc1 4).saff.spares.length ∧ (sc1 4).saff.bp ≠ 3 ∧ (sc1 4).saff.pieces ≠ [])
    ∧ (0 < 12 ∧ ((sc1 0).writeGate 0 R.saffronRecCmd = Gate.pass) ∧ (((0 < 4 ∨ 0 = 8) ∧ (sc1 0).tamperLock = false ∧ (sc1 0).saff.state = 1) ∧ bits (0x10000100#32) 31 28 = 1 ∧ bits (0x10000100#32) 27 24 = 0) ∧ (256 ≤ bits (0x10000100#32) 15 0) ∧ (bits (0x10000100#32) 15 0 ≤ 319) ∧ (bits (0x10000100#32) 23 16 = 0) ∧ (sc1 0).isStandby = false ∧ (BitVec.toNat ((sc1 0).reg R.saffronRecLen) ≤ 240) ∧ 24 ≤ (sc1 0).saff.spares.length ∧ (sc1 0).saff.bp ≠ 3 ∧ (sc1 0).saff.pieces = [])
    ∧ (0 < 12 ∧ ((sc1 4).writeGate 0 R.saffronRecCmd = Gate.pass) ∧ (((0 < 4 ∨ 0 = 8) ∧ (sc1 4).tamperLock = false ∧ (sc1 4).saff.state = 1) ∧ bits (0x20000100#32) 31 28 = 2 ∧ bits (0x20000100#32) 27 24 = 0) ∧ (sc1 4).saff.pieces ≠ [])
    ∧ (0 < 12 ∧ ((sc1 0).writeGate 0 R.saffronRecCmd = Gate.pass) ∧ (((0 < 4 ∨ 0 = 8) ∧ (sc1 0).tamperLock = false ∧ (sc1 0).saff.state = 1) ∧ bits (0x20000100#32) 31 28 = 2 ∧ bits (0x20000100#32) 27 24 = 0) ∧ (sc1 0).saff.pieces = [])
    ∧ (0 < 12 ∧ ((sc1 11).writeGate 0 R.saffronCommit = Gate.pass) ∧ (¬((0 < 4 ∨ 0 = 8) ∧ (sc1 11).tamperLock = false ∧ (sc1 11).saff.state = 1)))
    ∧ (0 < 12 ∧ ((sc1 0).writeGate 0 R.saffronCommit = Gate.pass) ∧ ((0 < 4 ∨ 0 = 8) ∧ (sc1 0).tamperLock = false ∧ (sc1 0).saff.state = 1) ∧ (bit (0x1000013f#32) 0 = true) ∧ (sc1 0).nvDrain.saff.images = [])
    ∧ (0 < 12 ∧ ((sc1 1).writeGate 0 R.saffronCommit = Gate.pass) ∧ ((0 < 4 ∨ 0 = 8) ∧ (sc1 1).tamperLock = false ∧ (sc1 1).saff.state = 1) ∧ (bit (0x1000013f#32) 0 = true) ∧ (sc1 1).nvDrain.saff.images ≠ [])
    ∧ (0 < 12 ∧ ((sc1 11).writeGate 0 R.saffronBpCtrl = Gate.pass) ∧ (¬((0 < 4 ∨ 0 = 8) ∧ (sc1 11).tamperLock = false ∧ (sc1 11).saff.state = 1)))
    ∧ (0 < 12 ∧ ((sc1 10).writeGate 0 R.saffronBpCtrl = Gate.pass) ∧ ((0 < 4 ∨ 0 = 8) ∧ (sc1 10).tamperLock = false ∧ (sc1 10).saff.state = 1) ∧ (sc1 10).ttime < (sc1 10).saff.chalFrom)
    ∧ (0 < 12 ∧ ((sc1 0).writeGate 0 R.saffronBpCtrl = Gate.pass) ∧ ((0 < 4 ∨ 0 = 8) ∧ (sc1 0).tamperLock = false ∧ (sc1 0).saff.state = 1) ∧ (sc1 0).saff.chalFrom ≤ (sc1 0).ttime)
    ∧ (0 < 12 ∧ ((sc1 0).writeGate 0 R.saffronBpCtrl = Gate.pass) ∧ ((0 < 4 ∨ 0 = 8) ∧ (sc1 0).tamperLock = false ∧ (sc1 0).saff.state = 1) ∧ (Option.all (fun q => decide (q.snd ≤ (sc1 0).ttime)) (sc1 0).saff.chal = true ∨ 4 ≤ leOf ((sc1 0).regBytes (R.saffronBpMsg 0) 40) 48 4))
    ∧ (0 < 12 ∧ ((sc1 8).writeGate 0 R.saffronBpCtrl = Gate.pass) ∧ ((0 < 4 ∨ 0 = 8) ∧ (sc1 8).tamperLock = false ∧ (sc1 8).saff.state = 1) ∧ ((sc1 8).saff.chal = some (([0x01#8, 0x02#8]), 6000000)) ∧ (sc1 8).ttime < 6000000 ∧ (leOf ((sc1 8).regBytes (R.saffronBpMsg 0) 40) 48 4 < 4)) := by and_intros <;> decide +kernel
/-- States and operands that meet the hypotheses of each clause of SaffronStore (part 3 of 12). -/
theorem witness_SaffronStore_3 :
    ((sc1 11).saff.state ≠ 1)
    ∧ ((sc1 0).saff.prevSeal = none)
    ∧ ((sc1 0).saff.state = 1)
    ∧ ((sc1 0).saff.state = 1 ∧ ((sc1 0).saff.wearMax ≤ (sc1 0).saff.wearMin + 10000))
    ∧ ((sc1 13).saff.state = 1 ∧ ((sc1 13).saff.wearMin + 10000 < (sc1 13).saff.wearMax) ∧ (sc1 13).nvDrain.saff.spares ≠ [])
    ∧ ((List.take 112 (sc1 0).nvDrain.faultQ = [] ∨ (sc1 0).nvDrain.saff.state = 0 ∨ (sc1 0).nvDrain.saff.state = 4))
    ∧ ((List.take 112 (sc1 13).nvDrain.faultQ ≠ []) ∧ (sc1 13).nvDrain.saff.state ≠ 0 ∧ (sc1 13).nvDrain.saff.state ≠ 4 ∧ (((List.take 112 (sc1 13).nvDrain.faultQ).length + 6) / 7 ≤ (sc1 13).nvDrain.saff.spares.length) ∧ (sc1 13).nvDrain.saff.spares.Nodup)
    ∧ ((sc1 13).saff.state = 1 ∧ ((sc1 13).saff.prevSeal = some ([0x05#8])))
    ∧ ((sc1 0).saff.state ≠ 0)
    ∧ ((sc1 11).saff.state = 0) := by and_intros <;> decide +kernel
/-- States and operands that meet the hypotheses of each clause of SaffronStore (part 4 of 12). -/
theorem witness_SaffronStore_4 :
    (∃ (p1 : Piece) (ps2 : List Piece), ((sc1 4).saff.pieces = p1 :: ps2) ∧ p1.fin = PieceEnd.plain) := ⟨_, _, rfl, rfl⟩
/-- States and operands that meet the hypotheses of each clause of SaffronStore (part 5 of 12). -/
theorem witness_SaffronStore_5 :
    (∃ (img2 : List Byte) (ps3 : List Piece), ((sc1 4).saff.pieces = { pages := [(1024, img2)], worn := (false) } :: ps3) ∧ (sc1 4).saff.spares ≠ []) := by refine ⟨_, _, rfl, ?_⟩; decide +kernel
/-- States and operands that meet the hypotheses of each clause of SaffronStore (part 6 of 12). -/
theorem witness_SaffronStore_6 :
    (∃ (img2 : List Byte) (ps3 : List Piece), ((sc1 4).saff.pieces = { pages := [(1024, img2)], worn := (false) } :: ps3) ∧ 0 < (sc1 4).saff.spares.length ∧ (sc1 4).saff.spares.Nodup) := by refine ⟨_, _, rfl, ?_⟩; and_intros <;> decide +kernel
/-- States and operands that meet the hypotheses of each clause of SaffronStore (part 7 of 12). -/
theorem witness_SaffronStore_7 :
    (∃ (p1 : Piece), ((sc1 16).saff.pieces = p1 :: ([])) ∧ p1.pages = [] ∧ (p1.fin = PieceEnd.record 256 0 (true))) := ⟨_, rfl, rfl, rfl⟩
/-- States and operands that meet the hypotheses of each clause of SaffronStore (part 8 of 12). -/
theorem witness_SaffronStore_8 :
    (∃ (p1 : Piece) (x5 : WoadOp), ((sc1 17).saff.pieces = p1 :: ([])) ∧ p1.pages = [] ∧ ((sc1 17).woad.op = some x5) ∧ (p1.fin = PieceEnd.woadA 2)) := ⟨_, _, rfl, rfl, rfl, rfl⟩
/-- States and operands that meet the hypotheses of each clause of SaffronStore (part 9 of 12). -/
theorem witness_SaffronStore_9 :
    (∃ (p1 : Piece) (x5 : WoadOp), ((sc1 19).saff.pieces = p1 :: ([])) ∧ p1.pages = [] ∧ ((sc1 19).woad.op = some x5) ∧ (p1.fin = PieceEnd.woadB 3) ∧ x5.slot ≠ 3) := by refine ⟨_, _, rfl, rfl, rfl, rfl, ?_⟩; decide +kernel
/-- States and operands that meet the hypotheses of each clause of SaffronStore (part 10 of 12). -/
theorem witness_SaffronStore_10 :
    (∃ (p1 : Piece) (x5 : WoadOp), ((sc1 18).saff.pieces = p1 :: ([])) ∧ p1.pages = [] ∧ ((sc1 18).woad.op = some x5) ∧ (p1.fin = PieceEnd.woadB 2) ∧ x5.slot = 2) := ⟨_, _, rfl, rfl, rfl, rfl, rfl⟩
/-- States and operands that meet the hypotheses of each clause of SaffronStore (part 11 of 12). -/
theorem witness_SaffronStore_11 :
    (∃ (p1 : Piece), ((sc1 20).saff.pieces = p1 :: ([])) ∧ p1.pages = [] ∧ (p1.fin = PieceEnd.bp 2)) := ⟨_, rfl, rfl, rfl⟩
/-- States and operands that meet the hypotheses of each clause of SaffronStore (part 12 of 12). -/
theorem witness_SaffronStore_12 :
    (∃ (p1 : Piece), ((sc1 21).saff.pieces = p1 :: ([])) ∧ p1.pages = [] ∧ p1.fin = PieceEnd.reseal) := ⟨_, rfl, rfl, rfl⟩
end ForSaffronStore

namespace ForHostWaysIn
def on : Pwr := { state := 1, acOk := true, dcOk := true, source := 1, pwrEn := true, rails := 0x7FF, ioGood := true, pwrGood := true, domOn := 2^96-1 }
def base : State := { media with ttime := 5000000, pwr := on, boot := { State.reset.boot with ready := true, stage := 13 }, saff := { State.reset.saff with state := 1 }, units := [(128, un {regs := regs1, pc := 7}), (130, un {regs := regs1, pc := 7, stalled := true})] }
def mk (x : Xbar) (g : State → State := id) : State := g { base with xbar := x }
def xs : Tbl Xact := [(0, {target := 0, addr := 0x100, write := true}), (4, {target := 4, addr := 0x8000100, write := true, issued := 400}), (6, {target := 11, addr := 0x100200, write := false, issued := 400}), (8, {target := 0, addr := 0x120, write := false}), (11, {target := 0, addr := 0x120, write := false})]
def xw : Tbl Xact := [(2, {target := 0, addr := 0x100, write := true, granted := true}), (4, {target := 0, addr := R.globalScratch 1, write := true, issued := 400, data := 9})]
def xw2 : Tbl Xact := [(4, {target := 0, addr := R.globalScratch 1, write := true, issued := 4999999, cls := 1, data := 9}), (5, {target := 0, addr := R.globalScratch 1, write := true, issued := 4999999, cls := 1, data := 9}), (6, {target := 0, addr := R.globalScratch 1, write := true, issued := 4999999, cls := 0, data := 9})]
def scns : List State := [(mk {xacts := xs}), (mk {}), (mk {} (fun s => {s with regs := (R.xbarTapCtrl, 3) :: s.regs})), (mk {xacts := xs} (fun s => {s with ces := [(2, {exec := some {idx := 1, nblk := 1, cmd := 3, tag := 5, irq := true, stopOnErr := false, deadline := 9000000}})]})), (mk {xacts := [(0, {target := 0, addr := 0x100, write := true})]}), (mk {xacts := [(8, {target := 0, addr := 0x100, write := true, granted := true})]}), (mk {xacts := xw}), (mk {xacts := xw2}), (mk {xacts := xw2, parked := [(0,4)]}), (mk {xacts := xw2, parked := [(0,6)]}), (mk {smbArm := some 4000000} (fun s => {s with pwr := {s.pwr with shut := some 2}})), (mk {smbArm := some 4000000} (fun s => {s with pwr := {s.pwr with ride := true, cause := 1}})), (mk {smbArm := some 4000000} (fun s => {s with pwr := {s.pwr with upStep := some 3}})), (mk {smbArm := some 4000000} (fun s => {s with ttime := 9000000000})), (mk {} (fun s => {s with regs := (List.range 64).map (fun v => (R.msixTab (4*v+3), 1)) ++ [(R.msixPba 0, 2),(R.msixPba 1, w_ (2^31))] ++ s.regs})), (mk {} (fun s => {s with pwr := {}})), (mk {} (fun s => {s with pwr := {state := 4, acOk := true}})), (mk {} (fun s => {s with pwr := {state := 4, acOk := true, needEdge := true}})), (mk {smbArm := some 4000000}), (mk {} (fun s => {s with tamperLock := true})), (mk {} (fun s => {s with boot := {s.boot with stage := 2}}))]
def sc1 (k : Nat) : State := scns.getD k State.reset
/-- States and operands that meet the hypotheses of each clause of HostWaysIn (part 1 of 8). -/
theorem witness_HostWaysIn_1 :
    (1 < 12 ∧ ((sc1 0).xbar.xacts.find 1 = none) ∧ (1 < 4 ∨ 8 ≤ 1))
    ∧ (1 < 12 ∧ ((sc1 0).xbar.xacts.find 1 = none) ∧ (1 < 4 ∨ 8 ≤ 1) ∧ (({ addr := 134217744, writes := [[(134217744, 0x05#8)]], readBeats := 0, delivered := 1, granted := false } : XbarXact).writes ≠ [] ∨ ({ addr := 134217744, writes := [[(134217744, 0x05#8)]], readBeats := 0, delivered := 1, granted := false } : XbarXact).readBeats ≠ 0) ∧ (∀ (q : Nat × Xact), q ∈ (sc1 0).xbar.xacts → q.fst ≠ 1 → ¬(q.snd.target = targetOf ({ addr := 134217744, writes := [[(134217744, 0x05#8)]], readBeats := 0, delivered := 1, granted := false } : XbarXact).addr ∧ q.snd.granted = false)) ∧ (({ addr := 134217744, writes := [[(134217744, 0x05#8)]], readBeats := 0, delivered := 1, granted := false } : XbarXact).granted = false ∨ ({ addr := 134217744, writes := [[(134217744, 0x05#8)]], readBeats := 0, delivered := 1, granted := false } : XbarXact).writes = [] ∨ ({ addr := 134217744, writes := [[(134217744, 0x05#8)]], readBeats := 0, delivered := 1, granted := false } : XbarXact).delivered = 0))
    ∧ (1 < 12 ∧ ((sc1 0).xbar.xacts.find 1 = none) ∧ (1 < 4 ∨ 8 ≤ 1) ∧ (({ addr := 134217744, writes := [[(134217744, 0x05#8), (134217745, 0x06#8)], [(134217746, 0x07#8)]], readBeats := 0, delivered := 1, granted := true } : XbarXact).writes ≠ [] ∨ ({ addr := 134217744, writes := [[(134217744, 0x05#8), (134217745, 0x06#8)], [(134217746, 0x07#8)]], readBeats := 0, delivered := 1, granted := true } : XbarXact).readBeats ≠ 0) ∧ (∀ (q : Nat × Xact), q ∈ (sc1 0).xbar.xacts → q.fst ≠ 1 → ¬(q.snd.target = targetOf ({ addr := 134217744, writes := [[(134217744, 0x05#8), (134217745, 0x06#8)], [(134217746, 0x07#8)]], readBeats := 0, delivered := 1, granted := true } : XbarXact).addr ∧ q.snd.granted = false)) ∧ ({ addr := 134217744, writes := [[(134217744, 0x05#8), (134217745, 0x06#8)], [(134217746, 0x07#8)]], readBeats := 0, delivered := 1, granted := true } : XbarXact).granted = true ∧ (targetOf ({ addr := 134217744, writes := [[(134217744, 0x05#8), (134217745, 0x06#8)], [(134217746, 0x07#8)]], readBeats := 0, delivered := 1, granted := true } : XbarXact).addr = 22) ∧ (∀ (q : Nat × Byte), q ∈ (List.take ({ addr := 134217744, writes := [[(134217744, 0x05#8), (134217745, 0x06#8)], [(134217746, 0x07#8)]], readBeats := 0, delivered := 1, granted := true } : XbarXact).delivered ({ addr := 134217744, writes := [[(134217744, 0x05#8), (134217745, 0x06#8)], [(134217746, 0x07#8)]], readBeats := 0, delivered := 1, granted := true } : XbarXact).writes).flatten → targetOf q.fst = 22 ∧ sramReserved q.fst = false))
    ∧ (0 < 12 ∧ ((sc1 1).xbar.xacts.find 0 = none) ∧ (0 < 4 ∨ 8 ≤ 0) ∧ (({ addr := 68, writes := [[(0, 0x05#8), (0, 0x06#8), (0, 0x07#8), (0, 0x08#8)]], readBeats := 0, delivered := 1, granted := true } : XbarXact).writes ≠ [] ∨ ({ addr := 68, writes := [[(0, 0x05#8), (0, 0x06#8), (0, 0x07#8), (0, 0x08#8)]], readBeats := 0, delivered := 1, granted := true } : XbarXact).readBeats ≠ 0) ∧ (∀ (q : Nat × Xact), q ∈ (sc1 1).xbar.xacts → q.fst ≠ 0 → ¬(q.snd.target = targetOf ({ addr := 68, writes := [[(0, 0x05#8), (0, 0x06#8), (0, 0x07#8), (0, 0x08#8)]], readBeats := 0, delivered := 1, granted := true } : XbarXact).addr ∧ q.snd.granted = false)) ∧ ({ addr := 68, writes := [[(0, 0x05#8), (0, 0x06#8), (0, 0x07#8), (0, 0x08#8)]], readBeats := 0, delivered := 1, granted := true } : XbarXact).granted = true ∧ (memTarget (targetOf ({ addr := 68, writes := [[(0, 0x05#8), (0, 0x06#8), (0, 0x07#8), (0, 0x08#8)]], readBeats := 0, delivered := 1, granted := true } : XbarXact).addr) = false) ∧ (({ addr := 68, writes := [[(0, 0x05#8), (0, 0x06#8), (0, 0x07#8), (0, 0x08#8)]], readBeats := 0, delivered := 1, granted := true } : XbarXact).writes = ([(0, 0x05#8), (0, 0x06#8), (0, 0x07#8), (0, 0x08#8)]) :: ([])) ∧ 0 < ({ addr := 68, writes := [[(0, 0x05#8), (0, 0x06#8), (0, 0x07#8), (0, 0x08#8)]], readBeats := 0, delivered := 1, granted := true } : XbarXact).delivered ∧ (({ addr := 68, writes := [[(0, 0x05#8), (0, 0x06#8), (0, 0x07#8), (0, 0x08#8)]], readBeats := 0, delivered := 1, granted := true } : XbarXact).addr = R.globalScratch 1) ∧ ((sc1 1).writeGate 0 ({ addr := 68, writes := [[(0, 0x05#8), (0, 0x06#8), (0, 0x07#8), (0, 0x08#8)]], readBeats := 0, delivered := 1, granted := true } : XbarXact).addr = Gate.pass))
    ∧ (12 ≤ 12)
    ∧ (((sc1 5).xbarBusy 0 = true))
    ∧ ((∀ (q : Nat × Xact), q ∈ (sc1 1).xbar.xacts → q.fst ≠ 12 → ¬(q.snd.target = 0 ∧ q.snd.granted = false)))
    ∧ ((Tbl.wf Xact.none (sc1 0).xbar.xacts = true) ∧ ((sc1 0).xbarNext 0 = some 8))
    ∧ (4 ≤ 5 ∧ 5 ≤ 7 ∧ (((sc1 0).unit (124 + 5)).run ≠ RunState.run) ∧ (((sc1 0).unit (124 + 5)).run ≠ RunState.wait))
    ∧ (4 ≤ 6 ∧ 6 ≤ 7 ∧ (((sc1 3).unit (124 + 6)).run = RunState.run ∨ ((sc1 3).unit (124 + 6)).run = RunState.wait) ∧ (((sc1 3).ce (6 - 4)).exec.isSome = true))
    ∧ (0 < 12 ∧ (256 < 2 ^ 32) ∧ ((if (false) = true then (sc1 0).writeGate 0 256 else (sc1 0).readGate 0 256) = Gate.decode ∨ (true) = true ∧ ((if (false) = true then (sc1 0).writeGate 0 256 else (sc1 0).readGate 0 256) = Gate.pass ∨ (if (false) = true then (sc1 0).writeGate 0 256 else (sc1 0).readGate 0 256) = Gate.reject)))
    ∧ (0 < 12 ∧ (256 < 2 ^ 32) ∧ ((if (false) = true then (sc1 0).writeGate 0 256 else (sc1 0).readGate 0 256) = Gate.denied ∨ (if (false) = true then (sc1 0).writeGate 0 256 else (sc1 0).readGate 0 256) = Gate.ignored ∨ (false) = false ∧ (if (false) = true then (sc1 0).writeGate 0 256 else (sc1 0).readGate 0 256) ≠ Gate.decode)) := by and_intros <;> decide +kernel
/-- States and operands that meet the hypotheses of each clause of HostWaysIn (part 2 of 8). -/
theorem witness_HostWaysIn_2 :
    ((12 ≤ 0 ∨ 2 ^ 32 ≤ 4294967296))
    ∧ ((¬Option.all ((sc1 0).filtered 0) ({ up := true, width := 8, rate := 4, perst := some 3 } : PcieLink).perst = true))
    ∧ ((Option.all ((sc1 1).filtered 0) ({ up := true, width := 8, rate := 4, perst := none } : PcieLink).perst = true) ∧ ((sc1 1).xbar.xacts.find 8 = none))
    ∧ (64 ≤ 64)
    ∧ (0 < 64 ∧ ((sc1 19).writeGate 8 (R.msixTab (4 * 0 + 3)) ≠ Gate.pass))
    ∧ (0 < 64 ∧ ((sc1 0).writeGate 8 (R.msixTab (4 * 0 + 3)) = Gate.pass) ∧ ((sc1 0).msixMasked 0 = true))
    ∧ ((sc1 15).pwr.state = 0)
    ∧ ((sc1 0).pwr.state ≠ 0 ∧ (({ badPec := true, badForm := false, data := 0 } : SmbFrame).badPec = true ∨ ({ badPec := true, badForm := false, data := 0 } : SmbFrame).badForm = true))
    ∧ ((sc1 15).pwr.state ≠ 4 ∧ (sc1 15).pwr.state = 0)
    ∧ ((sc1 0).pwr.state ≠ 4 ∧ (sc1 0).pwr.state ≠ 0 ∧ (({ badPec := true, badForm := false, data := 0 } : SmbFrame).badPec = true ∨ ({ badPec := true, badForm := false, data := 0 } : SmbFrame).badForm = true))
    ∧ ((sc1 0).pwr.state ≠ 4 ∧ (sc1 0).pwr.state ≠ 0 ∧ (¬(({ badPec := false, badForm := false, data := 0 } : SmbFrame).badPec = true ∨ ({ badPec := false, badForm := false, data := 0 } : SmbFrame).badForm = true)))
    ∧ ((sc1 16).pwr.state = 4 ∧ (¬(({ badPec := false, badForm := false, data := 0 } : SmbFrame).badPec = true ∨ ({ badPec := false, badForm := false, data := 0 } : SmbFrame).badForm = true))) := by and_intros <;> decide +kernel
/-- States and operands that meet the hypotheses of each clause of HostWaysIn (part 3 of 8). -/
theorem witness_HostWaysIn_3 :
    ((sc1 0).pwr.state ≠ 0 ∧ (¬(({ badPec := false, badForm := false, data := 90 } : SmbFrame).badPec = true ∨ ({ badPec := false, badForm := false, data := 90 } : SmbFrame).badForm = true)) ∧ ({ badPec := false, badForm := false, data := 90 } : SmbFrame).data = 90)
    ∧ ((sc1 0).pwr.state ≠ 0 ∧ (¬(({ badPec := false, badForm := false, data := 0 } : SmbFrame).badPec = true ∨ ({ badPec := false, badForm := false, data := 0 } : SmbFrame).badForm = true)) ∧ ({ badPec := false, badForm := false, data := 0 } : SmbFrame).data ≠ 90)
    ∧ ((sc1 18).pwr.state ≠ 0 ∧ (¬(({ badPec := false, badForm := false, data := 165 } : SmbFrame).badPec = true ∨ ({ badPec := false, badForm := false, data := 165 } : SmbFrame).badForm = true)) ∧ ((sc1 18).xbar.smbArm = some 4000000) ∧ ((sc1 18).ttime ≤ 4000000 + 160000000) ∧ ({ badPec := false, badForm := false, data := 165 } : SmbFrame).data = 165 ∧ (sc1 18).powered = true ∧ (sc1 18).pwr.shut = none ∧ (sc1 18).pwr.ride = false ∧ (sc1 18).pwr.upStep = none)
    ∧ ((sc1 0).pwr.state ≠ 0 ∧ (¬(({ badPec := false, badForm := false, data := 0 } : SmbFrame).badPec = true ∨ ({ badPec := false, badForm := false, data := 0 } : SmbFrame).badForm = true)) ∧ (Option.all (fun t0 => decide (t0 + 160000000 < (sc1 0).ttime)) (sc1 0).xbar.smbArm = true ∨ ({ badPec := false, badForm := false, data := 0 } : SmbFrame).data ≠ 165 ∨ (sc1 0).powered = false))
    ∧ ((sc1 10).pwr.state ≠ 0 ∧ (¬(({ badPec := false, badForm := false, data := 165 } : SmbFrame).badPec = true ∨ ({ badPec := false, badForm := false, data := 165 } : SmbFrame).badForm = true)) ∧ ((sc1 10).xbar.smbArm = some 4000000) ∧ ((sc1 10).ttime ≤ 4000000 + 160000000) ∧ ({ badPec := false, badForm := false, data := 165 } : SmbFrame).data = 165 ∧ (sc1 10).powered = true ∧ (sc1 10).pwr.shut.isSome = true)
    ∧ ((sc1 11).pwr.state ≠ 0 ∧ (¬(({ badPec := false, badForm := false, data := 165 } : SmbFrame).badPec = true ∨ ({ badPec := false, badForm := false, data := 165 } : SmbFrame).badForm = true)) ∧ ((sc1 11).xbar.smbArm = some 4000000) ∧ ((sc1 11).ttime ≤ 4000000 + 160000000) ∧ ({ badPec := false, badForm := false, data := 165 } : SmbFrame).data = 165 ∧ (sc1 11).powered = true ∧ (sc1 11).pwr.shut = none ∧ (sc1 11).pwr.ride = true)
    ∧ ((sc1 12).pwr.state ≠ 0 ∧ (¬(({ badPec := false, badForm := false, data := 165 } : SmbFrame).badPec = true ∨ ({ badPec := false, badForm := false, data := 165 } : SmbFrame).badForm = true)) ∧ ((sc1 12).xbar.smbArm = some 4000000) ∧ ((sc1 12).ttime ≤ 4000000 + 160000000) ∧ ({ badPec := false, badForm := false, data := 165 } : SmbFrame).data = 165 ∧ (sc1 12).powered = true ∧ (sc1 12).pwr.shut = none ∧ (sc1 12).pwr.ride = false ∧ (sc1 12).pwr.upStep.isSome = true)
    ∧ ((sc1 16).pwr.state ≠ 0 ∧ (¬(({ badPec := false, badForm := false, data := 165 } : SmbFrame).badPec = true ∨ ({ badPec := false, badForm := false, data := 165 } : SmbFrame).badForm = true)) ∧ ({ badPec := false, badForm := false, data := 165 } : SmbFrame).data = 165 ∧ (sc1 16).pwr.state = 4)
    ∧ ((sc1 0).pwr.state ≠ 0 ∧ (¬(({ badPec := false, badForm := false, data := 0 } : SmbFrame).badPec = true ∨ ({ badPec := false, badForm := false, data := 0 } : SmbFrame).badForm = true)) ∧ (({ badPec := false, badForm := false, data := 0 } : SmbFrame).data ≠ 165 ∨ (sc1 0).pwr.state ≠ 4))
    ∧ ((sc1 0).pwr.state ≠ 0)
    ∧ ((255 < 256 ∨ (sc1 0).boot.stage < 6 ∨ 13 < (sc1 0).boot.stage))
    ∧ (3 ≤ 255 ∧ 6 ≤ (sc1 0).boot.stage ∧ (sc1 0).boot.stage ≤ 13) := by and_intros <;> decide +kernel
/-- States and operands that meet the hypotheses of each clause of HostWaysIn (part 4 of 8). -/
theorem witness_HostWaysIn_4 :
    (3 ≤ 255 ∧ 6 ≤ (sc1 0).boot.stage ∧ (sc1 0).boot.stage ≤ 13 ∧ ((sc1 0).readGate 0 4294967296 = Gate.decode))
    ∧ (1 = 1)
    ∧ (((¬(2 = 1 ∨ 2 = 2 ∨ 2 = 32 ∨ 3 ≤ 2 ∧ 2 ≤ 5 ∧ (false) = true) ∨ 2 ≤ 2 ∧ 2 ≤ 5) ∨ 2 = 32 ∧ 2 ^ 32 ≤ 256))
    ∧ (32 = 32 ∧ (256 < 2 ^ 32) ∧ ((sc1 0).tamperLock = true ∨ bit ((sc1 0).reg R.xbarTapCtrl) 1 = false))
    ∧ (32 = 32 ∧ (256 < 2 ^ 32) ∧ ((sc1 0).tamperLock = true ∨ bit ((sc1 0).reg R.xbarTapCtrl) 0 = false)) := by and_intros <;> decide +kernel
/-- States and operands that meet the hypotheses of each clause of HostWaysIn (part 5 of 8). -/
theorem witness_HostWaysIn_5 :
    (∃ (x2 : Xact), ((sc1 4).xbar.xacts.find 0 = some x2) ∧ 0 < 12 ∧ (0 < 4 ∨ 8 ≤ 0) ∧ (∀ (q : Nat × Xact), q ∈ (sc1 4).xbar.xacts → q.fst ≠ 0 → ¬(q.snd.target = x2.target ∧ q.snd.granted = false))) := by refine ⟨_, rfl, ?_⟩; and_intros <;> decide +kernel
/-- States and operands that meet the hypotheses of each clause of HostWaysIn (part 6 of 8). -/
theorem witness_HostWaysIn_6 :
    (∃ (x2 : Xact), ((sc1 0).xbar.xacts.find 4 = some x2) ∧ 4 < 12 ∧ 4 ≤ 4 ∧ 4 ≤ 7 ∧ (∀ (q : Nat × Xact), q ∈ (sc1 0).xbar.xacts → q.fst ≠ 4 → ¬(q.snd.target = x2.target ∧ q.snd.granted = false))) := by refine ⟨_, rfl, ?_⟩; and_intros <;> decide +kernel
/-- States and operands that meet the hypotheses of each clause of HostWaysIn (part 7 of 8). -/
theorem witness_HostWaysIn_7 :
    (∃ (x2 : Xact) (y4 : Xact), ((sc1 6).xbar.xacts.find 2 = some x2) ∧ ((sc1 6).xbar.xacts.find 4 = some y4) ∧ ((sc1 6).xbarBusy x2.target = x2.granted) ∧ 2 < 12 ∧ (2 < 4 ∨ 8 ≤ 2) ∧ 4 ≤ 4 ∧ 4 ≤ 7 ∧ ((4, y4).snd.target = x2.target ∧ (4, y4).snd.granted = false) ∧ (∀ (q : Nat × Xact), q ∈ (sc1 6).xbar.xacts → q.fst ≠ 2 → q.snd.target = x2.target → q.fst = 4)) := by refine ⟨_, _, rfl, rfl, rfl, ?_⟩; and_intros <;> decide +kernel
/-- States and operands that meet the hypotheses of each clause of HostWaysIn (part 8 of 8). -/
theorem witness_HostWaysIn_8 :
    (∃ (x2 : Xact), ((sc1 5).xbar.xacts.find 8 = some x2) ∧ (Option.all ((sc1 5).filtered 0) ({ up := true, width := 8, rate := 4, perst := none } : PcieLink).perst = true) ∧ (∀ (q : Nat × Xact), q ∈ (sc1 5).xbar.xacts → q.fst ≠ 8 → ¬(q.snd.target = x2.target ∧ q.snd.granted = false))) := by refine ⟨_, rfl, ?_⟩; and_intros <;> decide +kernel
end ForHostWaysIn

namespace ForSheddingAndHolds
def on : Pwr := { state := 1, acOk := true, dcOk := true, source := 1, pwrEn := true, rails := 0x7FF, ioGood := true, pwrGood := true, domOn := 2^96-1 }
def base : State := { media with ttime := 5000000, pwr := {on with ceil := true}, boot := { State.reset.boot with ready := true, stage := 13 }, saff := { State.reset.saff with state := 1 } }
def she (k u : Nat) : Word := w_ (k*4096+u)
def mk (es : List Word) (h : Health) (g : State → State := id) : State := g { base with health := h, regs := (List.range es.length).map (fun i => (R.hlthShed i, es.getD i 0)) ++ base.regs }
def es : List Word := [she 1 0, she 3 7, she 4 1, she 2 1, she 3 6]
def grp2 (s : State) : State := { s with regs := [(R.portMode 4, 0xA)] ++ s.regs }
def hs : List Health := [{}, {applied := [0], lastStep := some 4999999}, {applied := [1,0], calmT := some 4000000}, {applied := [2], calmT := some 4999999}, {applied := [3], calmT := some 4000000}, {applied := [0], calmT := some 4000000}, {applied := [127]}, {applied := [127], exhausted := true}, {mons := [(2,{samples := [5,6,7], discards := 7}),(3,{failed := true, accepts := 7}),(1,{failed := true, accepts := 2}),(30,{samples := [900]})]}, {mountT := some 4000000}, {mountT := some 4999999, mountNoted := true}]
def scns : List State := hs.map (fun h => (mk es h)) ++ [(mk [she 3 7] {}), (mk [she 3 8] {}), (mk [she 4 1] {} (fun s => {s with cx := (List.range 4).map (fun i => (i, {checked := true, cap := 64, link := 2}))})), (mk [she 2 1] {} grp2), (mk [she 2 1] {} (fun s => {s with regs := [(lkRegs 4, w_ (2^31)),(lnRegs 4, 2),(lnRegs 5, 3)] ++ s.regs})), (mk [she 1 0] {} (fun s => {s with outs := s.outs.map (fun p => (p.1, {p.2 with pool := .granted}))})), (mk [she 1 0] {} (fun s => {s with pwr := {s.pwr with domOn := 2^95 + 2^72}, outs := s.outs.map (fun p => (p.1, {p.2 with pool := .granted}))})), (mk es {} (fun s => {s with pwr := {state := 4, acOk := true, pwrEn := true}})), (mk es {} (fun s => {s with pwr := {state := 4, acOk := true, pwrEn := true, heldCold := true}})), (mk es {} (fun s => {s with pwr := {state := 4, acOk := true, heldCold := true}}))]
def ev (c sev : Nat) : Event := {code := c, sev := sev, kind := 0, index := 0, stamp := 5}
def ring (h t : Nat) (r : List Event) (g : State → State := id) : State := g { base with raised := r, evlog := {ring := [(0,[1,2,3,4,5,6,7,8]),(1,[9])], seq := 4, held := 4}, regs := [(R.eventLogHead, w_ h),(R.eventLogTail, w_ t),(R.eventGpioCtrl, 5),(R.eventRoute 1, 0x02031302)] ++ base.regs }
def scns2 : List State := [(ring 0 5 [])] ++ (List.range 5).map (fun k => (ring 0 5 [ev 0x1003 k])) ++ [(ring 4099 3 [ev 0x1003 4]), (ring 4099 3 [ev 0x1003 0, ev 0x2004 2]), (ring 0 1 [ev 0x1003 4] (fun s => {s with faultQ := List.replicate 112 [1]})), (ring 0 1 [ev 0x1003 4, ev 0x2004 2] (fun s => {s with regs := (R.eventMsixPend, 2) :: s.regs})), (ring 0 5 [] (fun s => {s with evlog := {s.evlog with setCycle := 2500000, setMsix := 3, setAlarm := 5, setGpio := 4}, regs := (R.eventMsixPend, 3) :: (R.eventAlarmPend, 7) :: s.regs})), (ring 0 1 [ev 0x6003 4, ev 0x2004 2] (fun s => {s with regs := (R.msixTab (4*0x3F+3), 0) :: (List.range 64).map (fun v => (R.msixTab (4*v+3), 0)) ++ s.regs}))]
def sc1 (k : Nat) : State := scns.getD k State.reset
def sc2 (k : Nat) : State := scns2.getD k State.reset
/-- States and operands that meet the hypotheses of each clause of SheddingAndHolds (part 1 of 2). -/
theorem witness_SheddingAndHolds_1 :
    ((¬((sc1 7).shedCause = true ∧ (sc1 7).powered = true ∧ (sc1 7).pwr.shut = none ∧ (sc1 7).pwr.ride = false ∧ (sc1 7).health.exhausted = false)))
    ∧ (((sc1 6).shedCause = true ∧ (sc1 6).powered = true ∧ (sc1 6).pwr.shut = none ∧ (sc1 6).pwr.ride = false ∧ (sc1 6).health.exhausted = false) ∧ ((sc1 6).nextShed (128 - (sc1 6).shedFrom) (sc1 6).shedFrom = none))
    ∧ (((sc1 17).shedCause = true ∧ (sc1 17).powered = true ∧ (sc1 17).pwr.shut = none ∧ (sc1 17).pwr.ride = false ∧ (sc1 17).health.exhausted = false) ∧ ((sc1 17).nextShed (128 - (sc1 17).shedFrom) (sc1 17).shedFrom = some 0) ∧ ((bits ((sc1 17).reg (R.hlthShed 0)) 15 12 = 1 ∨ bits ((sc1 17).reg (R.hlthShed 0)) 15 12 = 3) ∧ ((sc1 17).movedTo (max (sc1 17).ttime (match (sc1 17).health.lastStep with | some t => ticksAfter t 16 | none => tickAfter (sc1 17).ttime))).domGoal.testBit (shedDomain (bits ((sc1 17).reg (R.hlthShed 0)) 15 12) (bits ((sc1 17).reg (R.hlthShed 0)) 6 0)) = true ∧ (sc1 17).domIsOn (shedDomain (bits ((sc1 17).reg (R.hlthShed 0)) 15 12) (bits ((sc1 17).reg (R.hlthShed 0)) 6 0)) = false))
    ∧ (((sc1 0).shedCause = true ∧ (sc1 0).powered = true ∧ (sc1 0).pwr.shut = none ∧ (sc1 0).pwr.ride = false ∧ (sc1 0).health.exhausted = false) ∧ ((sc1 0).nextShed (128 - (sc1 0).shedFrom) (sc1 0).shedFrom = some 1) ∧ (¬((bits ((sc1 0).reg (R.hlthShed 1)) 15 12 = 1 ∨ bits ((sc1 0).reg (R.hlthShed 1)) 15 12 = 3) ∧ ((sc1 0).movedTo (max (sc1 0).ttime (match (sc1 0).health.lastStep with | some t => ticksAfter t 16 | none => tickAfter (sc1 0).ttime))).domGoal.testBit (shedDomain (bits ((sc1 0).reg (R.hlthShed 1)) 15 12) (bits ((sc1 0).reg (R.hlthShed 1)) 6 0)) = true ∧ (sc1 0).domIsOn (shedDomain (bits ((sc1 0).reg (R.hlthShed 1)) 15 12) (bits ((sc1 0).reg (R.hlthShed 1)) 6 0)) = false)))
    ∧ (((sc1 0).monHere 1 = true) ∧ (sc1 0).pwr.upStep = none ∧ (sampleOk 1 100 = true) ∧ (((sc1 0).mon 1).failed = false))
    ∧ (((sc1 8).monHere 1 = true) ∧ (sc1 8).pwr.upStep = none ∧ (sampleOk 1 100 = true) ∧ (((sc1 8).mon 1).failed = true))
    ∧ (((sc1 8).monHere 2 = true) ∧ (sc1 8).pwr.upStep = none ∧ (sampleOk 2 2000 = false) ∧ (((sc1 8).mon 2).failed = false) ∧ (7 ≤ ((sc1 8).mon 2).discards))
    ∧ (((sc1 0).monHere 30 = true))
    ∧ ((0 + 0 ≤ 128))
    ∧ (((sc1 2).health.applied = 1 :: ([0])) ∧ ((sc1 2).health.calmT = some 4000000) ∧ (sc1 2).shedRuns = true)
    ∧ (((sc1 0).health.applied = [] ∨ (sc1 0).health.calmT = none ∨ (sc1 0).shedRuns = false))
    ∧ ((sc1 0).health.mountT = none) := by and_intros <;> decide +kernel
/-- States and operands that meet the hypotheses of each clause of SheddingAndHolds (part 2 of 2). -/
theorem witness_SheddingAndHolds_2 :
    (((sc1 0).pwr.state ≠ 4 ∨ (sc1 0).pwr.upStep.isSome = true))
    ∧ (((sc1 9).health.mountT = some 4000000))
    ∧ ((sc1 18).pwr.state = 4 ∧ (sc1 18).pwr.upStep = none ∧ (max 1001 200 < -440 ∨ 1000 < max 1001 200))
    ∧ ((sc1 18).pwr.state = 4 ∧ (sc1 18).pwr.upStep = none ∧ (-440 ≤ max 250 200) ∧ (max 250 200 ≤ 1000)) := by and_intros <;> decide +kernel
/-- States and operands that meet the hypotheses of each clause of EventLog (part 1 of 2). -/
theorem witness_EventLog_1 :
    ((sc2 0).raised = [])
    ∧ (0 < 12 ∧ ((sc2 0).writeGate 0 R.eventLogRead = Gate.pass))
    ∧ (0 < 12 ∧ ((sc2 0).writeGate 0 R.eventLogHead = Gate.pass) ∧ ((BitVec.toNat (((sc2 0).logDue (sc2 0).ttime).reg R.eventLogTail) + 8192 - BitVec.toNat (((sc2 0).logDue (sc2 0).ttime).reg R.eventLogHead)) % 8192 < (bits (0x00001000#32) 12 0 + 8192 - BitVec.toNat (((sc2 0).logDue (sc2 0).ttime).reg R.eventLogHead)) % 8192))
    ∧ (0 < 12 ∧ ((sc2 0).writeGate 0 R.eventLogHead = Gate.pass) ∧ (¬(BitVec.toNat (((sc2 0).logDue (sc2 0).ttime).reg R.eventLogTail) + 8192 - BitVec.toNat (((sc2 0).logDue (sc2 0).ttime).reg R.eventLogHead)) % 8192 < (bits (0x00000000#32) 12 0 + 8192 - BitVec.toNat (((sc2 0).logDue (sc2 0).ttime).reg R.eventLogHead)) % 8192))
    ∧ (0 < 12 ∧ ((sc2 0).writeGate 0 R.eventMsixPend = Gate.pass))
    ∧ (0 < 12 ∧ ((sc2 0).writeGate 0 R.eventAlarmPend = Gate.pass))
    ∧ (0 < 12 ∧ ((sc2 0).writeGate 0 R.eventGpioClr = Gate.pass)) := by and_intros <;> decide +kernel
/-- States and operands that meet the hypotheses of each clause of EventLog (part 2 of 2). -/
theorem witness_EventLog_2 :
    (∃ (e1 : Event), ((sc2 1).raised = e1 :: ([])) ∧ (e1.code / 4096 < 16)) := by refine ⟨_, rfl, ?_⟩; decide +kernel
end ForSheddingAndHolds

/-! The statements over every state or every command. -/

/-- Hypotheses of StepRunsTheFront, MemoriesStayCanonical and OthersStoreNothing. -/
theorem witness_general : State.reset.pending = [] ∧ State.reset.mem.wf = true
    ∧ (∃ t, step { State.reset with pending := [.igmpQuery 3] } = .next t) ∧ mayStore (.igmpQuery 3) = false ∧ (∃ t, exec (.igmpQuery 3) State.reset = .next t) :=
  ⟨rfl, by decide +kernel, ⟨_, rfl⟩, rfl, ⟨_, rfl⟩⟩

/-- Hypotheses of LosslessRoundTrip at both ends of its range. -/
theorem witness_LosslessRoundTrip : (1 ≤ ([7] : List Byte).length ∧ ([7] : List Byte).length ≤ 128)
    ∧ (1 ≤ (List.replicate 128 (7 : Byte)).length ∧ (List.replicate 128 (7 : Byte)).length ≤ 128) := by decide +kernel

/-! Worked figures of the spec. -/

/-- The example of chapter 2: 0x00608000 is LUI v1, #0x18 then OR v1, v1, #0x8000. -/
theorem test_lui_or : (match exec (.lui 3 1 0x18) (ForArithmeticAndLogic.sc1 0 |>.setUnit 3 (un {})) with
    | .next s => (match exec (.or 3 1 1 (.imm 0x8000)) s with | .next t => (t.v 3 1).toNat | _ => 0) | _ => 0) = 0x00608000 := by decide +kernel

/-- R256's example: 4 lanes at 212.5 Gb/s carry 778,027 Mb/s, three carry 583,520. -/
theorem test_link_capacity : capacityOf 4 3 = 778027 ∧ capacityOf 3 3 = 583520 := by decide

/-- The worked example of chapter 3: 48 Gb/s at 4:1 charges 1,500 millicredits, 9,953.28 Mb/s 312, uncoded 1,245. -/
theorem test_write_charges : creditsOf (48000000000 * 1001) 4 = 1500 ∧ creditsOf (9953280000 * 1001) 4 = 312 ∧ creditsOf (9953280000 * 1001) 1 = 1245 := by decide

/-- The worked example of chapter 9: slot sizes. -/
theorem test_slot_sizes : slotBytesOf (w_ (1920 * 2 ^ 16 + 1080)) 0 4 = 1333152
    ∧ slotBytesOf (w_ (7680 * 2 ^ 16 + 4320)) (w_ (2 ^ 20 + 2 ^ 18)) 4 = 37374912 := by decide +kernel

/-- R113: P is 1.6 × 10^9 / f periods, f exact, and t_k rounds k × P down. -/
theorem test_group_period : (frameOfs (rateNum 10) 1, frameOfs (rateNum 10) 3) = (26666666, 80000000)
    ∧ (frameOfs (rateNum 9) 1, frameOfs (rateNum 9) 3) = (26693333, 80080000) := by decide

/-- Table 6.2's example: 8,800 by 4,500 is accepted at 60 Hz and refused at 120 Hz. -/
theorem test_raster_rate :
    let t : TimSet := { h0 := w_ (7680 * 2 ^ 16 + 1000), h1 := w_ (60 * 2 ^ 16 + 60), v0 := w_ (4320 * 2 ^ 16 + 100), v1 := w_ (40 * 2 ^ 16 + 40), ctrl := 0 }
    t.hTotal = 8800 ∧ t.vTotal = 4500 ∧ t.rasterRateOk (rateNum 10) = true ∧ t.rasterRateOk (rateNum 13) = false := by decide +kernel

/-- R160's example: full ARGB8888 planes at 60 Hz charge 498 and 7,963 millicredits. -/
theorem test_plane_charge :
    let s : State := { State.reset with regs := [(R.tgrpCtrl 2, w_ (2 ^ 31 + 10 * 2 ^ 16))], outs := [(7, { tim := tim 2, hasTim := true, scanning := true, group := 2 })] }
    s.planeCharge 7 { ctrl := w_ (2 ^ 31 + 2 * 2 ^ 16), org := 0, size := w_ (1920 * 2 ^ 16 + 1080), stride := 0, base := 0 } = 498
      ∧ s.planeCharge 7 { ctrl := w_ (2 ^ 31 + 2 * 2 ^ 16), org := 0, size := w_ (7680 * 2 ^ 16 + 4320), stride := 0, base := 0 } = 7963 := by decide +kernel

/-- The worked example of chapter 23: three control addresses, and the population byte behind the third. -/
theorem test_host_addresses : (targetOf 0x00660258, targetOf 0x00C12C40, targetOf 0x51234560) = (12, 17, 23) ∧ R.flowStatus 300 = 0x00C12C40
    ∧ ({ State.reset with regs := [(R.xbarCxlWin, 1)] } : State).apertureByte 0x51234560 = 0x51234560
    ∧ (0x51234560 : Nat) / 0x8000000 = 0x0A := by decide +kernel

/-- An empty queue leaves the block as it is. -/
theorem test_idle_queue : (match step State.reset with | .next t => decide (t = State.reset) | _ => false) = true := by decide +kernel

end Sys2Proof.Tests
end

section
/-! SUPPORT. The operations that follow a fault of a unit or the end of an engine's command leave every unit and the instant as they are, but
for the unit that they name. -/

namespace Sys2Proof.Machine

/-- A loop keeps whatever each of its turns keeps. -/
theorem State.forEach_keeps {α β : Type} (g : State → β) (s : State) (xs : List α) (f : State → α → State)
    (h : ∀ s x, g (f s x) = g s) : g (s.forEach xs f) = g s := by
  unfold State.forEach
  induction xs generalizing s with
  | nil => rfl
  | cons x xs ih => exact (ih (f s x)).trans (h s x)

/-- A loop whose turns keep the units and the instant keeps them. -/
theorem State.forEach_unitsTime {α : Type} (s : State) (xs : List α) (f : State → α → State)
    (h : ∀ s x, (f s x).units = s.units ∧ (f s x).ttime = s.ttime) : (s.forEach xs f).units = s.units ∧ (s.forEach xs f).ttime = s.ttime :=
  ⟨s.forEach_keeps State.units xs f fun s x => (h s x).1, s.forEach_keeps State.ttime xs f fun s x => (h s x).2⟩

/-! Registers, counters, events, messages. -/

@[simp] theorem State.setReg_unitsTime (s : State) (a : Nat) (w : Word) : (s.setReg a w).units = s.units ∧ (s.setReg a w).ttime = s.ttime := ⟨rfl, rfl⟩
@[simp] theorem State.bump_unitsTime (s : State) (a : Nat) : (s.bump a).units = s.units ∧ (s.bump a).ttime = s.ttime := ⟨rfl, rfl⟩
@[simp] theorem State.raise_unitsTime (s : State) (code sev kind index a0 a1 a2 : Nat) :
    (s.raise code sev kind index a0 a1 a2).units = s.units ∧ (s.raise code sev kind index a0 a1 a2).ttime = s.ttime := ⟨rfl, rfl⟩
@[simp] theorem State.emit_unitsTime (s : State) (kind : String) (via dst : Nat) (args : List Nat) :
    (s.emit kind via dst args).units = s.units ∧ (s.emit kind via dst args).ttime = s.ttime := ⟨rfl, rfl⟩
@[simp] theorem State.mirror_unitsTime (s : State) (what : String) (args : List Nat) :
    (s.mirror what args).units = s.units ∧ (s.mirror what args).ttime = s.ttime := by
  unfold State.mirror; split <;> simp
@[simp] theorem State.sendMsg_unitsTime (s : State) (dst : Nat) (kind : String) (args : List Nat) :
    (s.sendMsg dst kind args).units = s.units ∧ (s.sendMsg dst kind args).ttime = s.ttime := by
  unfold State.sendMsg
  split
  · simp
  · dsimp only; split <;> simp
@[simp] theorem State.stkSend_unitsTime (s : State) (dst type : Nat) (name : String) (pay : List Nat) :
    (s.stkSend dst type name pay).units = s.units ∧ (s.stkSend dst type name pay).ttime = s.ttime := by
  unfold State.stkSend; split <;> simp
@[simp] theorem State.msix_unitsTime (s : State) (v : Nat) : (s.msix v).units = s.units ∧ (s.msix v).ttime = s.ttime := by
  unfold State.msix State.setPba; split <;> simp

/-! What a discard of an output's changes does to the rest of the module (R63): landing stores, lanes that wait for a synthesiser, the pool. -/

@[simp] theorem State.dropLanding_unitsTime (s : State) (f : Nat) : (s.dropLanding f).units = s.units ∧ (s.dropLanding f).ttime = s.ttime := by
  have free (s : State) (b c : Nat) : (s.freeChannels b c).units = s.units ∧ (s.freeChannels b c).ttime = s.ttime := by
    unfold State.freeChannels; dsimp only; split <;> simp
  unfold State.dropLanding
  dsimp only
  split
  · split <;> simp [free, State.freeAt]
  · simp

@[simp] theorem State.gcLandings_unitsTime (s : State) : s.gcLandings.units = s.units ∧ s.gcLandings.ttime = s.ttime := by
  refine State.forEach_unitsTime s s.flows _ (fun s p => ?_)
  split
  · split <;> simp
  · simp

@[simp] theorem State.startLane_unitsTime (s : State) (L : Nat) : (s.startLane L).units = s.units ∧ (s.startLane L).ttime = s.ttime := by
  unfold State.startLane State.fireInjection State.modLane
  split
  · simp
  · dsimp only; split <;> simp [State.setLane]

@[simp] theorem State.powerLink_unitsTime (s : State) (l : Nat) : (s.powerLink l).units = s.units ∧ (s.powerLink l).ttime = s.ttime := by
  unfold State.powerLink
  split
  · refine State.forEach_unitsTime _ _ _ (fun s L => ?_)
    split <;> simp
  · simp

theorem State.takeSyns_unitsTime (s t : State) (n : Nat) (fs : List (Nat × Nat)) (h : s.takeSyns n fs = some t) :
    t.units = s.units ∧ t.ttime = s.ttime := by
  have one (s t : State) (fam user : Nat) (h : s.takeSyn n fam user = some t) : t.units = s.units ∧ t.ttime = s.ttime := by
    unfold State.takeSyn at h
    split at h
    · cases h; simp
    · cases h
  induction fs generalizing s with
  | nil => cases h; simp
  | cons f fs ih =>
    simp only [State.takeSyns] at h
    split at h
    next t' h' => simpa [one _ _ _ _ h'] using ih t' h
    next => cases h

@[simp] theorem State.retryPort_unitsTime (s : State) (n : Nat) : (s.retryPort n).units = s.units ∧ (s.retryPort n).ttime = s.ttime := by
  unfold State.retryPort
  split
  · simp
  · split
    next t h =>
      have links := State.forEach_unitsTime (t.modPort n (fun p => { p with synWait := false })) (List.range 4)
        (fun s k => s.powerLink (32 + 4 * n + k)) (by simp)
      simpa [State.takeSyns_unitsTime s t n _ h] using links
    next => simp

@[simp] theorem State.dropSyn_unitsTime (s : State) (user : Nat) : (s.dropSyn user).units = s.units ∧ (s.dropSyn user).ttime = s.ttime := by
  unfold State.dropSyn
  dsimp only
  split
  · exact State.forEach_unitsTime _ _ _ (by simp)
  · simp

@[simp] theorem State.poolWithdraw_unitsTime (s : State) (n : Nat) : (s.poolWithdraw n).units = s.units ∧ (s.poolWithdraw n).ttime = s.ttime := by
  unfold State.poolWithdraw
  dsimp only
  split
  · simp
  · split <;> simp

@[simp] theorem State.poolRequest_unitsTime (s : State) (n units prio : Nat) :
    (s.poolRequest n units prio).units = s.units ∧ (s.poolRequest n units prio).ttime = s.ttime := by
  unfold State.poolRequest
  extract_lets k o ask falls
  split
  · simp
  · split
    · split <;> exact ⟨rfl, rfl⟩
    · split
      · simp
      · split
        next vs _ => simpa using State.forEach_unitsTime s vs (fun s v => s.modOut v (fun x => { x with pool := .preempted, falls := 0 })) (by simp)
        next => simp

@[simp] theorem State.dropTset_unitsTime (s : State) (n : Nat) : (s.dropTset n).units = s.units ∧ (s.dropTset n).ttime = s.ttime := by
  unfold State.dropTset; split <;> simp

@[simp] theorem State.dropFlip_unitsTime (s : State) (n p : Nat) : (s.dropFlip n p).units = s.units ∧ (s.dropFlip n p).ttime = s.ttime := by
  unfold State.dropFlip State.staleFlip
  dsimp only
  split <;> split <;> simp

/-- The discard of an output's changes touches no unit (R63). -/
@[simp] theorem State.discardOut_unitsTime (s : State) (n : Nat) : (s.discardOut n).units = s.units ∧ (s.discardOut n).ttime = s.ttime := by
  unfold State.discardOut State.dropTake
  dsimp only
  split
  · simp
  · split <;> simp

@[simp] theorem State.ackSalvo_unitsTime (s : State) (p : Part) (code outs : Nat) :
    (s.ackSalvo p code outs).units = s.units ∧ (s.ackSalvo p code outs).ttime = s.ttime := by
  unfold State.ackSalvo
  simpa using State.forEach_unitsTime s _ _ (by simp)

@[simp] theorem State.salvoFault_unitsTime (s : State) (n : Nat) : (s.salvoFault n).units = s.units ∧ (s.salvoFault n).ttime = s.ttime := by
  unfold State.salvoFault
  exact State.forEach_unitsTime _ _ _ (by simp)

/-! What the end of an engine's command does (Table 8.14). -/

@[simp] theorem State.endGroup_unitsTime (s : State) (e : Nat) : (s.endGroup e).units = s.units ∧ (s.endGroup e).ttime = s.ttime := by
  unfold State.endGroup; simp

@[simp] theorem State.endXact_unitsTime (s : State) (m : Nat) : (s.endXact m).units = s.units ∧ (s.endXact m).ttime = s.ttime := by
  unfold State.endXact; split <;> simp

@[simp] theorem State.unitWrite_unitsTime (s : State) (u a : Nat) (bs : List Byte) :
    (s.unitWrite u a bs).units = s.units ∧ (s.unitWrite u a bs).ttime = s.ttime := by
  unfold State.unitWrite; simp [State.progPut]

@[simp] theorem State.loadpPartial_unitsTime (s : State) (e : Nat) : (s.loadpPartial e).units = s.units ∧ (s.loadpPartial e).ttime = s.ttime := by
  unfold State.loadpPartial
  split
  · simp
  · simp [State.freeNat]

@[simp] theorem State.complete_unitsTime (s : State) (e cmd status : Nat) (tag : Word) (idx pc fault : Nat) (v1 v2 : Word) (irq stop : Bool) :
    (s.complete e cmd status tag idx pc fault v1 v2 irq stop).units = s.units
      ∧ (s.complete e cmd status tag idx pc fault v1 v2 irq stop).ttime = s.ttime := by
  simp [State.complete, State.sramPut, apply_ite State.units, apply_ite State.ttime]

/-- The end of an engine's command frees its unit and touches no other; what the unit recorded of a fault stays. -/
theorem State.endCommand_unit (s : State) (e status fault : Nat) :
    let x := s.unit (128 + e)
    ((s.endCommand e status fault).unit (128 + e) = x
        ∨ (s.endCommand e status fault).unit (128 + e) = { x with run := .idle, wait := none, stalled := false, mark := none })
      ∧ (s.endCommand e status fault).ttime = s.ttime := by
  unfold State.endCommand
  dsimp only
  split
  · exact ⟨.inl rfl, rfl⟩
  next x _ =>
    have group (t : State) : (if (t.ce e).grp.isSome then t.endGroup e else t).units = t.units
        ∧ (if (t.ce e).grp.isSome then t.endGroup e else t).ttime = t.ttime := by split <;> simp
    refine ⟨.inr ?_, ?_⟩
    · simp [State.unit, State.modCe, State.masterClear, State.setUnit, group]
    · simp [State.modCe, State.masterClear, group]

end Sys2Proof.Machine
end

section
/-! SUPPORT. What a fault leaves in its unit, and the instructions of the other profile (R40, R51, R62 to R64). -/

namespace Sys2Proof.Machine

/-- What every fault records of itself in its unit (R62): nothing waits and no swap is armed any longer. -/
def UnitState.recorded (x : UnitState) (code pc : Nat) (w : Word) (t : Nat) : UnitState :=
  { x with faultCode := code, faultPc := pc, faultWord := w, faultTtime := t, pc := pc, wait := none, swapArmed := false, swapDue := false }

/-- A unit in SAFE: a pending start is dropped (R63). -/
def UnitState.toSafe (x : UnitState) : UnitState := { x with run := .safe, start := none, startDue := false }

/-- A fault counted, its event raised, the fault recorded in the unit: what every fault begins with (R62). -/
def State.recordFault (s : State) (u code pc : Nat) (w : Word) : State :=
  ((s.bump (R.seqFaultCnt u)).raise (0x8000 + code) sevError (unitKind u) (unitIndex u) pc w.toNat).modUnit u
    (fun x => x.recorded code pc w s.ttime)

@[simp] theorem State.recordFault_unit (s : State) (u code pc : Nat) (w : Word) :
    (s.recordFault u code pc w).unit u = (s.unit u).recorded code pc w s.ttime := State.unit_modUnit ..
@[simp] theorem State.recordFault_others (s : State) (u code pc : Nat) (w : Word) :
    (s.recordFault u code pc w).ttime = s.ttime ∧ (s.recordFault u code pc w).mem = s.mem := ⟨rfl, rfl⟩

/-- A fault of a sequencer goes on to SAFE, and at an output to the discard of what is not yet visible (R63, R64). -/
theorem State.umberFault_sequencer_eq (s : State) (u code pc : Nat) (w : Word) (h : u < 128) :
    s.umberFault u code pc w =
      let t := (s.recordFault u code pc w).modUnit u UnitState.toSafe
      if 64 ≤ u then ((t.discardOut (u - 64)).salvoFault (u - 64)).modOut (u - 64) (fun o => { o with safeDue := true }) else t := by
  unfold State.umberFault; rw [if_pos h]; rfl

/-- A fault of a command engine ends its command (R64). -/
theorem State.umberFault_engine_eq (s : State) (u code pc : Nat) (w : Word) (h : 128 ≤ u) :
    s.umberFault u code pc w = (s.recordFault u code pc w).endCommand (u - 128) stAborted code := by
  unfold State.umberFault; rw [if_neg (by omega)]; rfl

/-- A fault of a sequencer leaves it in SAFE with the fault recorded and no start pending; no memory changes and no time passes. -/
theorem State.umberFault_sequencer (s : State) (u code pc : Nat) (w : Word) (h : u < 128) :
    (s.umberFault u code pc w).unit u = ((s.unit u).recorded code pc w s.ttime).toSafe
      ∧ (s.umberFault u code pc w).ttime = s.ttime ∧ (s.umberFault u code pc w).mem = s.mem := by
  rw [State.umberFault_sequencer_eq _ _ _ _ _ h]
  extract_lets t
  have ht : t.unit u = ((s.unit u).recorded code pc w s.ttime).toSafe := by simp [t]
  split
  · refine ⟨?_, ?_, ?_⟩
    · rw [← ht]; simp [State.unit]
    · simp [t]
    · have kept : ((t.discardOut (u - 64)).salvoFault (u - 64)).hold = t.hold := by rw [State.salvoFault_hold, State.discardOut_hold]
      exact (congrArg Prod.fst kept : _ = t.mem)
  · exact ⟨ht, by simp [t], by simp [t]⟩

/-- A fault of a command engine stays recorded in its unit past the end of the command; no time passes. -/
theorem State.umberFault_engine (s : State) (u code pc : Nat) (w : Word) (h : 128 ≤ u) :
    let t := s.umberFault u code pc w
    (t.unit u).faultCode = code ∧ (t.unit u).faultPc = pc ∧ (t.unit u).faultTtime = s.ttime ∧ t.ttime = s.ttime := by
  rw [State.umberFault_engine_eq _ _ _ _ _ h]
  obtain ⟨ended, htime⟩ := (s.recordFault u code pc w).endCommand_unit (u - 128) stAborted code
  rw [Nat.add_sub_cancel' h, State.recordFault_unit] at ended
  refine ⟨?_, ?_, ?_, htime⟩ <;> obtain ended | ended := ended <;> rw [ended] <;> rfl

@[simp] theorem State.advance_mem (s : State) (t : Nat) : (s.advance t).mem = s.mem := by unfold State.advance; split <;> rfl

/-- A word that the tables do not assign to the unit's profile is an illegal opcode: the instruction faults with code 1 at its PC, its body
not run (R40, R51). -/
theorem State.umber_illegal (s : State) (u : Nat) (w : Word) (held : Bool) (reads : List VReg) (body : State → Nat → Except Nat State)
    (h : s.canIssue u = true) (hl : legalWord (decide (128 ≤ u)) w = false) :
    ∃ s' : State, s.umber u w held reads body = s'.umberFault u fltOpcode (s.unit u).pc w ∧ KeepsV u s s' ∧ s'.mem = s.mem := by
  rw [State.umber_issue _ _ _ _ _ _ h]
  dsimp only
  rw [hl, if_neg Bool.false_ne_true]
  refine ⟨_, rfl, fun r => ?_, ?_⟩
  · simp [State.v, UnitState.v]
  · simp

/-- An illegal opcode on a sequencer: SAFE with the fault recorded, registers and memories as before. -/
theorem State.umber_illegal_sequencer (s : State) (u : Nat) (w : Word) (held : Bool) (reads : List VReg)
    (body : State → Nat → Except Nat State) (h : s.canIssue u = true) (hu : u < 128) (hl : legalWord false w = false) :
    let t := s.umber u w held reads body
    ((t.unit u).faultCode = 1 ∧ (t.unit u).faultPc = (s.unit u).pc ∧ (t.unit u).faultTtime = t.ttime)
      ∧ (t.unit u).run = .safe ∧ KeepsV u s t ∧ t.mem = s.mem := by
  have profile : decide (128 ≤ u) = false := by simpa using hu
  obtain ⟨s', faults, regs, mem⟩ := s.umber_illegal u w held reads body h (by rw [profile, hl])
  obtain ⟨unit', time', mem'⟩ := s'.umberFault_sequencer u fltOpcode (s.unit u).pc w hu
  rw [faults]
  exact ⟨⟨congrArg UnitState.faultCode unit', congrArg UnitState.faultPc unit', (congrArg UnitState.faultTtime unit').trans time'.symm⟩,
    congrArg UnitState.run unit', fun r => (congrArg (UnitState.v · r) unit').trans (regs r), mem'.trans mem⟩

/-- An illegal opcode on a command engine: the fault is recorded. -/
theorem State.umber_illegal_engine (s : State) (u : Nat) (w : Word) (held : Bool) (reads : List VReg)
    (body : State → Nat → Except Nat State) (h : s.canIssue u = true) (hu : 128 ≤ u) (hl : legalWord true w = false) :
    let t := s.umber u w held reads body
    (t.unit u).faultCode = 1 ∧ (t.unit u).faultPc = (s.unit u).pc ∧ (t.unit u).faultTtime = t.ttime := by
  have profile : decide (128 ≤ u) = true := by simpa using hu
  obtain ⟨s', faults, _, _⟩ := s.umber_illegal u w held reads body h (by rw [profile, hl])
  obtain ⟨code, pc, at', time'⟩ := s'.umberFault_engine u fltOpcode (s.unit u).pc w hu
  rw [faults]
  exact ⟨code, pc, at'.trans time'.symm⟩

/-- The opcodes of WR and RD, of the group's ends, and of SALVO, SEND and LOADP are not a sequencer's (Table 2.1). -/
theorem legal_encM_engineOnly (op sub : Nat) (a b : VReg) (i : BitVec 14) (h : op = 0x3C ∨ op = 0x3D ∨ op = 0x3E) :
    legalWord false (encM op sub a b i) = false := by
  rw [legal_encM _ _ _ _ _ _ (by omega)]
  obtain rfl | rfl | rfl := h <;> simp [legalFields]

/-- SWAPP's opcode is not a command engine's (Table 2.1). -/
theorem legal_encM_swapp_engine (sub : Nat) (a b : VReg) (i : BitVec 14) : legalWord true (encM 0x3B sub a b i) = false := by
  rw [legal_encM _ _ _ _ _ _ (by decide)]
  simp [legalFields]

/-- Settles O13: the words of the excluded instructions are illegal in the unit's profile, so that their bodies never run. -/
theorem profileExclusions : Obligations.ProfileExclusions := by
  unfold Obligations.ProfileExclusions
  intro u d a b r s h illegal excluded
  refine ⟨fun hu => ?_, fun hu imm => ⟨_, rfl, s.umber_illegal_engine u _ true [] _ h hu (legal_encM_swapp_engine ..)⟩⟩
  have excluded_umber (op sub : Nat) (a b : VReg) (reads : List VReg) (body : State → Nat → Except Nat State)
      (hop : op = 0x3C ∨ op = 0x3D ∨ op = 0x3E) :=
    s.umber_illegal_sequencer u (encM op sub a b 0) true reads body h hu (legal_encM_engineOnly op sub a b 0 hop)
  refine ⟨⟨_, rfl, ?_⟩, ⟨_, rfl, ?_⟩, ⟨_, rfl, ?_⟩, ⟨_, rfl, ?_⟩, ⟨_, rfl, ?_⟩, ⟨_, rfl, ?_⟩, ⟨_, rfl, ?_⟩, ⟨_, rfl, ?_⟩⟩ <;>
    exact excluded_umber _ _ _ _ _ _ (by decide)

end Sys2Proof.Machine
end

section
/-! SUPPORT. The registers of a unit where it starts, where an engine begins a command and where banks are exchanged (R42, R48, R66, R218). -/

namespace Sys2Proof.Machine

/-- A unit that holds no register reads 0 in each. -/
theorem UnitState.v_of_regs_nil (x : UnitState) (r : VReg) (h : x.regs = []) : x.v r = 0 := by
  unfold UnitState.v; rw [h]; split <;> rfl

/-- A write to v0 changes nothing (R42). -/
theorem UnitState.setV_zero (x : UnitState) (w : Word) : x.setV 0 w = x := rfl

/-- Every register of a unit that has started reads 0 (R66). -/
theorem State.startUnit_v (s : State) (u : Nat) (r : VReg) : (s.startUnit u).v u r = 0 := by
  unfold State.v State.startUnit
  rw [State.unit_modUnit]
  exact UnitState.v_of_regs_nil _ r rfl

/-- Every register of an engine that has begun a command reads 0, wherever its code starts (R218). -/
theorem State.beginCommand_v (s : State) (e pc : Nat) (r : VReg) :
    ((s.beginCommand e).modUnit (128 + e) (fun n => { n with pc := pc })).v (128 + e) r = 0 := by
  unfold State.v State.beginCommand
  rw [State.unit_modUnit, State.unit_modUnit]
  exact UnitState.v_of_regs_nil _ r rfl

/-- A command that is ready at the head of an engine's ring is taken by the row of its kind (R219). -/
theorem State.onCommand_ready (s : State) (e kind : Nat) (run : State → State) (he : e < 4) (h : s.headBlock e = .ready)
    (hk : bits (s.blockWord e (s.ce e).sqHead 0 0) 7 0 = kind) : s.onCommand e kind run = run s := by
  unfold State.onCommand
  rw [if_neg (by omega)]
  simp [h, hk]

/-- The exchange of the banks leaves every register as it is (R48). -/
theorem State.swapBank_keepsV (s : State) (u : Nat) : KeepsV u s (s.swapBank u) := by
  intro r
  unfold State.swapBank State.v
  dsimp only
  split
  · rw [State.unit_setUnit]; rfl
  · rfl

/-- What LI does past its issue: its sign-extended immediate into its register (Table 2.5). -/
theorem exec_li (u : Nat) (d : VReg) (i : BitVec 18) (s : State) (h : s.canIssue u = true) :
    exec (.li u d i) s = .next ((s.issued u false []).setV u d (sext18 i)) := by
  have legal : legalWord (decide (128 ≤ u)) (encI 0x09 d 0 i) = true := by
    rw [legal_encI _ _ _ _ _ (by decide)]; simp [legalFields]
  exact congrArg _ (State.umber_ok _ _ _ _ _ _ _ h legal rfl)

/-- A start that no frame start has made due takes place at its limit: every register reads 0 (R66). -/
theorem startNoFrame_v (s : State) (u : Nat) (hs : (s.unit u).start.isSome = true) (hd : (s.unit u).startDue = false) :
    Completes (.startNoFrame u) s (fun t => ∀ x, t.v u x = 0) := by
  obtain ⟨r, hr⟩ := Option.isSome_iff_exists.mp hs
  refine ⟨_, rfl, fun x => ?_⟩
  simp only [hr, hd, Bool.false_eq_true, if_false]
  split
  · exact State.startUnit_v ..
  · exact State.startUnit_v (s.advance r.limit) u x

/-- Settles O14, by what each of the rows does to the registers of its unit. -/
theorem vRegisters : Obligations.VRegisters := by
  unfold Obligations.VRegisters
  refine ⟨fun s u => rfl, fun s u w x => ?_, fun s u d i h => ⟨_, exec_li u d i s h, fun x => ?_⟩, fun s u hs hd => ⟨_, rfl, fun x => ?_⟩,
    startNoFrame_v, fun s e he h hk => ⟨_, rfl, fun x => ?_⟩, fun s e he h hk => ⟨_, rfl, fun x => ?_⟩,
    fun s u _ _ _ => ⟨_, rfl, s.swapBank_keepsV u⟩⟩
  case refine_1 => rw [State.v, State.setV, State.unit_modUnit, UnitState.setV_zero]; rfl
  case refine_2 =>
    have before : ((s.issued u false []).unit u).v x = s.v u x := State.issued_v ..
    simp only [State.v, State.setV, State.unit_modUnit, UnitState.v_setV]
    rw [before]; rfl
  case refine_3 => rw [if_pos ⟨hs, hd⟩]; exact s.startUnit_v u x
  case refine_4 => rw [State.cmdCall, State.onCommand_ready _ _ _ _ he h hk]; exact State.beginCommand_v ..
  case refine_5 => rw [State.cmdInline, State.onCommand_ready _ _ _ _ he h hk]; exact State.beginCommand_v ..

end Sys2Proof.Machine
end
